-- ==== Sys2Proof/Word.lean ====
section
/-! DEFINITION. The byte, the byte string and the plainest arithmetic on them (R6). -/
namespace Sys2Proof

/-- One byte of a message, a frame or a key. -/
abbrev Byte := BitVec 8

/-- A byte string, first byte on the medium first (R6). -/
abbrev Bytes := List (BitVec 8)

end Sys2Proof
end

