-- ==== Sys2Proof/Types.lean ====
section
/-! DEFINITION. The named alternatives and records that commands and state are made of. -/
namespace Sys2Proof

/-- Object types (Table 16-1). -/
inductive OType | bool | u8 | u16 | u32 | u64 | i16 | i32 | i64 | time80 | oct (n : Nat) | str (n : Nat) | domain | table
  deriving DecidableEq, Repr

/-- Access codes (Table 16-2). -/
inductive Access | ro | rw | rws | rwd | wo | rc | cmd
  deriving DecidableEq, Repr

/-- VDP status codes (Table 15-3). -/
inductive Status
  | ok | noObject | noSub | readOnly | writeOnly | typeMismatch | range | state | busy | auth | tooLong
  | notManager | unreachable | timeout
  deriving DecidableEq, Repr

/-- Power states (Table 14-1). -/
inductive PwrState | run | idle | sleep | deepSleep | off
  deriving DecidableEq, Repr

/-- Where the power state machine and the boot stand (Tables 14-3, 14-4, 14-6). -/
inductive Phase
  | up                    -- Run or Idle, no transition
  | safeMode              -- R513
  | boot (step : Nat)     -- step 1-8 of Table 14-6 under way
  | entry (step : Nat)    -- step 1-5 of Table 14-3 under way
  | asleep                -- Sleep, Deep sleep or Off reached
  | stagger               -- waiting for the slot of R547
  | exit (step : Nat)     -- step 1-4 of Table 14-4 under way
  | vaonWait              -- VAON rising, before the boot instant (R586)
  deriving DecidableEq, Repr

/-- Servo states (Table 12-3). -/
inductive DomState | freeRun | locking | locked | holdover
  deriving DecidableEq, Repr

/-- Receive states (Table 02-2). -/
inductive RxState | disabled | noSignal | hunt | presync | sync
  deriving DecidableEq, Repr

/-- Activation states (Table 03-1). -/
inductive ActState | initial | standby | announced | ranging | operating | intermittent | emergencyStop | silenced
  deriving DecidableEq, Repr

/-- Session states (Table 03-5). -/
inductive Session | none | pending | confirmed | renewing
  deriving DecidableEq, Repr

/-- A downstream directive as received (Table 03-4), without its `TYPE`: `content` is bits [351:64]. -/
structure Directive where
  tid : Nat
  seq : Nat
  rsv : Nat
  content : Nat
  code : Nat
  deriving DecidableEq, Repr

/-- A grant (Table 04-1). -/
structure Grant where
  allocId : Nat
  report : Bool
  directiveSlot : Bool
  ranging : Bool
  forcedWake : Bool
  start : Nat
  size : Nat
  profile : Nat
  hecOk : Bool
  fecBad : Bool
  deriving DecidableEq, Repr

/-- Group states (Table 05-2). -/
inductive GroupState | unconfigured | held | active | degraded | down
  deriving DecidableEq, Repr

/-- What completes a parse window (R236): the first bytes of a host frame, with the instant at which its start of frame left
the receive PCS, the member lane that carried it and its position among markers, codewords and gearbox words in ps (R388),
and whether it opened with an express SMD; a frame of the downstream path; a submission of the control cores, with its
egress class and one-step mode; or the next submission of the PTP stack and the dictionary server. -/
inductive Arrival
  | host (port : Fin 8) (bytes : Bytes) (sof lane pcs : Nat) (express : Bool)
  | pon (fid : Nat)
  | cpu (bytes : Bytes) (egress : Option (Fin 64)) (oneStep : Nat)
  | cpuNext
  deriving DecidableEq, Repr

/-- What the PCS of a port has received since its last report: FEC codewords, those corrected and those that could not be,
the symbols corrected, and error blocks (Table 10-10). -/
structure PcsReport where
  codewords : Nat
  corrected : Nat
  uncorrectable : Nat
  symbols : Nat
  errorBlocks : Nat
  deriving DecidableEq, Repr

/-- Host port states (Table 10-4). -/
inductive PortState | disabled | noSignal | aligning | up | remoteFault | test
  deriving DecidableEq, Repr

/-- One event record (Table 16-10), without its package-wide source offset. -/
structure EvRec where
  time : Nat
  source : Nat
  retained : Bool
  timeHeld : Bool
  rateLimited : Bool
  continued : Bool
  severity : Nat
  seq : Nat
  p0 : Nat
  p1 : Nat
  p2 : Nat
  p3 : Nat
  deriving DecidableEq, Repr

/-- State of a cluster under the governor (R20, R507). -/
inductive ClusterState
  | active    -- frames are dispatched to it
  | loading   -- ungated, reloading its instructions and table caches
  | stopping  -- dispatch stopped, waiting for its last context
  | gated
  deriving DecidableEq, Repr

/-- State of a key slot (Table 13-3). -/
inductive SlotState | free | valid | locked | fixed
  deriving DecidableEq, Repr

/-- Job kinds of the cipher (Table 13-7). -/
inductive JobKind | gcmSeal | gcmOpen | cmacGenerate | cmacVerify
  deriving DecidableEq, Repr

/-- State of a membership row (Table 15-7). -/
inductive MemberState | absent | present | asleep | conflict
  deriving DecidableEq, Repr

/-- The JTAG instructions of R597. -/
inductive JtagInstr | idcode | bypass | samplePreload | extest | clamp | highz
  deriving DecidableEq, Repr

/-- The header fields of a VDP request that are not fixed by its service (Table 15-2), how it reached the terminal,
and how many requests of its source were waiting then (R530). -/
structure Req where
  src : Nat
  dst : Nat
  txn : Nat
  inband : Bool
  auth : Bool
  counter : Nat
  code : Bytes
  waiting : Nat
  deriving DecidableEq, Repr

/-- The body of a DISCOVER message: a request (Table 15-4) or a response (Table 15-5). -/
inductive DiscoverBody
  | request (kind : Nat) (time : Nat)
  | response (serial siliconRev pwrState : Nat) (mgrCapable isManager safeMode join leaving : Bool)
      (attempts imageSeq timeState : Nat)
  deriving DecidableEq, Repr

/-- The kinds of memory content of Table 16-6. -/
inductive MemContent
  | hopperBuffer (handle : Nat)
  | flowEntry (row : Nat)
  | eventRecord (seq : Nat)
  | captureRecord (recNo : Nat)
  | pmBin (fifteen : Bool) (row : Nat)
  | latencyRow (obs : Nat)
  | essential
  deriving DecidableEq, Repr

/-- How a step of the cold boot ends (Table 14-6, R511). -/
inductive BootOutcome
  | ok
  | headers (seqA seqB : Nat)
  | image (img : Nat) (seq version layout : Nat) (customerKey : Bool)
  | noImage
  | failed
  deriving DecidableEq, Repr

end Sys2Proof
end

