-- ==== Sys2Proof/Syntax.lean ====
section
/-! DEFINITION. The commands of the block: one constructor per row of the table of operations and events. Every
constructor begins with `t`, the instant at which the command comes, in ticks of the model's time base. -/
namespace Sys2Proof

/-- A command of the LYT4220. -/
inductive Instr
  /-- INNER_LINK_RESET_RELEASE (R33). Inner-link reset is released on both dies, and every lane starts sending PRBS31 training blocks for blind bring-up. -/
  | innerLinkResetRelease (t : Nat)
  /-- PRBS_CHECK_END (R33). The per-lane PRBS check ends: failed lanes are marked, the 38 lowest good lanes become active and the first alignment marker is sent. -/
  | prbsCheckEnd (t : Nat) (bad0 bad1 : BitVec 40)
  /-- MARKER_LOCK (R33). The third marker completes marker lock and deskew, the lane maps are exchanged and the inner link is up. -/
  | markerLock (t : Nat)
  /-- INNER_LINK_BRINGUP_TIMEOUT (R33). The 1 ms bring-up limit expires with the link not up, which is an inner-link failure and a failed start. -/
  | innerLinkBringupTimeout (t : Nat)
  /-- FLIT_RECEIVED (R32). A flit arrives over the inner link and its CRC-32 is checked. `payload` is what the sender puts
  into the flit where it replays none, and `err` the bits that the lanes change, flit byte by flit byte. -/
  | flitReceived (t : Nat) (dir : Fin 2) (payload err : Bytes)
  /-- ALIGNMENT_MARKER (R35). A marker boundary is reached, and each lane's markers and header-bit errors are judged: the
  block that each of the 40 lanes carried in the marker position, and its header-bit errors of the interval. -/
  | alignmentMarker (t : Nat) (dir : Fin 2) (blocks : List (BitVec 257)) (hdrErrs : List Nat)
  /-- IL_LANE_REPAIRED (R35). The trained spare joins the stripe at the third marker boundary after it locks. -/
  | ilLaneRepaired (t : Nat) (dir : Fin 2)
  /-- ROOT_PLL_UNLOCK (R49). A root PLL loses lock in Run, so PTXDIS is asserted, the event is recorded and the package restarts. -/
  | rootPllUnlock (t : Nat) (die : Fin 2)
  /-- OSCILLATOR_CALIBRATION (R48). Once per second, the always-on RC oscillator is calibrated against REFCLK. -/
  | oscillatorCalibration (t : Nat)
  /-- PSD_LOW (R67). PSD[n] stays low for 1 µs, which is taken as loss of signal. -/
  | psdLow (t : Nat) (ch : Fin 4)
  /-- CDR_LOSS_OF_LOCK (R67). The channel CDR loses lock, which counts as loss of signal at once. -/
  | cdrLossOfLock (t : Nat) (ch : Fin 4)
  /-- CDR_LOCK (R66). The CDR locks with PSD high, and the channel enters Hunt. -/
  | cdrLock (t : Nat) (ch : Fin 4)
  /-- DS_RX_ENABLE (R69). A write to the receiver enable takes the channel to Disabled or starts its receiver. -/
  | dsRxEnable (t : Nat) (ch : Fin 4) (v : Nat)
  /-- DS_RESYNC (R69). A write of 1 discards every candidate and returns a channel in Presync or Sync to Hunt. -/
  | dsResync (t : Nat) (ch : Fin 4) (v : Nat)
  /-- MARK_MATCH (R83). The frame mark matches at a symbol position, creating or advancing a candidate, or confirming the mark in Sync. -/
  | markMatch (t : Nat) (ch : Fin 4) (pos : Nat) (bits : BitVec 64)
  /-- MARK_MISSING (R83). A candidate's or Sync's expected position passes without a match. -/
  | markMissing (t : Nat) (ch : Fin 4) (pos : Nat)
  /-- QUALIFICATION (R86). At the decision instant after codeword 1 decodes, a Presync candidate qualifies or is rejected. -/
  | qualification (t : Nat) (ch : Fin 4) (pos : Nat)
  /-- BAR_EXPIRY (R84). A barred offset's 16 frames expire and the bar is lifted. -/
  | barExpiry (t : Nat) (ch : Fin 4) (off : Nat)
  /-- CODEWORD_DECODED (R76). The LDPC decoder finishes a codeword and outputs its information bytes with their FEC_BAD
  marks. `rx` are the codeword's line bytes as the levels at the balls give them, and `rel` the slicer's reliabilities, 5 bits
  for each bit, the first bit of the line in the most significant place. -/
  | codewordDecoded (t : Nat) (ch : Fin 4) (pos c : Nat) (rx : Bytes) (rel : Nat)
  /-- CARRIER_HEADER (R99). The carrier walk reaches a header and classifies the carrier as padding, delineation loss, idle or passed to the flow filter. -/
  | carrierHeader (t : Nat) (ch : Fin 4)
  /-- ACT_EVALUATION (R121). The activation machine evaluates its triggers in order at the evaluation instant of each frame, or every 125 µs out of Sync. -/
  | actEvaluation (t : Nat) (ch : Fin 4)
  /-- ACT_ENABLE (R119). A write of activation enable either applies trigger 1 or allows trigger 4. -/
  | actEnable (t : Nat) (ch : Fin 4) (v : Nat)
  /-- PROFILE (R168). A Profile directive stores or invalidates a burst profile from frame N + 2. -/
  | profile (t : Nat) (ch : Fin 4) (d : Directive)
  /-- ANNOUNCE_WINDOW (R136). An Announce Window directive draws frame and delay and arms the Serial Number burst and the guard. -/
  | announceWindow (t : Nat) (ch : Fin 4) (d : Directive)
  /-- ASSIGN_TERMINAL_ID (R138). An Assign Terminal ID directive for the terminal's serial sets the terminal ID and enters Ranging. -/
  | assignTerminalId (t : Nat) (ch : Fin 4) (d : Directive)
  /-- RANGING_TIME (R143). A Ranging Time directive sets EqD and RTD, confirms the session and moves Ranging to Operating. -/
  | rangingTime (t : Nat) (ch : Fin 4) (d : Directive)
  /-- REGISTRATION_NONCE (R140). A Registration Nonce draws T_NONCE and starts the session-key derivation. -/
  | registrationNonce (t : Nat) (ch : Fin 4) (d : Directive)
  /-- DERIVATION_COMPLETE (R467). The 20 µs derivation ends: pending keys are released and the Registration is queued. -/
  | derivationComplete (t : Nat) (ch : Fin 4)
  /-- KEY_CONTROL (R469). A Key Control directive installs, stages or deletes a data key by the rows of Table 13-5. -/
  | keyControl (t : Nat) (ch : Fin 4) (d : Directive)
  /-- UNWRAP_COMPLETE (R469). The 2 µs data-key unwrap ends, the slot is written or left unchanged and the Key Report is queued. -/
  | unwrapComplete (t : Nat)
  /-- STAGED_PART_TIMEOUT (R469). A staged part 0 sees 8 frames without a matching part 1 and is discarded. -/
  | stagedPartTimeout (t : Nat) (ch : Fin 4)
  /-- DISABLE (R148). A Disable for the terminal's serial sets the stop record and enters Emergency stop. -/
  | disable (t : Nat) (ch : Fin 4) (d : Directive)
  /-- ENABLE (R148). An Enable for the terminal's serial clears the stop record and moves Emergency stop to Initial. -/
  | enable (t : Nat) (ch : Fin 4) (d : Directive)
  /-- DEACTIVATE (R150). A Deactivate returns the channel to Standby and records the reason. -/
  | deactivate (t : Nat) (ch : Fin 4) (d : Directive)
  /-- SLEEP_ALLOW (R501). A Sleep Allow directive grants or revokes the head end's sleep allowance. -/
  | sleepAllow (t : Nat) (ch : Fin 4) (d : Directive)
  /-- TIME_OF_DAY (R433). A Time of Day directive gives a servo sample θ to every domain sourced from the channel when usable. -/
  | timeOfDay (t : Nat) (ch : Fin 4) (d : Directive)
  /-- ADJUST_TRANSMIT (R144). An Adjust Transmit schedules an EqD change and records the power level. -/
  | adjustTransmit (t : Nat) (ch : Fin 4) (d : Directive)
  /-- OPT_WRITE_COMPLETE (R146). The optics I²C write of the power level completes or fails; its master found OPT_SDA low at the
  start of the transfer, or high (R596). -/
  | optWriteComplete (t : Nat) (ch : Fin 4) (sdaLow acked : Bool)
  /-- EQD_APPLY (R144). A scheduled EqD takes force at its upstream frame. -/
  | eqdApply (t : Nat) (ch : Fin 4)
  /-- CHANNEL_HANDOVER (R151). A Channel Handover directive is answered and, when DONE, schedules the handover frame. -/
  | channelHandover (t : Nat) (ch : Fin 4) (d : Directive)
  /-- HANDOVER_FRAME (R152). The handover frame is reached: the source goes to Standby and the target to Operating with the moved keys and bindings. -/
  | handoverFrame (t : Nat) (ch : Fin 4)
  /-- BONDING_CONTROL (R232). A Bonding Control directive joins, leaves or changes a head-end-owned group. -/
  | bondingControl (t : Nat) (ch : Fin 4) (d : Directive)
  /-- ACKNOWLEDGE (R131). A downstream Acknowledge ends the resend of the upstream directive that it names. -/
  | acknowledge (t : Nat) (ch : Fin 4) (d : Directive)
  /-- T_ANNOUNCE (R122). T_announce expires and Announced returns to Standby. -/
  | tAnnounce (t : Nat) (ch : Fin 4)
  /-- T_RANGE (R122). T_range expires and Ranging returns to Standby. -/
  | tRange (t : Nat) (ch : Fin 4)
  /-- T_LOST (R122). T_lost expires and Intermittent goes to Initial. -/
  | tLost (t : Nat) (ch : Fin 4)
  /-- UPSTREAM_RESEND (R131). No Acknowledge within 8 frames, so the directive is queued again, or dropped after its third send. -/
  | upstreamResend (t : Nat) (ch : Fin 4)
  /-- DUPLICATE_WINDOW (R129). An accepted unicast directive leaves the 16-frame duplicate window. -/
  | duplicateWindow (t : Nat) (ch : Fin 4)
  /-- RENEWAL_TIMEOUT (R127). No directive verifies under the new key within 1 s, so the new key is discarded and the session returns to Confirmed. -/
  | renewalTimeout (t : Nat) (ch : Fin 4)
  /-- ACT_SILENCE_ACK (R149). A write of the silence token clears the silence record, and any other value is refused. -/
  | actSilenceAck (t : Nat) (ch : Fin 4) (v : Nat)
  /-- BANDWIDTH_MAP (R167). The tailrace checks the grants of a map, forms the chains and opens the guard windows. -/
  | bandwidthMap (t : Nat) (ch : Fin 4)
  /-- SEAL (R180). A chain's seal instant is reached and its content and reports are fixed. -/
  | seal (t : Nat) (ch : Fin 4)
  /-- FILL (R181). The device-wide fill arbiter serves a sealed chain and fills its segments. -/
  | fill (t : Nat)
  /-- BURST_START (R193). PBEN rises at the first preamble bit of a burst and the burst is sent. -/
  | burstStart (t : Nat) (ch : Fin 4)
  /-- BURST_END (R193). PBEN falls US_PBEN_TAIL slots after the burst's last byte. -/
  | burstEnd (t : Nat) (ch : Fin 4)
  /-- GUARD_TRIP (R194). A PBEN-high sample outside every window asserts and latches PTXDIS and signals activation. -/
  | guardTrip (t : Nat) (ch : Fin 4)
  /-- GUARD_RELEASED (R195). The guard releases the PTXDIS latch at a frame boundary once its conditions hold. -/
  | guardReleased (t : Nat) (ch : Fin 4)
  /-- BOND_ENABLE (R203). A write of BOND_ENABLE enables bonding or holds every group in Unconfigured. -/
  | bondEnable (t : Nat) (v : Nat)
  /-- BUCKET_MAP_REBUILD (R214). A group's bucket map is rebuilt after a change of MEMBERS_UP, and the receive state is flushed on a member failure. -/
  | bucketMapRebuild (t : Nat) (g : Fin 64)
  /-- PRESENT_FRAME (R223). The first carrier of a bonded round-robin frame reaches the reorder, and the frame is released, held or discarded. -/
  | presentFrame (t : Nat)
  /-- REORDER_TIMEOUT (R225). The per-µs check finds a held frame past TIMEOUT_US, and the group skips to its nearest held sequence. -/
  | reorderTimeout (t : Nat)
  /-- MODE_CHANGE (R230). A change of MODE or TIMEOUT_US takes effect at the group's first frame boundary. -/
  | modeChange (t : Nat) (g : Fin 64)
  /-- WINDOW_COMPLETE (R236). A frame's parse window is complete: the generation is stamped, the parse starts and the frame seeks a context. -/
  | windowComplete (t : Nat) (a : Arrival)
  /-- CONTEXT_ASSIGN (R279). A context frees and the oldest eligible waiting frame takes it, from its quota or from the shared contexts. -/
  | contextAssign (t : Nat) (region : Fin 8)
  /-- TERNARY_RESULT (R246). The ternary lookup returns the winning rule or default action and issues any flow-table lookup. -/
  | ternaryResult (t : Nat) (fid : Nat)
  /-- EM_LOOKUP_RESULT (R257). A flow-table lookup returns a hit that replaces the action, or a miss that may schedule a learn. -/
  | emLookupResult (t : Nat) (fid : Nat)
  /-- PROGRAM_END (R274). A pass's program ends, and the context goes to Awaiting or Ready. -/
  | programEnd (t : Nat) (fid : Nat) (info : Nat)
  /-- LAST_BYTE (R240). A frame's last byte arrives and its End length checks are decided. -/
  | lastByte (t : Nat) (fid : Nat) (rest : Bytes) (asmOk : Bool)
  /-- OVERSIZE (R373). A received frame reaches MAC_MAX_FRAME, is marked OVERSIZE and the rest is discarded. -/
  | oversize (t : Nat) (fid : Nat) (rest : Bytes)
  /-- FCS_VERDICT (R282). The FCS verdict of a host frame arrives 5.3 ns after its last byte. -/
  | fcsVerdict (t : Nat) (fid : Nat) (good : Bool)
  /-- TAG_VERDICT (R477). A downstream cipher lane delivers a carrier's GCM tag verdict. -/
  | tagVerdict (t : Nat) (ch : Fin 4)
  /-- CTX_TIMEOUT (R283). CTX_TIMEOUT_US expires with a check still open, and the pass is undone with cause 7. -/
  | ctxTimeout (t : Nat) (fid : Nat)
  /-- CTX_PROGRAM_LIMIT (R275). A program still runs at the cycle limit and is undone with cause 8. -/
  | ctxProgramLimit (t : Nat) (fid : Nat)
  /-- COMMIT (R289). The oldest Ready frame of a source commits and its journal is applied in order. -/
  | commit (t : Nat) (src : Fin 80)
  /-- CUT_THROUGH_START (R291). Every condition holds, and egress of an uncommitted frame begins. -/
  | cutThroughStart (t : Nat) (fid : Nat) (arrived : Nat)
  /-- RULE_SWAP (R267). A swap request flips the active generation pointer and starts the drain count. -/
  | ruleSwap (t : Nat) (v : Nat)
  /-- RULE_DRAINED (R268). The last frame of the old generation leaves, the shadow is copied from the active set and the drain is logged. -/
  | ruleDrained (t : Nat)
  /-- EM_AGEING (R260). The once-per-second sweep invalidates learned entries past EM_AGE_S. -/
  | emAgeing (t : Nat)
  /-- HOP_ALLOCATION (R313). A pool port decides a buffer request by admission and the arbiter, granting it or refusing it with fallback. -/
  | hopAllocation (t : Nat) (pool : Fin 5) (ext : List (Nat × Nat))
  /-- HOP_FREE (R316). A free is checked and returns the buffer to its list, or is rejected as a double or foreign free. -/
  | hopFree (t : Nat) (handle owner requester : Nat)
  /-- HAND_OVER (R317). A buffer moves from its owner to a new owner, or the hand-over is rejected. -/
  | handOver (t : Nat) (handle cur new requester : Nat)
  /-- SPILL_COPY_COMPLETE (R304). The spill copy ends and the old on-die buffer is freed. -/
  | spillCopyComplete (t : Nat)
  /-- PROMOTION (R302). A frame's bytes near its buffer size, and a larger buffer is requested and copied to. -/
  | promotion (t : Nat) (fid : Nat)
  /-- PROMOTION_COPY_COMPLETE (R302). The promotion copy ends and the old buffer is freed without owner check. -/
  | promotionCopyComplete (t : Nat) (fid : Nat)
  /-- HOP_LIST_REBUILT (R307). A free-list rebuild started by a failed pop check completes and is logged. -/
  | hopListRebuilt (t : Nat) (list : Fin 19)
  /-- MEM_ECC_UNCORRECTABLE (R566). Memory reports an uncorrectable error, with the consequence of Table 16-6. -/
  | memEccUncorrectable (t : Nat) (mem : Nat) (addr : Nat) (content : MemContent)
  /-- MEM_ECC_CORRECTED (R566). A single-bit error is corrected, written back and counted. -/
  | memEccCorrected (t : Nat) (mem : Nat) (addr : Nat)
  /-- ARB_WINDOW (R318). A 256-cycle window begins and every credit counter is reset to its weight. -/
  | arbWindow (t : Nat) (inst : Fin 23)
  /-- ARB_BRAKE (R321). A write of the brake stops or resumes an arbiter instance's decisions. -/
  | arbBrake (t : Nat) (inst : Fin 23) (v : Nat)
  /-- ARB_DRAINED (R321). A braked instance's outstanding work ends and the drain is logged. -/
  | arbDrained (t : Nat) (inst : Fin 23)
  /-- PORT_SELECT (R333). A host port able to begin a frame selects the next frame by strict priority and DWRR under its shapers and gates. -/
  | portSelect (t : Nat) (p : Fin 8)
  /-- GCL_COMMIT (R347). A commit request copies the shadow gate list to a pending list and fixes Tc. -/
  | gclCommit (t : Nat) (p : Fin 8) (v : Nat)
  /-- GCL_CHANGED (R348). At Tc, the pending gate list becomes active. -/
  | gclChanged (t : Nat) (p : Fin 8)
  /-- GATE_ENTRY (R346). A gate control entry begins and the class gates change. -/
  | gateEntry (t : Nat) (p : Fin 8)
  /-- DEPTH_SAMPLE (R353). At each whole µs, every queue's depth is sampled into its histogram. -/
  | depthSample (t : Nat)
  /-- MAC_ENABLE (R364). A write enables or disables a port after the enable checks. -/
  | macEnable (t : Nat) (p : Fin 8) (v : Nat)
  /-- LANE_SIGNAL_LOSS (R369). A member lane loses signal or CDR lock and the port goes to No signal. -/
  | laneSignalLoss (t : Nat) (k : Fin 8)
  /-- LANE_LOCKED (R369). A lane's CDR locks and its equaliser adapts, and a port with all lanes locked enters Aligning. -/
  | laneLocked (t : Nat) (k : Fin 8) (calRx calTx : Nat)
  /-- PCS_ALIGNED (R369). The PCS aligns, and the port enters Up or Remote fault. -/
  | pcsAligned (t : Nat) (p : Fin 8) (remoteFault : Bool) (report : PcsReport)
  /-- ALIGNMENT_LOST (R369). A port loses block, marker or FEC alignment, or enters high bit error rate, and returns to Aligning. -/
  | alignmentLost (t : Nat) (p : Fin 8) (cause : Nat) (report : PcsReport)
  /-- REMOTE_FAULT (R367). A port receives Remote Fault and goes to Remote fault. -/
  | remoteFault (t : Nat) (p : Fin 8)
  /-- ALIGNMENT_TIMEOUT (R370). The alignment timeout expires, the lanes re-adapt and BRINGUP_RETRIES counts. -/
  | alignmentTimeout (t : Nat) (p : Fin 8)
  /-- TX_UNDERRUN (R377). The MAC needs an unstaged byte, or meets an uncommitted FCS, and stomps the frame. -/
  | txUnderrun (t : Nat) (p : Fin 8)
  /-- FRAME_TX_END (R378). An egress frame ends and the start threshold is adjusted. -/
  | frameTxEnd (t : Nat) (p : Fin 8)
  /-- MAC_CT_START_INIT (R379). A write of the initial threshold sets T and resets the run. -/
  | macCtStartInit (t : Nat) (p : Fin 8) (v : Nat)
  /-- MAC_CT_START_MIN (R379). A write of the minimum threshold clamps T. -/
  | macCtStartMin (t : Nat) (p : Fin 8) (v : Nat)
  /-- MAC_CT_START_MAX (R379). A write of the maximum threshold clamps T. -/
  | macCtStartMax (t : Nat) (p : Fin 8) (v : Nat)
  /-- PREEMPT_VERIFY (R381). The MAC merge verify handshake succeeds or fails and the result is logged. -/
  | preemptVerify (t : Nat) (p : Fin 8) (good : Bool)
  /-- MAC_PREEMPT_REVERIFY (R381). A write of 1 restarts preemption verification. -/
  | macPreemptReverify (t : Nat) (p : Fin 8) (v : Nat)
  /-- HL_TX_EQ (R362). A write of the transmit taps is checked and applied within 10 µs. -/
  | hlTxEq (t : Nat) (k : Fin 8) (v : Nat)
  /-- HL_LOOPBACK (R387). A write sets normal, near-end or far-end loopback on a lane. -/
  | hlLoopback (t : Nat) (k : Fin 8) (v : Nat)
  /-- PRBS_LOCK (R386). A pattern checker gains or loses lock, logged at the rate limit. -/
  | prbsLock (t : Nat) (row : Fin 12) (rx : Bytes)
  /-- CLIENT_SIGNAL_CLEAR (R389). A client lane's loss of signal clears after 125 µs of signal with CDR locked. -/
  | clientSignalClear (t : Nat) (k : Fin 8)
  /-- BLOCK_LOCK (R389). A C10E or C25E client lane gains or loses block lock. -/
  | blockLock (t : Nat) (k : Fin 8) (gained : Bool)
  /-- PERIOD_BOUNDARY (R406). At a client period boundary, the mapper decides JC and queues the period's containers. -/
  | periodBoundary (t : Nat) (c : Fin 8) (count : Nat) (data : Bytes)
  /-- CONTAINER (R408). A flume container arrives at the de-mapper and its member part is checked and completed. -/
  | container (t : Nat) (c : Fin 8)
  /-- SKEW_LIMIT (R409). A group frame is not complete within SKEW_LIMIT_US, or 250 µs for one member, and is lost. -/
  | skewLimit (t : Nat) (c : Fin 8)
  /-- PLAYOUT_SLIP (R414). The playout fill reaches 0 or exceeds its bound, and the de-mapper slips to Seek. -/
  | playoutSlip (t : Nat) (c : Fin 8)
  /-- PM_SECOND (R419). At each whole TAI second, every PM entity's second is classified. -/
  | pmSecond (t : Nat)
  /-- CLI_PM_BIN (R420). A classified second, held 10 s, is added to its bins and a bin that has ended closes. -/
  | cliPmBin (t : Nat)
  /-- CLI_PM_CLEAR (R420). A write of 1 clears every performance bin. -/
  | cliPmClear (t : Nat) (v : Nat)
  /-- COMPAT_LATCH (R422). At each whole TAI second, every forerunner-compatibility counter is latched. -/
  | compatLatch (t : Nat)
  /-- SOURCE_TIMEOUT (R438). The every-second servo check finds no usable sample within the source timeout, and the domain goes to Holdover or Free-run. -/
  | sourceTimeout (t : Nat)
  /-- TIME_HOLDOVER (R437). TIME_HOLDOVER_S expires and the domain returns to Free-run. -/
  | timeHoldover (t : Nat) (x : Fin 2)
  /-- TIME_SET (R443). A write sets device time while the selected domain is in Free-run. -/
  | timeSet (t : Nat) (sec ns : Nat)
  /-- TIME_SELECT (R440). A write chooses domain A, domain B or automatic selection of device time. -/
  | timeSelect (t : Nat) (v : Nat)
  /-- TIME_DOM_SOURCE (R437). A write of a domain's source acts as an immediate source loss. -/
  | timeDomSource (t : Nat) (x : Fin 2) (v : Nat)
  /-- PPS_OUT (R451). At each whole second of device time, PPS_OUT rises for its width. -/
  | ppsOut (t : Nat)
  /-- PPS_IN (R452). A rising edge on PPS_IN is stamped and gives a phase sample. -/
  | ppsIn (t : Nat)
  /-- PPS_IN_FAULT (R452). No edge arrives within 1,100 ms, so PPS_IN_MISSED counts and the fault is logged. -/
  | ppsInFault (t : Nat)
  /-- TLINK_MESSAGE_SEND (R453). At each whole second, the manager drives the marker and message cells on the time link. -/
  | tlinkMessageSend (t : Nat)
  /-- TLINK_MESSAGE (R454). A worker receives a time-link message and takes a servo sample from it. -/
  | tlinkMessage (t : Nat) (highs : List Nat)
  /-- TLINK_FAULT (R454). No good time-link message arrives within 1.1 s and the fault is logged. -/
  | tlinkFault (t : Nat)
  /-- TS_POP (R449). A read returns and removes the oldest complete host time-stamp entry. -/
  | tsPop (t : Nat)
  /-- CIPH_SLOT_ERROR (R464). A parity error in a key slot erases it and is logged. -/
  | ciphSlotError (t : Nat) (slot : Fin 256)
  /-- CIPH_SECRET_BLOB (R465). A write stores the registration-secret blob in flash and unwraps it. -/
  | ciphSecretBlob (t : Nat) (bytes : Bytes)
  /-- CIPH_ARRAY_KEY_BLOB (R465). A write stores the array-key blob in flash and unwraps it. -/
  | ciphArrayKeyBlob (t : Nat) (bytes : Bytes)
  /-- CIPH_CAPTURE_BLOB (R465). A write stores the capture-key blob in flash and unwraps it. -/
  | ciphCaptureBlob (t : Nat) (bytes : Bytes)
  /-- BLOB_UNWRAP_COMPLETE (R465). A blob unwrap ends and fills its slot, or fails its integrity check. -/
  | blobUnwrapComplete (t : Nat) (which : Fin 3)
  /-- CIPH_SECRET_SEAL (R466). 32 written bytes are wrapped under the device key and installed as the secret blob. -/
  | ciphSecretSeal (t : Nat) (bytes : Bytes)
  /-- CIPH_UNLOCK_FLOW (R472). A write frees a flow's Locked slots and returns it to clear transmission. -/
  | ciphUnlockFlow (t : Nat) (v : Nat)
  /-- GCM_SEAL (R480). A GCM seal job is requested on the job lane. -/
  | gcmSeal (t : Nat) (slot : Fin 256) (iv aad data : Bytes)
  /-- GCM_OPEN (R480). A GCM open job is requested on the job lane. -/
  | gcmOpen (t : Nat) (slot : Fin 256) (iv aad data tag : Bytes)
  /-- CMAC_GENERATE (R480). A CMAC generate job is requested on the job lane. -/
  | cmacGenerate (t : Nat) (slot : Fin 256) (data : Bytes)
  /-- CMAC_VERIFY (R480). A CMAC verify job is requested on the job lane. -/
  | cmacVerify (t : Nat) (slot : Fin 256) (data tag : Bytes)
  /-- JOB_STEP_COMPLETE (R479). A job step of up to 64 blocks completes after 8 + b cycles. -/
  | jobStepComplete (t : Nat)
  /-- CONTEXT_EXPORT (R481). A job context is wrapped under the context key and exported. -/
  | contextExport (t : Nat) (id : Nat)
  /-- CONTEXT_RESTORE (R481). An exported job context is restored, or its job ends with an error. -/
  | contextRestore (t : Nat) (bytes : Bytes)
  /-- PWR_REQUEST (R489). The host requests a power state, which starts a transition or fills the pending slot. -/
  | pwrRequest (t : Nat) (v : Nat)
  /-- ENTRY_STEP_COMPLETE (R497). An entry step of Table 14-3 completes and the next one begins. -/
  | entryStepComplete (t : Nat)
  /-- DRAIN_LIMIT (R497). The drain limit of entry step 2 expires and open passes are undone with cause 7. -/
  | drainLimit (t : Nat)
  /-- WAKE_ORDER_READY (R499). A ready signal of the wake order arrives and the next exit step begins, reaching Run after step 4. -/
  | wakeOrderReady (t : Nat)
  /-- READY_TIMEOUT (R499). A ready signal misses its limit, the exit is abandoned and the package restarts with cause 11. -/
  | readyTimeout (t : Nat)
  /-- WAKE_N (R492). WAKE_N is low for 1 µs, which wakes a sleeping package or is latched during entry. -/
  | wakeN (t : Nat)
  /-- FIELD_BUS_CARRIER (R492). The always-on detector sees field-bus carrier for 2 µs and wakes the package when enabled. -/
  | fieldBusCarrier (t : Nat)
  /-- ALWAYS_ON_TIMER (R494). The always-on wake timer, or the head-end sleep limit, expires and wakes the package. -/
  | alwaysOnTimer (t : Nat)
  /-- HOST_LANE_SIGNAL_DETECT (R493). Signal returns on a masked host lane in Sleep and wakes the package. -/
  | hostLaneSignalDetect (t : Nat) (k : Fin 8)
  /-- STAGGER_SLOT (R547). The staggered-power wait of s × ARR_STAGGER_MS ends and step 1 of the wake order begins. -/
  | staggerSlot (t : Nat)
  /-- HE_QUIET (R502). The quiet period under a sleep allowance expires and a Sleep Request is sent. -/
  | heQuiet (t : Nat)
  /-- PWR_IDLE_ENTRY (R505). The Idle conditions have held for PWR_IDLE_ENTRY_US and the governor enters Idle. -/
  | pwrIdleEntry (t : Nat)
  /-- GOVERNOR_WINDOW (R507). At each 10 µs window, the governor ungates, marks policy-limited or schedules gating per region. -/
  | governorWindow (t : Nat) (busy : List Nat)
  /-- GOVERNOR_HOLD_END (R507). The first second after boot or wake ends and the governor loop starts acting. -/
  | governorHoldEnd (t : Nat)
  /-- CLUSTER_READY (R507). An ungated cluster finishes reloading and accepts frames. -/
  | clusterReady (t : Nat) (c : Fin 64)
  /-- CLUSTER_GATED (R20). A cluster with dispatch stopped frees its last context and is gated. -/
  | clusterGated (t : Nat) (c : Fin 64)
  /-- GOV_MOVED (R508). Once per ms, the loop moves a flow group from a limited region to a lightly loaded one. -/
  | govMoved (t : Nat)
  /-- GOV_MIN (R506). A write of a region's minimum bound may ungate clusters at once. -/
  | govMin (t : Nat) (g : Fin 8) (v : Nat)
  /-- GOV_MAX (R506). A write of a region's maximum bound may gate clusters at once. -/
  | govMax (t : Nat) (g : Fin 8) (v : Nat)
  /-- RESET_N (R587). RESET_N held low, for `low` ns, resets every block except the always-on island, and its release is a boot
  instant. -/
  | resetN (t low : Nat) (addr : Fin 64) (mgrN : Bool) (bootSel : Fin 4)
  /-- VAON_RISE (R586). VAON first rises and after 1 ms the boot instant starts the power-up and cold boot. -/
  | vaonRise (t : Nat) (addr : Fin 64) (mgrN : Bool) (bootSel : Fin 4)
  /-- START_COMPLETE (R512). Control core 0 marks the start complete and the attempt counter is cleared. -/
  | startComplete (t : Nat)
  /-- INIT_WATCHDOG (R512). The 4 s init watchdog expires, the start fails and the package restarts or enters safe mode. -/
  | initWatchdog (t : Nat)
  /-- LOADER_TIMEOUT (R512). No image is loaded under BOOT_SEL 10 within 600 s and the start fails. -/
  | loaderTimeout (t : Nat)
  /-- RUN_WATCHDOG (R514). The run watchdog PWR_WDT_MS expires and the package restarts. -/
  | runWatchdog (t : Nat)
  /-- BOOT_RESTART (R514). A write of 1 restarts the package with the attempt counter unchanged. -/
  | bootRestart (t : Nat) (v : Nat)
  /-- BOOT_RETRY (R513). A write of 1 clears the attempt counter and restarts. -/
  | bootRetry (t : Nat) (v : Nat)
  /-- PWR_GOOD_LOST (R585). PWR_GOOD of an enabled group falls, which is a supply fault and restarts the package. -/
  | pwrGoodLost (t : Nat) (g : Fin 4)
  /-- CLOCK_LOST (R592). ETHREF shows no edge for 100 ns in Run, which is a clock fault and restarts the package. -/
  | clockLost (t : Nat)
  /-- TEMP_SAMPLE (R598). Every 1 ms the temperature sensors are read and Tj is updated. -/
  | tempSample (t : Nat) (readings : List Int)
  /-- RAIL_SAMPLE (R599). Every 100 µs each rail is measured at the die. -/
  | railSample (t : Nat) (mv : List Nat)
  /-- LIFE_UPDATE (R604). Every 4 h of Run, and at orderly entry to Off, the life record is updated. -/
  | lifeUpdate (t : Nat)
  /-- FB_TRANSMIT (R523). The bus is free of carrier for the inter-frame gap and a queued field-bus frame starts. -/
  | fbTransmit (t : Nat)
  /-- FB_COLLISION (R521). A collision is detected: the jam is sent and a back-off is drawn, or the frame is dropped after 16 collisions. -/
  | fbCollision (t half : Nat)
  /-- FB_BACKOFF (R523). The back-off of r slot times expires and the frame retries by deferral. -/
  | fbBackoff (t : Nat)
  /-- READ (R532). A VDP READ request returns an object's value. -/
  | read (t : Nat) (rq : Req) (idx sub : Nat)
  /-- WRITE (R554). A VDP WRITE of an object without a row of its own is checked and applied. -/
  | write (t : Nat) (rq : Req) (idx sub : Nat) (value : Bytes)
  /-- READ_MULTI (R555). A READ_MULTI request returns up to 32 values taken, and cleared, at one instant. -/
  | readMulti (t : Nat) (rq : Req) (items : List (Nat × Nat))
  /-- TABLE_READ (R559). A TABLE_READ request returns rows in order, clearing RC rows as each is taken. -/
  | tableRead (t : Nat) (rq : Req) (idx first count : Nat)
  /-- TABLE_WRITE (R559). A TABLE_WRITE request writes rows atomically in order and stops at the first refused row. -/
  | tableWrite (t : Nat) (rq : Req) (idx first count : Nat) (rows : Bytes)
  /-- SEG_BEGIN (R533). A SEG_BEGIN request opens a segmented DOMAIN transfer. -/
  | segBegin (t : Nat) (rq : Req) (idx sub dir total : Nat)
  /-- SEG_DATA (R533). A SEG_DATA request moves one segment of an open transfer in order. -/
  | segData (t : Nat) (rq : Req) (handle seg : Nat) (data : Bytes)
  /-- SEG_END (R533). A SEG_END request checks the CRC and hands the domain to its owner or advances the read cursor. -/
  | segEnd (t : Nat) (rq : Req) (handle crc : Nat)
  /-- TRANSFER_CLOSE (R533). A transfer with no request for 5 s is closed. -/
  | transferClose (t : Nat)
  /-- SUBSCRIBE (R534). A SUBSCRIBE request adds or removes an event subscription. -/
  | subscribe (t : Nat) (rq : Req) (first last action : Nat)
  /-- SUBSCRIPTION_LAPSE (R534). A subscriber silent for 60 s loses its subscription. -/
  | subscriptionLapse (t : Nat)
  /-- EVENT (R542). The manager receives an EVENT message from a worker and holds its records for merging. -/
  | event (t : Nat) (rq : Req) (records : List Bytes)
  /-- EVENT_MERGE (R542). A held event's merge time expires and it is sent to the host in order. -/
  | eventMerge (t : Nat)
  /-- STORE (R562). A STORE request snapshots every stored value and starts writing it to flash. -/
  | store (t : Nat) (rq : Req)
  /-- STORE_WRITE_COMPLETE (R562). The flash write of a stored copy is verified or fails and is logged. -/
  | storeWriteComplete (t : Nat) (good : Bool)
  /-- RESTORE (R564). A RESTORE request selects defaults for the next boot, cancels that or erases the stored copies. -/
  | restore (t : Nat) (rq : Req) (mode : Nat)
  /-- DISCOVER (R539). A DISCOVER heartbeat, query or response is handled, updating roles and membership. -/
  | discover (t : Nat) (rq : Req) (body : DiscoverBody)
  /-- FORWARD (R541). The manager relays a FORWARD request's inner message to a worker and returns the inner response. -/
  | forward (t : Nat) (rq : Req) (target : Nat) (inner : Bytes)
  /-- FB_FWD_TIMEOUT (R541). No inner response arrives within FB_FWD_TIMEOUT_MS and the FORWARD ends with TIMEOUT. -/
  | fbFwdTimeout (t : Nat)
  /-- FB_WAKE_WAIT (R541). An Asleep target becomes Present so the inner message is sent again, or the wait expires with UNREACHABLE. -/
  | fbWakeWait (t : Nat)
  /-- HEARTBEAT (R538). At each whole second the manager broadcasts a DISCOVER heartbeat. -/
  | heartbeat (t : Nat)
  /-- HEARTBEAT_MISS (R539). A Present worker has not answered 1 s after a heartbeat, and three misses make it Absent. -/
  | heartbeatMiss (t : Nat)
  /-- MANAGER_LOST (R540). A worker hears no heartbeat for 3 s, declares its manager lost and may take the role. -/
  | managerLost (t : Nat)
  /-- MANAGER_ROLE_TIMEOUT (R535). A manager-capable package hears no lower manager within 3 s of boot and takes the manager role. -/
  | managerRoleTimeout (t : Nat)
  /-- FB_AUTH_MODE (R545). A write sets the authentication mode, and is refused unless the array key is installed. -/
  | fbAuthMode (t : Nat) (v : Nat)
  /-- DEV_ALERT_CAUSE (R572). A read returns the latched alert cause and releases ALERT_N. -/
  | devAlertCause (t : Nat)
  /-- CAP_CLEAR (R577). A write of 1 empties the capture ring. -/
  | capClear (t : Nat) (v : Nat)
  /-- TRST_N (R597). TRST_N low holds the TAP in Test-Logic-Reset. -/
  | trstN (t : Nat) (low : Bool)
  /-- BYPASS (R597). The JTAG BYPASS instruction selects the bypass register. -/
  | bypass (t : Nat)
  /-- IDCODE (R597). The JTAG IDCODE instruction returns 0x1422_074F. -/
  | idcode (t : Nat)
  /-- SAMPLE_PRELOAD (R597). The JTAG SAMPLE/PRELOAD instruction samples or preloads the boundary-scan register. -/
  | samplePreload (t : Nat) (pins preload : BitVec 60)
  /-- EXTEST (R597). The JTAG EXTEST instruction drives the balls from the boundary cells, with PTXDIS following its cell. -/
  | extest (t : Nat)
  /-- CLAMP (R597). The JTAG CLAMP instruction holds the outputs from the boundary cells with bypass selected. -/
  | clamp (t : Nat)
  /-- HIGHZ (R597). The JTAG HIGHZ instruction puts the outputs into high impedance. -/
  | highz (t : Nat)
  /-- BOOT_STEP_COMPLETE (R509). A step of the cold boot of Table 14-6 completes, such as the image read and check or DRAM training. Its outcome either starts the next step or fails the start with reason 1 or 2. -/
  | bootStepComplete (t : Nat) (outcome : BootOutcome)
  /-- VAON_LOSS (R117). VAON falls below its minimum. The retention SRAM, the silence record, the attempt counter and the always-on records are lost, which acts as trigger 19 for a Silenced channel. -/
  | vaonLoss (t : Nat)
  /-- FB_FRAME_RECEIVED (R522). A field-bus frame is received whole. It is discarded for FCS, length or type, or for a VDP format, address, authentication or replay failure, or is answered for an unknown service. -/
  | fbFrameReceived (t : Nat) (frame : Bytes)
  /-- INNER_RESPONSE (R541). A worker's inner response reaches the manager, which relays it in its FORWARD response with the host's DST and TXN_ID restored, or discards it if it comes late. -/
  | innerResponse (t : Nat) (rq : Req) (msg : Bytes)
  /-- PTP_SYNC (R447). The PTP stack's Sync interval expires, and a one-step Sync is sent at 16 per s on each master port. -/
  | ptpSync (t : Nat)
  /-- PTP_ANNOUNCE (R447). The PTP stack's Announce interval expires, and an Announce carrying the clockClass of the selected domain state is sent at 8 per s. -/
  | ptpAnnounce (t : Nat)
  /-- ARB_DECISION (R319). In each cycle of a DRAM channel scheduler, the cipher job lane, a sack-hoist entry arbiter or the control-core mailbox, the arbiter picks a winner, updates credits and wait counters, and may count a dead cycle on a withdrawal. -/
  | arbDecision (t : Nat) (inst : Fin 23) (reqs : BitVec 16)
  deriving DecidableEq, Repr

end Sys2Proof
end

