-- ==== Sys2Proof/Config.lean ====
section
/-! DEFINITION. What an implementation or a specimen fixes, and the free values: constants without a body, so that no proof sees what they are. -/
namespace Sys2Proof.Config

/-- The n-th draw of the hardware random source (R136, R140, R149, R523); free (log entry 5). -/
opaque random : Nat → Nat

/-- The 4-byte number fused into the serial number (R135). -/
opaque serialNumber : BitVec 32

/-- The device key, fused at manufacture (Table 13-1). -/
opaque deviceKey : Nat → BitVec 8

/-- The image key, fused, common to every part (Table 13-1). -/
opaque imageKey : Nat → BitVec 8

/-- The customer key hash is fused (R511). -/
opaque customerKeyFused : Bool

/-- The signature, key hash and GCM tests of R511 on the bytes of an image. -/
opaque imageValid : List (BitVec 8) → Bool

/-- The numbers of the feature images that a firmware image carries beside image 1, by the bytes of the firmware image and
the subindex of `ENG_IMAGES_AVAILABLE`; 0 for none (R16). -/
opaque featureImages : List (BitVec 8) → Nat → Nat

/-- The hard decisions of the LDPC decoder after iteration i, from the received hard decisions and the reliabilities, 5 bits
each, of the 17,280 bits of a codeword: the spec gives neither the normalisation nor the word lengths of the layered
normalised min-sum (R76); free (log entry 167). -/
opaque ldpcIteration : (i rx rel : Nat) → Nat

/-- The fixed part of a lane's latency in ps, set at manufacture for each direction (receive true), lane mode and FEC mode
(R388). -/
opaque lanePath : Bool → Nat → Nat → Nat

/-- The member lane that carries the start of a frame which a port begins at an instant, and the frame's position in ps
among markers, codewords and gearbox words, which the PCS measures (R388). -/
opaque txStart : Nat → Nat → Nat × Nat

/-- The bytes of a frame that a MAC has sent and no command has handed to the model (R377). -/
opaque unseenByte : Nat → Nat → BitVec 8

/-- The register from which a pattern generator starts, which the spec does not give (R384). -/
opaque prbsSeed : Nat → Nat

/-- The bits of SSPRQ, which IEEE 802.3 Clause 120 defines, and the place in the pattern that follows a register of received
bits (R384, R386). -/
opaque ssprqBit : Nat → Bool
@[inherit_doc ssprqBit]
opaque ssprqPlace : Nat → Nat

/-- The gains of the type-2 loop of 10 Hz that steers a client's clock: proportional and integral, in 2^-16 ppb per ns of fill
(R415); the spec gives the bandwidth and the peaking only. -/
opaque playLoop : Nat × Nat

/-- The time of the deglitch filter of RESET_N, which R587 bounds. -/
opaque resetFilter : Nat

/-- `DEV_OBJECT_COUNT`, which the spec does not give. -/
opaque objectCount : Nat

/-- A vendor diagnostic object exists at the index (R558), and what a read of it returns. -/
opaque diagExists : Nat → Nat → Bool
/-- Content of a vendor diagnostic object (R558). -/
opaque diagValue : Nat → Nat → List (BitVec 8)

/-- The size in bytes of a snapshot of R562, whose format the spec does not give. -/
opaque snapshotBytes : List (Nat × Nat) → List (Nat × Nat) → Nat

/-- A value that the spec leaves open, one per use (log entry 6). -/
opaque freeValue : Nat → Nat

end Sys2Proof.Config
end

