-- ==== Sys2Proof/Machine/Bits.lean ====
section
/-! DEFINITION. Bit fields (R5), big-endian byte strings (R6), two's complement, CRCs and the time base of the model. -/
namespace Sys2Proof.Machine

/-- Bits [hi:lo] of `v` (R5). -/
def fld (v hi lo : Nat) : Nat := v / 2 ^ lo % 2 ^ (hi + 1 - lo)

/-- `v` with bits [hi:lo] replaced by `x`. -/
def setFld (v hi lo x : Nat) : Nat :=
  v / 2 ^ (hi + 1) * 2 ^ (hi + 1) + x % 2 ^ (hi + 1 - lo) * 2 ^ lo + v % 2 ^ lo

/-- Bit `i` of `v`. -/
def bitAt (v i : Nat) : Bool := v / 2 ^ i % 2 == 1

/-- 1 for true and 0 for false. -/
def b2n (b : Bool) : Nat := if b then 1 else 0

/-- `v` with bit `i` set to `b`. -/
def setBit (v i : Nat) (b : Bool) : Nat := setFld v i i (b2n b)

/-- The number of 1 bits among the low `w` bits of `v`. -/
def popCount : Nat → Nat → Nat
  | 0, _ => 0
  | w + 1, v => v % 2 + popCount w (v / 2)

/-- The big-endian value of a byte string (R6). -/
def beNat (bs : Bytes) : Nat := bs.foldl (fun a b => a * 256 + b.toNat) 0

/-- `n` big-endian bytes of `v` (R6). -/
def beBytes : Nat → Nat → Bytes
  | 0, _ => []
  | n + 1, v => BitVec.ofNat 8 (v / 256 ^ n) :: beBytes n v

/-- `n` bytes of zeros. -/
def zeros (n : Nat) : Bytes := List.replicate n 0

/-- Bytes `off .. off+n-1` of a string as a number; missing bytes read 0. -/
def beAt (bs : Bytes) (off n : Nat) : Nat :=
  beNat (((bs.drop off).take n) ++ zeros (n - (bs.length - off)))

/-- The `w`-bit two's complement value of `v`. -/
def toS (w v : Nat) : Int :=
  let m := v % 2 ^ w
  if m < 2 ^ (w - 1) then (m : Int) else (m : Int) - (2 ^ w : Nat)

/-- The `w`-bit two's complement pattern of `i`. -/
def ofS (w : Nat) (i : Int) : Nat := (i % ((2 ^ w : Nat) : Int)).toNat

/-- `x` limited to `lo .. hi`. -/
def clampI (lo hi x : Int) : Int := max lo (min hi x)

/-- The bits of a byte string in the order of the fibre: most significant bit of each byte first (R6). -/
def bitsOf (bs : Bytes) : List Bool :=
  bs.flatMap fun b => (List.range 8).map fun i => b.getLsbD (7 - i)

/-- The low `w` bits of `v`, most significant first. -/
def bitsOfNat (w v : Nat) : List Bool := (List.range w).map fun i => bitAt v (w - 1 - i)

/-- One step of a `w`-bit CRC register with generator `poly` (top term left out), most significant bit first. -/
def crcStep (w poly reg : Nat) (b : Bool) : Nat :=
  let fb := bitAt reg (w - 1) != b
  let sh := reg * 2 % 2 ^ w
  if fb then Nat.xor sh poly else sh

/-- A `w`-bit CRC over bits in transmission order from preset `init`. -/
def crcBits (w poly init : Nat) (bits : List Bool) : Nat := bits.foldl (crcStep w poly) init

/-- A reflected 32-bit CRC over bytes, least significant bit first (`poly` is the reflected generator). -/
def crc32r (poly : Nat) (bs : Bytes) : Nat :=
  let step := fun (r : Nat) (_ : Nat) => if r % 2 = 1 then Nat.xor (r / 2) poly else r / 2
  let upd := fun (r : Nat) (b : Byte) => (List.range 8).foldl step (Nat.xor r b.toNat)
  Nat.xor (bs.foldl upd 0xFFFFFFFF) 0xFFFFFFFF

/-- Bitwise exclusive or of two byte strings, as long as the shorter. -/
def xorBytes (a b : Bytes) : Bytes := List.zipWith (fun x y => x ^^^ y) a b

/-! ### The time base: one tick is 1 / 7.776e15 s, so that line bits, slots, picoseconds and 1.5 GHz cycles are whole. -/

/-- Ticks in one picosecond. -/
def tickPs : Nat := 7776
/-- Ticks in one nanosecond. -/
def tickNs : Nat := 7776000
/-- Ticks in one microsecond. -/
def tickUs : Nat := 7776000000
/-- Ticks in one millisecond. -/
def tickMs : Nat := 7776000000000
/-- Ticks in one second. -/
def tickS : Nat := 7776000000000000
/-- Ticks in one line bit of 99.5328 Gb/s. -/
def tickBit : Nat := 78125
/-- Ticks in one frame of 125 µs. -/
def tickFrame : Nat := 972000000000
/-- Ticks in 62.5 ps, the grid of time stamps (R425). -/
def tickStamp : Nat := 486000
/-- Ticks in one 1.5 GHz core cycle. -/
def tickCore : Nat := 5184000

/-- An instant rounded to the 62.5 ps grid (R425). -/
def roundStamp (t : Nat) : Nat := (t + tickStamp / 2) / tickStamp * tickStamp

/-- `v` with element `i` replaced by `f` of it. -/
def vmod {α : Type} {n : Nat} (v : Vector α n) (i : Fin n) (f : α → α) : Vector α n := v.set i (f v[i])

/-- All indices below `n`, in rising order. -/
def fins (n : Nat) : List (Fin n) := List.finRange n

end Sys2Proof.Machine
end

