-- ==== Sys2Proof/Machine/Flags.lean ====
section
/-! DEFINITION. The check codes and flags that the formats carry: CRC-24, CRC-16, CRC-14, CRC-10, CRC-32C, the LDPC code of R74 and the scrambler. -/
namespace Sys2Proof.Machine

/-- CRC-24 of the frame header block over bits [127:24] (R93). -/
def crc24 (v : Nat) : Nat := crcBits 24 0x864CFB 0xFFFFFF (bitsOfNat 104 (v / 2 ^ 24))

/-- CRC-14 of a carrier header over bits [63:14] (R98). -/
def hec14 (v : Nat) : Nat := crcBits 14 0x0B47 0 (bitsOfNat 50 (v / 2 ^ 14))

/-- CRC-10 of a grant over bits [63:10] (R159). -/
def hec10 (v : Nat) : Nat := crcBits 10 0x233 0 (bitsOfNat 54 (v / 2 ^ 10))

/-- CRC-16 of burst and allocation headers over the bits before it (R175); `v` is the whole 64-bit header. -/
def hec16 (v : Nat) : Nat := crcBits 16 0x1021 0xFFFF (bitsOfNat 48 (v / 2 ^ 16))

/-- CRC-16 of a time-link message over bits [127:16] (Table 12-7). -/
def crc16Tlink (v : Nat) : Nat := crcBits 16 0x1021 0xFFFF (bitsOfNat 112 (v / 2 ^ 16))

/-- CRC-32C (R210). -/
def crc32c (bs : Bytes) : Nat := crc32r 0x82F63B78 bs

/-- The Ethernet frame check sequence, IEEE 802.3 (PRESUMED generator, log entry 7). -/
def crc32Eth (bs : Bytes) : Nat := crc32r 0xEDB88320 bs

/-- The fixed pattern d of the scrambler at TC bit j (R79). -/
def scramD (j : Nat) : Bool := j % 4 < 2

/-- The scrambler register before TC bit 0 for an SFC: bit i is the key bit i + 1 positions back, as if the 31-stage
generator had been run back from k[0..30] (R79). -/
def scramSeedBits (sfc : Nat) : List Bool := (List.range 31).map fun j => bitAt sfc (30 - j)

/-- The key bit after a register that holds the last 31 key bits, bit i being k[j-1-i]: k[j-28] xor k[j-31]. -/
def scramNext (r : Nat) : Bool := bitAt r 27 != bitAt r 30

/-- Shifts a key bit into the register. -/
def scramShift (r : Nat) (b : Bool) : Nat := (r * 2 + b2n b) % 2 ^ 31

/-- One keystream step at TC bit j from SFC and register: the bit e and the new register. -/
def scramStep (sfc j r : Nat) : Bool × Nat :=
  let k := if j < 31 then bitAt sfc (30 - j) else scramNext r
  (k != scramD j, scramShift r k)

/-- Eight keystream bits for TC byte `o`, most significant first, and the register after them. -/
def scramByte (sfc o r : Nat) : Byte × Nat :=
  let go := fun (acc : Nat × Nat) (i : Nat) =>
    let (e, r') := scramStep sfc (8 * o + i) acc.2
    (acc.1 * 2 + b2n e, r')
  let (v, r') := (List.range 8).foldl go (0, r)
  (BitVec.ofNat 8 v, r')

/-- Descrambles bytes that start at TC byte `o` (R79). -/
def descramble (sfc : Nat) : Nat → Nat → Bytes → Bytes × Nat
  | _, r, [] => ([], r)
  | o, r, b :: bs =>
    let (k, r1) := scramByte sfc o r
    let (rest, r2) := descramble sfc (o + 1) r1 bs
    ((b ^^^ k) :: rest, r2)

/-- z[j] := y[j] xor d(j) from the first 51 scrambled TC bits (R80). -/
def scramZ (y : List Bool) (j : Nat) : Bool := (y.getD j false) != scramD j

/-- The right side of the 20 circulant equations of R80 after substitution of the first group. -/
def scramW (y : List Bool) (a : Nat) : Bool :=
  let z := scramZ y
  (z (50 - a) != (if a + 8 ≥ 20 then z (50 - (a + 8)) else false)) !=
    (if a + 11 ≥ 20 then z (50 - (a + 11)) else false)

/-- The inverse of 1 + z^8 + z^11 modulo z^20 + 1, as its exponents (R80). -/
def scramInv : List Nat := [1, 2, 3, 5, 6, 8, 10, 11, 12, 17, 18]

/-- SFC bits x[0..19] (R80). -/
def sfcLow (y : List Bool) : List Bool :=
  (List.range 20).map fun a => scramInv.foldl (fun p i => p != scramW y ((a + i) % 20)) false

/-- SFC bits x[0..50]: x[a] = z[50-a] xor x[a-20] (R80). -/
def sfcBits (y : List Bool) : Nat → List Bool
  | 0 => sfcLow y
  | n + 1 =>
    let xs := sfcBits y n
    xs ++ [scramZ y (30 - n) != xs.getD n false]

/-- The SFC that the first 51 scrambled TC bits give (R80). -/
def recoverSfc (y : List Bool) : Nat :=
  (sfcBits y 31).reverse.foldl (fun v b => v * 2 + b2n b) 0

/-! ### The LDPC code (R74) -/

/-- The shift s of block (i, j) of H, or none for an all-zero block. -/
def ldpcShift (i j : Nat) : Option Nat :=
  if j < 40 then some (((i + 1) * (2 * j + 7)) % 384)
  else if j = 40 then (if i = 0 ∨ i = 4 then some 1 else if i = 2 then some 0 else none)
  else let m := j - 40
    if i + 1 = m ∨ i = m then some 0 else none

/-- A 384-bit block times P^s: bit r of the product is bit (r + s) mod 384 of the block, bit 0 being the first on the
line. -/
def rotBlock (b s : Nat) : Nat := b * 2 ^ s % 2 ^ 384 + b / 2 ^ (384 - s)

/-- Block column `j` of a codeword, whose first bit on the line is its most significant. -/
def ldpcBlock (x j : Nat) : Nat := x / 2 ^ (384 * (44 - j)) % 2 ^ 384

/-- Block row `i` of H·x. -/
def ldpcRow (x i : Nat) : Nat :=
  (List.range 45).foldl (fun p j => match ldpcShift i j with
    | some s => Nat.xor p (rotBlock (ldpcBlock x j) s)
    | none => p) 0

/-- The syndrome weight of a codeword (R78). -/
def syndromeWeight (x : Nat) : Nat := (List.range 5).foldl (fun w i => w + popCount 384 (ldpcRow x i)) 0

/-- The parity bits of a codeword from its 15,360 information bits (R74, note of R75): the sum of the block rows gives
block column 40, and rows 0-3 give columns 41-44 in turn. -/
def ldpcParity (info : Nat) : Nat :=
  let a := fun (i : Nat) => ldpcRow (info * 2 ^ 1920) i
  let p0 := Nat.xor (Nat.xor (Nat.xor (Nat.xor (a 0) (a 1)) (a 2)) (a 3)) (a 4)
  let p1 := Nat.xor (a 0) (rotBlock p0 1)
  let p2 := Nat.xor (a 1) p1
  let p3 := Nat.xor (Nat.xor (a 2) p0) p2
  let p4 := Nat.xor (a 3) p3
  [p0, p1, p2, p3, p4].foldl (fun v p => v * 2 ^ 384 + p) 0

/-- The 240 parity bytes of up to 1,920 information bytes (R74, R75). The missing bits of a shortened last codeword are taken
as 0 after those sent: R176 does not say where among the 15,360 they lie (DESIGN CHOICE, log entry 166). -/
def ldpcParityBytes (info : Bytes) : Bytes := beBytes 240 (ldpcParity (beNat info * 256 ^ (1920 - info.length)))

/-- What the decoder gives for a received codeword: whether it stays uncorrectable, the syndrome weight, the bits changed,
and the codeword put out. -/
structure Decoded where
  uncorr : Bool
  weight : Nat
  changed : Nat
  word : Nat
  deriving DecidableEq, Repr

/-- The first of the iterations from `i` on, `n` at most, whose hard decisions have syndrome zero. -/
def ldpcIterate (it : Nat → Nat) : Nat → Nat → Option Nat
  | 0, _ => none
  | n + 1, i => if syndromeWeight (it i) = 0 then some (it i) else ldpcIterate it n (i + 1)

/-- R76, R78: the received hard decisions when their syndrome is zero, else the first iteration whose syndrome is zero
within the limit, else the received hard decisions unchanged. `it i` are the hard decisions after iteration i. -/
def ldpcDecode (it : Nat → Nat) (limit rx : Nat) : Decoded :=
  let w := syndromeWeight rx
  if w = 0 then { uncorr := false, weight := 0, changed := 0, word := rx }
  else match ldpcIterate it limit 1 with
    | some x => { uncorr := false, weight := w, changed := popCount 17280 (Nat.xor rx x), word := x }
    | none => { uncorr := true, weight := w, changed := 0, word := rx }

end Sys2Proof.Machine
end

