-- ==== Sys2Proof/Machine/ObjectTable.lean ====
section
/-! DEFINITION. The object dictionary: every index of the chapters with its type, access code, default and stated range (R552-R557), and the local event sources (R568). -/
namespace Sys2Proof.Machine

/-- One object: index, element count (0 a scalar; the rows of a table), U64 words per row, type, access, default,
and the stated range of its value where one is narrower than its type (R553). -/
structure ObjRow where
  index : Nat
  count : Nat
  words : Nat
  ty : OType
  acc : Access
  dflt : Nat
  range : Option (Int × Int)
  deriving DecidableEq, Repr

/-! ### Indexes 0x1000-0x10FF -/

abbrev Obj.DEV_VENDOR : Nat := 0x1000
abbrev Obj.DEV_TYPE : Nat := 0x1001
abbrev Obj.DEV_SILICON_REV : Nat := 0x1002
abbrev Obj.DEV_SERIAL : Nat := 0x1003
abbrev Obj.DEV_IMAGE_VERSION : Nat := 0x1004
abbrev Obj.DEV_DICT_LAYOUT : Nat := 0x1005
abbrev Obj.DEV_OBJECT_COUNT : Nat := 0x1006
abbrev Obj.DEV_UPTIME_S : Nat := 0x1007
abbrev Obj.DEV_STATUS : Nat := 0x1008
abbrev Obj.DEV_ALERT_LEVEL : Nat := 0x1009
abbrev Obj.DEV_ALERT_CAUSE : Nat := 0x100A
abbrev Obj.DICT_STORE_STATE : Nat := 0x100B
abbrev Obj.DICT_STORED_SEQ : Nat := 0x100C
abbrev Obj.EVT_LOG_DOMAIN : Nat := 0x1010
abbrev Obj.EVT_HEAD_SEQ : Nat := 0x1011
abbrev Obj.EVT_OLDEST_SEQ : Nat := 0x1012
abbrev Obj.EVT_READ_SEQ : Nat := 0x1013
abbrev Obj.CAP_ENABLE : Nat := 0x1014
abbrev Obj.CAP_MODE : Nat := 0x1015
abbrev Obj.CAP_SNAP_LEN : Nat := 0x1016
abbrev Obj.CAP_CLEAR : Nat := 0x1017
abbrev Obj.CAP_DOMAIN : Nat := 0x1018
abbrev Obj.CAP_READ_FROM : Nat := 0x1019
abbrev Obj.CAP_NEWEST : Nat := 0x101A
abbrev Obj.IL_STATE : Nat := 0x1020
abbrev Obj.IL_ACTIVE_LANES : Nat := 0x1021
abbrev Obj.IL_SPARES_LEFT : Nat := 0x1022
abbrev Obj.IL_FAILED_LANES : Nat := 0x1023
abbrev Obj.EVT_RECORDS : Nat := 0x1030
abbrev Obj.EVT_OVERWRITTEN : Nat := 0x1031
abbrev Obj.EVT_MASKED : Nat := 0x1032
abbrev Obj.EVT_RETAINED_LOST : Nat := 0x1033
abbrev Obj.DICT_RESTORE_REFUSED : Nat := 0x1034
abbrev Obj.CAP_RECORDS : Nat := 0x1035
abbrev Obj.CAP_DROPS : Nat := 0x1036
abbrev Obj.IL_REPAIRS : Nat := 0x1037
abbrev Obj.IL_REPLAYS : Nat := 0x1038
abbrev Obj.IL_FLIT_CRC_ERRORS : Nat := 0x1039
abbrev Obj.MEM_CORRECTED : Nat := 0x103A
abbrev Obj.MEM_UNCORRECTABLE : Nat := 0x103B
abbrev Obj.MEM_LAST_ERROR : Nat := 0x103C

/-- Objects of block 0x10. -/
def objs10a : List ObjRow := [
  ⟨Obj.DEV_VENDOR, 0, 0, (.str 16), .ro, 0x547569766F7300000000000000000000, none⟩,
  ⟨Obj.DEV_TYPE, 0, 0, (.str 8), .ro, 0x4C59543432323000, none⟩,
  ⟨Obj.DEV_SILICON_REV, 0, 0, .u8, .ro, 0xB0, none⟩,
  ⟨Obj.DEV_SERIAL, 0, 0, (.oct 8), .ro, 0, none⟩,
  ⟨Obj.DEV_IMAGE_VERSION, 0, 0, .u32, .ro, 0, none⟩,
  ⟨Obj.DEV_DICT_LAYOUT, 0, 0, .u16, .ro, 0, none⟩,
  ⟨Obj.DEV_OBJECT_COUNT, 0, 0, .u16, .ro, 0, none⟩,
  ⟨Obj.DEV_UPTIME_S, 0, 0, .u32, .ro, 0, none⟩,
  ⟨Obj.DEV_STATUS, 0, 0, .u32, .ro, 0, none⟩,
  ⟨Obj.DEV_ALERT_LEVEL, 0, 0, .u8, .rws, 3, (some (0, 4))⟩,
  ⟨Obj.DEV_ALERT_CAUSE, 0, 0, .u16, .rc, 0xFFFF, none⟩,
  ⟨Obj.DICT_STORE_STATE, 0, 0, .u8, .ro, 0, none⟩]

/-- Objects of block 0x10. -/
def objs10b : List ObjRow := [
  ⟨Obj.DICT_STORED_SEQ, 0, 0, .u32, .ro, 0, none⟩,
  ⟨Obj.EVT_LOG_DOMAIN, 0, 0, .domain, .ro, 0, none⟩,
  ⟨Obj.EVT_HEAD_SEQ, 0, 0, .u32, .ro, 0, none⟩,
  ⟨Obj.EVT_OLDEST_SEQ, 0, 0, .u32, .ro, 0, none⟩,
  ⟨Obj.EVT_READ_SEQ, 0, 0, .u32, .rw, 0, none⟩,
  ⟨Obj.CAP_ENABLE, 0, 0, .bool, .rws, 0, none⟩,
  ⟨Obj.CAP_MODE, 0, 0, .u8, .rws, 0, (some (0, 1))⟩,
  ⟨Obj.CAP_SNAP_LEN, 0, 0, .u16, .rws, 16000, (some (64, 16000))⟩,
  ⟨Obj.CAP_CLEAR, 0, 0, .u8, .cmd, 0, none⟩,
  ⟨Obj.CAP_DOMAIN, 0, 0, .domain, .ro, 0, none⟩,
  ⟨Obj.CAP_READ_FROM, 0, 0, .u64, .rw, 0, none⟩,
  ⟨Obj.CAP_NEWEST, 0, 0, .u64, .ro, 0xFFFFFFFFFFFFFFFF, none⟩]

/-- Objects of block 0x10. -/
def objs10c : List ObjRow := [
  ⟨Obj.IL_STATE, 0, 0, .u8, .ro, 0, none⟩,
  ⟨Obj.IL_ACTIVE_LANES, 2, 0, .u8, .ro, 38, none⟩,
  ⟨Obj.IL_SPARES_LEFT, 2, 0, .u8, .ro, 2, none⟩,
  ⟨Obj.IL_FAILED_LANES, 2, 0, .u64, .ro, 0, none⟩,
  ⟨Obj.EVT_RECORDS, 0, 0, .u64, .rc, 0, none⟩,
  ⟨Obj.EVT_OVERWRITTEN, 0, 0, .u64, .rc, 0, none⟩,
  ⟨Obj.EVT_MASKED, 0, 0, .u64, .rc, 0, none⟩,
  ⟨Obj.EVT_RETAINED_LOST, 0, 0, .u32, .rc, 0, none⟩,
  ⟨Obj.DICT_RESTORE_REFUSED, 0, 0, .u32, .rc, 0, none⟩,
  ⟨Obj.CAP_RECORDS, 0, 0, .u64, .rc, 0, none⟩,
  ⟨Obj.CAP_DROPS, 0, 0, .u64, .rc, 0, none⟩,
  ⟨Obj.IL_REPAIRS, 2, 0, .u32, .rc, 0, none⟩]

/-- Objects of block 0x10. -/
def objs10d : List ObjRow := [
  ⟨Obj.IL_REPLAYS, 2, 0, .u64, .rc, 0, none⟩,
  ⟨Obj.IL_FLIT_CRC_ERRORS, 2, 0, .u64, .rc, 0, none⟩,
  ⟨Obj.MEM_CORRECTED, 0, 0, .u64, .rc, 0, none⟩,
  ⟨Obj.MEM_UNCORRECTABLE, 0, 0, .u32, .rc, 0, none⟩,
  ⟨Obj.MEM_LAST_ERROR, 0, 0, (.oct 16), .ro, 0, none⟩]

/-- All objects of block 0x10. -/
def objs10 : List ObjRow := objs10a ++ objs10b ++ objs10c ++ objs10d

/-! ### Indexes 0x1100-0x11FF -/

abbrev Obj.FB_NODE_ADDR : Nat := 0x1100
abbrev Obj.FB_MGR_CAPABLE : Nat := 0x1101
abbrev Obj.FB_ROLE : Nat := 0x1102
abbrev Obj.FB_MANAGER_ADDR : Nat := 0x1103
abbrev Obj.FB_ETHERTYPE : Nat := 0x1104
abbrev Obj.FB_TERM_STATE : Nat := 0x1105
abbrev Obj.FB_AUTH_MODE : Nat := 0x1106
abbrev Obj.FB_FWD_TIMEOUT_MS : Nat := 0x1107
abbrev Obj.FB_WAKE_WAIT_MS : Nat := 0x1108
abbrev Obj.ARR_STAGGER_MS : Nat := 0x1109
abbrev Obj.FB_EVENT_MERGE_MS : Nat := 0x110A
abbrev Obj.FB_INBAND_ENABLE : Nat := 0x110B
abbrev Obj.FB_INBAND_PORT : Nat := 0x110C
abbrev Obj.FB_INBAND_VID : Nat := 0x110D
abbrev Obj.FB_INBAND_REASON : Nat := 0x110E
abbrev Obj.FB_INBAND_CLASS : Nat := 0x110F
abbrev Obj.ARR_WORKERS_PRESENT : Nat := 0x1110
abbrev Obj.FB_TX_COUNTER : Nat := 0x1111
abbrev Obj.FB_SUBSCRIPTIONS : Nat := 0x1112
abbrev Obj.FB_FRAMES_TX : Nat := 0x1120
abbrev Obj.FB_FRAMES_RX : Nat := 0x1121
abbrev Obj.FB_COLLISIONS : Nat := 0x1122
abbrev Obj.FB_LATE_COLLISIONS : Nat := 0x1123
abbrev Obj.FB_EXCESS_COLLISIONS : Nat := 0x1124
abbrev Obj.FB_FCS_ERRORS : Nat := 0x1125
abbrev Obj.FB_TX_DROPS : Nat := 0x1126
abbrev Obj.VDP_FORMAT_ERRORS : Nat := 0x1127
abbrev Obj.VDP_DUPLICATES : Nat := 0x1128
abbrev Obj.FB_AUTH_FAILS : Nat := 0x1129
abbrev Obj.FB_REPLAYS : Nat := 0x112A
abbrev Obj.FB_FWD_TIMEOUTS : Nat := 0x112B
abbrev Obj.FB_EVENTS_LATE : Nat := 0x112C

/-- Objects of block 0x11. -/
def objs11a : List ObjRow := [
  ⟨Obj.FB_NODE_ADDR, 0, 0, .u8, .ro, 0, none⟩,
  ⟨Obj.FB_MGR_CAPABLE, 0, 0, .bool, .ro, 0, none⟩,
  ⟨Obj.FB_ROLE, 0, 0, .u8, .ro, 0, none⟩,
  ⟨Obj.FB_MANAGER_ADDR, 0, 0, .u8, .ro, 0xFF, none⟩,
  ⟨Obj.FB_ETHERTYPE, 0, 0, .u16, .rws, 0x88B5, none⟩,
  ⟨Obj.FB_TERM_STATE, 0, 0, .bool, .ro, 0, none⟩,
  ⟨Obj.FB_AUTH_MODE, 0, 0, .u8, .rws, 0, (some (0, 1))⟩,
  ⟨Obj.FB_FWD_TIMEOUT_MS, 0, 0, .u16, .rws, 100, (some (10, 10000))⟩,
  ⟨Obj.FB_WAKE_WAIT_MS, 0, 0, .u16, .rws, 1000, (some (100, 10000))⟩,
  ⟨Obj.ARR_STAGGER_MS, 0, 0, .u8, .rws, 50, (some (10, 200))⟩,
  ⟨Obj.FB_EVENT_MERGE_MS, 0, 0, .u8, .rws, 10, (some (1, 100))⟩,
  ⟨Obj.FB_INBAND_ENABLE, 0, 0, .bool, .rws, 0, none⟩]

/-- Objects of block 0x11. -/
def objs11b : List ObjRow := [
  ⟨Obj.FB_INBAND_PORT, 0, 0, .u8, .rws, 0, (some (0, 7))⟩,
  ⟨Obj.FB_INBAND_VID, 0, 0, .u16, .rws, 4094, (some (1, 4094))⟩,
  ⟨Obj.FB_INBAND_REASON, 0, 0, .u8, .rws, 0xF0, none⟩,
  ⟨Obj.FB_INBAND_CLASS, 0, 0, .u8, .rws, 7, (some (0, 7))⟩,
  ⟨Obj.ARR_WORKERS_PRESENT, 0, 0, .u8, .ro, 0, none⟩,
  ⟨Obj.FB_TX_COUNTER, 0, 0, .u64, .ro, 0, none⟩,
  ⟨Obj.FB_SUBSCRIPTIONS, 0, 0, .u8, .ro, 0, none⟩,
  ⟨Obj.FB_FRAMES_TX, 0, 0, .u64, .rc, 0, none⟩,
  ⟨Obj.FB_FRAMES_RX, 0, 0, .u64, .rc, 0, none⟩,
  ⟨Obj.FB_COLLISIONS, 0, 0, .u64, .rc, 0, none⟩,
  ⟨Obj.FB_LATE_COLLISIONS, 0, 0, .u32, .rc, 0, none⟩,
  ⟨Obj.FB_EXCESS_COLLISIONS, 0, 0, .u32, .rc, 0, none⟩]

/-- Objects of block 0x11. -/
def objs11c : List ObjRow := [
  ⟨Obj.FB_FCS_ERRORS, 0, 0, .u32, .rc, 0, none⟩,
  ⟨Obj.FB_TX_DROPS, 0, 0, .u32, .rc, 0, none⟩,
  ⟨Obj.VDP_FORMAT_ERRORS, 0, 0, .u32, .rc, 0, none⟩,
  ⟨Obj.VDP_DUPLICATES, 0, 0, .u32, .rc, 0, none⟩,
  ⟨Obj.FB_AUTH_FAILS, 0, 0, .u32, .rc, 0, none⟩,
  ⟨Obj.FB_REPLAYS, 0, 0, .u32, .rc, 0, none⟩,
  ⟨Obj.FB_FWD_TIMEOUTS, 0, 0, .u32, .rc, 0, none⟩,
  ⟨Obj.FB_EVENTS_LATE, 0, 0, .u32, .rc, 0, none⟩]

/-- All objects of block 0x11. -/
def objs11 : List ObjRow := objs11a ++ objs11b ++ objs11c

/-! ### Indexes 0x1200-0x12FF -/

abbrev Obj.PWR_STATE : Nat := 0x1200
abbrev Obj.PWR_REQUEST : Nat := 0x1201
abbrev Obj.PWR_TARGET : Nat := 0x1202
abbrev Obj.PWR_WAKE_ENABLE : Nat := 0x1203
abbrev Obj.WAKE_CAUSE : Nat := 0x1204
abbrev Obj.PWR_PENDING : Nat := 0x1205
abbrev Obj.PWR_HE_SLEEP_PERMIT : Nat := 0x1206
abbrev Obj.PWR_WATCH_CHANNEL : Nat := 0x1207
abbrev Obj.PWR_HE_QUIET_MS : Nat := 0x1208
abbrev Obj.PWR_IDLE_ENTRY_US : Nat := 0x1209
abbrev Obj.PWR_LANE_WAKE_MASK : Nat := 0x120A
abbrev Obj.PWR_LAST_EXIT_US : Nat := 0x120B
abbrev Obj.PWR_WAKE_TIMER_MS : Nat := 0x120C
abbrev Obj.PWR_ANNOUNCE_MS : Nat := 0x120D
abbrev Obj.PWR_WDT_MS : Nat := 0x120E
abbrev Obj.PWR_RESET_CAUSE : Nat := 0x1210
abbrev Obj.BOOT_ATTEMPTS : Nat := 0x1211
abbrev Obj.BOOT_REASON : Nat := 0x1212
abbrev Obj.BOOT_IMAGE : Nat := 0x1213
abbrev Obj.BOOT_SAFE_MODE : Nat := 0x1214
abbrev Obj.BOOT_RETRY : Nat := 0x1215
abbrev Obj.BOOT_RESTART : Nat := 0x1216
abbrev Obj.BOOT_IMAGE_SEQ : Nat := 0x1217
abbrev Obj.BOOT_CUSTOMER_KEY : Nat := 0x1218
abbrev Obj.BOOT_IMAGE_DOMAIN : Nat := 0x1219
abbrev Obj.GOV_MIN : Nat := 0x1220
abbrev Obj.GOV_MAX : Nat := 0x1221
abbrev Obj.GOV_ACTIVE : Nat := 0x1222
abbrev Obj.GOV_POLICY_LIMITED : Nat := 0x1223
abbrev Obj.GOV_UP_PCT : Nat := 0x1224
abbrev Obj.GOV_DOWN_PCT : Nat := 0x1225
abbrev Obj.PWR_STATE_ENTRIES : Nat := 0x1230
abbrev Obj.PWR_WAKES_DURING_ENTRY : Nat := 0x1231
abbrev Obj.PWR_FRAMES_DISCARDED : Nat := 0x1232
abbrev Obj.PWR_DIRECTIVES_LOST : Nat := 0x1233
abbrev Obj.GOV_LIMITED_CYCLES : Nat := 0x1234
abbrev Obj.GOV_MOVES : Nat := 0x1235
abbrev Obj.GOV_GATES : Nat := 0x1236
abbrev Obj.BOOT_FAILED_STARTS : Nat := 0x1237

/-- Objects of block 0x12. -/
def objs12a : List ObjRow := [
  ⟨Obj.PWR_STATE, 0, 0, .u8, .ro, 0, none⟩,
  ⟨Obj.PWR_REQUEST, 0, 0, .u8, .cmd, 0, none⟩,
  ⟨Obj.PWR_TARGET, 0, 0, .u8, .ro, 0, none⟩,
  ⟨Obj.PWR_WAKE_ENABLE, 0, 0, .u8, .rws, 0x01, none⟩,
  ⟨Obj.WAKE_CAUSE, 0, 0, .u8, .rc, 0, none⟩,
  ⟨Obj.PWR_PENDING, 0, 0, .u8, .ro, 0xFF, none⟩,
  ⟨Obj.PWR_HE_SLEEP_PERMIT, 0, 0, .bool, .rws, 0, none⟩,
  ⟨Obj.PWR_WATCH_CHANNEL, 0, 0, .u8, .rws, 4, (some (0, 4))⟩,
  ⟨Obj.PWR_HE_QUIET_MS, 0, 0, .u16, .rws, 100, (some (1, 60000))⟩,
  ⟨Obj.PWR_IDLE_ENTRY_US, 0, 0, .u16, .rws, 100, (some (10, 65535))⟩,
  ⟨Obj.PWR_LANE_WAKE_MASK, 0, 0, .u8, .rws, 0, none⟩,
  ⟨Obj.PWR_LAST_EXIT_US, 0, 0, .u32, .ro, 0, none⟩]

/-- Objects of block 0x12. -/
def objs12b : List ObjRow := [
  ⟨Obj.PWR_WAKE_TIMER_MS, 0, 0, .u32, .rw, 0, none⟩,
  ⟨Obj.PWR_ANNOUNCE_MS, 0, 0, .u16, .rws, 10, (some (0, 1000))⟩,
  ⟨Obj.PWR_WDT_MS, 0, 0, .u16, .rws, 1000, (some (100, 60000))⟩,
  ⟨Obj.PWR_RESET_CAUSE, 0, 0, .u8, .ro, 0, none⟩,
  ⟨Obj.BOOT_ATTEMPTS, 0, 0, .u8, .ro, 0, none⟩,
  ⟨Obj.BOOT_REASON, 0, 0, .u8, .ro, 0, none⟩,
  ⟨Obj.BOOT_IMAGE, 0, 0, .u8, .ro, 0, none⟩,
  ⟨Obj.BOOT_SAFE_MODE, 0, 0, .bool, .ro, 0, none⟩,
  ⟨Obj.BOOT_RETRY, 0, 0, .u8, .cmd, 0, none⟩,
  ⟨Obj.BOOT_RESTART, 0, 0, .u8, .cmd, 0, none⟩,
  ⟨Obj.BOOT_IMAGE_SEQ, 2, 0, .u32, .ro, 0, none⟩,
  ⟨Obj.BOOT_CUSTOMER_KEY, 0, 0, .bool, .ro, 0, none⟩]

/-- Objects of block 0x12. -/
def objs12c : List ObjRow := [
  ⟨Obj.BOOT_IMAGE_DOMAIN, 3, 0, .domain, .wo, 0, none⟩,
  ⟨Obj.GOV_MIN, 8, 0, .u8, .rws, 1, (some (1, 8))⟩,
  ⟨Obj.GOV_MAX, 8, 0, .u8, .rws, 8, (some (1, 8))⟩,
  ⟨Obj.GOV_ACTIVE, 8, 0, .u8, .ro, 8, none⟩,
  ⟨Obj.GOV_POLICY_LIMITED, 8, 0, .bool, .ro, 0, none⟩,
  ⟨Obj.GOV_UP_PCT, 0, 0, .u8, .rws, 75, (some (10, 100))⟩,
  ⟨Obj.GOV_DOWN_PCT, 0, 0, .u8, .rws, 50, (some (0, 90))⟩,
  ⟨Obj.PWR_STATE_ENTRIES, 5, 0, .u32, .rc, 0, none⟩,
  ⟨Obj.PWR_WAKES_DURING_ENTRY, 0, 0, .u32, .rc, 0, none⟩,
  ⟨Obj.PWR_FRAMES_DISCARDED, 0, 0, .u64, .rc, 0, none⟩,
  ⟨Obj.PWR_DIRECTIVES_LOST, 0, 0, .u32, .rc, 0, none⟩,
  ⟨Obj.GOV_LIMITED_CYCLES, 8, 0, .u64, .rc, 0, none⟩]

/-- Objects of block 0x12. -/
def objs12d : List ObjRow := [
  ⟨Obj.GOV_MOVES, 0, 0, .u64, .rc, 0, none⟩,
  ⟨Obj.GOV_GATES, 8, 0, .u64, .rc, 0, none⟩,
  ⟨Obj.BOOT_FAILED_STARTS, 0, 0, .u32, .rc, 0, none⟩]

/-- All objects of block 0x12. -/
def objs12 : List ObjRow := objs12a ++ objs12b ++ objs12c ++ objs12d

/-! ### Indexes 0x1300-0x13FF -/

abbrev Obj.MON_TEMP : Nat := 0x1300
abbrev Obj.MON_TJ : Nat := 0x1301
abbrev Obj.MON_TEMP_ALARM_C : Nat := 0x1302
abbrev Obj.MON_TEMP_ALARM : Nat := 0x1303
abbrev Obj.MON_RAIL_MV : Nat := 0x1304
abbrev Obj.MON_RAIL_STATE : Nat := 0x1305
abbrev Obj.OPT_I2C_RATE : Nat := 0x1306
abbrev Obj.MON_TEMP_MAX : Nat := 0x1310
abbrev Obj.MON_RAIL_EXCURSIONS : Nat := 0x1311
abbrev Obj.MON_ALARM_ENTRIES : Nat := 0x1312
abbrev Obj.LIFE_HOURS : Nat := 0x1320
abbrev Obj.LIFE_TJ_AVG : Nat := 0x1321
abbrev Obj.LIFE_VAON_RISES : Nat := 0x1322

/-- Objects of block 0x13. -/
def objs13a : List ObjRow := [
  ⟨Obj.MON_TEMP, 13, 0, .i16, .ro, 0, none⟩,
  ⟨Obj.MON_TJ, 0, 0, .i16, .ro, 0, none⟩,
  ⟨Obj.MON_TEMP_ALARM_C, 0, 0, .u8, .rws, 105, (some (85, 110))⟩,
  ⟨Obj.MON_TEMP_ALARM, 0, 0, .bool, .ro, 0, none⟩,
  ⟨Obj.MON_RAIL_MV, 8, 0, .u16, .ro, 0, none⟩,
  ⟨Obj.MON_RAIL_STATE, 8, 0, .u8, .ro, 0, none⟩,
  ⟨Obj.OPT_I2C_RATE, 0, 0, .u8, .rws, 1, (some (0, 2))⟩,
  ⟨Obj.MON_TEMP_MAX, 13, 0, .i16, .rc, 0, none⟩,
  ⟨Obj.MON_RAIL_EXCURSIONS, 8, 0, .u32, .rc, 0, none⟩,
  ⟨Obj.MON_ALARM_ENTRIES, 0, 0, .u32, .rc, 0, none⟩,
  ⟨Obj.LIFE_HOURS, 4, 0, .u32, .ro, 0, none⟩,
  ⟨Obj.LIFE_TJ_AVG, 0, 0, .i16, .ro, 0, none⟩]

/-- Objects of block 0x13. -/
def objs13b : List ObjRow := [
  ⟨Obj.LIFE_VAON_RISES, 0, 0, .u32, .ro, 0, none⟩]

/-- All objects of block 0x13. -/
def objs13 : List ObjRow := objs13a ++ objs13b

/-! ### Indexes 0x2000-0x20FF -/

abbrev Obj.DS_RX_ENABLE : Nat := 0x2000
abbrev Obj.DS_RX_INVERT : Nat := 0x2001
abbrev Obj.DS_MARK_TOL : Nat := 0x2002
abbrev Obj.DS_LDPC_MAX_ITER : Nat := 0x2003
abbrev Obj.DS_RX_STATE : Nat := 0x2004
abbrev Obj.DS_SFC : Nat := 0x2005
abbrev Obj.DS_HEAD_END_ID : Nat := 0x2006
abbrev Obj.DS_CHANNEL_ID : Nat := 0x2007
abbrev Obj.DS_CANDIDATES : Nat := 0x2008
abbrev Obj.DS_RESYNC : Nat := 0x2009
abbrev Obj.DS_LAST_SYNC_TIME : Nat := 0x200A
abbrev Obj.DS_SYNC_ACQUIRED : Nat := 0x2010
abbrev Obj.DS_SYNC_LOSSES : Nat := 0x2011
abbrev Obj.DS_MARK_MISSES : Nat := 0x2012
abbrev Obj.DS_FHB_CRC_ERRORS : Nat := 0x2013
abbrev Obj.DS_SFC_ERRORS : Nat := 0x2014
abbrev Obj.DS_ID_MISMATCHES : Nat := 0x2015
abbrev Obj.DS_CANDIDATES_REJECTED : Nat := 0x2016
abbrev Obj.DS_LOS_COUNT : Nat := 0x2017
abbrev Obj.DS_FRAMES_USED : Nat := 0x2018
abbrev Obj.DS_FRAMES_DISCARDED : Nat := 0x2019
abbrev Obj.DS_CW_TOTAL : Nat := 0x201A
abbrev Obj.DS_CW_CORRECTED : Nat := 0x201B
abbrev Obj.DS_CW_UNCORRECTABLE : Nat := 0x201C
abbrev Obj.DS_BITS_CORRECTED : Nat := 0x201D
abbrev Obj.DS_HEC_ERRORS : Nat := 0x2020
abbrev Obj.DS_DELINEATION_LOST : Nat := 0x2021
abbrev Obj.DS_CARRIERS_PASSED : Nat := 0x2022
abbrev Obj.DS_CARRIERS_UNKNOWN : Nat := 0x2023
abbrev Obj.DS_IDLE_BYTES : Nat := 0x2024
abbrev Obj.DS_CARRIER_FORMAT_ERRORS : Nat := 0x2025
abbrev Obj.DS_FRAGMENT_ERRORS : Nat := 0x2026
abbrev Obj.DS_DIRECTIVES_PASSED : Nat := 0x2027
abbrev Obj.DS_DIRECTIVES_DISCARDED : Nat := 0x2028
abbrev Obj.DS_FLOW_ROWS_VALID : Nat := 0x2030

/-- Objects of block 0x20. -/
def objs20a : List ObjRow := [
  ⟨Obj.DS_RX_ENABLE, 4, 0, .bool, .rws, 0, none⟩,
  ⟨Obj.DS_RX_INVERT, 4, 0, .bool, .rwd, 0, none⟩,
  ⟨Obj.DS_MARK_TOL, 4, 0, .u8, .rwd, 3, (some (0, 8))⟩,
  ⟨Obj.DS_LDPC_MAX_ITER, 4, 0, .u8, .rws, 10, (some (1, 20))⟩,
  ⟨Obj.DS_RX_STATE, 4, 0, .u8, .ro, 0, none⟩,
  ⟨Obj.DS_SFC, 4, 0, .u64, .ro, 0, none⟩,
  ⟨Obj.DS_HEAD_END_ID, 4, 0, .u16, .ro, 0, none⟩,
  ⟨Obj.DS_CHANNEL_ID, 4, 0, .u8, .ro, 0, none⟩,
  ⟨Obj.DS_CANDIDATES, 4, 0, .u8, .ro, 0, none⟩,
  ⟨Obj.DS_RESYNC, 4, 0, .u8, .cmd, 0, none⟩,
  ⟨Obj.DS_LAST_SYNC_TIME, 4, 0, .time80, .ro, 0, none⟩,
  ⟨Obj.DS_SYNC_ACQUIRED, 4, 0, .u32, .rc, 0, none⟩]

/-- Objects of block 0x20. -/
def objs20b : List ObjRow := [
  ⟨Obj.DS_SYNC_LOSSES, 4, 0, .u32, .rc, 0, none⟩,
  ⟨Obj.DS_MARK_MISSES, 4, 0, .u64, .rc, 0, none⟩,
  ⟨Obj.DS_FHB_CRC_ERRORS, 4, 0, .u64, .rc, 0, none⟩,
  ⟨Obj.DS_SFC_ERRORS, 4, 0, .u64, .rc, 0, none⟩,
  ⟨Obj.DS_ID_MISMATCHES, 4, 0, .u64, .rc, 0, none⟩,
  ⟨Obj.DS_CANDIDATES_REJECTED, 4, 0, .u32, .rc, 0, none⟩,
  ⟨Obj.DS_LOS_COUNT, 4, 0, .u32, .rc, 0, none⟩,
  ⟨Obj.DS_FRAMES_USED, 4, 0, .u64, .rc, 0, none⟩,
  ⟨Obj.DS_FRAMES_DISCARDED, 4, 0, .u64, .rc, 0, none⟩,
  ⟨Obj.DS_CW_TOTAL, 4, 0, .u64, .rc, 0, none⟩,
  ⟨Obj.DS_CW_CORRECTED, 4, 0, .u64, .rc, 0, none⟩,
  ⟨Obj.DS_CW_UNCORRECTABLE, 4, 0, .u64, .rc, 0, none⟩]

/-- Objects of block 0x20. -/
def objs20c : List ObjRow := [
  ⟨Obj.DS_BITS_CORRECTED, 4, 0, .u64, .rc, 0, none⟩,
  ⟨Obj.DS_HEC_ERRORS, 4, 0, .u64, .rc, 0, none⟩,
  ⟨Obj.DS_DELINEATION_LOST, 4, 0, .u64, .rc, 0, none⟩,
  ⟨Obj.DS_CARRIERS_PASSED, 4, 0, .u64, .rc, 0, none⟩,
  ⟨Obj.DS_CARRIERS_UNKNOWN, 4, 0, .u64, .rc, 0, none⟩,
  ⟨Obj.DS_IDLE_BYTES, 4, 0, .u64, .rc, 0, none⟩,
  ⟨Obj.DS_CARRIER_FORMAT_ERRORS, 4, 0, .u64, .rc, 0, none⟩,
  ⟨Obj.DS_FRAGMENT_ERRORS, 4, 0, .u64, .rc, 0, none⟩,
  ⟨Obj.DS_DIRECTIVES_PASSED, 4, 0, .u64, .rc, 0, none⟩,
  ⟨Obj.DS_DIRECTIVES_DISCARDED, 4, 0, .u64, .rc, 0, none⟩,
  ⟨Obj.DS_FLOW_ROWS_VALID, 0, 0, .u16, .ro, 0, none⟩]

/-- All objects of block 0x20. -/
def objs20 : List ObjRow := objs20a ++ objs20b ++ objs20c

/-! ### Indexes 0x2100-0x21FF -/

abbrev Obj.ACT_ENABLE : Nat := 0x2100
abbrev Obj.ACT_SERIAL : Nat := 0x2101
abbrev Obj.ACT_STATE : Nat := 0x2102
abbrev Obj.ACT_TERMINAL_ID : Nat := 0x2103
abbrev Obj.ACT_EQD : Nat := 0x2105
abbrev Obj.ACT_RTD : Nat := 0x2106
abbrev Obj.ACT_SESSION : Nat := 0x2107
abbrev Obj.ACT_T_ANNOUNCE : Nat := 0x2108
abbrev Obj.ACT_T_RANGE : Nat := 0x2109
abbrev Obj.ACT_T_LOST : Nat := 0x210A
abbrev Obj.ACT_JUMP_LIMIT : Nat := 0x210B
abbrev Obj.ACT_STOP : Nat := 0x210C
abbrev Obj.ACT_SILENCE_TOKEN : Nat := 0x210D
abbrev Obj.ACT_SILENCE_ACK : Nat := 0x210E
abbrev Obj.ACT_RTD_VALID : Nat := 0x210F
abbrev Obj.ACT_OPT_POWER_REG : Nat := 0x2110
abbrev Obj.ACT_POWER_LEVEL : Nat := 0x2111
abbrev Obj.ACT_DS_FREQ_OFFSET : Nat := 0x2112
abbrev Obj.ACT_LAST_DEACT_REASON : Nat := 0x2113
abbrev Obj.ACT_LAST_TRIP_TIME : Nat := 0x2114
abbrev Obj.ACT_DIRECTIVES_ACCEPTED : Nat := 0x2120
abbrev Obj.ACT_DIRECTIVES_AUTH_FAILED : Nat := 0x2121
abbrev Obj.ACT_DIRECTIVES_STATE : Nat := 0x2122
abbrev Obj.ACT_DIRECTIVES_UNKNOWN : Nat := 0x2123
abbrev Obj.ACT_DIRECTIVES_DUPLICATE : Nat := 0x2124
abbrev Obj.ACT_UP_DIRECTIVES_SENT : Nat := 0x2125
abbrev Obj.ACT_UP_DIRECTIVES_DROPPED : Nat := 0x2126
abbrev Obj.ACT_ANNOUNCES_SENT : Nat := 0x2127
abbrev Obj.ACT_PHASE_JUMPS : Nat := 0x2128
abbrev Obj.ACT_JUMP_SUPPRESSED : Nat := 0x2129
abbrev Obj.ACT_EQD_OVERLAP_DROPS : Nat := 0x212A
abbrev Obj.ACT_LATE_APPLY : Nat := 0x212B
abbrev Obj.ACT_GUARD_TRIPS : Nat := 0x212C
abbrev Obj.ACT_INTERMITTENT_ENTRIES : Nat := 0x212D
abbrev Obj.ACT_SILENCE_ACK_FAILS : Nat := 0x212E
abbrev Obj.ACT_OPT_WRITE_FAILS : Nat := 0x212F

/-- Objects of block 0x21. -/
def objs21a : List ObjRow := [
  ⟨Obj.ACT_ENABLE, 4, 0, .bool, .rws, 0, none⟩,
  ⟨Obj.ACT_SERIAL, 0, 0, (.oct 8), .ro, 0, none⟩,
  ⟨Obj.ACT_STATE, 4, 0, .u8, .ro, 0, none⟩,
  ⟨Obj.ACT_TERMINAL_ID, 4, 0, .u16, .ro, 1023, none⟩,
  ⟨Obj.ACT_EQD, 4, 0, .u32, .ro, 0, none⟩,
  ⟨Obj.ACT_RTD, 4, 0, .u32, .ro, 0, none⟩,
  ⟨Obj.ACT_SESSION, 4, 0, .u8, .ro, 0, none⟩,
  ⟨Obj.ACT_T_ANNOUNCE, 4, 0, .u32, .rws, 10000, (some (100, 60000))⟩,
  ⟨Obj.ACT_T_RANGE, 4, 0, .u32, .rws, 10000, (some (100, 60000))⟩,
  ⟨Obj.ACT_T_LOST, 4, 0, .u16, .rws, 100, (some (10, 1000))⟩,
  ⟨Obj.ACT_JUMP_LIMIT, 4, 0, .u16, .rws, 2000, (some (500, 20000))⟩,
  ⟨Obj.ACT_STOP, 4, 0, .bool, .ro, 0, none⟩]

/-- Objects of block 0x21. -/
def objs21b : List ObjRow := [
  ⟨Obj.ACT_SILENCE_TOKEN, 4, 0, .u16, .ro, 0, none⟩,
  ⟨Obj.ACT_SILENCE_ACK, 4, 0, .u16, .cmd, 0, none⟩,
  ⟨Obj.ACT_RTD_VALID, 4, 0, .bool, .ro, 0, none⟩,
  ⟨Obj.ACT_OPT_POWER_REG, 4, 0, .u16, .rws, 0, none⟩,
  ⟨Obj.ACT_POWER_LEVEL, 4, 0, .u8, .ro, 0, none⟩,
  ⟨Obj.ACT_DS_FREQ_OFFSET, 4, 0, .i32, .ro, 0, none⟩,
  ⟨Obj.ACT_LAST_DEACT_REASON, 4, 0, .u8, .ro, 0, none⟩,
  ⟨Obj.ACT_LAST_TRIP_TIME, 4, 0, .time80, .ro, 0, none⟩,
  ⟨Obj.ACT_DIRECTIVES_ACCEPTED, 4, 0, .u64, .rc, 0, none⟩,
  ⟨Obj.ACT_DIRECTIVES_AUTH_FAILED, 4, 0, .u32, .rc, 0, none⟩,
  ⟨Obj.ACT_DIRECTIVES_STATE, 4, 0, .u32, .rc, 0, none⟩,
  ⟨Obj.ACT_DIRECTIVES_UNKNOWN, 4, 0, .u32, .rc, 0, none⟩]

/-- Objects of block 0x21. -/
def objs21c : List ObjRow := [
  ⟨Obj.ACT_DIRECTIVES_DUPLICATE, 4, 0, .u32, .rc, 0, none⟩,
  ⟨Obj.ACT_UP_DIRECTIVES_SENT, 4, 0, .u32, .rc, 0, none⟩,
  ⟨Obj.ACT_UP_DIRECTIVES_DROPPED, 4, 0, .u32, .rc, 0, none⟩,
  ⟨Obj.ACT_ANNOUNCES_SENT, 4, 0, .u32, .rc, 0, none⟩,
  ⟨Obj.ACT_PHASE_JUMPS, 4, 0, .u32, .rc, 0, none⟩,
  ⟨Obj.ACT_JUMP_SUPPRESSED, 4, 0, .u32, .rc, 0, none⟩,
  ⟨Obj.ACT_EQD_OVERLAP_DROPS, 4, 0, .u32, .rc, 0, none⟩,
  ⟨Obj.ACT_LATE_APPLY, 4, 0, .u32, .rc, 0, none⟩,
  ⟨Obj.ACT_GUARD_TRIPS, 4, 0, .u32, .rc, 0, none⟩,
  ⟨Obj.ACT_INTERMITTENT_ENTRIES, 4, 0, .u32, .rc, 0, none⟩,
  ⟨Obj.ACT_SILENCE_ACK_FAILS, 4, 0, .u32, .rc, 0, none⟩,
  ⟨Obj.ACT_OPT_WRITE_FAILS, 4, 0, .u32, .rc, 0, none⟩]

/-- All objects of block 0x21. -/
def objs21 : List ObjRow := objs21a ++ objs21b ++ objs21c

/-! ### Indexes 0x2200-0x22FF -/

abbrev Obj.US_TX_INVERT : Nat := 0x2200
abbrev Obj.US_DEFAULT_ROW : Nat := 0x2201
abbrev Obj.US_MIN_FRAGMENT : Nat := 0x2202
abbrev Obj.US_PBEN_TAIL : Nat := 0x2203
abbrev Obj.US_PROFILE_STATE : Nat := 0x2204
abbrev Obj.US_GUARD_STATE : Nat := 0x2205
abbrev Obj.US_OPEN_FRAGMENTS : Nat := 0x2206
abbrev Obj.US_BURST_SEQ : Nat := 0x2207
abbrev Obj.US_GRANTS_SEEN : Nat := 0x2210
abbrev Obj.US_GRANTS_EXECUTED : Nat := 0x2211
abbrev Obj.US_GRANT_HEC_ERRORS : Nat := 0x2212
abbrev Obj.US_GRANT_FEC_BAD : Nat := 0x2213
abbrev Obj.US_GRANTS_STATE : Nat := 0x2214
abbrev Obj.US_GRANTS_RANGE : Nat := 0x2215
abbrev Obj.US_GRANTS_PROFILE : Nat := 0x2216
abbrev Obj.US_GRANTS_TOO_SMALL : Nat := 0x2217
abbrev Obj.US_GRANTS_OVERLAP : Nat := 0x2218
abbrev Obj.US_GRANTS_ASLEEP : Nat := 0x2219
abbrev Obj.US_BURSTS_SENT : Nat := 0x221A
abbrev Obj.US_BURSTS_ABANDONED : Nat := 0x221B
abbrev Obj.US_PAYLOAD_BYTES : Nat := 0x221C
abbrev Obj.US_IDLE_BYTES : Nat := 0x221D
abbrev Obj.US_FRAGMENTS_SENT : Nat := 0x221E
abbrev Obj.US_FRAGMENTS_ABANDONED : Nat := 0x221F
abbrev Obj.US_REPORTS_SENT : Nat := 0x2220
abbrev Obj.US_REPORTS_OMITTED : Nat := 0x2221
abbrev Obj.US_FORCED_WAKES : Nat := 0x2222
abbrev Obj.US_GUARD_TRIPS : Nat := 0x2223
abbrev Obj.US_ALLOC_CONFLICTS : Nat := 0x2224

/-- Objects of block 0x22. -/
def objs22a : List ObjRow := [
  ⟨Obj.US_TX_INVERT, 4, 0, .bool, .rwd, 0, none⟩,
  ⟨Obj.US_DEFAULT_ROW, 4, 0, .u8, .rws, 0, (some (0, 255))⟩,
  ⟨Obj.US_MIN_FRAGMENT, 0, 0, .u16, .rws, 64, (some (64, 1024))⟩,
  ⟨Obj.US_PBEN_TAIL, 4, 0, .u8, .rws, 1, (some (0, 3))⟩,
  ⟨Obj.US_PROFILE_STATE, 4, 0, .u8, .ro, 0, none⟩,
  ⟨Obj.US_GUARD_STATE, 4, 0, .u8, .ro, 3, none⟩,
  ⟨Obj.US_OPEN_FRAGMENTS, 4, 0, .u16, .ro, 0, none⟩,
  ⟨Obj.US_BURST_SEQ, 4, 0, .u8, .ro, 0, none⟩,
  ⟨Obj.US_GRANTS_SEEN, 4, 0, .u64, .rc, 0, none⟩,
  ⟨Obj.US_GRANTS_EXECUTED, 4, 0, .u64, .rc, 0, none⟩,
  ⟨Obj.US_GRANT_HEC_ERRORS, 4, 0, .u64, .rc, 0, none⟩,
  ⟨Obj.US_GRANT_FEC_BAD, 4, 0, .u64, .rc, 0, none⟩]

/-- Objects of block 0x22. -/
def objs22b : List ObjRow := [
  ⟨Obj.US_GRANTS_STATE, 4, 0, .u64, .rc, 0, none⟩,
  ⟨Obj.US_GRANTS_RANGE, 4, 0, .u64, .rc, 0, none⟩,
  ⟨Obj.US_GRANTS_PROFILE, 4, 0, .u64, .rc, 0, none⟩,
  ⟨Obj.US_GRANTS_TOO_SMALL, 4, 0, .u64, .rc, 0, none⟩,
  ⟨Obj.US_GRANTS_OVERLAP, 4, 0, .u64, .rc, 0, none⟩,
  ⟨Obj.US_GRANTS_ASLEEP, 4, 0, .u64, .rc, 0, none⟩,
  ⟨Obj.US_BURSTS_SENT, 4, 0, .u64, .rc, 0, none⟩,
  ⟨Obj.US_BURSTS_ABANDONED, 4, 0, .u64, .rc, 0, none⟩,
  ⟨Obj.US_PAYLOAD_BYTES, 4, 0, .u64, .rc, 0, none⟩,
  ⟨Obj.US_IDLE_BYTES, 4, 0, .u64, .rc, 0, none⟩,
  ⟨Obj.US_FRAGMENTS_SENT, 4, 0, .u64, .rc, 0, none⟩,
  ⟨Obj.US_FRAGMENTS_ABANDONED, 4, 0, .u32, .rc, 0, none⟩]

/-- Objects of block 0x22. -/
def objs22c : List ObjRow := [
  ⟨Obj.US_REPORTS_SENT, 4, 0, .u64, .rc, 0, none⟩,
  ⟨Obj.US_REPORTS_OMITTED, 4, 0, .u32, .rc, 0, none⟩,
  ⟨Obj.US_FORCED_WAKES, 4, 0, .u32, .rc, 0, none⟩,
  ⟨Obj.US_GUARD_TRIPS, 4, 0, .u32, .rc, 0, none⟩,
  ⟨Obj.US_ALLOC_CONFLICTS, 4, 0, .u32, .rc, 0, none⟩]

/-- All objects of block 0x22. -/
def objs22 : List ObjRow := objs22a ++ objs22b ++ objs22c

/-! ### Indexes 0x2300-0x23FF -/

abbrev Obj.BOND_ENABLE : Nat := 0x2300
abbrev Obj.BOND_GROUPS_VALID : Nat := 0x2301
abbrev Obj.BOND_HELD_FRAMES : Nat := 0x2302
abbrev Obj.BOND_SKEW_LIMIT : Nat := 0x2303
abbrev Obj.BOND_SKEW : Nat := 0x2304
abbrev Obj.BOND_SKEW_VALID : Nat := 0x2305
abbrev Obj.BOND_REFERENCE : Nat := 0x2306
abbrev Obj.BOND_NO_GROUP : Nat := 0x2310
abbrev Obj.BOND_STORE_FULL_SKIPS : Nat := 0x2311
abbrev Obj.BOND_SKEW_EXCEEDED_COUNT : Nat := 0x2312

/-- Objects of block 0x23. -/
def objs23a : List ObjRow := [
  ⟨Obj.BOND_ENABLE, 0, 0, .bool, .rws, 1, none⟩,
  ⟨Obj.BOND_GROUPS_VALID, 0, 0, .u8, .ro, 0, none⟩,
  ⟨Obj.BOND_HELD_FRAMES, 0, 0, .u16, .ro, 0, none⟩,
  ⟨Obj.BOND_SKEW_LIMIT, 0, 0, .u16, .rws, 100, (some (1, 250))⟩,
  ⟨Obj.BOND_SKEW, 4, 0, .i32, .ro, 0, none⟩,
  ⟨Obj.BOND_SKEW_VALID, 4, 0, .bool, .ro, 0, none⟩,
  ⟨Obj.BOND_REFERENCE, 4, 0, .bool, .ro, 0, none⟩,
  ⟨Obj.BOND_NO_GROUP, 0, 0, .u64, .rc, 0, none⟩,
  ⟨Obj.BOND_STORE_FULL_SKIPS, 0, 0, .u64, .rc, 0, none⟩,
  ⟨Obj.BOND_SKEW_EXCEEDED_COUNT, 4, 0, .u32, .rc, 0, none⟩]

/-- All objects of block 0x23. -/
def objs23 : List ObjRow := objs23a

/-! ### Indexes 0x3000-0x30FF -/

abbrev Obj.PARSE_TPID_ALT : Nat := 0x3000
abbrev Obj.PARSE_ECPRI_UDP_PORT : Nat := 0x3001
abbrev Obj.RULE_MAX_PASSES : Nat := 0x3002
abbrev Obj.LC_MODE : Nat := 0x3003
abbrev Obj.RULE_ACTIVE_GEN : Nat := 0x3004
abbrev Obj.RULE_GEN_STATE : Nat := 0x3005
abbrev Obj.RULE_SWAP : Nat := 0x3006
abbrev Obj.RULE_DRAIN_COUNT : Nat := 0x3007
abbrev Obj.RULE_ROWS_ACTIVE : Nat := 0x3008
abbrev Obj.RULE_ROWS_FREE : Nat := 0x3009
abbrev Obj.EM_AGE_S : Nat := 0x300A
abbrev Obj.EM_ENTRIES : Nat := 0x300B
abbrev Obj.RECIRC_DEPTH : Nat := 0x300C
abbrev Obj.PARSE_TRUNCATED_COUNT : Nat := 0x3010
abbrev Obj.LENGTH_CONFLICTS : Nat := 0x3011
abbrev Obj.LENGTH_CONFLICT_DROPS : Nat := 0x3012
abbrev Obj.RULE_MISSES : Nat := 0x3013
abbrev Obj.RECIRC_PASSES : Nat := 0x3014
abbrev Obj.RECIRC_LIMIT_DROPS : Nat := 0x3015
abbrev Obj.RECIRC_FULL_DROPS : Nat := 0x3016
abbrev Obj.EM_HITS : Nat := 0x3017
abbrev Obj.EM_MISSES : Nat := 0x3018
abbrev Obj.EM_LEARNS : Nat := 0x3019
abbrev Obj.EM_LEARN_FULL : Nat := 0x301A
abbrev Obj.EM_AGED : Nat := 0x301B
abbrev Obj.VLAN_OP_FAILED : Nat := 0x301C
abbrev Obj.RULE_SWAPS : Nat := 0x301D

/-- Objects of block 0x30. -/
def objs30a : List ObjRow := [
  ⟨Obj.PARSE_TPID_ALT, 0, 0, .u16, .rws, 0x9100, none⟩,
  ⟨Obj.PARSE_ECPRI_UDP_PORT, 0, 0, .u16, .rws, 0, none⟩,
  ⟨Obj.RULE_MAX_PASSES, 0, 0, .u8, .rws, 2, (some (1, 4))⟩,
  ⟨Obj.LC_MODE, 13, 0, .u8, .rws, 0, (some (0, 1))⟩,
  ⟨Obj.RULE_ACTIVE_GEN, 0, 0, .u8, .ro, 0, none⟩,
  ⟨Obj.RULE_GEN_STATE, 0, 0, .u8, .ro, 0, none⟩,
  ⟨Obj.RULE_SWAP, 0, 0, .u8, .cmd, 0, none⟩,
  ⟨Obj.RULE_DRAIN_COUNT, 0, 0, .u32, .ro, 0, none⟩,
  ⟨Obj.RULE_ROWS_ACTIVE, 0, 0, .u16, .ro, 0, none⟩,
  ⟨Obj.RULE_ROWS_FREE, 0, 0, .u16, .ro, 16384, none⟩,
  ⟨Obj.EM_AGE_S, 0, 0, .u32, .rws, 300, (some (0, 86400))⟩,
  ⟨Obj.EM_ENTRIES, 0, 0, .u32, .ro, 0, none⟩]

/-- Objects of block 0x30. -/
def objs30b : List ObjRow := [
  ⟨Obj.RECIRC_DEPTH, 0, 0, .u16, .ro, 0, none⟩,
  ⟨Obj.PARSE_TRUNCATED_COUNT, 13, 0, .u64, .rc, 0, none⟩,
  ⟨Obj.LENGTH_CONFLICTS, 13, 0, .u64, .rc, 0, none⟩,
  ⟨Obj.LENGTH_CONFLICT_DROPS, 13, 0, .u64, .rc, 0, none⟩,
  ⟨Obj.RULE_MISSES, 13, 0, .u64, .rc, 0, none⟩,
  ⟨Obj.RECIRC_PASSES, 0, 0, .u64, .rc, 0, none⟩,
  ⟨Obj.RECIRC_LIMIT_DROPS, 0, 0, .u64, .rc, 0, none⟩,
  ⟨Obj.RECIRC_FULL_DROPS, 0, 0, .u64, .rc, 0, none⟩,
  ⟨Obj.EM_HITS, 0, 0, .u64, .rc, 0, none⟩,
  ⟨Obj.EM_MISSES, 0, 0, .u64, .rc, 0, none⟩,
  ⟨Obj.EM_LEARNS, 0, 0, .u64, .rc, 0, none⟩,
  ⟨Obj.EM_LEARN_FULL, 0, 0, .u32, .rc, 0, none⟩]

/-- Objects of block 0x30. -/
def objs30c : List ObjRow := [
  ⟨Obj.EM_AGED, 0, 0, .u64, .rc, 0, none⟩,
  ⟨Obj.VLAN_OP_FAILED, 0, 0, .u64, .rc, 0, none⟩,
  ⟨Obj.RULE_SWAPS, 0, 0, .u32, .rc, 0, none⟩]

/-- All objects of block 0x30. -/
def objs30 : List ObjRow := objs30a ++ objs30b ++ objs30c

/-! ### Indexes 0x3100-0x31FF -/

abbrev Obj.CTX_ACTIVE : Nat := 0x3100
abbrev Obj.CTX_IN_USE : Nat := 0x3101
abbrev Obj.CTX_SHARED_FREE : Nat := 0x3102
abbrev Obj.CTX_QUOTA_SHORT : Nat := 0x3103
abbrev Obj.CTX_PROGRAM_LIMIT : Nat := 0x3104
abbrev Obj.CTX_TIMEOUT_US : Nat := 0x3105
abbrev Obj.ENG_IMAGE_SELECT : Nat := 0x3106
abbrev Obj.ENG_IMAGE_RUNNING : Nat := 0x3107
abbrev Obj.CTX_LAST_UNDO : Nat := 0x3108
abbrev Obj.ENG_IMAGES_AVAILABLE : Nat := 0x3109
abbrev Obj.CTX_QUOTA_SHORT_CYCLES : Nat := 0x3110
abbrev Obj.CTX_ORPHAN_FRAGMENTS : Nat := 0x3111
abbrev Obj.CTX_POLICER_CREDITS : Nat := 0x3112
abbrev Obj.CTX_POLICER_CREDITS_LOST : Nat := 0x3113
abbrev Obj.CTX_MAX_IN_USE : Nat := 0x3114

/-- Objects of block 0x31. -/
def objs31a : List ObjRow := [
  ⟨Obj.CTX_ACTIVE, 0, 0, .u16, .ro, 4096, none⟩,
  ⟨Obj.CTX_IN_USE, 0, 0, .u16, .ro, 0, none⟩,
  ⟨Obj.CTX_SHARED_FREE, 0, 0, .u16, .ro, 1728, none⟩,
  ⟨Obj.CTX_QUOTA_SHORT, 0, 0, .bool, .ro, 0, none⟩,
  ⟨Obj.CTX_PROGRAM_LIMIT, 0, 0, .u32, .rws, 8192, (some (256, 65535))⟩,
  ⟨Obj.CTX_TIMEOUT_US, 0, 0, .u16, .rws, 2000, (some (100, 10000))⟩,
  ⟨Obj.ENG_IMAGE_SELECT, 0, 0, .u32, .rws, 1, none⟩,
  ⟨Obj.ENG_IMAGE_RUNNING, 0, 0, .u32, .ro, 0, none⟩,
  ⟨Obj.CTX_LAST_UNDO, 0, 0, (.oct 32), .ro, 0, none⟩,
  ⟨Obj.ENG_IMAGES_AVAILABLE, 16, 0, .u32, .ro, 0, none⟩,
  ⟨Obj.CTX_QUOTA_SHORT_CYCLES, 0, 0, .u64, .rc, 0, none⟩,
  ⟨Obj.CTX_ORPHAN_FRAGMENTS, 0, 0, .u64, .rc, 0, none⟩]

/-- Objects of block 0x31. -/
def objs31b : List ObjRow := [
  ⟨Obj.CTX_POLICER_CREDITS, 0, 0, .u64, .rc, 0, none⟩,
  ⟨Obj.CTX_POLICER_CREDITS_LOST, 0, 0, .u64, .rc, 0, none⟩,
  ⟨Obj.CTX_MAX_IN_USE, 0, 0, .u16, .rc, 0, none⟩]

/-- All objects of block 0x31. -/
def objs31 : List ObjRow := objs31a ++ objs31b

/-! ### Indexes 0x3200-0x32FF -/

abbrev Obj.HOP_POOL_COUNT : Nat := 0x3200
abbrev Obj.HOP_POOL_FREE : Nat := 0x3201
abbrev Obj.HOP_POOL_RESERVED : Nat := 0x3202
abbrev Obj.HOP_POOL_SHARED : Nat := 0x3203
abbrev Obj.HOP_POOL_RETIRED : Nat := 0x3204
abbrev Obj.HOP_OVERCOMMIT : Nat := 0x3205
abbrev Obj.HOP_CARVE : Nat := 0x3206
abbrev Obj.HOP_LIST_STATE : Nat := 0x3207
abbrev Obj.HOP_ALLOCS : Nat := 0x3210
abbrev Obj.HOP_FAILS : Nat := 0x3211
abbrev Obj.HOP_FALLBACKS : Nat := 0x3212
abbrev Obj.HOP_RESERVE_SHORT : Nat := 0x3213
abbrev Obj.HOP_REMOTE_ALLOCS : Nat := 0x3214
abbrev Obj.HOP_PROMOTIONS : Nat := 0x3215
abbrev Obj.HOP_PROMOTE_FAILS : Nat := 0x3216
abbrev Obj.HOP_SPILLS : Nat := 0x3217
abbrev Obj.HOP_SPILL_FAILS : Nat := 0x3218
abbrev Obj.HOP_DOUBLE_FREE : Nat := 0x3219
abbrev Obj.HOP_FOREIGN_FREE : Nat := 0x321A
abbrev Obj.HOP_BAD_HANDOVERS : Nat := 0x321B
abbrev Obj.HOP_LIST_REBUILDS : Nat := 0x321C
abbrev Obj.HOP_POOL_MIN_FREE : Nat := 0x321D
abbrev Obj.ARB_BRAKE : Nat := 0x3220
abbrev Obj.ARB_DRAINED : Nat := 0x3221
abbrev Obj.ARB_DEAD_CYCLES : Nat := 0x3222

/-- Objects of block 0x32. -/
def objs32a : List ObjRow := [
  ⟨Obj.HOP_POOL_COUNT, 5, 0, .u32, .ro, 0, none⟩,
  ⟨Obj.HOP_POOL_FREE, 5, 0, .u32, .ro, 0, none⟩,
  ⟨Obj.HOP_POOL_RESERVED, 5, 0, .u32, .ro, 0, none⟩,
  ⟨Obj.HOP_POOL_SHARED, 5, 0, .i32, .ro, 0, none⟩,
  ⟨Obj.HOP_POOL_RETIRED, 5, 0, .u32, .ro, 0, none⟩,
  ⟨Obj.HOP_OVERCOMMIT, 5, 0, .bool, .ro, 0, none⟩,
  ⟨Obj.HOP_CARVE, 5, 0, .u32, .rws, 0, none⟩,
  ⟨Obj.HOP_LIST_STATE, 19, 0, .u8, .ro, 0, none⟩,
  ⟨Obj.HOP_ALLOCS, 5, 0, .u64, .rc, 0, none⟩,
  ⟨Obj.HOP_FAILS, 5, 0, .u64, .rc, 0, none⟩,
  ⟨Obj.HOP_FALLBACKS, 5, 0, .u64, .rc, 0, none⟩,
  ⟨Obj.HOP_RESERVE_SHORT, 5, 0, .u64, .rc, 0, none⟩]

/-- Objects of block 0x32. -/
def objs32b : List ObjRow := [
  ⟨Obj.HOP_REMOTE_ALLOCS, 2, 0, .u64, .rc, 0, none⟩,
  ⟨Obj.HOP_PROMOTIONS, 5, 0, .u64, .rc, 0, none⟩,
  ⟨Obj.HOP_PROMOTE_FAILS, 0, 0, .u64, .rc, 0, none⟩,
  ⟨Obj.HOP_SPILLS, 0, 0, .u64, .rc, 0, none⟩,
  ⟨Obj.HOP_SPILL_FAILS, 0, 0, .u64, .rc, 0, none⟩,
  ⟨Obj.HOP_DOUBLE_FREE, 0, 0, .u64, .rc, 0, none⟩,
  ⟨Obj.HOP_FOREIGN_FREE, 0, 0, .u64, .rc, 0, none⟩,
  ⟨Obj.HOP_BAD_HANDOVERS, 0, 0, .u64, .rc, 0, none⟩,
  ⟨Obj.HOP_LIST_REBUILDS, 0, 0, .u32, .rc, 0, none⟩,
  ⟨Obj.HOP_POOL_MIN_FREE, 5, 0, .u32, .rc, 0, none⟩,
  ⟨Obj.ARB_BRAKE, 23, 0, .bool, .rw, 0, none⟩,
  ⟨Obj.ARB_DRAINED, 23, 0, .bool, .ro, 0, none⟩]

/-- Objects of block 0x32. -/
def objs32c : List ObjRow := [
  ⟨Obj.ARB_DEAD_CYCLES, 23, 0, .u64, .rc, 0, none⟩]

/-- All objects of block 0x32. -/
def objs32 : List ObjRow := objs32a ++ objs32b ++ objs32c

/-! ### Indexes 0x3300-0x33FF -/

abbrev Obj.GATE_ENABLE : Nat := 0x3300
abbrev Obj.GCL_CYCLE_NS : Nat := 0x3301
abbrev Obj.GCL_BASE_TIME : Nat := 0x3302
abbrev Obj.GCL_LENGTH : Nat := 0x3303
abbrev Obj.GCL_COMMIT : Nat := 0x3304
abbrev Obj.GCL_STATE : Nat := 0x3305
abbrev Obj.GCL_CHANGE_TIME : Nat := 0x3306
abbrev Obj.GCL_ACTIVE_CYCLE_NS : Nat := 0x3307
abbrev Obj.GATE_STATES : Nat := 0x3308
abbrev Obj.GATE_GUARD_HOLDS : Nat := 0x3310
abbrev Obj.GATE_PREEMPT_CLOSES : Nat := 0x3311
abbrev Obj.GATE_OVERRUNS : Nat := 0x3312
abbrev Obj.GCL_TIME_STEPS : Nat := 0x3313
abbrev Obj.GCL_LATE_COMMITS : Nat := 0x3314
abbrev Obj.SHP_RESETS : Nat := 0x3315
abbrev Obj.UPQ_TOTAL_BYTES : Nat := 0x3316

/-- Objects of block 0x33. -/
def objs33a : List ObjRow := [
  ⟨Obj.GATE_ENABLE, 8, 0, .bool, .rws, 0, none⟩,
  ⟨Obj.GCL_CYCLE_NS, 8, 0, .u32, .rws, 1000000, none⟩,
  ⟨Obj.GCL_BASE_TIME, 8, 0, .time80, .rws, 0, none⟩,
  ⟨Obj.GCL_LENGTH, 8, 0, .u16, .rws, 1, (some (1, 256))⟩,
  ⟨Obj.GCL_COMMIT, 8, 0, .u8, .cmd, 0, none⟩,
  ⟨Obj.GCL_STATE, 8, 0, .u8, .ro, 0, none⟩,
  ⟨Obj.GCL_CHANGE_TIME, 8, 0, .time80, .ro, 0, none⟩,
  ⟨Obj.GCL_ACTIVE_CYCLE_NS, 8, 0, .u32, .ro, 0, none⟩,
  ⟨Obj.GATE_STATES, 8, 0, .u8, .ro, 0xFF, none⟩,
  ⟨Obj.GATE_GUARD_HOLDS, 8, 0, .u64, .rc, 0, none⟩,
  ⟨Obj.GATE_PREEMPT_CLOSES, 8, 0, .u64, .rc, 0, none⟩,
  ⟨Obj.GATE_OVERRUNS, 8, 0, .u32, .rc, 0, none⟩]

/-- Objects of block 0x33. -/
def objs33b : List ObjRow := [
  ⟨Obj.GCL_TIME_STEPS, 8, 0, .u32, .rc, 0, none⟩,
  ⟨Obj.GCL_LATE_COMMITS, 8, 0, .u32, .rc, 0, none⟩,
  ⟨Obj.SHP_RESETS, 0, 0, .u64, .rc, 0, none⟩,
  ⟨Obj.UPQ_TOTAL_BYTES, 0, 0, .u64, .ro, 0, none⟩]

/-- All objects of block 0x33. -/
def objs33 : List ObjRow := objs33a ++ objs33b

/-! ### Indexes 0x4000-0x40FF -/

abbrev Obj.HL_ENABLE : Nat := 0x4000
abbrev Obj.HL_MODE : Nat := 0x4001
abbrev Obj.HL_RX_INVERT : Nat := 0x4002
abbrev Obj.HL_TX_INVERT : Nat := 0x4003
abbrev Obj.HL_TX_EQ : Nat := 0x4004
abbrev Obj.HL_STATE : Nat := 0x4005
abbrev Obj.HL_LOOPBACK : Nat := 0x4006
abbrev Obj.HL_CLIENT_STATUS : Nat := 0x4007
abbrev Obj.HL_CAL_RX_PS : Nat := 0x4008
abbrev Obj.HL_CAL_TX_PS : Nat := 0x4009
abbrev Obj.HL_TS_RX_ADJ_PS : Nat := 0x400A
abbrev Obj.HL_TS_TX_ADJ_PS : Nat := 0x400B
abbrev Obj.MAC_PORT_TYPE : Nat := 0x4010
abbrev Obj.MAC_FEC_MODE : Nat := 0x4011
abbrev Obj.MAC_ENABLE : Nat := 0x4012
abbrev Obj.MAC_LINK_STATE : Nat := 0x4013
abbrev Obj.MAC_ALIGN_TIMEOUT_MS : Nat := 0x4014
abbrev Obj.MAC_MAX_FRAME : Nat := 0x4015
abbrev Obj.MAC_CT_START : Nat := 0x4016
abbrev Obj.MAC_PREEMPT_ENABLE : Nat := 0x4017
abbrev Obj.MAC_VERIFY_DISABLE : Nat := 0x4018
abbrev Obj.MAC_VERIFY_TIME_MS : Nat := 0x4019
abbrev Obj.MAC_MIN_FRAGMENT : Nat := 0x401A
abbrev Obj.MAC_PREEMPT_STATE : Nat := 0x401B
abbrev Obj.MAC_PREEMPT_REVERIFY : Nat := 0x401C
abbrev Obj.MAC_CT_START_INIT : Nat := 0x401D
abbrev Obj.MAC_CT_START_MIN : Nat := 0x401E
abbrev Obj.MAC_CT_START_MAX : Nat := 0x401F

/-- Objects of block 0x40. -/
def objs40a : List ObjRow := [
  ⟨Obj.HL_ENABLE, 8, 0, .bool, .rws, 0, none⟩,
  ⟨Obj.HL_MODE, 8, 0, .u8, .rwd, 0, (some (0, 255))⟩,
  ⟨Obj.HL_RX_INVERT, 8, 0, .bool, .rwd, 0, none⟩,
  ⟨Obj.HL_TX_INVERT, 8, 0, .bool, .rwd, 0, none⟩,
  ⟨Obj.HL_TX_EQ, 8, 0, .u32, .rws, 0x00FC38FC, none⟩,
  ⟨Obj.HL_STATE, 8, 0, .u8, .ro, 0, none⟩,
  ⟨Obj.HL_LOOPBACK, 8, 0, .u8, .rw, 0, (some (0, 2))⟩,
  ⟨Obj.HL_CLIENT_STATUS, 8, 0, .u8, .ro, 0, none⟩,
  ⟨Obj.HL_CAL_RX_PS, 8, 0, .i32, .ro, 0, none⟩,
  ⟨Obj.HL_CAL_TX_PS, 8, 0, .i32, .ro, 0, none⟩,
  ⟨Obj.HL_TS_RX_ADJ_PS, 8, 0, .i32, .rws, 0, some (-100000, 100000)⟩,
  ⟨Obj.HL_TS_TX_ADJ_PS, 8, 0, .i32, .rws, 0, some (-100000, 100000)⟩]

/-- Objects of block 0x40. -/
def objs40b : List ObjRow := [
  ⟨Obj.MAC_PORT_TYPE, 8, 0, .u8, .rwd, 0, none⟩,
  ⟨Obj.MAC_FEC_MODE, 8, 0, .u8, .rwd, 0, none⟩,
  ⟨Obj.MAC_ENABLE, 8, 0, .bool, .rws, 0, none⟩,
  ⟨Obj.MAC_LINK_STATE, 8, 0, .u8, .ro, 0, none⟩,
  ⟨Obj.MAC_ALIGN_TIMEOUT_MS, 8, 0, .u8, .rws, 10, (some (1, 100))⟩,
  ⟨Obj.MAC_MAX_FRAME, 8, 0, .u16, .rws, 1530, (some (64, 16000))⟩,
  ⟨Obj.MAC_CT_START, 8, 0, .u16, .ro, 512, none⟩,
  ⟨Obj.MAC_PREEMPT_ENABLE, 8, 0, .bool, .rwd, 0, none⟩,
  ⟨Obj.MAC_VERIFY_DISABLE, 8, 0, .bool, .rwd, 0, none⟩,
  ⟨Obj.MAC_VERIFY_TIME_MS, 8, 0, .u8, .rws, 10, (some (1, 128))⟩,
  ⟨Obj.MAC_MIN_FRAGMENT, 8, 0, .u8, .rwd, 0, (some (0, 3))⟩,
  ⟨Obj.MAC_PREEMPT_STATE, 8, 0, .u8, .ro, 0, none⟩]

/-- Objects of block 0x40. -/
def objs40c : List ObjRow := [
  ⟨Obj.MAC_PREEMPT_REVERIFY, 8, 0, .u8, .cmd, 0, none⟩,
  ⟨Obj.MAC_CT_START_INIT, 8, 0, .u16, .rws, 512, none⟩,
  ⟨Obj.MAC_CT_START_MIN, 8, 0, .u16, .rws, 512, none⟩,
  ⟨Obj.MAC_CT_START_MAX, 8, 0, .u16, .rws, 4096, none⟩]

/-- All objects of block 0x40. -/
def objs40 : List ObjRow := objs40a ++ objs40b ++ objs40c

/-! ### Indexes 0x4100-0x41FF -/

abbrev Obj.CLI_CLIENTS_ENABLED : Nat := 0x4100
abbrev Obj.CLI_STATE : Nat := 0x4101
abbrev Obj.CLI_US_STATUS : Nat := 0x4102
abbrev Obj.CLI_DS_STATUS : Nat := 0x4103
abbrev Obj.CLI_POINTER : Nat := 0x4104
abbrev Obj.CLI_FREQ_OFFSET : Nat := 0x4105
abbrev Obj.CLI_SKEW_NS : Nat := 0x4106
abbrev Obj.CLI_PLAYOUT_FILL_NS : Nat := 0x4107
abbrev Obj.CLI_US_GFC : Nat := 0x4108
abbrev Obj.CLI_DS_GFC : Nat := 0x4109
abbrev Obj.CLI_PM_CLEAR : Nat := 0x410A
abbrev Obj.CLI_PERIODS_SENT : Nat := 0x4110
abbrev Obj.CLI_US_PERIODS_DROPPED : Nat := 0x4111
abbrev Obj.CLI_US_SLIPS : Nat := 0x4112
abbrev Obj.CLI_JC_CLAMPED : Nat := 0x4113
abbrev Obj.CLI_AIS_SENT : Nat := 0x4114
abbrev Obj.CLI_PERIODS_RECEIVED : Nat := 0x4115
abbrev Obj.CLI_PERIODS_LOST : Nat := 0x4116
abbrev Obj.CLI_CONT_CRC_ERRORS : Nat := 0x4117
abbrev Obj.CLI_JC_ERRORS : Nat := 0x4118
abbrev Obj.CLI_PTR_ERRORS : Nat := 0x4119
abbrev Obj.CLI_LATE_CONTAINERS : Nat := 0x411A
abbrev Obj.CLI_WRONG_CHANNEL : Nat := 0x411B
abbrev Obj.CLI_AIS_RECEIVED : Nat := 0x411C
abbrev Obj.CLI_PLAYOUT_SLIPS : Nat := 0x411D
abbrev Obj.CLI_DS_NO_CLIENT : Nat := 0x411E

/-- Objects of block 0x41. -/
def objs41a : List ObjRow := [
  ⟨Obj.CLI_CLIENTS_ENABLED, 0, 0, .u8, .ro, 0, none⟩,
  ⟨Obj.CLI_STATE, 8, 0, .u8, .ro, 0, none⟩,
  ⟨Obj.CLI_US_STATUS, 8, 0, .u8, .ro, 0, none⟩,
  ⟨Obj.CLI_DS_STATUS, 8, 0, .u8, .ro, 0, none⟩,
  ⟨Obj.CLI_POINTER, 8, 0, .u16, .ro, 0, none⟩,
  ⟨Obj.CLI_FREQ_OFFSET, 8, 0, .i32, .ro, 0, none⟩,
  ⟨Obj.CLI_SKEW_NS, 8, 0, .u32, .ro, 0, none⟩,
  ⟨Obj.CLI_PLAYOUT_FILL_NS, 8, 0, .u32, .ro, 0, none⟩,
  ⟨Obj.CLI_US_GFC, 8, 0, .u16, .ro, 0, none⟩,
  ⟨Obj.CLI_DS_GFC, 8, 0, .u16, .ro, 0, none⟩,
  ⟨Obj.CLI_PM_CLEAR, 0, 0, .u8, .cmd, 0, none⟩,
  ⟨Obj.CLI_PERIODS_SENT, 8, 0, .u64, .rc, 0, none⟩]

/-- Objects of block 0x41. -/
def objs41b : List ObjRow := [
  ⟨Obj.CLI_US_PERIODS_DROPPED, 8, 0, .u64, .rc, 0, none⟩,
  ⟨Obj.CLI_US_SLIPS, 8, 0, .u32, .rc, 0, none⟩,
  ⟨Obj.CLI_JC_CLAMPED, 8, 0, .u32, .rc, 0, none⟩,
  ⟨Obj.CLI_AIS_SENT, 8, 0, .u64, .rc, 0, none⟩,
  ⟨Obj.CLI_PERIODS_RECEIVED, 8, 0, .u64, .rc, 0, none⟩,
  ⟨Obj.CLI_PERIODS_LOST, 8, 0, .u64, .rc, 0, none⟩,
  ⟨Obj.CLI_CONT_CRC_ERRORS, 8, 0, .u64, .rc, 0, none⟩,
  ⟨Obj.CLI_JC_ERRORS, 8, 0, .u64, .rc, 0, none⟩,
  ⟨Obj.CLI_PTR_ERRORS, 8, 0, .u64, .rc, 0, none⟩,
  ⟨Obj.CLI_LATE_CONTAINERS, 8, 0, .u64, .rc, 0, none⟩,
  ⟨Obj.CLI_WRONG_CHANNEL, 8, 0, .u64, .rc, 0, none⟩,
  ⟨Obj.CLI_AIS_RECEIVED, 8, 0, .u64, .rc, 0, none⟩]

/-- Objects of block 0x41. -/
def objs41c : List ObjRow := [
  ⟨Obj.CLI_PLAYOUT_SLIPS, 8, 0, .u32, .rc, 0, none⟩,
  ⟨Obj.CLI_DS_NO_CLIENT, 0, 0, .u64, .rc, 0, none⟩]

/-- All objects of block 0x41. -/
def objs41 : List ObjRow := objs41a ++ objs41b ++ objs41c

/-! ### Indexes 0x5000-0x50FF -/

abbrev Obj.TIME_NOW : Nat := 0x5000
abbrev Obj.TIME_SELECT : Nat := 0x5001
abbrev Obj.TIME_SELECTED : Nat := 0x5002
abbrev Obj.TIME_SWITCH_OFFSET_PS : Nat := 0x5003
abbrev Obj.TIME_SLEW_NS_PER_S : Nat := 0x5004
abbrev Obj.TIME_SET : Nat := 0x5005
abbrev Obj.TIME_TAI_UTC : Nat := 0x5006
abbrev Obj.TIME_DOM_SOURCE : Nat := 0x5008
abbrev Obj.TIME_DOM_STATE : Nat := 0x5009
abbrev Obj.TIME_DOM_OFFSET_PS : Nat := 0x500A
abbrev Obj.TIME_DOM_RATE : Nat := 0x500B
abbrev Obj.TIME_DOM_LOCKED_S : Nat := 0x500C
abbrev Obj.TIME_SRC_TIMEOUT_S : Nat := 0x500D
abbrev Obj.TIME_CONFIRM_NS : Nat := 0x500E
abbrev Obj.TIME_STEP_THRESHOLD_NS : Nat := 0x500F
abbrev Obj.TIME_OUTLIER_NS : Nat := 0x5010
abbrev Obj.TIME_HOLDOVER_S : Nat := 0x5011
abbrev Obj.TIME_DOM_CLOCK : Nat := 0x5012
abbrev Obj.TIME_EPS_PS : Nat := 0x5018
abbrev Obj.TIME_PON_RX_ADJ_PS : Nat := 0x5019
abbrev Obj.TIME_PON_TX_ADJ_PS : Nat := 0x501A
abbrev Obj.TIME_DD_PS : Nat := 0x501B
abbrev Obj.TIME_TC_ENABLE : Nat := 0x501C
abbrev Obj.TIME_PTP_PORTS : Nat := 0x501D
abbrev Obj.TIME_PTP_DOMAIN : Nat := 0x501E
abbrev Obj.TIME_PTP_MCAST : Nat := 0x501F
abbrev Obj.TIME_PTP_CLASS_LOCKED : Nat := 0x5020
abbrev Obj.TS_QUEUE_DEPTH : Nat := 0x5021
abbrev Obj.TS_HOST_LIMIT : Nat := 0x5022
abbrev Obj.TS_POP : Nat := 0x5023
abbrev Obj.PPS_OUT_ENABLE : Nat := 0x5028
abbrev Obj.PPS_OUT_WIDTH_MS : Nat := 0x5029
abbrev Obj.PPS_OUT_ADJ_PS : Nat := 0x502A
abbrev Obj.PPS_OUT_SQUELCH : Nat := 0x502B
abbrev Obj.PPS_IN_ENABLE : Nat := 0x502C
abbrev Obj.PPS_IN_ADJ_PS : Nat := 0x502D
abbrev Obj.PPS_IN_LAST_PS : Nat := 0x502E
abbrev Obj.TLINK_ENABLE : Nat := 0x5030
abbrev Obj.TLINK_DELAY_PS : Nat := 0x5031
abbrev Obj.TLINK_STATE : Nat := 0x5032
abbrev Obj.EVENT_TIME_NS : Nat := 0x5038
abbrev Obj.TIME_TOD_RECEIVED : Nat := 0x5040
abbrev Obj.TIME_TOD_UNUSABLE : Nat := 0x5041
abbrev Obj.TIME_STEPS : Nat := 0x5042
abbrev Obj.TIME_OUTLIERS : Nat := 0x5043
abbrev Obj.TS_QUEUE_OVERFLOW : Nat := 0x5044
abbrev Obj.TIME_SWITCHES : Nat := 0x5045
abbrev Obj.TIME_TC_CORRECTED : Nat := 0x5046
abbrev Obj.PPS_IN_MISSED : Nat := 0x5047
abbrev Obj.TLINK_CRC_ERRORS : Nat := 0x5048
abbrev Obj.TIME_UNCAL_STAMPS : Nat := 0x5049

/-- Objects of block 0x50. -/
def objs50a : List ObjRow := [
  ⟨Obj.TIME_NOW, 0, 0, .time80, .ro, 0, none⟩,
  ⟨Obj.TIME_SELECT, 0, 0, .u8, .rws, 2, (some (0, 2))⟩,
  ⟨Obj.TIME_SELECTED, 0, 0, .u8, .ro, 0, none⟩,
  ⟨Obj.TIME_SWITCH_OFFSET_PS, 0, 0, .i64, .ro, 0, none⟩,
  ⟨Obj.TIME_SLEW_NS_PER_S, 0, 0, .u8, .rws, 10, (some (1, 10))⟩,
  ⟨Obj.TIME_SET, 0, 0, .time80, .cmd, 0, none⟩,
  ⟨Obj.TIME_TAI_UTC, 0, 0, .i16, .rws, 37, none⟩,
  ⟨Obj.TIME_DOM_SOURCE, 2, 0, .u8, .rws, 0, (some (0, 6))⟩,
  ⟨Obj.TIME_DOM_STATE, 2, 0, .u8, .ro, 0, none⟩,
  ⟨Obj.TIME_DOM_OFFSET_PS, 2, 0, .i64, .ro, 0, none⟩,
  ⟨Obj.TIME_DOM_RATE, 2, 0, .i64, .ro, 0, none⟩,
  ⟨Obj.TIME_DOM_LOCKED_S, 2, 0, .u32, .ro, 0, none⟩]

/-- Objects of block 0x50. -/
def objs50b : List ObjRow := [
  ⟨Obj.TIME_SRC_TIMEOUT_S, 2, 0, .u8, .rws, 4, (some (2, 60))⟩,
  ⟨Obj.TIME_CONFIRM_NS, 2, 0, .u32, .rws, 250000, (some (1000, 10000000))⟩,
  ⟨Obj.TIME_STEP_THRESHOLD_NS, 2, 0, .u32, .rws, 1000, (some (100, 1000000))⟩,
  ⟨Obj.TIME_OUTLIER_NS, 2, 0, .u32, .rws, 200, (some (25, 100000))⟩,
  ⟨Obj.TIME_HOLDOVER_S, 2, 0, .u32, .rws, 86400, (some (60, 604800))⟩,
  ⟨Obj.TIME_DOM_CLOCK, 2, 0, .time80, .ro, 0, none⟩,
  ⟨Obj.TIME_EPS_PS, 4, 0, .i32, .ro, 0, none⟩,
  ⟨Obj.TIME_PON_RX_ADJ_PS, 4, 0, .i32, .rws, 0, (some (-100000, 100000))⟩,
  ⟨Obj.TIME_PON_TX_ADJ_PS, 4, 0, .i32, .rws, 0, (some (-100000, 100000))⟩,
  ⟨Obj.TIME_DD_PS, 4, 0, .i64, .ro, 0, none⟩,
  ⟨Obj.TIME_TC_ENABLE, 8, 0, .bool, .rws, 1, none⟩,
  ⟨Obj.TIME_PTP_PORTS, 0, 0, .u8, .rws, 0, none⟩]

/-- Objects of block 0x50. -/
def objs50c : List ObjRow := [
  ⟨Obj.TIME_PTP_DOMAIN, 0, 0, .u8, .rws, 24, (some (24, 43))⟩,
  ⟨Obj.TIME_PTP_MCAST, 0, 0, .u8, .rws, 0, (some (0, 1))⟩,
  ⟨Obj.TIME_PTP_CLASS_LOCKED, 0, 0, .u8, .rws, 6, none⟩,
  ⟨Obj.TS_QUEUE_DEPTH, 0, 0, .u16, .ro, 0, none⟩,
  ⟨Obj.TS_HOST_LIMIT, 0, 0, .u16, .rws, 256, (some (0, 512))⟩,
  ⟨Obj.TS_POP, 0, 0, (.oct 32), .rc, 0, none⟩,
  ⟨Obj.PPS_OUT_ENABLE, 0, 0, .bool, .rws, 0, none⟩,
  ⟨Obj.PPS_OUT_WIDTH_MS, 0, 0, .u16, .rws, 100, (some (1, 500))⟩,
  ⟨Obj.PPS_OUT_ADJ_PS, 0, 0, .i32, .rws, 0, (some (-100000, 100000))⟩,
  ⟨Obj.PPS_OUT_SQUELCH, 0, 0, .bool, .rws, 1, none⟩,
  ⟨Obj.PPS_IN_ENABLE, 0, 0, .bool, .rws, 0, none⟩,
  ⟨Obj.PPS_IN_ADJ_PS, 0, 0, .i32, .rws, 0, (some (-100000, 100000))⟩]

/-- Objects of block 0x50. -/
def objs50d : List ObjRow := [
  ⟨Obj.PPS_IN_LAST_PS, 0, 0, .i64, .ro, 0, none⟩,
  ⟨Obj.TLINK_ENABLE, 0, 0, .bool, .rws, 1, none⟩,
  ⟨Obj.TLINK_DELAY_PS, 0, 0, .u32, .rws, 0, (some (0, 1000000))⟩,
  ⟨Obj.TLINK_STATE, 0, 0, .u8, .ro, 0, none⟩,
  ⟨Obj.EVENT_TIME_NS, 0, 0, .u64, .ro, 0, none⟩,
  ⟨Obj.TIME_TOD_RECEIVED, 4, 0, .u64, .rc, 0, none⟩,
  ⟨Obj.TIME_TOD_UNUSABLE, 4, 0, .u64, .rc, 0, none⟩,
  ⟨Obj.TIME_STEPS, 2, 0, .u32, .rc, 0, none⟩,
  ⟨Obj.TIME_OUTLIERS, 2, 0, .u32, .rc, 0, none⟩,
  ⟨Obj.TS_QUEUE_OVERFLOW, 0, 0, .u64, .rc, 0, none⟩,
  ⟨Obj.TIME_SWITCHES, 0, 0, .u32, .rc, 0, none⟩,
  ⟨Obj.TIME_TC_CORRECTED, 8, 0, .u64, .rc, 0, none⟩]

/-- Objects of block 0x50. -/
def objs50e : List ObjRow := [
  ⟨Obj.PPS_IN_MISSED, 0, 0, .u32, .rc, 0, none⟩,
  ⟨Obj.TLINK_CRC_ERRORS, 0, 0, .u32, .rc, 0, none⟩,
  ⟨Obj.TIME_UNCAL_STAMPS, 0, 0, .u64, .rc, 0, none⟩]

/-- All objects of block 0x50. -/
def objs50 : List ObjRow := objs50a ++ objs50b ++ objs50c ++ objs50d ++ objs50e

/-! ### Indexes 0x5100-0x51FF -/

abbrev Obj.CIPH_SECRET_BLOB : Nat := 0x5100
abbrev Obj.CIPH_SECRET_SEAL : Nat := 0x5101
abbrev Obj.CIPH_ARRAY_KEY_BLOB : Nat := 0x5102
abbrev Obj.CIPH_CAPTURE_BLOB : Nat := 0x5103
abbrev Obj.CIPH_BLOB_STATE : Nat := 0x5104
abbrev Obj.CIPH_CAPTURE_ENCRYPT : Nat := 0x5105
abbrev Obj.CIPH_CAPTURE_EPOCH : Nat := 0x5106
abbrev Obj.CIPH_DATA_SLOTS_FREE : Nat := 0x5107
abbrev Obj.CIPH_JOB_CONTEXTS_FREE : Nat := 0x5108
abbrev Obj.CIPH_UNLOCK_FLOW : Nat := 0x5109
abbrev Obj.CIPH_DS_DECRYPTED : Nat := 0x5110
abbrev Obj.CIPH_DS_TAG_FAILS : Nat := 0x5111
abbrev Obj.CIPH_DS_NO_KEY : Nat := 0x5112
abbrev Obj.CIPH_US_ENCRYPTED : Nat := 0x5113
abbrev Obj.CIPH_US_HELD : Nat := 0x5114
abbrev Obj.CIPH_KEY_SWITCHES : Nat := 0x5115
abbrev Obj.CIPH_KEYS_INSTALLED : Nat := 0x5116
abbrev Obj.CIPH_UNWRAP_FAILS : Nat := 0x5117
abbrev Obj.CIPH_NO_SLOT : Nat := 0x5118
abbrev Obj.CIPH_KEYS_ERASED : Nat := 0x5119
abbrev Obj.CIPH_JOBS : Nat := 0x511A
abbrev Obj.CIPH_JOB_ERRORS : Nat := 0x511B
abbrev Obj.CIPH_SLOT_PARITY_ERRORS : Nat := 0x511C
abbrev Obj.CIPH_BLOB_UNWRAP_FAILS : Nat := 0x511D

/-- Objects of block 0x51. -/
def objs51a : List ObjRow := [
  ⟨Obj.CIPH_SECRET_BLOB, 0, 0, (.oct 40), .rw, 0, none⟩,
  ⟨Obj.CIPH_SECRET_SEAL, 0, 0, (.oct 32), .cmd, 0, none⟩,
  ⟨Obj.CIPH_ARRAY_KEY_BLOB, 0, 0, (.oct 40), .rw, 0, none⟩,
  ⟨Obj.CIPH_CAPTURE_BLOB, 0, 0, (.oct 40), .rw, 0, none⟩,
  ⟨Obj.CIPH_BLOB_STATE, 3, 0, .u8, .ro, 0, none⟩,
  ⟨Obj.CIPH_CAPTURE_ENCRYPT, 0, 0, .bool, .rws, 0, none⟩,
  ⟨Obj.CIPH_CAPTURE_EPOCH, 0, 0, .u32, .ro, 0, none⟩,
  ⟨Obj.CIPH_DATA_SLOTS_FREE, 0, 0, .u8, .ro, 224, none⟩,
  ⟨Obj.CIPH_JOB_CONTEXTS_FREE, 0, 0, .u8, .ro, 64, none⟩,
  ⟨Obj.CIPH_UNLOCK_FLOW, 0, 0, .u16, .cmd, 0, none⟩,
  ⟨Obj.CIPH_DS_DECRYPTED, 4, 0, .u64, .rc, 0, none⟩,
  ⟨Obj.CIPH_DS_TAG_FAILS, 4, 0, .u64, .rc, 0, none⟩]

/-- Objects of block 0x51. -/
def objs51b : List ObjRow := [
  ⟨Obj.CIPH_DS_NO_KEY, 4, 0, .u64, .rc, 0, none⟩,
  ⟨Obj.CIPH_US_ENCRYPTED, 4, 0, .u64, .rc, 0, none⟩,
  ⟨Obj.CIPH_US_HELD, 4, 0, .u64, .rc, 0, none⟩,
  ⟨Obj.CIPH_KEY_SWITCHES, 4, 0, .u32, .rc, 0, none⟩,
  ⟨Obj.CIPH_KEYS_INSTALLED, 4, 0, .u32, .rc, 0, none⟩,
  ⟨Obj.CIPH_UNWRAP_FAILS, 4, 0, .u32, .rc, 0, none⟩,
  ⟨Obj.CIPH_NO_SLOT, 4, 0, .u32, .rc, 0, none⟩,
  ⟨Obj.CIPH_KEYS_ERASED, 0, 0, .u32, .rc, 0, none⟩,
  ⟨Obj.CIPH_JOBS, 0, 0, .u64, .rc, 0, none⟩,
  ⟨Obj.CIPH_JOB_ERRORS, 0, 0, .u32, .rc, 0, none⟩,
  ⟨Obj.CIPH_SLOT_PARITY_ERRORS, 0, 0, .u32, .rc, 0, none⟩,
  ⟨Obj.CIPH_BLOB_UNWRAP_FAILS, 0, 0, .u32, .rc, 0, none⟩]

/-- All objects of block 0x51. -/
def objs51 : List ObjRow := objs51a ++ objs51b

/-! ### Indexes 0x6000-0x60FF -/

abbrev Obj.EVT_SOURCE_TABLE : Nat := 0x6000
abbrev Obj.DS_FLOW_TABLE : Nat := 0x6020
abbrev Obj.DS_FLOW_COUNTERS : Nat := 0x6021
abbrev Obj.US_ALLOC_TABLE : Nat := 0x6022
abbrev Obj.US_ALLOC_COUNTERS : Nat := 0x6023
abbrev Obj.US_PROFILES : Nat := 0x6024
abbrev Obj.BOND_GROUP_TABLE : Nat := 0x6025
abbrev Obj.BOND_GROUP_COUNTERS : Nat := 0x6026
abbrev Obj.RULE_TABLE : Nat := 0x6030
abbrev Obj.RULE_COUNTERS : Nat := 0x6031
abbrev Obj.RULE_DEFAULT_ACTIONS : Nat := 0x6032
abbrev Obj.EM_PROFILES : Nat := 0x6033
abbrev Obj.EM_TABLE : Nat := 0x6034
abbrev Obj.CTX_SOURCE_TABLE : Nat := 0x6038
abbrev Obj.CTX_SOURCE_COUNTERS : Nat := 0x6039
abbrev Obj.CTX_UNDO_COUNTERS : Nat := 0x603A
abbrev Obj.ENG_CLUSTER_COUNTERS : Nat := 0x603B
abbrev Obj.HOP_OWNER_TABLE : Nat := 0x6040
abbrev Obj.HOP_OWNER_HELD : Nat := 0x6041
abbrev Obj.ARB_REQUESTERS : Nat := 0x6042
abbrev Obj.ARB_COUNTERS : Nat := 0x6043
abbrev Obj.HOP_BUFFER_STATE : Nat := 0x6044
abbrev Obj.SCH_QUEUE_TABLE : Nat := 0x6048
abbrev Obj.SCH_CLASS_TABLE : Nat := 0x6049
abbrev Obj.SHP_TABLE : Nat := 0x604A
abbrev Obj.POL_TABLE : Nat := 0x604B
abbrev Obj.POL_TOKENS : Nat := 0x604C
abbrev Obj.POL_COUNTERS : Nat := 0x604D
abbrev Obj.GCL_SHADOW : Nat := 0x604E
abbrev Obj.GCL_ACTIVE : Nat := 0x604F
abbrev Obj.SCH_QUEUE_COUNTERS : Nat := 0x6050
abbrev Obj.LAT_CONFIG : Nat := 0x6051
abbrev Obj.LAT_STATE : Nat := 0x6052
abbrev Obj.LAT_HISTOGRAMS : Nat := 0x6053
abbrev Obj.HL_PRBS_TABLE : Nat := 0x6058
abbrev Obj.HL_PRBS_COUNTERS : Nat := 0x6059
abbrev Obj.MAC_COUNTERS : Nat := 0x605A
abbrev Obj.PCS_COUNTERS : Nat := 0x605B
abbrev Obj.CLI_TABLE : Nat := 0x6060
abbrev Obj.CLI_MEMBER_TABLE : Nat := 0x6061
abbrev Obj.CLI_PM_15MIN : Nat := 0x6062
abbrev Obj.CLI_PM_DAY : Nat := 0x6063
abbrev Obj.CIPH_SLOT_TABLE : Nat := 0x6068
abbrev Obj.GOV_PLACEMENT : Nat := 0x6070
abbrev Obj.ARR_MEMBER_TABLE : Nat := 0x6078

/-- Objects of block 0x60. -/
def objs60a : List ObjRow := [
  ⟨Obj.EVT_SOURCE_TABLE, 1024, 1, .table, .rws, 0, none⟩,
  ⟨Obj.DS_FLOW_TABLE, 4096, 1, .table, .rw, 0, none⟩,
  ⟨Obj.DS_FLOW_COUNTERS, 4096, 2, .table, .rc, 0, none⟩,
  ⟨Obj.US_ALLOC_TABLE, 256, 1, .table, .rw, 0, none⟩,
  ⟨Obj.US_ALLOC_COUNTERS, 256, 2, .table, .rc, 0, none⟩,
  ⟨Obj.US_PROFILES, 16, 3, .table, .ro, 0, none⟩,
  ⟨Obj.BOND_GROUP_TABLE, 64, 1, .table, .rws, 0, none⟩,
  ⟨Obj.BOND_GROUP_COUNTERS, 64, 8, .table, .rc, 0, none⟩,
  ⟨Obj.RULE_TABLE, 16384, 23, .table, .rws, 0, none⟩,
  ⟨Obj.RULE_COUNTERS, 16384, 2, .table, .rc, 0, none⟩,
  ⟨Obj.RULE_DEFAULT_ACTIONS, 13, 2, .table, .rws, 0, none⟩,
  ⟨Obj.EM_PROFILES, 8, 10, .table, .rws, 0, none⟩]

/-- Objects of block 0x60. -/
def objs60b : List ObjRow := [
  ⟨Obj.EM_TABLE, 1048576, 8, .table, .rw, 0, none⟩,
  ⟨Obj.CTX_SOURCE_TABLE, 80, 1, .table, .rws, 0, none⟩,
  ⟨Obj.CTX_SOURCE_COUNTERS, 80, 8, .table, .rc, 0, none⟩,
  ⟨Obj.CTX_UNDO_COUNTERS, 80, 9, .table, .rc, 0, none⟩,
  ⟨Obj.ENG_CLUSTER_COUNTERS, 64, 3, .table, .rc, 0, none⟩,
  ⟨Obj.HOP_OWNER_TABLE, 1024, 2, .table, .rws, 0, none⟩,
  ⟨Obj.HOP_OWNER_HELD, 1024, 5, .table, .ro, 0, none⟩,
  ⟨Obj.ARB_REQUESTERS, 368, 1, .table, .rws, 0, none⟩,
  ⟨Obj.ARB_COUNTERS, 368, 4, .table, .rc, 0, none⟩,
  ⟨Obj.HOP_BUFFER_STATE, 16777216, 1, .table, .ro, 0, none⟩,
  ⟨Obj.SCH_QUEUE_TABLE, 2048, 1, .table, .rws, 0, none⟩,
  ⟨Obj.SCH_CLASS_TABLE, 64, 1, .table, .rws, 0, none⟩]

/-- Objects of block 0x60. -/
def objs60c : List ObjRow := [
  ⟨Obj.SHP_TABLE, 2376, 2, .table, .rws, 0, none⟩,
  ⟨Obj.POL_TABLE, 4096, 2, .table, .rws, 0, none⟩,
  ⟨Obj.POL_TOKENS, 4096, 2, .table, .ro, 0, none⟩,
  ⟨Obj.POL_COUNTERS, 4096, 6, .table, .rc, 0, none⟩,
  ⟨Obj.GCL_SHADOW, 2048, 1, .table, .rws, 0, none⟩,
  ⟨Obj.GCL_ACTIVE, 2048, 1, .table, .ro, 0, none⟩,
  ⟨Obj.SCH_QUEUE_COUNTERS, 2112, 6, .table, .rc, 0, none⟩,
  ⟨Obj.LAT_CONFIG, 2112, 1, .table, .rws, 0, none⟩,
  ⟨Obj.LAT_STATE, 2112, 5, .table, .ro, 0, none⟩,
  ⟨Obj.LAT_HISTOGRAMS, 2112, 34, .table, .rc, 0, none⟩,
  ⟨Obj.HL_PRBS_TABLE, 12, 1, .table, .rw, 0, none⟩,
  ⟨Obj.HL_PRBS_COUNTERS, 12, 4, .table, .rc, 0, none⟩]

/-- Objects of block 0x60. -/
def objs60d : List ObjRow := [
  ⟨Obj.MAC_COUNTERS, 8, 18, .table, .rc, 0, none⟩,
  ⟨Obj.PCS_COUNTERS, 8, 10, .table, .rc, 0, none⟩,
  ⟨Obj.CLI_TABLE, 8, 1, .table, .rws, 0, none⟩,
  ⟨Obj.CLI_MEMBER_TABLE, 32, 1, .table, .rws, 0, none⟩,
  ⟨Obj.CLI_PM_15MIN, 1164, 16, .table, .ro, 0, none⟩,
  ⟨Obj.CLI_PM_DAY, 96, 16, .table, .ro, 0, none⟩,
  ⟨Obj.CIPH_SLOT_TABLE, 256, 1, .table, .ro, 0, none⟩,
  ⟨Obj.GOV_PLACEMENT, 256, 1, .table, .rws, 0, none⟩,
  ⟨Obj.ARR_MEMBER_TABLE, 64, 4, .table, .ro, 0, none⟩]

/-- All objects of block 0x60. -/
def objs60 : List ObjRow := objs60a ++ objs60b ++ objs60c ++ objs60d

/-! ### Indexes 0x7000-0x70FF -/

abbrev Obj.COMPAT_LAYOUT : Nat := 0x7000
abbrev Obj.COMPAT_CH_MAP : Nat := 0x7001
abbrev Obj.COMPAT_CLI_MAP : Nat := 0x7002
abbrev Obj.COMPAT_SECOND : Nat := 0x7003
abbrev Obj.COMPAT_CW_UNCORRECTABLE : Nat := 0x7010
abbrev Obj.COMPAT_CW_CORRECTED : Nat := 0x7011
abbrev Obj.COMPAT_BITS_CORRECTED : Nat := 0x7012
abbrev Obj.COMPAT_FRAMES_LOST : Nat := 0x7013
abbrev Obj.COMPAT_HEC_ERRORS : Nat := 0x7014
abbrev Obj.COMPAT_BURSTS_SENT : Nat := 0x7015
abbrev Obj.COMPAT_CLI_LOST : Nat := 0x7020
abbrev Obj.COMPAT_CLI_CRC_ERRORS : Nat := 0x7021
abbrev Obj.COMPAT_CLI_STUFFS : Nat := 0x7022
abbrev Obj.COMPAT_CLI_AIS : Nat := 0x7023
abbrev Obj.COMPAT_STATUS : Nat := 0x7030

/-- Objects of block 0x70. -/
def objs70a : List ObjRow := [
  ⟨Obj.COMPAT_LAYOUT, 0, 0, .u16, .ro, 0x0211, none⟩,
  ⟨Obj.COMPAT_CH_MAP, 0, 0, .u8, .rws, 0x04, none⟩,
  ⟨Obj.COMPAT_CLI_MAP, 0, 0, .u16, .rws, 0x3210, none⟩,
  ⟨Obj.COMPAT_SECOND, 0, 0, .u32, .ro, 0, none⟩,
  ⟨Obj.COMPAT_CW_UNCORRECTABLE, 2, 0, .u32, .ro, 0, none⟩,
  ⟨Obj.COMPAT_CW_CORRECTED, 2, 0, .u32, .ro, 0, none⟩,
  ⟨Obj.COMPAT_BITS_CORRECTED, 2, 0, .u32, .ro, 0, none⟩,
  ⟨Obj.COMPAT_FRAMES_LOST, 2, 0, .u32, .ro, 0, none⟩,
  ⟨Obj.COMPAT_HEC_ERRORS, 2, 0, .u32, .ro, 0, none⟩,
  ⟨Obj.COMPAT_BURSTS_SENT, 2, 0, .u32, .ro, 0, none⟩,
  ⟨Obj.COMPAT_CLI_LOST, 4, 0, .u32, .ro, 0, none⟩,
  ⟨Obj.COMPAT_CLI_CRC_ERRORS, 4, 0, .u32, .ro, 0, none⟩]

/-- Objects of block 0x70. -/
def objs70b : List ObjRow := [
  ⟨Obj.COMPAT_CLI_STUFFS, 4, 0, .u32, .ro, 0, none⟩,
  ⟨Obj.COMPAT_CLI_AIS, 4, 0, .u32, .ro, 0, none⟩,
  ⟨Obj.COMPAT_STATUS, 0, 0, .u16, .ro, 0, none⟩]

/-- All objects of block 0x70. -/
def objs70 : List ObjRow := objs70a ++ objs70b

/-- The objects of the block an index lies in (Table 16-4). -/
def objBlock (b : Nat) : List ObjRow :=
  match b with
  | 0x10 => objs10
  | 0x11 => objs11
  | 0x12 => objs12
  | 0x13 => objs13
  | 0x20 => objs20
  | 0x21 => objs21
  | 0x22 => objs22
  | 0x23 => objs23
  | 0x30 => objs30
  | 0x31 => objs31
  | 0x32 => objs32
  | 0x33 => objs33
  | 0x40 => objs40
  | 0x41 => objs41
  | 0x50 => objs50
  | 0x51 => objs51
  | 0x60 => objs60
  | 0x70 => objs70
  | _ => []

/-- The object at an index, if any (R552). -/
def objRow? (i : Nat) : Option ObjRow := (objBlock (i / 256)).find? (fun r => r.index == i)

/-- Every object of the dictionary, in index order. -/
def allObjs : List ObjRow := objs10 ++ objs11 ++ objs12 ++ objs13 ++ objs20 ++ objs21 ++ objs22 ++ objs23 ++ objs30 ++ objs31 ++ objs32 ++ objs33 ++ objs40 ++ objs41 ++ objs50 ++ objs51 ++ objs60 ++ objs70

/-! ### Local event sources: the first source of each event (R568 and the chapters) -/

abbrev Ev.DICT_STORED : Nat := 0x000
abbrev Ev.DICT_RESTORED : Nat := 0x001
abbrev Ev.RESTORE_ITEM_REFUSED : Nat := 0x002
abbrev Ev.EVT_RETAINED_LOST : Nat := 0x003
abbrev Ev.MEM_ECC_CORRECTED : Nat := 0x004
abbrev Ev.MEM_ECC_UNCORRECTABLE : Nat := 0x005
abbrev Ev.IL_LANE_FAILED : Nat := 0x006
abbrev Ev.IL_LANE_REPAIRED : Nat := 0x007
abbrev Ev.IL_FAILED : Nat := 0x008
abbrev Ev.ROOT_PLL_UNLOCK : Nat := 0x009
abbrev Ev.CAP_FULL : Nat := 0x00A
abbrev Ev.CAP_DROP : Nat := 0x00B
abbrev Ev.SYNC_ACQUIRED : Nat := 0x040
abbrev Ev.SYNC_LOST : Nat := 0x044
abbrev Ev.SIGNAL_LOST : Nat := 0x048
abbrev Ev.ID_CHANGED : Nat := 0x04C
abbrev Ev.CANDIDATE_REJECTED : Nat := 0x050
abbrev Ev.ACT_STATE_CHANGED : Nat := 0x060
abbrev Ev.TERMINAL_ID_ASSIGNED : Nat := 0x064
abbrev Ev.SESSION_CONFIRMED : Nat := 0x068
abbrev Ev.EQD_CHANGED : Nat := 0x06C
abbrev Ev.DIRECTIVE_REJECTED : Nat := 0x070
abbrev Ev.PHASE_JUMP : Nat := 0x074
abbrev Ev.STOP_CHANGED : Nat := 0x078
abbrev Ev.SILENCE_CHANGED : Nat := 0x07C
abbrev Ev.HANDOVER : Nat := 0x080
abbrev Ev.GUARD_TRIP : Nat := 0x090
abbrev Ev.GUARD_RELEASED : Nat := 0x094
abbrev Ev.GRANT_REJECTED : Nat := 0x098
abbrev Ev.PROFILES_STALE : Nat := 0x09C
abbrev Ev.ALLOC_CONFLICT : Nat := 0x0A0
abbrev Ev.FORCED_WAKE : Nat := 0x0A4
abbrev Ev.BOND_GROUP_STATE : Nat := 0x0B0
abbrev Ev.BOND_MEMBER_CHANGED : Nat := 0x0B1
abbrev Ev.BOND_GAP : Nat := 0x0B2
abbrev Ev.BOND_SKEW_EXCEEDED : Nat := 0x0B3
abbrev Ev.BOND_DIRECTIVE : Nat := 0x0B4
abbrev Ev.RULE_SWAPPED : Nat := 0x0C0
abbrev Ev.RULE_DRAINED : Nat := 0x0C1
abbrev Ev.LENGTH_CONFLICT : Nat := 0x0C2
abbrev Ev.RECIRC_DROP : Nat := 0x0C3
abbrev Ev.EM_LEARN_FAILED : Nat := 0x0C4
abbrev Ev.CTX_WAIT_DROP : Nat := 0x0D0
abbrev Ev.CTX_STOMP : Nat := 0x0D1
abbrev Ev.CTX_PROGRAM_LIMIT : Nat := 0x0D2
abbrev Ev.CTX_QUOTA_SHORT : Nat := 0x0D3
abbrev Ev.CTX_TIMEOUT : Nat := 0x0D4
abbrev Ev.HOP_DOUBLE_FREE : Nat := 0x0E0
abbrev Ev.HOP_FOREIGN_FREE : Nat := 0x0E1
abbrev Ev.HOP_BAD_HANDOVER : Nat := 0x0E2
abbrev Ev.HOP_POOL_EMPTY : Nat := 0x0E3
abbrev Ev.HOP_OVERCOMMIT : Nat := 0x0E4
abbrev Ev.HOP_LIST_REBUILT : Nat := 0x0E5
abbrev Ev.HOP_CARVE_REJECTED : Nat := 0x0E6
abbrev Ev.HOP_BUFFER_RETIRED : Nat := 0x0E7
abbrev Ev.ARB_DRAINED : Nat := 0x0E8
abbrev Ev.GCL_CHANGED : Nat := 0x0F0
abbrev Ev.GCL_TIME_STEP : Nat := 0x0F1
abbrev Ev.GATE_OVERRUN : Nat := 0x0F2
abbrev Ev.QUEUE_TAIL_DROP : Nat := 0x0F3
abbrev Ev.SHAPER_RESET : Nat := 0x0F4
abbrev Ev.LINK_UP : Nat := 0x100
abbrev Ev.LINK_DOWN : Nat := 0x108
abbrev Ev.PREEMPT_VERIFY : Nat := 0x110
abbrev Ev.CT_THRESHOLD : Nat := 0x118
abbrev Ev.PRBS_LOCK : Nat := 0x120
abbrev Ev.CLI_STATE_CHANGED : Nat := 0x130
abbrev Ev.CLI_US_AIS : Nat := 0x138
abbrev Ev.CLI_DS_AIS : Nat := 0x140
abbrev Ev.CLI_SKEW_EXCEEDED : Nat := 0x148
abbrev Ev.CLI_PM_BIN : Nat := 0x150
abbrev Ev.CLI_UNAVAILABLE : Nat := 0x151
abbrev Ev.TIME_STATE_CHANGED : Nat := 0x160
abbrev Ev.TIME_STEPPED : Nat := 0x162
abbrev Ev.TIME_OUTLIER : Nat := 0x164
abbrev Ev.TIME_SWITCHED : Nat := 0x166
abbrev Ev.TS_QUEUE_OVERFLOW : Nat := 0x167
abbrev Ev.PPS_IN_FAULT : Nat := 0x168
abbrev Ev.TLINK_FAULT : Nat := 0x169
abbrev Ev.EVENT_TIME_HELD : Nat := 0x16A
abbrev Ev.CIPH_KEY_SWITCHED : Nat := 0x170
abbrev Ev.CIPH_TAG_FAIL : Nat := 0x174
abbrev Ev.CIPH_UNWRAP_FAILED : Nat := 0x178
abbrev Ev.CIPH_SESSION_KEYS : Nat := 0x179
abbrev Ev.CIPH_SLOT_ERROR : Nat := 0x17A
abbrev Ev.CIPH_KEYS_LOCKED : Nat := 0x17B
abbrev Ev.PWR_STATE_CHANGED : Nat := 0x180
abbrev Ev.PWR_WAKE : Nat := 0x181
abbrev Ev.GOV_LIMITED : Nat := 0x182
abbrev Ev.GOV_MOVED : Nat := 0x183
abbrev Ev.BOOT_FAILED : Nat := 0x184
abbrev Ev.BOOT_SAFE_MODE : Nat := 0x185
abbrev Ev.BOOT_IMAGE_SELECTED : Nat := 0x186
abbrev Ev.PWR_THERMAL_SHUTDOWN : Nat := 0x187
abbrev Ev.MANAGER_CONFLICT : Nat := 0x190
abbrev Ev.ROLE_CHANGED : Nat := 0x191
abbrev Ev.WORKER_JOINED : Nat := 0x192
abbrev Ev.WORKER_LEFT : Nat := 0x193
abbrev Ev.ADDR_CONFLICT : Nat := 0x194
abbrev Ev.FB_AUTH_FAILED : Nat := 0x195
abbrev Ev.FB_EXCESS_COLLISIONS : Nat := 0x196
abbrev Ev.MANAGER_LOST : Nat := 0x197
abbrev Ev.TEMP_ALARM : Nat := 0x1A0
abbrev Ev.RAIL_EXCURSION : Nat := 0x1A1
abbrev Ev.PWR_GOOD_LOST : Nat := 0x1A2
abbrev Ev.CLOCK_LOST : Nat := 0x1A3
abbrev Ev.LIFE_LIMIT : Nat := 0x1A4

/-- The sources that some chapter lists, as ranges; every other source never logs (R568). -/
def eventRanges : List (Nat × Nat) :=
  [(0x000, 0x00B), (0x040, 0x053), (0x060, 0x083), (0x090, 0x0A7), (0x0B0, 0x0B4), (0x0C0, 0x0C4), (0x0D0, 0x0D4), (0x0E0, 0x0E8), (0x0F0, 0x0F4), (0x100, 0x120), (0x130, 0x151), (0x160, 0x16A), (0x170, 0x17B), (0x180, 0x187), (0x190, 0x197), (0x1A0, 0x1A4)]

/-- A source some chapter lists (R568). -/
def sourceListed (src : Nat) : Bool := eventRanges.any fun r => r.1 ≤ src && src ≤ r.2

end Sys2Proof.Machine
end

