-- ==== Sys2Proof/Machine/State.lean ====
section
/-! DEFINITION. The state of the block as plain data: everything the spec names, chapter by chapter, and the queue of commands. -/
namespace Sys2Proof.Machine

/-- Why a command may stop the machine. -/
inductive Fault
  /-- Raised by a meaning whose operands no wire, frame or service can carry (`Instr.wf` is false). Safe: the model stops
  where no hardware event exists. -/
  | illFormed
  deriving DecidableEq, Repr

/-- Why a command may be refused. -/
inductive Refusal
  /-- Raised by the dispatcher for a command without a meaning. Safe: nothing is claimed about it. -/
  | notModelled (mnemonic : String)
  deriving DecidableEq, Repr

/-- A sparse map from keys to values: keys strictly rising, no entry equal to the key's default. -/
abbrev Store := List (Nat × Nat)

/-! ### Chapter 01: the inner link -/

/-- One direction of the inner link (R29-R36). -/
structure IlDir where
  active : List Nat
  spares : List Nat
  failed : Nat
  /-- Repairs under way (R35): failed lane, spare, and alignment markers since the failure. -/
  repairs : List (Nat × Nat × Nat)
  /-- The 8-bit count that the next alignment marker carries (R30). -/
  markNo : Nat
  /-- Active lanes whose last alignment marker was missed or corrupted (R35). -/
  missed : List Nat
  /-- The sender's last 256 flits, the newest first (R32). -/
  kept : List Bytes
  /-- Kept flits that the receiver has not accepted yet: the replay goes on from the oldest of them. -/
  replay : Nat
  /-- Payload of the last flit that the receiver accepted. -/
  got : Bytes
  deriving DecidableEq, Repr

structure Il where
  /-- `IL_STATE`: 0 down, 1 training, 2 up, 3 repairing. -/
  st : Nat
  relAt : Nat
  /-- The PRBS check of bring-up has ended. -/
  checked : Bool
  dirs : Vector IlDir 2
  deriving DecidableEq, Repr

/-! ### Chapter 12: time -/

/-- A clock as a function of the instant: its value at `at`, in 2^-40 ns, and its rate word (R427). -/
structure Clock where
  at0 : Nat
  val : Nat
  rate : Int
  deriving DecidableEq, Repr

/-- A domain servo (R436-R439). θ and sums are in 2^-40 ns or 2^-40 ppb; source times in 2^-40 ns. -/
structure Dom where
  clk : Clock
  state : DomState
  last : Option Nat
  pair : Option (Int × Nat × Nat)
  integral : Int
  outliers : Nat
  run : Option Nat
  lastUsable : Nat
  lockedAt : Nat
  holdoverAt : Nat
  hist : List (Nat × Int)
  theta : Int
  headEnd : Option Nat
  deriving DecidableEq, Repr

/-- A time-stamp queue entry (Table 12-6) with its reservation number and whether it is complete (R449). -/
structure TsEntry where
  id : Nat
  complete : Bool
  kind : Nat
  port : Nat
  domain : Nat
  uncal : Bool
  gap : Bool
  notSent : Bool
  tag : Nat
  ptpSeq : Nat
  ptpType : Nat
  ptpValid : Bool
  burstOffset : Nat
  stamp : Nat
  deriving DecidableEq, Repr

structure TimeSt where
  doms : Vector Dom 2
  selected : Fin 2
  delta : Int
  deltaAt : Nat
  tsq : List TsEntry
  tsNext : Nat
  gapCpu : Bool
  gapHost : Bool
  ppsInLast : Option Nat
  ppsInOffset : Int
  ppsInFaulted : Bool
  ppsOutRise : Option Nat
  ppsOutUntil : Nat
  tlSeq : Nat
  tlDriving : Bool
  tlOut : Nat
  tlLastGood : Option Nat
  tlLastSeq : Nat
  tlFault : Bool
  stepped : Bool
  eps : Vector (List Int) 4
  dd : Vector Int 4
  ptpSyncSeq : Nat
  ptpAnnSeq : Nat
  /-- When the PTP stack last sent a Sync, and an Announce (R447). -/
  ptpSyncAt : Option Nat
  ptpAnnAt : Option Nat
  deriving DecidableEq, Repr

/-! ### Chapter 13: cipher and keys -/

/-- A key slot (Table 13-3) with its key. -/
structure Slot where
  st : SlotState
  len256 : Bool
  index : Nat
  newest : Bool
  txCh : Nat
  sessionCh : Nat
  tag : Nat
  flow : Nat
  key : Bytes
  deriving DecidableEq, Repr

/-- A key staged by part 0 (Table 13-5). -/
structure Staged where
  flow : Nat
  index : Nat
  tag : Nat
  bytes : Bytes
  frames : Nat
  deriving DecidableEq, Repr

/-- A data-key unwrap under way (R469). -/
structure KeyUnwrap where
  ch : Fin 4
  flow : Nat
  index : Nat
  tag : Nat
  len256 : Bool
  wrapped : Bytes
  /-- The session KEK of the generation that verified the directive (R469). -/
  kek : Bytes
  startedAt : Nat
  /-- `SEQ` of the directive, for its duplicates (R129). -/
  seq : Nat
  deriving DecidableEq, Repr

/-- A derivation under way (R467). -/
structure Derivation where
  keys : Bytes
  startedAt : Nat
  deriving DecidableEq, Repr

/-- The transmit key a flow takes on a channel from an upstream frame on (R471-R474); none sends it in the clear. -/
structure TxKey where
  flow : Nat
  ch : Nat
  /-- none: from now on, whatever the SFC. -/
  fromSfc : Option Nat
  /-- The frames before this SFC only: what a handover's source still sends (R152). -/
  tillSfc : Option Nat
  slot : Option Nat
  /-- Before `fromSfc` the flow is held: the key that it had is gone (R472). -/
  hold : Bool
  deriving DecidableEq, Repr

/-- A cipher job and its context (Tables 13-7 and 13-8). -/
structure Job where
  id : Nat
  kind : JobKind
  slot : Nat
  iv : Bytes
  aad : Bytes
  data : Bytes
  tag : Bytes
  /-- Blocks still to be processed. -/
  blocksLeft : Nat
  exported : Bool
  deriving DecidableEq, Repr

/-- What a finished job gives its requester (Table 13-7). -/
structure JobResult where
  id : Nat
  pass : Bool
  out : Bytes
  tag : Bytes
  error : Bool
  deriving DecidableEq, Repr

structure Ciph where
  slots : Vector Slot 256
  prevFlag : Vector Bool 4
  staged : Vector (Option Staged) 4
  unwraps : List KeyUnwrap
  derive : Vector (Option Derivation) 4
  /-- Blobs whose unwrap is under way (R465), with its start. -/
  blobRun : Vector (Option Nat) 3
  blobState : Vector Nat 3
  txKeys : List TxKey
  jobs : List Job
  /-- The job whose step is under way on the job lane, and when its grant was used (R480). -/
  lane : Option (Nat × Nat)
  nextJob : Nat
  results : List JobResult
  deriving DecidableEq, Repr

/-! ### Chapter 14: power, governor and boot -/

structure Region where
  lowRun : Nat
  limited : Bool
  limitedSince : Nat
  /-- Busy thread-cycles and active clusters of the last window, and whether every window of the present ms was below
  `GOV_DOWN_PCT`, or limited throughout (R508). -/
  busy : Nat
  busyActive : Nat
  msLow : Bool
  msLimited : Bool
  msBusy : Nat
  msWindows : Nat
  deriving DecidableEq, Repr

structure Pwr where
  state : PwrState
  target : PwrState
  phase : Phase
  phaseAt : Nat
  entryAt : Nat
  exitAt : Nat
  pending : Option PwrState
  /-- Cause of the transition under way: 1 host, 2 head end, 3 wake, 4 thermal. -/
  cause : Nat
  wakeCause : Nat
  lastExitUs : Nat
  watch : Option (Fin 4)
  thermal : Bool
  /-- Head-end allowance per channel, in ms (R501). -/
  allow : Vector (Option Nat) 4
  /-- Sleep entered under an allowance, with its limit in ms (R503). -/
  heSleep : Option Nat
  /-- A Sleep Request awaiting its Acknowledge, on this channel (R502). -/
  heWait : Option (Fin 4)
  quietSince : Nat
  idleSince : Nat
  /-- When Sleep entry froze activation (R124). -/
  frozenAt : Nat
  pwrGood : Vector Bool 4
  serverStopped : Bool
  /-- The first second of R507 has ended. -/
  govActing : Bool
  clusters : Vector ClusterState 64
  regions : Vector Region 8
  /-- Frames per flow group in the present ms (R508). -/
  groupFrames : Store
  initWdAt : Option Nat
  loaderAt : Option Nat
  bootAt : Nat
  /-- When the terminal last started with no history (R62): the start of the boot or of the return from Deep sleep. -/
  freshAt : Nat
  /-- End of the last millisecond of R508. -/
  msAt : Nat
  imageSeqs : Nat × Nat
  image : Nat
  imageSeqRun : Nat
  imageVersion : Nat
  dictLayout : Nat
  /-- Image bytes handed over by the loader (BOOT_SEL 10). -/
  loaded : Option Bytes
  deriving DecidableEq, Repr

/-! ### Chapter 15: field bus, VDP and the array -/

/-- A frame in the field-bus transmit queue (R524). -/
structure BusFrame where
  urgent : Bool
  dst : Nat
  msg : Bytes
  /-- It is not sent before this instant: the answer to a heartbeat (R538). -/
  from0 : Nat := 0
  deriving DecidableEq, Repr

/-- A request answered in the last second (R529). -/
structure Answered where
  src : Nat
  txn : Nat
  reply : Bytes
  status : Status
  /-- The Ethernet header of an in-band answer (R546). -/
  route : Option Bytes
  at0 : Nat
  deriving DecidableEq, Repr

/-- An open segmented transfer (R533). -/
structure Transfer where
  handle : Nat
  src : Nat
  index : Nat
  sub : Nat
  write : Bool
  total : Nat
  seg : Nat
  segSize : Nat
  data : Bytes
  /-- The records a read transfer returns, and their lengths (R570, R578). -/
  plan : List (Nat × Nat)
  lastAt : Nat
  deriving DecidableEq, Repr

structure Subscription where
  src : Nat
  first : Nat
  last : Nat
  auth : Bool
  /-- The Ethernet header toward an in-band subscriber (R546). -/
  route : Option Bytes
  lastHeard : Nat
  deriving DecidableEq, Repr

/-- A membership row (Table 15-7). -/
structure Member where
  st : MemberState
  mgrCapable : Bool
  safeMode : Bool
  pwrState : Nat
  misses : Nat
  siliconRev : Nat
  serial : Nat
  imageSeq : Nat
  lastSeen : Nat
  attempts : Nat
  answered : Bool
  deriving DecidableEq, Repr

/-- A FORWARD under way (R541). -/
structure Forward where
  req : Req
  route : Option Bytes
  target : Nat
  innerTxn : Nat
  inner : Bytes
  sentAt : Nat
  waking : Bool
  deriving DecidableEq, Repr

structure Bus where
  addr : Nat
  mgrCapable : Bool
  bootSel : Nat
  term : Bool
  manager : Bool
  tracked : Option Nat
  heardAt : Nat
  txq : List BusFrame
  sending : Option BusFrame
  /-- When the present attempt started; none while it defers or backs off (R523). -/
  sendAt : Option Nat
  collisions : Nat
  /-- End of the back-off. -/
  backoffUntil : Option Nat
  /-- When the bus was last known to become free of carrier (R520, R523). -/
  freeAt : Nat
  answered : List Answered
  transfers : List Transfer
  nextHandle : Nat
  subs : List Subscription
  members : Vector Member 64
  forwards : List Forward
  nextTxn : Nat
  merge : List (EvRec × Nat)
  mergedTo : Nat
  heartbeatAt : Option Nat
  txLow : Nat
  deriving DecidableEq, Repr

/-! ### Chapter 16: event log and capture ring -/

/-- A capture record in the ring (R576, R577). -/
structure CapRec where
  recNo : Nat
  off : Nat
  bytes : Bytes
  deriving DecidableEq, Repr

structure EvLog where
  /-- Newest first (R570). -/
  ring : List EvRec
  /-- Event time plus one of the last record of each source and entity (R609). -/
  lastAt : Store
  /-- Sources and entities with withheld occurrences since their last record. -/
  withheld : Store
  /-- Records not yet passed to the subscribers, with the instant of each (R534). -/
  unsent : List (EvRec × Nat)
  /-- `SEQ` of the records that an uncorrectable error has lost: they return as zeros (Table 16-6). -/
  zeroed : List Nat
  deriving DecidableEq, Repr

structure Capture where
  ring : List CapRec
  nextNo : Nat
  nextOff : Nat
  stopped : Bool
  /-- Copies that the capture writer holds until DRAM requester 11 is granted (R575). -/
  held : Nat
  deriving DecidableEq, Repr

/-! ### Chapter 17: pins and monitors -/

structure Mon where
  temps : Vector Int 13
  tempMax : Vector Int 13
  alarm : Bool
  railMv : Vector Nat 8
  railOut : Vector Nat 8
  railState : Vector Nat 8
  /-- Not yet in the life record (R604): milliseconds of Run per band, and the sum and count of the readings. -/
  lifeMs : Vector Nat 4
  lifeTj : Int
  lifeN : Nat
  /-- When the record was last updated, less the time outside Run. -/
  lifeAt : Nat
  deriving DecidableEq, Repr

structure Jtag where
  /-- TRST_N low: the TAP is held in Test-Logic-Reset (R597). -/
  held : Bool
  instr : JtagInstr
  /-- Boundary-scan cells, one per single-ended ball of Table 17-1 in the table's order: 0-3 are PBEN[0-3] and 4-7
  PTXDIS[0-3] (the order is the model's, log entry 142). -/
  boundary : BitVec 60
  /-- The selected data register as it was last captured. -/
  shift : Nat
  deriving DecidableEq, Repr

/-! ### Chapter 02: downstream framing -/

/-- A frame header block (Table 02-6) with its CRC verdict. -/
structure Hdr where
  sfc : Nat
  chId : Nat
  heId : Nat
  grants : Nat
  directives : Nat
  tod : Bool
  keySwitch : Bool
  profChanged : Bool
  crcOk : Bool
  deriving DecidableEq, Repr

/-- A candidate offset (R83-R87). Positions count symbols. -/
structure Cand where
  pos : Nat
  arrival : Nat
  presync : Bool
  sfc : Nat
  /-- The position of the frame whose SFC is recorded. -/
  sfcPos : Nat
  ids : Nat × Nat
  /-- The header of the frame at `pos`, once its codeword 0 has decoded. -/
  hdr : Option Hdr
  /-- Whether codeword 1 of the frame at `pos` is uncorrectable, and its syndrome weight. -/
  cw1 : Option (Bool × Nat)
  /-- The first frame of Presync has been read. -/
  recorded : Bool
  member : Bool
  /-- Weight and arrival of the first qualification in the open window. -/
  qualified : Option (Nat × Nat)
  deriving DecidableEq, Repr

/-- A carrier header (Table 02-7) with the TC byte of its first byte and its `CARRIER_INDEX`. -/
structure Carrier where
  at0 : Nat
  pli : Nat
  key : Nat
  flow : Nat
  last : Bool
  seqValid : Bool
  seq : Nat
  cidx : Nat
  deriving DecidableEq, Repr

/-- A carrier that has passed the flow filter and whose payload still arrives. -/
structure OpenCar where
  car : Carrier
  /-- The frame that its bytes join; none for a flume container. -/
  fid : Option Nat
  /-- The client of a flume container. -/
  client : Nat
  /-- The first carrier of a sequenced frame of a round-robin group, which the reorder decides once the carrier has left
  decryption (R221). -/
  first : Option (Fin 64)
  /-- The key in force when its first byte entered the lane (R471); none when no slot held a Valid key. -/
  lineKey : Option Bytes
  /-- Payload bytes handed on so far. -/
  done : Nat
  deriving DecidableEq, Repr

/-- The frame being received in Sync. -/
structure RxFrame where
  pos : Nat
  arrival : Nat
  measured : Bool
  markOk : Bool
  hdr : Option Hdr
  used : Bool
  bad : Bool
  /-- Descrambled TC bytes so far. -/
  tc : Bytes
  /-- The scrambler register: bit i is k[j-1-i] for the next TC bit j. -/
  ks : Nat
  nextCw : Nat
  badCws : List Nat
  mapDone : Bool
  dirsDone : Bool
  walk : Nat
  walkEnded : Bool
  cidx : Nat
  /-- The passed carrier whose payload still arrives. -/
  cur : Option OpenCar
  jumped : Bool
  todSeen : Bool
  deriving DecidableEq, Repr

/-- Fragment state of a flow on a channel (R105). An open one names the frame, the payload bytes of its fragments less tags,
and the `SEQ_VALID` and `SEQ` of the first (R106). -/
inductive FragState | closed | opened (fid bytes : Nat) (seqValid : Bool) (seq : Nat) | discarding
  deriving DecidableEq, Repr

/-- A pending GCM tag verdict (R477). -/
structure Verdict where
  fid : Nat
  flow : Nat
  keyIndex : Nat
  good : Bool
  noKey : Bool
  /-- The carrier is a flume container of this client. -/
  client : Option Nat
  /-- Position of the container in the client's queue. -/
  part : Nat
  deriving DecidableEq, Repr

/-- A flume container that has left decryption (R107, R397): its client, channel, data after the tag is removed, and
whether its bytes and its tag were good. -/
structure FlumeIn where
  fid : Nat
  client : Nat
  ch : Nat
  data : Bytes
  bad : Bool
  at0 : Nat
  deriving DecidableEq, Repr

/-- One channel's receiver. -/
structure Rx where
  st : RxState
  psd : Bool
  cdr : Bool
  calibrated : Bool
  cands : List Cand
  /-- Barred offsets with the instant each was barred, oldest first (R84). -/
  barred : List (Nat × Nat)
  window : Bool
  expPos : Nat
  expSfc : Nat
  latched : Option (Nat × Nat)
  chId : Nat
  heId : Nat
  badRun : Nat
  /-- Goodness of the last 8 frames, newest first. -/
  last8 : List Bool
  firstFrame : Bool
  sfc : Nat
  syncTime : Nat
  leftSyncAt : Nat
  /-- The last used frame (R207): SFC, arrival instant, measured. -/
  lastUsed : Option (Nat × Nat × Bool)
  /-- The frames whose codewords or carriers are still under way, oldest first. -/
  rxq : List RxFrame
  /-- After an exit from Sync, the frames that arrived in Sync and whose codewords are still in the decoder: position and
  next codeword (R111). -/
  late : List (Nat × Nat)
  lastArrival : Nat
  frags : List (Nat × FragState)
  verdicts : List Verdict
  deriving DecidableEq, Repr

/-- Where a frame stands before it is committed or undone (Table 07-1, R273, R279). -/
inductive Stage
  /-- Its parse window is not complete. -/
  | arriving
  /-- Its window is complete and its first buffer is still being decided (R279). -/
  | noBuffer
  /-- In its source's wait queue. -/
  | waiting
  /-- Committed toward a sack-hoist queue; its entry is not granted yet (R264, R319). -/
  | hoistAsk
  /-- In a sack-hoist queue (R264). -/
  | hoist
  /-- Running, before the ternary result. -/
  | parsing
  /-- Running, with a flow-table lookup open. -/
  | lookup
  /-- Running, its action known. -/
  | program
  /-- The program has ended and a late check is open. -/
  | awaiting
  /-- Every check has passed. -/
  | ready
  /-- Undone or dropped before its last byte; the rest is discarded (R283). -/
  | orphan
  deriving DecidableEq, Repr

/-- What the parser takes from the dictionary when a parse starts (R238). -/
structure ParseCfg where
  tpidAlt : Nat
  ecpriPort : Nat
  vdpType : Nat
  deriving DecidableEq, Repr

/-- A frame inside the terminal, from its arrival to its commit or undo (R14, R109, R236). -/
structure Frame where
  fid : Nat
  /-- Ingress source (Table 07-2). -/
  src : Nat
  inPort : Nat
  /-- The bytes so far, without FCS. -/
  data : Bytes
  /-- The last byte has arrived. -/
  complete : Bool
  /-- Its rest will never come: discarded by the framer, or by the reorder (R70, R106, R222). -/
  cut : Bool
  /-- It was undone; what still comes of it counts in `CTX_ORPHAN_FRAGMENTS` (R283). -/
  undone : Bool
  /-- The parser's configuration when its parse started (R238). -/
  cfg : ParseCfg
  /-- The instant of the ingress stamp, and whether it is uncalibrated (R431). -/
  stamp : Nat
  uncal : Bool
  flow : Nat
  flowTag : Nat
  /-- Channel of a PON frame. -/
  ponCh : Option (Fin 4)
  bonded : Bool
  encrypted : Bool
  /-- Payload bytes of the carriers that have begun, less tags (R302). -/
  known : Nat
  fecBad : Bool
  /-- Cause 6 of Table 07-3 holds. -/
  truncated : Bool
  tagsOpen : Nat
  tagBad : Bool
  fcs : Option Bool
  oversize : Bool
  express : Bool
  /-- Handed to the engines: its first carrier has left decryption and no reorder holds it. -/
  ready : Bool
  stage : Stage
  /-- Its order point (R276): the instant and a number that breaks ties. -/
  order : Option (Nat × Nat)
  /-- When it began to wait (R279). -/
  since : Nat
  ctxAt : Nat
  cluster : Nat
  engine : Nat
  /-- Pass number from 0, and the pass limit of the first pass (R263). -/
  pass : Nat
  maxPasses : Nat
  /-- Generation stamp; 2 before the stamp and once the frame has left the engines (R268). -/
  generation : Nat
  region : Nat
  /-- The committing region that asks for its sack-hoist entry (Table 08-9). -/
  askFrom : Nat
  hash : Nat
  /-- The key of Table 06-4 and the descriptor of R244. -/
  key : Nat
  desc : List Nat
  /-- Offsets of the PTP header and of the UDP header before it. -/
  ptp : Option (Nat × Option Nat)
  /-- End checks still open: header code and the frame length that the header needs (Table 06-2). -/
  ends : List (Nat × Nat)
  /-- Conflicts found: header code, 1 window or 2 end (R272). -/
  conflicts : List (Nat × Nat)
  /-- The pass takes the action drop without a lookup (Table 06-3). -/
  lcDrop : Bool
  /-- An End check has failed under `LC_MODE` 0: cause 4 holds. -/
  endBad : Bool
  /-- The layer-2 re-entry pass (R241). -/
  l2 : Bool
  /-- Cause 5 holds: undone when every other check has passed (R243). -/
  reentry : Bool
  miss : Bool
  /-- Recirculation metadata, 16 bytes (R262). -/
  rmeta : Nat
  /-- What the feature image left at the program's end: metadata bytes 2-15 in bits [111:0], and the journal entries of
  its own above them. -/
  info : Nat
  /-- Rule row that matched (0xFFFF the default action, 0xFFFE a flow-table entry) and the action record. -/
  rule : Nat
  action : Nat
  /-- Flow-table lookup in progress: profile and packed key. -/
  emWait : Option (Nat × Nat)
  emRow : Option Nat
  learn : Option (Nat × Nat)
  /-- Worst colour of the passes so far: 1 green, 2 yellow, 3 red (R343). -/
  colour : Nat
  /-- The policer's colour in this pass, and the metering length. -/
  passColour : Option (Nat × Nat)
  /-- Tentative debit: policer, Tc and second bucket in 2^-32 byte, and the policer's configuration count (R281). -/
  debit : Option (Nat × Nat × Nat × Nat)
  /-- Marked by a `TIMESTAMP` action (R449). -/
  marked : Bool
  /-- Its buffer, and the buffer of a promotion under way after it. -/
  handles : List Nat
  /-- The owner of its buffers (Table 08-5). -/
  owner : Nat
  /-- Its next request at the hopper is being decided. -/
  asking : Bool
  /-- Cut-through has begun toward this host class (R291). -/
  ct : Option Nat
  /-- Submitted by the control cores toward this class, and its one-step mode with its time (R446). -/
  cpuEgress : Option Nat
  oneStep : Nat
  tag : Nat
  deriving DecidableEq, Repr

/-- A committed frame in a queue (R327), or a queued flume container (R403). -/
structure QFrame where
  fid : Nat
  queue : Nat
  data : Bytes
  total : Nat
  flow : Nat
  bond : Option Nat
  hash : Nat
  seqValid : Bool
  seq : Nat
  colour : Nat
  at0 : Nat
  ts : Option Nat
  tag : Nat
  handles : List Nat
  chMask : Nat
  flume : Option Nat
  ingress : Nat
  ptpOff : Option Nat
  udpOff : Option Nat
  oneStep : Nat
  express : Bool
  fromPort : Bool
  src : Nat
  /-- `TS_LOST` of the descriptor: its capture found the time-stamp queue full (R450). -/
  tsLost : Bool := false
  deriving DecidableEq, Repr

/-! ### Chapter 03: activation -/

/-- An upstream directive in the queue, or awaiting its Acknowledge (R130, R131). -/
structure UpDir where
  type : Nat
  seq : Nat
  content : Nat
  sends : Nat
  /-- Frame count of the last send. -/
  sentAt : Nat
  deriving DecidableEq, Repr

/-- A directive the framer passed, with the context of its frame. -/
structure DirIn where
  type : Nat
  d : Directive
  sfc : Nat
  arrival : Nat
  measured : Bool
  tod : Bool
  firstTod : Bool
  jumped : Bool
  deriving DecidableEq, Repr

/-- A scheduled EqD change (R144): the value or the delta, and from which upstream frame. -/
structure EqdChange where
  immediate : Bool
  sfc : Nat
  delta : Bool
  value : Int
  source : Nat
  power : Option Nat
  deriving DecidableEq, Repr

structure Announce where
  sfc : Nat
  delay : Nat
  profile : Nat
  preEqd : Nat
  /-- `ALL` of the window: Announced answers it too (R136). -/
  all : Bool
  deriving DecidableEq, Repr

/-- A one-byte write through OPT_SCL and OPT_SDA (R146). -/
structure OptWrite where
  /-- 7-bit device address. -/
  device : Nat
  /-- Register address. -/
  register : Nat
  data : Nat
  deriving DecidableEq, Repr

/-- What an OPT master sends: START and STOP conditions, bare clocks on OPT_SCL, and bytes, each with the clock of its
acknowledgement. -/
inductive I2c where
  | start
  | stop
  | clock
  | byte (b : Nat)
  deriving DecidableEq, Repr

/-- A DONE handover (R152). -/
structure Handover where
  target : Fin 4
  sfc : Nat
  tid : Nat
  eqd : Nat
  /-- The source's mark of the handover frame has arrived. -/
  reached : Bool
  deriving DecidableEq, Repr

structure Act where
  st : ActState
  tid : Nat
  eqd : Nat
  rtd : Nat
  rtdValid : Bool
  session : Session
  tAnnounce : Option Nat
  tRange : Option Nat
  tLost : Option Nat
  upq : List UpDir
  await : List UpDir
  upSeq : Nat
  /-- `TYPE`, `SEQ`, frame count at acceptance and the `SEQ` of the answer, of directives accepted in 16 frames. -/
  dups : List (Nat × Nat × Nat × Option UpDir)
  announce : Option Announce
  /-- Trigger 5 waits for the next evaluation. -/
  announced : Bool
  eqdq : List EqdChange
  handover : Option Handover
  /-- The channel left Sync since the last evaluation. -/
  leftSync : Bool
  /-- A guard trip waits: true for a second trip within 60 s. -/
  trip : Option Bool
  prev : Option Nat
  pEst : Option Int
  /-- SFCs of the upstream frames whose bursts are suppressed, newest first (R147); a burst rises at most 4 frames after
  its mark, so the newest 8 are kept. -/
  suppressed : List Nat
  powerLevel : Nat
  /-- The optics write under way, and the last one that the optics acknowledged (R146). -/
  optPending : Option OptWrite
  optLast : Option OptWrite
  /-- What the master sent in the last transfer (R596). -/
  optSent : List I2c
  deactReason : Nat
  lastTripTime : Nat
  token : Nat
  renewAt : Option Nat
  /-- HE_NONCE echo and T_NONCE of the Registration to queue when the derivation ends. -/
  regNonce : Option (Nat × Nat)
  /-- The current derivation renews a confirmed session. -/
  renewing : Bool
  dirq : List DirIn
  frames : Nat
  evalAt : Nat
  /-- Trigger 1 waits: `ACT_ENABLE` was written 0 since the last evaluation. -/
  disabled : Bool
  /-- Trigger 19 waits: the silence record was cleared by acknowledgement. -/
  acked : Bool
  /-- `HEAD_END_ID` and `CHANNEL_ID` latched at entry to Intermittent. -/
  lostIds : Option (Nat × Nat)
  /-- `SEQ` of the Registration Nonce under derivation. -/
  regSeq : Nat
  /-- This channel is the target of a handover from that channel; true once its first frame has begun (R152). -/
  incoming : Option (Fin 4 × Handover × Bool)
  /-- `HANDOVER_SFC` and terminal ID of a handover that has left this channel: its bursts of earlier frames go on (R152). -/
  handedOff : Option (Nat × Nat)
  deriving DecidableEq, Repr

/-! ### Chapter 04: upstream bursts -/

/-- A burst profile (R168). -/
structure BurstProfile where
  valid : Bool
  stale : Bool
  p : Nat
  guardSlots : Nat
  pattern : Nat
  delimiter : Nat
  deriving DecidableEq, Repr

/-- A change of a profile from frame `sfc` on (R169, R170). -/
structure ProfChange where
  sfc : Nat
  idx : Nat
  prof : BurstProfile
  deriving DecidableEq, Repr

/-- What kind of burst a chain is. -/
inductive ChainKind | data | reportOnly | ranging | announce | forcedWake
  deriving DecidableEq, Repr

/-- A frame or fragment taken into a sealed chain, so that R187 can return it. -/
structure Taken where
  frame : QFrame
  row : Nat
  /-- `PLI` of its carrier, and whether the frame ended with it. -/
  bytes : Nat
  whole : Bool
  wasOpen : Bool
  /-- Line offset, from the burst header, of the end of the last carrier taken from it. -/
  lineEnd : Nat
  /-- Line offset of the header of that carrier. -/
  lineAt : Nat
  deriving DecidableEq, Repr

/-- An accepted chain of the channel (R171). Instants are ticks. -/
structure Chain where
  kind : ChainKind
  /-- `TERMINAL_ID` of the burst header. -/
  tid : Nat
  sfc : Nat
  chId : Nat
  grants : List (Grant × Nat)
  startSlot : Nat
  slots : Nat
  p : Nat
  guardSlots : Nat
  pattern : Nat
  delimiter : Nat
  /-- start(N) of its upstream frame, and whether mark N was measured. -/
  frameStart : Nat
  measured : Bool
  /-- Ticks of a frame of the recovered clock at its mark (R142). -/
  period : Nat
  /-- `ALL` of the window that a Serial Number burst answers. -/
  all : Bool
  riseAt : Nat
  /-- End of its last slot. -/
  endAt : Nat
  delay : Nat
  sealedAt : Option Nat
  /-- What the seal fixes (R180): `DS_SYNC_OK`, `EMERGENCY`, the directive with its coded bytes, and the Up members and
  bucket map of every bonding group (R214). -/
  dsOk : Bool
  emergency : Bool
  directive : Option UpDir
  dirBytes : Bytes
  bonds : List (List Nat × List Nat)
  filled : Bool
  content : Bytes
  taken : List Taken
  reports : Nat
  carriers : Nat
  payload : Nat
  idle : Nat
  fragments : Nat
  deriving DecidableEq, Repr

/-- A bandwidth map handed to the tailrace (R95). -/
structure MapIn where
  sfc : Nat
  arrival : Nat
  words : List (Nat × Bool)
  measured : Bool
  chId : Nat
  deriving DecidableEq, Repr

/-- A burst as it leaves on the line. -/
structure BurstOut where
  sfc : Nat
  seq : Nat
  startSlot : Nat
  slots : Nat
  riseAt : Nat
  /-- Its line bytes from the first preamble byte on, and the PAM4 levels that carry them (R155). -/
  line : Bytes
  levels : List Int
  deriving DecidableEq, Repr

structure Us where
  profs : Vector BurstProfile 4
  profq : List ProfChange
  profSeen : Option Nat
  maps : List MapIn
  chains : List Chain
  /-- End plus guard of the last accepted chain, in ticks (test 8). -/
  lastEnd : Nat
  burst : Option Chain
  burstSeq : Nat
  last : Option BurstOut
  pben : Bool
  fallAt : Nat
  windows : List (Nat × Nat)
  /-- Instant of the last sample with PBEN high outside every window. -/
  outside : Option Nat
  latched : Option Nat
  failSafe : Bool
  /-- The latch was held by Silenced. -/
  silenceHeld : Bool
  openFrags : List (Nat × QFrame)
  conflicts : List Nat
  /-- SFC and next CARRIER_INDEX of the upstream frame being filled. -/
  cidx : Nat × Nat
  abandoned : Option Nat
  curStart : Nat
  curSfc : Nat
  /-- SFC and EqD of the last accepted chain (R145). -/
  lastSfc : Nat
  lastEqd : Nat
  deriving DecidableEq, Repr

/-! ### Chapter 05: channel bonding -/

structure HeldFrame where
  seq : Nat
  fid : Nat
  at0 : Nat
  deriving DecidableEq, Repr

/-- A bonding group (Table 05-1) with its reorder. -/
structure Group where
  valid : Bool
  headOwned : Bool
  mode : Nat
  members : Nat
  up : Nat
  st : GroupState
  headEnd : Option Nat
  timeout : Nat
  expValid : Bool
  usNext : Nat
  expected : Nat
  map : List Nat
  held : List HeldFrame
  /-- A rebuild is due: some member left Up (true) or only returned (false). -/
  dirty : Option Bool
  change : Option (Nat × Nat)
  deriving DecidableEq, Repr

/-- Skew of a channel (R207). -/
structure Skew where
  pairs : List Int
  valid : Bool
  value : Int
  beyond : Bool
  isRef : Bool
  deriving DecidableEq, Repr

structure Bond where
  groups : Vector Group 64
  skew : Vector Skew 4
  refOf : Vector (Option Nat) 4
  /-- Frames whose first carrier has left decryption, with group, sequence flag and number. -/
  presented : List (Nat × Nat × Bool × Nat)
  deriving DecidableEq, Repr

/-- A table row's value before a write, with the instant of the write (R104, R163). -/
structure OldRow where
  tbl : Nat
  row : Nat
  old : Nat
  at0 : Nat
  deriving DecidableEq, Repr
/-! ### Chapter 06: rule-set generations -/

/-- The generations and the drain (R265-R268). -/
structure Rules where
  active : Nat
  draining : Bool
  flipAt : Nat
  deriving DecidableEq, Repr

/-! ### Chapter 08: the hopper and the arbiters -/

/-- A free list (R305): the buffers pushed since boot or the last rebuild, the head first, then the run `next .. last-1`
that has never been popped. -/
structure FreeList where
  pushed : List Nat
  next : Nat
  last : Nat
  rebuilding : Bool
  /-- Frees that wait for the rebuild (R307): handle, named owner, requester; no owner for one that the hopper makes itself. -/
  waiting : List (Nat × Option Nat × Nat)
  deriving DecidableEq, Repr

/-- What a buffer request is for (R301-R304, R402, R313). -/
inductive HopUse
  | first (fid : Nat)
  | promote (fid : Nat)
  | spill (old : Nat)
  | container (client part seq : Nat)
  | outside
  deriving DecidableEq, Repr

/-- A request presented at a pool port (R313). -/
structure HopReq where
  requester : Nat
  owner : Nat
  /-- Region whose slice is tried first (R298). -/
  region : Nat
  use : HopUse
  deriving DecidableEq, Repr

/-- A copy to a P2 buffer under way (R304). -/
structure Spill where
  old : Nat
  new : Nat
  owner : Nat
  deriving DecidableEq, Repr

structure Hop where
  /-- Counts in force (R299). -/
  counts : Vector Nat 5
  /-- Entries that are not Free: key handle, value state * 1,024 + owner (Table 08-3). -/
  state : Store
  lists : Vector FreeList 19
  /-- Free buffers with an uncorrectable error, not yet found by a pop (R308). -/
  bad : List Nat
  reqs : Vector (List HopReq) 5
  spills : List Spill
  overCommit : Vector Bool 5
  /-- Handles given to requests from outside: requester, owner, handle. -/
  given : List (Nat × Nat × Nat)
  deriving DecidableEq, Repr

/-- A credit arbiter (R318-R321). -/
structure Arb where
  credit : Vector Nat 16
  wait : Vector Nat 16
  /-- Weights in force since the last window. -/
  weight : Vector Nat 16
  /-- Winner of the last cycle's decision. -/
  winner : Option Nat
  brakeAt : Option Nat
  drained : Bool
  lastGrant : Nat
  deriving DecidableEq, Repr

/-! ### Chapter 09: queues, shapers, policers and gates -/

/-- A shaper that has been used or written: tokens in 2^-32 byte at a 375 MHz tick (R337). -/
structure Shaper where
  row : Nat
  tokens : Int
  tick : Nat
  /-- The tick of the last reset plus 1, 0 for none: what that tick still sees is `before` (R333, R339). -/
  resetAt : Nat
  /-- Tokens before the reset, none for a shaper that was disabled. -/
  before : Option Int
  deriving DecidableEq, Repr

/-- A policer that has been used or written: buckets in 2^-32 byte at a tick, and its configuration count (R340). -/
structure Policer where
  row : Nat
  tc : Nat
  te : Nat
  tick : Nat
  config : Nat
  /-- The 750 MHz cycle of the last write plus 1, 0 for none: meter operations of that cycle see `before` (R344). -/
  resetAt : Nat
  before : Nat × Nat
  /-- The 750 MHz cycle of the last meter operation plus 1, the buckets before the first operation of that cycle, and the
  operations of it: region, frame, metering length and pre-colour (R342). -/
  opsAt : Nat
  start : Nat × Nat
  ops : List (Nat × Nat × Nat × Nat)
  deriving DecidableEq, Repr

/-- A gate control list as it runs (R345-R348): instants in ns of device time. -/
structure Gcl where
  /-- All 256 entries, of which the first `length` are used. -/
  entries : List (Nat × Nat)
  length : Nat
  cycle : Nat
  anchor : Int
  deriving DecidableEq, Repr

structure PortGates where
  active : Option Gcl
  pending : Option Gcl
  changeAt : Int
  /-- Gates of the old entry that runs on, until this instant in 2^-40 ns (R348). -/
  overlap : Option (Nat × Int)
  /-- Gates that reached the scheduler (R346). -/
  gates : Nat
  /-- The tick of the last change of the gates plus 1, and the gates before that tick (R333). -/
  before : Nat × Nat
  deriving DecidableEq, Repr

structure Sch where
  /-- Frames in the host egress classes, in order of enqueue; `queue` is the observation index. -/
  hq : List QFrame
  shapers : List Shaper
  policers : List Policer
  deficits : Store
  /-- Round-robin pointers: per set, 0 the initial one, else 1 + 2 * queue + fresh. -/
  pointers : Store
  departs : Store
  /-- Per host class, one more than the number of the frame whose hold by the guard band has been counted (R351). -/
  guardHeld : Store
  /-- Writes of class rows that no selection has seen yet: tick, row, value before and after (R329, R333). -/
  rowChanges : List (Nat × Nat × Nat × Nat)
  gates : Vector PortGates 8
  deriving DecidableEq, Repr

/-! ### Chapter 10: host lanes and ports -/

/-- A frame at the egress of a MAC (R374). -/
structure Tx where
  frame : QFrame
  cls : Nat
  /-- Egress length with FCS. -/
  len : Nat
  startedAt : Nat
  /-- Instant of the egress stamp (R429), and whether the lane was not calibrated (R388). -/
  stamp : Nat
  uncal : Bool
  cutThrough : Bool
  committed : Bool
  /-- Bytes staged in the MAC's transmit buffer when the frame began (R376). -/
  staged : Nat
  /-- Stomped: 1 by undo, 2 by underrun. -/
  stomp : Nat
  /-- Instant of the stomp. -/
  stompAt : Nat
  /-- Source and cause of the undo that stomps it (R292). -/
  undoOf : Option (Nat × Nat)
  /-- Bytes sent in its earlier fragments. -/
  sent : Nat
  overrun : Bool
  /-- The close instant that it outlasts while its length is unknown (R352). -/
  closedAt : Option Nat
  deriving DecidableEq, Repr

structure Lane where
  signal : Bool
  locked : Bool
  calRx : Nat
  calTx : Nat
  losClear : Bool
  blockLock : Bool
  lostAt : Nat
  signalAt : Nat
  blockLostAt : Nat
  deriving DecidableEq, Repr

structure Port where
  st : PortState
  stAt : Nat
  tx : Option Tx
  /-- A preempted frame (R334). -/
  held : Option Tx
  ctStart : Nat
  clean : Nat
  preempt : Nat
  /-- When the verification under way began (R380). -/
  verifyAt : Nat
  /-- The last frame sent, with its FCS; a stomped one with the complement of it (R377). -/
  lastSent : Bytes
  deriving DecidableEq, Repr

/-- A pattern generator and its checker (R384-R386). Registers hold the last bits of a sequence, the newest in bit 0. -/
structure Prbs where
  /-- Generator: its register, the bits generated so far, and the bits of `INJECT` that are still to be inverted. -/
  gen : Nat
  made : Nat
  flip : Nat
  /-- The last levels that the generator sent. -/
  out : List Int
  /-- Checker: its register, the bits it has been seeded with, and the bits in a row that have matched. -/
  chk : Nat
  seeded : Nat
  run : Nat
  locked : Bool
  /-- Errors among the last 1,024 bits since lock, the newest first. -/
  errs : List Bool
  deriving DecidableEq, Repr

/-! ### Chapter 11: constant-rate clients and performance monitoring -/

/-- A member's part of a period as it arrives, or once complete (R408): bits and values of its last container. -/
structure CliPart where
  member : Nat
  gfc : Nat
  nextNo : Nat
  at0 : Nat
  /-- Data bytes so far as one number, and their count. -/
  data : Nat
  bytes : Nat
  /-- Every container but the last held 16,000 data bytes. -/
  full : Bool
  jc : Int
  ais : Bool
  pointer : Nat
  deriving DecidableEq, Repr

/-- A group frame with the parts that are complete, in order of completion (R409). -/
structure CliFrame where
  gfc : Nat
  parts : List CliPart
  deriving DecidableEq, Repr

/-- Client bits in the playout buffer (R410, R412); all ones where `ones`. -/
structure PlayFrame where
  gfc : Nat
  /-- Bits of the whole period, and those that are left. -/
  total : Nat
  bits : Nat
  ones : Bool
  val : Nat
  deriving DecidableEq, Repr

structure Cli where
  /-- The mapper has passed the boundary at which it starts (R396). -/
  started : Bool
  /-- Client bits received and not yet mapped: value and count. -/
  buf : Nat
  bufBits : Nat
  r : Nat
  gfc : Nat
  lastSent : Nat
  boundary : Nat
  /-- Loss of signal, and loss of block lock, at the last boundary. -/
  startLos : Bool
  startBlk : Bool
  /-- Cause of the run of all-ones periods sent; 0 none (R417). -/
  usOnes : Nat
  prevJc : Option Int
  /-- De-mapper state (Table 11-6). -/
  st : Nat
  parts : List CliPart
  frames : List CliFrame
  /-- Recent lost frames: `GFC` and the instant of the loss. -/
  lost : List (Nat × Nat)
  /-- Per member, the `GFC` of the last sound container and whether it was the last of its period (R408). -/
  heard : List (Nat × Nat × Bool)
  seekRun : Nat
  lostRun : Nat
  ptrRun : Nat
  /-- `GFC` of the last good frame, and the `POINTER` and JC that the next is checked against (R412, R413). -/
  lastGfc : Option Nat
  refPtr : Option (Nat × Int)
  lastPtr : Nat
  dsPrevJc : Option Int
  expected : Nat
  playout : List PlayFrame
  running : Bool
  playAt : Nat
  lastPlayed : Nat
  /-- The bits that have left on HTX since the last client period boundary: their number and value (R361, R387). -/
  out : Nat × Nat
  /-- Clock offset of HTX in ppb, and the integral of the loop in 2^-16 ppb (R415). -/
  y : Int
  integral : Int
  skewNs : Nat
  dsOnes : Nat
  lastAis : Bool
  lastSkew : Bool
  deriving DecidableEq, Repr

/-- What an entity has gathered in the present second (R419): errored blocks, a defect, words 8-15 of Table 11-11. -/
structure PmAcc where
  errored : Nat
  defect : Bool
  words : Vector Nat 8
  deriving DecidableEq, Repr

/-- A classified second held for 10 s (R420). -/
structure PmSec where
  second : Nat
  errored : Nat
  es : Bool
  ses : Bool
  uas : Bool
  words : Vector Nat 8
  deriving DecidableEq, Repr

/-- A bin: start, suspect bit and words 2-15 (Table 11-11). -/
structure PmBin where
  start : Nat
  suspect : Bool
  words : Vector Nat 14
  deriving DecidableEq, Repr

/-- The bins of one width of an entity, newest recent bin first, the spans of seconds that make a bin suspect, and the second
in which Run and Idle were left, while they are (R420). -/
structure PmBins where
  cur : Option PmBin
  recent : List PmBin
  marks : List (Nat × Nat)
  out : Option Nat
  deriving DecidableEq, Repr

structure PmEntity where
  acc : PmAcc
  held : List PmSec
  unavail : Bool
  quarter : PmBins
  day : PmBins
  deriving DecidableEq, Repr

/-- Counts of the present second for the compatibility block (R422): per channel uncorrectable and corrected codewords,
bits corrected, frames used, HEC errors, bursts; per client lost frames, CRC errors, stuffs, `AIS` frames. -/
structure Compat where
  ch : Vector (Vector Nat 6) 4
  cli : Vector (Vector Nat 4) 8
  deriving DecidableEq, Repr

/-! ### What survives a restart -/

/-- The always-on island with its retention SRAM (R59, R512-R514, R572, R573). -/
structure Island where
  attempts : Nat
  /-- Safe mode has been entered since the counter reached 3 (R512, R513). -/
  servedSafe : Bool
  resetCause : Nat
  bootReason : Nat
  /-- Failed starts that the next start logs: reason and attempt count (R512). -/
  failedStart : Option (Nat × Nat)
  wakeLatch : Nat
  /-- The wake sources that fired last while no entry ran, and when: an entry accepted in the same cycle captures them (R496). -/
  wakeAt : Nat
  wakeBits : Nat
  alertCause : Nat
  kept : List EvRec
  held : List EvRec
  heldLost : Nat
  lastSeq : Nat
  lastTime : Nat
  defaultsOnce : Bool
  lastManager : Nat
  wasManager : Bool
  staggerMs : Nat
  replay : Store
  pwrEn : Vector Bool 4
  oscEn : Bool
  /-- The last calibration of the always-on oscillator, and the error in ppm that it left (R48). -/
  oscCalAt : Option Nat
  oscErr : Int
  stop : Vector Bool 4
  silence : Vector Bool 4
  lastTrip : Vector (Option Nat) 4
  /-- Directives that woke the package, and how many did not fit (R502). -/
  heldDirs : List (Fin 4 × DirIn)
  keptTod : Option (Fin 4 × DirIn)
  deriving DecidableEq, Repr

/-- A stored copy of the dictionary (R562). -/
structure StoredCopy where
  /-- The layout revision of the image that stored it. -/
  layout : Nat
  seq : Nat
  dict : Store
  tab : Store
  bytes : Nat
  deriving DecidableEq, Repr

/-- A run of equal transactions of the QSPI controller (R595): its command, the 4-byte address of the first and the distance
to the next, their number, the dummy cycles and the data bytes of each. -/
structure QspiRun where
  cmd : Nat
  addr : Nat
  stride : Nat
  count : Nat
  dummy : Nat
  bytes : Nat
  deriving DecidableEq, Repr

/-- The boot flash (Table 14-7). -/
structure Flash where
  copies : Vector (Option StoredCopy) 2
  /-- The copy being written (R562): slot and content. -/
  writing : Option (Fin 2 × StoredCopy)
  blobs : Vector Bytes 3
  epoch : Nat
  images : Vector Bytes 2
  /-- The life record (R604). -/
  lifeMs : Vector Nat 4
  lifeTjSum : Int
  lifeSamples : Nat
  vaonRises : Nat
  stop : Vector Bool 4
  /-- Sequence number of the newer copy of the record area: stop record, capture epoch and counters (R510). -/
  recSeq : Nat
  /-- The last 32 runs of transactions on the QSPI (MODEL's own bound), the oldest first (R595). -/
  qspi : List QspiRun
  deriving DecidableEq, Repr

/-- The state of the block. -/
structure State where
  /-- The commands that wait, first in, first out. -/
  pending : List Instr
  /-- The instant of the last command, in ticks (MODEL's own). -/
  now : Nat
  /-- Draws taken from the hardware random source so far (MODEL's own counter). -/
  draws : Nat
  /-- The status of the last host write (R608). -/
  status : Status
  /-- The bytes of the last value a host read returned. -/
  value : Bytes
  /-- Values of dictionary objects that differ from their Default: key index * 256 + subindex. -/
  dict : Store
  /-- Table rows that differ from their reset value: key (index - 0x6000) * 2^24 + row. -/
  tab : Store
  il : Il
  time : TimeSt
  ciph : Ciph
  pwr : Pwr
  bus : Bus
  log : EvLog
  cap : Capture
  mon : Mon
  jtag : Jtag
  rx : Vector Rx 4
  act : Vector Act 4
  us : Vector Us 4
  bond : Bond
  nextFid : Nat
  frames : List Frame
  /-- Frames and containers in the 2,048 upstream queues, in order of commit. -/
  usq : List QFrame
  /-- Frames that the PTP stack and the dictionary server submit: bytes, egress class index, one-step mode (R446). -/
  cpuq : List (Bytes × Nat × Nat)
  /-- Report latched at Sleep entry per allocation row (R189). -/
  latchedReports : Store
  oldRows : List OldRow
  /-- Flume containers on their way to the client de-mapper. -/
  flumeIn : List FlumeIn
  rules : Rules
  hop : Hop
  arb : Vector Arb 23
  /-- Next order number (R276). -/
  nextOrd : Nat
  /-- Frames in the control-core mailbox with reason code and committing region, and those the firmware has accepted
  (R58, R310). -/
  mailbox : List (QFrame × Nat × Nat)
  accepted : List (QFrame × Nat × Nat)
  /-- `CTX_LAST_UNDO` (Table 07-7). -/
  lastUndo : Bytes
  /-- The last undo, for causes decided in the same cycle (R284): frame, 750 MHz cycle and cause. -/
  undoneNow : Option (Frame × Nat × Nat)
  /-- The shortfall of R278 and when it was last counted. -/
  quotaShort : Bool
  quotaShortAt : Nat
  sch : Sch
  lanes : Vector Lane 8
  ports : Vector Port 8
  /-- Pattern generators and checkers, rows 0-11 (R384-R386). -/
  prbs : Vector Prbs 12
  cli : Vector Cli 8
  pm : Vector PmEntity 12
  compat : Compat
  /-- The latch of the compatibility block: the counts of the last whole second, the channels that were not in Sync and the
  clients that were not Locked (R422). -/
  compatLast : Compat
  compatDown : Vector Bool 4 × Vector Bool 8
  /-- Next number of a flume container (MODEL's own). -/
  nextCont : Nat
  island : Island
  flash : Flash
  deriving DecidableEq, Repr


/-! ### Reset -/

/-- The Default lane counts of Table 16-7. -/
def IlDir.init : IlDir :=
  { active := List.range 38, spares := [38, 39], failed := 0, repairs := [], markNo := 0, missed := [], kept := [],
    replay := 0, got := [] }

def Clock.init : Clock := { at0 := 0, val := 0, rate := 0 }

def Dom.init : Dom :=
  { clk := Clock.init, state := .freeRun, last := none, pair := none, integral := 0, outliers := 0, run := none,
    lastUsable := 0, lockedAt := 0, holdoverAt := 0, hist := [], theta := 0, headEnd := none }

def TimeSt.init : TimeSt :=
  { doms := Vector.replicate 2 Dom.init, selected := 0, delta := 0, deltaAt := 0, tsq := [], tsNext := 0,
    gapCpu := false, gapHost := false, ppsInLast := none, ppsInOffset := 0, ppsInFaulted := false, ppsOutRise := none,
    ppsOutUntil := 0, tlSeq := 0, tlDriving := false, tlOut := 0, tlLastGood := none, tlLastSeq := 0, tlFault := false,
    stepped := false, eps := Vector.replicate 4 [], dd := Vector.replicate 4 0, ptpSyncSeq := 0, ptpAnnSeq := 0,
    ptpSyncAt := none, ptpAnnAt := none }

def Slot.empty : Slot :=
  { st := .free, len256 := false, index := 0, newest := false, txCh := 0, sessionCh := 0, tag := 0, flow := 0, key := [] }

/-- Slot 255 is the all-zero key, fixed (Table 13-2). -/
def Ciph.init : Ciph :=
  { slots := (Vector.replicate 256 Slot.empty).set 255
      { Slot.empty with st := .fixed, len256 := true, key := List.replicate 32 0 }
    prevFlag := Vector.replicate 4 false, staged := Vector.replicate 4 none, unwraps := [],
    derive := Vector.replicate 4 none, blobRun := Vector.replicate 3 none, blobState := Vector.replicate 3 0,
    txKeys := [], jobs := [], lane := none, nextJob := 1, results := [] }

def Region.init : Region :=
  { lowRun := 0, limited := false, limitedSince := 0, busy := 0, busyActive := 8, msLow := true, msLimited := true,
    msBusy := 0, msWindows := 0 }

def Pwr.init : Pwr :=
  { state := .run, target := .run, phase := .boot 1, phaseAt := 0, entryAt := 0, exitAt := 0, pending := none,
    cause := 0, wakeCause := 0, lastExitUs := 0, watch := none, thermal := false, allow := Vector.replicate 4 none,
    heSleep := none, heWait := none, quietSince := 0, idleSince := 0, frozenAt := 0,
    pwrGood := Vector.replicate 4 true, serverStopped := false, govActing := false,
    clusters := Vector.replicate 64 .active, regions := Vector.replicate 8 Region.init, groupFrames := [],
    initWdAt := some 0, loaderAt := none, bootAt := 0, freshAt := 0, msAt := 0, imageSeqs := (0, 0), image := 0,
    imageSeqRun := 0, imageVersion := 0, dictLayout := 0, loaded := none }

def Member.init : Member :=
  { st := .absent, mgrCapable := false, safeMode := false, pwrState := 0, misses := 0, siliconRev := 0, serial := 0,
    imageSeq := 0, lastSeen := 0, attempts := 0, answered := true }

def Bus.init : Bus :=
  { addr := 0, mgrCapable := true, bootSel := 0, term := false, manager := false, tracked := none, heardAt := 0,
    txq := [], sending := none, sendAt := none, collisions := 0, backoffUntil := none, freeAt := 0, answered := [], transfers := [],
    nextHandle := 1, subs := [], members := Vector.replicate 64 Member.init, forwards := [], nextTxn := 1, merge := [],
    mergedTo := 0, heartbeatAt := none, txLow := 0 }

def Mon.init : Mon :=
  { temps := Vector.replicate 13 0, tempMax := Vector.replicate 13 (-32768), alarm := false, railMv := Vector.replicate 8 0,
    railOut := Vector.replicate 8 0, railState := Vector.replicate 8 0, lifeMs := Vector.replicate 4 0, lifeTj := 0,
    lifeN := 0, lifeAt := 0 }

def Rx.init : Rx :=
  { st := .disabled, psd := false, cdr := false, calibrated := false, cands := [], barred := [], window := false,
    expPos := 0, expSfc := 0, latched := none, chId := 0, heId := 0, badRun := 0, last8 := [], firstFrame := false,
    sfc := 0, syncTime := 0, leftSyncAt := 0, lastUsed := none, rxq := [], late := [], lastArrival := 0, frags := [],
    verdicts := [] }

def Act.init : Act :=
  { st := .initial, tid := 1023, eqd := 0, rtd := 0, rtdValid := false, session := .none, tAnnounce := none,
    tRange := none, tLost := none, upq := [], await := [], upSeq := 0, dups := [], announce := none, announced := false,
    eqdq := [], handover := none, leftSync := false, trip := none, prev := none, pEst := none, suppressed := [],
    powerLevel := 0, optPending := none, optLast := none, optSent := [], handedOff := none, deactReason := 0, lastTripTime := 0, token := 0, renewAt := none,
    regNonce := none, renewing := false, dirq := [], frames := 0, evalAt := 0,
    disabled := false, acked := false, lostIds := none, regSeq := 0, incoming := none }

def BurstProfile.init : BurstProfile :=
  { valid := false, stale := false, p := 0, guardSlots := 0, pattern := 0, delimiter := 0 }

def Us.init : Us :=
  { profs := Vector.replicate 4 BurstProfile.init, profq := [], profSeen := none, maps := [], chains := [], lastEnd := 0,
    burst := none, burstSeq := 0, last := none, pben := false, fallAt := 0, windows := [], outside := none,
    latched := none, failSafe := true, silenceHeld := false, openFrags := [], conflicts := [], cidx := (0, 0),
    abandoned := none, curStart := 0, curSfc := 0, lastSfc := 0, lastEqd := 0 }

def Group.init : Group :=
  { valid := false, headOwned := false, mode := 0, members := 0, up := 0, st := .unconfigured, headEnd := none,
    timeout := 250, expValid := false, usNext := 0, expected := 0, map := [], held := [], dirty := none, change := none }

def Skew.init : Skew := { pairs := [], valid := false, value := 0, beyond := false, isRef := false }

def Bond.init : Bond :=
  { groups := Vector.replicate 64 Group.init, skew := Vector.replicate 4 Skew.init, refOf := Vector.replicate 4 none,
    presented := [] }

def Rules.init : Rules := { active := 0, draining := false, flipAt := 0 }

/-- The counts of Table 08-1. -/
def Hop.defaultCounts : Vector Nat 5 := #v[65536, 16384, 1048576, 131072, 32768]

/-- The free lists of a carving (R298, R305): eight slices of P0, eight of P1, then P2, P3 and P4. -/
def Hop.listsOf (cnt : Vector Nat 5) : Vector FreeList 19 :=
  Vector.ofFn fun l =>
    let mk := fun (a b : Nat) => { pushed := [], next := a, last := b, rebuilding := false, waiting := [] : FreeList }
    if l.val < 8 then mk (l.val * (cnt[0] / 8)) ((l.val + 1) * (cnt[0] / 8))
    else if l.val < 16 then mk ((l.val - 8) * (cnt[1] / 8)) ((l.val - 7) * (cnt[1] / 8))
    else if l.val = 16 then mk 0 cnt[2] else if l.val = 17 then mk 0 cnt[3] else mk 0 cnt[4]

def Hop.init : Hop :=
  { counts := Hop.defaultCounts, state := [], lists := Hop.listsOf Hop.defaultCounts, bad := [],
    reqs := Vector.replicate 5 [], spills := [], overCommit := Vector.replicate 5 false, given := [] }

def Arb.init : Arb :=
  { credit := Vector.replicate 16 0, wait := Vector.replicate 16 0, weight := Vector.replicate 16 0, winner := none,
    brakeAt := none, drained := false, lastGrant := 0 }

def PortGates.init : PortGates := { active := none, pending := none, changeAt := 0, overlap := none, gates := 0xFF, before := (0, 0xFF) }

def Sch.init : Sch :=
  { hq := [], shapers := [], policers := [], deficits := [], pointers := [], departs := [], guardHeld := [], rowChanges := [],
    gates := Vector.replicate 8 PortGates.init }

def Lane.init : Lane :=
  { signal := false, locked := false, calRx := 0, calTx := 0, losClear := false, blockLock := false, lostAt := 0,
    signalAt := 0, blockLostAt := 0 }

def Prbs.init : Prbs :=
  { gen := 0, made := 0, flip := 0, out := [], chk := 0, seeded := 0, run := 0, locked := false, errs := [] }

def Port.init : Port :=
  { st := .disabled, stAt := 0, tx := none, held := none, ctStart := 512, clean := 0, preempt := 0, verifyAt := 0, lastSent := [] }


def Cli.init : Cli :=
  { started := false, buf := 0, bufBits := 0, r := 0, gfc := 0, lastSent := 0, boundary := 0, startLos := true,
    startBlk := true, usOnes := 0, prevJc := none, st := 0, parts := [], frames := [], lost := [], heard := [], seekRun := 0,
    lostRun := 0, ptrRun := 0, lastGfc := none, refPtr := none, lastPtr := 0, dsPrevJc := none, expected := 0,
    playout := [], running := false, playAt := 0, lastPlayed := 0, out := (0, 0), y := 0, integral := 0, skewNs := 0, dsOnes := 0, lastAis := false,
    lastSkew := false }

def PmAcc.init : PmAcc := { errored := 0, defect := false, words := Vector.replicate 8 0 }

def PmBins.init : PmBins := { cur := none, recent := [], marks := [], out := none }

def PmEntity.init : PmEntity :=
  { acc := PmAcc.init, held := [], unavail := false, quarter := PmBins.init, day := PmBins.init }

def Compat.init : Compat :=
  { ch := Vector.replicate 4 (Vector.replicate 6 0), cli := Vector.replicate 8 (Vector.replicate 4 0) }

/-- The always-on island after the first rise of VAON: nothing recorded. -/
def Island.init : Island :=
  { attempts := 0, servedSafe := false, resetCause := 2, bootReason := 0, failedStart := none, wakeLatch := 0, wakeAt := 0, wakeBits := 0, alertCause := 0xFFFF,
    kept := [], held := [], heldLost := 0, lastSeq := 0, lastTime := 0, defaultsOnce := false, lastManager := 0,
    wasManager := false, staggerMs := 50, replay := [], pwrEn := Vector.replicate 4 true, oscEn := true,
    oscCalAt := none, oscErr := 0, stop := Vector.replicate 4 false, silence := Vector.replicate 4 false,
    lastTrip := Vector.replicate 4 none, heldDirs := [], keptTod := none }

/-- A boot flash with no stored copy and no blob. -/
def Flash.init : Flash :=
  { copies := Vector.replicate 2 none, writing := none, blobs := Vector.replicate 3 (List.replicate 40 0), epoch := 0,
    images := Vector.replicate 2 [], lifeMs := Vector.replicate 4 0,
    lifeTjSum := 0, lifeSamples := 0, vaonRises := 0, stop := Vector.replicate 4 false, recSeq := 0, qspi := [] }

/-- The block right after RESET_N is released: step 1 of the cold boot begins (R509, R587). -/
def State.reset : State :=
  { pending := [], now := 0, draws := 0, status := .ok, value := [], dict := [], tab := [],
    il := { st := 0, relAt := 0, checked := false, dirs := Vector.replicate 2 IlDir.init }
    time := TimeSt.init, ciph := Ciph.init, pwr := Pwr.init, bus := Bus.init,
    log := { ring := [], lastAt := [], withheld := [], unsent := [], zeroed := [] }
    cap := { ring := [], nextNo := 0, nextOff := 0, stopped := false, held := 0 }
    mon := Mon.init
    jtag := { held := true, instr := .idcode, boundary := 0, shift := 0 }
    rules := Rules.init, hop := Hop.init, arb := Vector.replicate 23 Arb.init, nextOrd := 1, mailbox := [],
    accepted := [], lastUndo := List.replicate 32 0, undoneNow := none, quotaShort := false, quotaShortAt := 0, sch := Sch.init,
    lanes := Vector.replicate 8 Lane.init, ports := Vector.replicate 8 Port.init,
    prbs := Vector.replicate 12 Prbs.init
    cli := Vector.replicate 8 Cli.init, pm := Vector.replicate 12 PmEntity.init, compat := Compat.init
    compatLast := Compat.init, compatDown := (Vector.replicate 4 false, Vector.replicate 8 false), nextCont := 1
    rx := Vector.replicate 4 Rx.init, act := Vector.replicate 4 Act.init, us := Vector.replicate 4 Us.init,
    bond := Bond.init, nextFid := 1, frames := [], usq := [], cpuq := [], latchedReports := [], oldRows := [], flumeIn := [],
    island := Island.init, flash := Flash.init }
end Sys2Proof.Machine
end

