-- ==== Sys2Proof/Machine/Ops.lean ====
section
/-! DEFINITION. The named operations over the state: sparse stores, the dictionary, counters, clocks, draws and the event log. -/
namespace Sys2Proof.Machine

/-! ### Sparse stores -/

/-- The value of a key, or its default where no entry lists it. -/
def stGet (dflt : Nat) : Store → Nat → Nat
  | [], _ => dflt
  | (k, v) :: m, q => if q = k then v else stGet dflt m q

/-- Removes the entry of a key. -/
def stDel : Store → Nat → Store
  | [], _ => []
  | (k, v) :: m, q => if q = k then stDel m q else (k, v) :: stDel m q

/-- Puts an entry at its place in rising key order. -/
def stIns : Store → Nat → Nat → Store
  | [], q, x => [(q, x)]
  | (k, v) :: m, q, x =>
    if q < k then (q, x) :: (k, v) :: m else if q = k then (q, x) :: m else (k, v) :: stIns m q x

/-- Writes a value, keeping the form: keys rising, no entry equal to the default. -/
def stSet (dflt : Nat) (m : Store) (k v : Nat) : Store := if v = dflt then stDel m k else stIns m k v

/-- The canonical form with respect to a default per key: keys strictly rising, no entry at its default. -/
def stWf (dflt : Nat → Nat) : Store → Bool
  | [] => true
  | [(k, v)] => v != dflt k
  | (k, v) :: (k2, v2) :: m => v != dflt k && k < k2 && stWf dflt ((k2, v2) :: m)

/-! ### Instants -/

/-- The state at the instant of a command; time never runs back (log entry 1). -/
def State.advance (s : State) (t : Nat) : State := { s with now := max s.now t }

/-! ### The dictionary -/

/-- The carved counts of Table 08-1. -/
def defaultCarve (p : Nat) : Nat :=
  match p with
  | 0 => 65536
  | 1 => 16384
  | 2 => 1048576
  | 3 => 131072
  | _ => 32768

/-- The Default of an object (R8), by index and subindex. -/
def objDefault (idx sub : Nat) : Nat :=
  if idx = Obj.US_DEFAULT_ROW then sub - 1
  else if idx = Obj.TIME_DOM_SOURCE then (if sub = 1 then 1 else 0)
  else if idx = Obj.HOP_CARVE ∨ idx = Obj.HOP_POOL_MIN_FREE then defaultCarve (sub - 1)
  else match objRow? idx with
    | some r => r.dflt
    | none => 0

/-- The default of a dictionary key. -/
def dictDflt (k : Nat) : Nat := objDefault (k / 256) (k % 256)

/-- The stored value of an object, as an unsigned pattern of its type. -/
def State.obj (s : State) (idx : Nat) (sub : Nat := 0) : Nat :=
  stGet (dictDflt (idx * 256 + sub)) s.dict (idx * 256 + sub)

/-- Writes the stored value of an object. -/
def State.setObj (s : State) (idx sub v : Nat) : State :=
  { s with dict := stSet (dictDflt (idx * 256 + sub)) s.dict (idx * 256 + sub) v }

/-- A stored object read as a flag. -/
def State.flag (s : State) (idx : Nat) (sub : Nat := 0) : Bool := s.obj idx sub != 0

/-- The limit at which a counter of an object's type stays (R111). -/
def counterMax (idx : Nat) : Nat :=
  match objRow? idx with
  | some r => if r.ty = .u32 then 0xFFFFFFFF else 0xFFFFFFFFFFFFFFFF
  | none => 0xFFFFFFFFFFFFFFFF

/-- Adds to a counter; a U32 counter saturates (R111). -/
def State.bump (s : State) (idx : Nat) (sub : Nat := 0) (n : Nat := 1) : State :=
  s.setObj idx sub (min (counterMax idx) (s.obj idx sub + n))

/-- The subindex of a channel, port, lane or region (Objects, fields and states of chapter 00). -/
def sub {n : Nat} (i : Fin n) : Nat := i.val + 1

/-! ### Tables -/

/-- The severity a source resets to (R571). -/
def defaultSeverity (src : Nat) : Nat :=
  if (Ev.GUARD_TRIP ≤ src && src < Ev.GUARD_TRIP + 4) || src = Ev.BOOT_SAFE_MODE || src = Ev.PWR_THERMAL_SHUTDOWN ||
    src = Ev.MEM_ECC_UNCORRECTABLE || src = Ev.IL_FAILED || src = Ev.ROOT_PLL_UNLOCK then 3
  else if (Ev.SYNC_LOST ≤ src && src < Ev.SYNC_LOST + 4) || (Ev.LINK_DOWN ≤ src && src < Ev.LINK_DOWN + 8) ||
    src = Ev.IL_LANE_FAILED || src = Ev.HOP_OVERCOMMIT || src = Ev.MANAGER_LOST || src = Ev.WORKER_LEFT ||
    (Ev.TIME_STATE_CHANGED ≤ src && src < Ev.TIME_STATE_CHANGED + 2) then 2
  else 1

/-- A source that is in use (Table 07-2). -/
def sourceUsed (r : Nat) : Bool := decide (r < 80) && r != 14 && r != 15

/-- The reset row of a source (Table 07-6). -/
def sourceDefault (r : Nat) : Nat :=
  let q := if r < 8 then 128 else if r < 12 || r = 13 then 256 else if r = 12 then 64 else 0
  if !sourceUsed r then 0
  else q * 2 ^ 52 + 1024 * 2 ^ 38 + (if r = 12 || r = 13 then 0 else 2 ^ 37)

/-- An owner that exists (Table 08-4). -/
def ownerUsed (o : Nat) : Bool := decide (o ≤ 90) && o != 14 && o != 15 || decide (96 ≤ o) && decide (o ≤ 415)

/-- The reset row of an owner (Table 08-6). -/
def ownerDefault (o : Nat) : Nat :=
  if !ownerUsed o then 0
  else
    2 ^ 127 + (if 160 ≤ o then 2 ^ 126 + 1024 * 2 ^ 44 else 0) + (if o ≤ 13 then 512 * 2 ^ 88 else 0) +
      (if o ≤ 13 || o = 89 || o = 90 then 256 * 2 ^ 66 else if o = 80 then 1024 * 2 ^ 66
       else if 96 ≤ o && o ≤ 159 then 64 * 2 ^ 66 else 0)

/-- Default weight and wait limit of requester `i` of arbiter instance `a`; none where it is absent (Table 08-9). -/
def arbDefault (a i : Nat) : Option (Nat × Nat) :=
  if a < 8 then
    if i < 8 then some (16, 64) else if i = 8 then some (32, 64) else if i = 9 then some (16, 64)
    else if i = 10 then some (32, 64) else if i = 11 then some (8, 64) else if i = 12 then some (64, 64) else none
  else if a = 8 then (if i < 5 then some (32, 1024) else none)
  else if a < 14 then
    if i < 8 then some (16, 32) else if i = 8 then some (8, 32) else if i = 9 then some (16, 32) else none
  else if a < 22 then (if i < 8 then some (16, 32) else none)
  else if a = 22 then (if i < 8 then some (8, 64) else if i = 8 then some (64, 64) else none)
  else none

/-- The reset row of a requester (Table 08-10), without its counters. -/
def requesterDefault (r : Nat) : Nat :=
  match arbDefault (r / 16) (r % 16) with
  | some (w, l) => w * 2 ^ 56 + l * 2 ^ 40 + 2 ^ 33
  | none => 0

/-- The reset value of a table row, the row's words joined most significant first. -/
def tabDefault (tbl row : Nat) : Nat :=
  if tbl = Obj.EVT_SOURCE_TABLE then 2 ^ 63 + defaultSeverity row * 2 ^ 61
  else if tbl = Obj.GOV_PLACEMENT then row % 8
  else if tbl = Obj.CLI_TABLE then 6 * 2 ^ 50 + 250 * 2 ^ 39 + 125 * 2 ^ 31
  else if tbl = Obj.CTX_SOURCE_TABLE then sourceDefault row
  else if tbl = Obj.HOP_OWNER_TABLE then ownerDefault row
  else if tbl = Obj.ARB_REQUESTERS then requesterDefault row
  else if tbl = Obj.SCH_QUEUE_TABLE then 4096 * 2 ^ 47 + 16384 * 2 ^ 25 + 8192 * 2 ^ 3
  else if tbl = Obj.SCH_CLASS_TABLE then 2 ^ 63 + 4096 * 2 ^ 46 + 1522 * 2 ^ 32 + 1024 * 2 ^ 16 + 512
  else if tbl = Obj.SHP_TABLE then (if row ≥ 2304 then 20 * 2 ^ 112 else 0) + 16384 * 2 ^ 88
  else if tbl = Obj.GCL_SHADOW ∨ tbl = Obj.GCL_ACTIVE then 0xFF * 2 ^ 56
  else 0

/-- The key of a table row in the store of tables. -/
def tabKey (tbl row : Nat) : Nat := (tbl - 0x6000) * 2 ^ 24 + row

/-- The default of a table key. -/
def tabDflt (k : Nat) : Nat := tabDefault (0x6000 + k / 2 ^ 24) (k % 2 ^ 24)

/-- A table row as one number. -/
def State.row (s : State) (tbl r : Nat) : Nat := stGet (tabDflt (tabKey tbl r)) s.tab (tabKey tbl r)

/-- Writes a table row. -/
def State.setRow (s : State) (tbl r v : Nat) : State :=
  { s with tab := stSet (tabDflt (tabKey tbl r)) s.tab (tabKey tbl r) v }

/-- Adds to U64 word `w` of `n` words of a counter row (R111). -/
def State.bumpRow (s : State) (tbl r n w : Nat) (k : Nat := 1) : State :=
  let lo := 64 * (n - 1 - w)
  let old := s.row tbl r
  s.setRow tbl r (setFld old (lo + 63) lo (min (2 ^ 64 - 1) (fld old (lo + 63) lo + k)))

/-- A row as it stands for a frame whose mark arrived at `at0`: a change takes effect at the first frame whose mark
arrival instant follows the write (R104, R163). -/
def State.rowFor (s : State) (tbl r at0 : Nat) : Nat :=
  match s.oldRows.find? (fun o => o.tbl = tbl && o.row = r && o.at0 ≥ at0) with
  | some o => o.old
  | none => s.row tbl r

/-- Writes a row whose change waits for a frame boundary, keeping the old value for frames already arrived. -/
def State.setRowLater (s : State) (tbl r v : Nat) : State :=
  let keep := s.oldRows.filter fun o => s.now ≤ o.at0 + tickMs
  let old : OldRow := { tbl := tbl, row := r, old := s.row tbl r, at0 := s.now }
  State.setRow { s with oldRows := keep ++ [old] } tbl r v

/-- The client row of Table 11-2. -/
def State.cliRow (s : State) (c : Nat) : Nat := s.row Obj.CLI_TABLE c

/-- A client is enabled (Table 11-2). -/
def State.cliOn (s : State) (c : Nat) : Bool := bitAt (s.cliRow c) 63

/-- At least one constant-rate client is enabled. -/
def State.clientEnabled (s : State) : Bool := (List.range 8).any fun c => s.cliOn c

/-! ### Random draws (R136, R149, R523) -/

/-- A draw uniform from 0 to n - 1, and the state after it. -/
def State.draw (s : State) (n : Nat) : Nat × State :=
  (Config.random s.draws % n, { s with draws := s.draws + 1 })

/-- The 375 MHz tick of an instant. -/
def tickOf (t : Nat) : Nat := t / (4 * tickCore)

/-! ### Clocks (R425-R427, R441) -/

/-- A clock's value at an instant, in 2^-40 ns (R427). -/
def clockAt (c : Clock) (t : Nat) : Nat :=
  let e : Int := (t : Int) - (c.at0 : Int)
  ((c.val : Int) + e * (1000000000 * (2 ^ 40 : Nat) + c.rate * (2 ^ 24 : Nat)) / (7776000 * 1000000000 : Nat)).toNat

/-- 2^-40 ns units of a nanosecond and of a second. -/
def nsU : Nat := 2 ^ 40
/-- Units of a second. -/
def secU : Nat := 1000000000 * 2 ^ 40

/-- The switch offset Δ at an instant, moving toward 0 at `TIME_SLEW_NS_PER_S` (R441). -/
def State.deltaAtTime (s : State) (t : Nat) : Int :=
  let moved := (t - s.time.deltaAt) * (s.obj Obj.TIME_SLEW_NS_PER_S * nsU) / tickS
  let d := s.time.delta
  if d < 0 then min 0 (d + moved) else max 0 (d - moved)

/-- Device time at an instant, in 2^-40 ns (R427, R441). -/
def State.devTimeAt (s : State) (t : Nat) : Nat :=
  ((clockAt s.time.doms[s.time.selected].clk t : Int) + s.deltaAtTime t).toNat

/-- Device time now. -/
def State.devTime (s : State) : Nat := s.devTimeAt s.now

/-- A clock value in the format of Table 12-1: seconds, nanoseconds and 2^-16 ns, fraction bits [11:0] cleared when it
is a stamp. -/
def clockFmt (u : Nat) : Nat :=
  u / secU * 2 ^ 46 + u % secU / nsU * 2 ^ 16 + u % nsU / 2 ^ 24

/-- A clock value as a TIME80. -/
def time80 (u : Nat) : Nat := u / secU * 2 ^ 32 + u % secU / nsU

/-- A stamp of an instant on device time, rounded to 62.5 ps (R425, R426). -/
def State.stampOf (s : State) (t : Nat) : Nat :=
  let u := s.devTimeAt t
  clockFmt ((u + 2 ^ 35) / 2 ^ 36 * 2 ^ 36)

/-- The time engine is without supply: in Deep sleep and Off, in their exits until step 4 begins, and where a
thermal shutdown takes the package from one of them to Off (R428, Table 14-1, R515). -/
def State.timeStopped (s : State) : Bool :=
  (s.pwr.state == .deepSleep || s.pwr.state == .off) &&
  match s.pwr.phase with
  | .asleep | .stagger | .entry _ => true
  | .exit n => n ≤ 3
  | _ => false

/-- The event time counter (R455). Without the time engine it keeps what retention SRAM holds. -/
def State.eventTime (s : State) : Nat :=
  if s.timeStopped then s.island.lastTime else max (s.devTime / nsU) s.island.lastTime

/-- The frame of a number, if it is inside the terminal. -/
def State.frame? (s : State) (fid : Nat) : Option Frame := s.frames.find? fun f => f.fid == fid

/-! ### Power state predicates -/

/-- The package is in Run or Idle, or an entry has not yet stopped it. -/
def State.running (s : State) : Bool :=
  match s.pwr.phase with
  | .up => true
  | .entry n => n ≤ 2
  | _ => false

/-- The channel's receiver is powered: in Run, or as the watch channel in Sleep (Table 14-1). -/
def State.chanPowered (s : State) (ch : Fin 4) : Bool :=
  match s.pwr.phase with
  | .up => true
  | .entry n => n ≤ 3 || (s.pwr.target == .sleep && s.pwr.watch == some ch)
  | .asleep | .exit _ => s.pwr.state == .sleep && s.pwr.watch == some ch
  | _ => false

/-- Frames enter the engines until step 2 of an entry (Table 14-3). -/
def State.ingressOpen (s : State) : Bool :=
  match s.pwr.phase with
  | .up | .entry 1 => true
  | _ => false

/-- The Sleep power state, its exit, and its entry once step 3 has ended (R189, R191, R231). -/
def State.inSleep (s : State) : Bool :=
  s.pwr.state == .sleep ||
  match s.pwr.phase with
  | .entry n => s.pwr.target == .sleep && n ≥ 4
  | _ => false

/-- The dictionary server answers requests (R489, R530). -/
def State.serverUp (s : State) : Bool :=
  !s.pwr.serverStopped &&
  match s.pwr.phase with
  | .up | .safeMode => true
  | .entry n => n ≤ 3
  | .boot n => s.bus.bootSel == 2 && n == 4 && s.pwr.loaderAt.isSome
  | _ => false

/-! ### The event log (R569-R573, R609) -/

/-- Parameters as 32-bit words, four to a record. -/
def paramGroups : Nat → List Nat → List (List Nat)
  | 0, _ => []
  | n + 1, ps => if ps.length ≤ 4 then [ps] else ps.take 4 :: paramGroups n (ps.drop 4)

/-- A 64-bit parameter as two words, most significant first (R569). -/
def p64 (v : Nat) : List Nat := [v / 2 ^ 32 % 2 ^ 32, v % 2 ^ 32]

/-- A signed 32-bit parameter (R569). -/
def pI32 (i : Int) : Nat := ofS 32 i

/-- The largest ring of the event log (R570). -/
def logCapacity : Nat := 2097152

/-- Writes one record: gives it the next `SEQ`, keeps it in the island, overwrites the oldest of a full ring (R570,
R573), and leaves it for the subscribers. -/
def State.writeRec (s : State) (r : EvRec) : State :=
  let q := (s.island.lastSeq + 1) % 2 ^ 32
  let r := { r with seq := q }
  let full := s.log.ring.length ≥ logCapacity
  let lost := match s.log.ring.getLast? with
    | some o => full && o.seq ≥ s.obj Obj.EVT_READ_SEQ
    | none => false
  let s := if lost then s.bump Obj.EVT_OVERWRITTEN else s
  let s := s.bump Obj.EVT_RECORDS
  { s with
    log := { s.log with ring := r :: (if full then s.log.ring.dropLast else s.log.ring), unsent := s.log.unsent ++ [(r, s.now)] }
    island := { s.island with lastSeq := q, kept := (r :: s.island.kept).take 64 } }

/-- Holds a record in retention SRAM until the next boot or return to Run (R517, R573). -/
def State.holdRec (s : State) (r : EvRec) : State :=
  if s.island.held.length < 256 then
    { s with island := { s.island with held := s.island.held ++ [{ r with retained := true }] } }
  else { s with island := { s.island with heldLost := s.island.heldLost + 1 } }

/-- Latches the alert cause of an event at or above `DEV_ALERT_LEVEL` (R572). -/
def State.alert (s : State) (src sev : Nat) : State :=
  if sev ≥ s.obj Obj.DEV_ALERT_LEVEL ∧ s.island.alertCause = 0xFFFF then
    { s with island := { s.island with alertCause := src } }
  else s

/-- The records of one event. -/
def State.evRecs (s : State) (src : Nat) (limited : Bool) (ps : List Nat) : List EvRec :=
  let et := s.eventTime
  let sev := fld (s.row Obj.EVT_SOURCE_TABLE src) 62 61
  let mk := fun (first : Bool) (g : List Nat) =>
    { time := et, source := s.bus.addr * 1024 + src, retained := false,
      timeHeld := s.devTime / nsU < s.island.lastTime, rateLimited := limited && first, continued := !first,
      severity := sev, seq := 0, p0 := g.getD 0 0, p1 := g.getD 1 0, p2 := g.getD 2 0, p3 := g.getD 3 0 : EvRec }
  match paramGroups 8 ps with
  | [] => [mk true []]
  | g :: gs => mk true g :: gs.map (mk false)

/-- Logs an event (R569-R573): a masked source counts in `EVT_MASKED` and still drives ALERT_N; while the dictionary
server is stopped the records are held. -/
def State.logWith (s : State) (src : Nat) (limited : Bool) (ps : List Nat) : State :=
  let rs := s.evRecs src limited ps
  let row := s.row Obj.EVT_SOURCE_TABLE src
  let s := { s with island := { s.island with lastTime := s.eventTime } }
  let s := s.alert src (fld row 62 61)
  if bitAt row 63 = false then s.bump Obj.EVT_MASKED
  else if s.serverUp then rs.foldl State.writeRec s
  else rs.foldl State.holdRec s

/-- Logs an event each time it occurs. -/
def State.ev (s : State) (src : Nat) (ps : List Nat := []) : State := s.logWith src false ps

/-- Logs an event at most once per second of event time per source and entity (R609). A masked source writes no record,
so the limit has nothing to act on. -/
def State.evOnce (s : State) (src entity : Nat) (ps : List Nat) : State :=
  if bitAt (s.row Obj.EVT_SOURCE_TABLE src) 63 = false then s.logWith src false ps
  else
    let k := src * 2 ^ 32 + entity
    let last := stGet 0 s.log.lastAt k
    let et := s.eventTime
    if last ≠ 0 ∧ et < last - 1 + 1000000000 then
      { s with log := { s.log with withheld := stSet 0 s.log.withheld k 1 } }
    else
      let lim := stGet 0 s.log.withheld k = 1
      let s := { s with log := { s.log with lastAt := stSet 0 s.log.lastAt k (et + 1),
                                            withheld := stSet 0 s.log.withheld k 0 } }
      s.logWith src lim ps

/-- Holds the event of a cause that restarts the package, to be logged at the next boot (R573). -/
def State.evHeld (s : State) (src : Nat) (ps : List Nat) : State :=
  let rs := s.evRecs src false ps
  let row := s.row Obj.EVT_SOURCE_TABLE src
  let s := State.alert { s with island := { s.island with lastTime := s.eventTime } } src (fld row 62 61)
  if bitAt row 63 = false then s.bump Obj.EVT_MASKED else rs.foldl State.holdRec s

/-! ### The boot flash on the QSPI (R510, R595, Table 14-7) -/

/-- Address of image A or B. -/
def imageAddr (i : Fin 2) : Nat := if i = 0 then 0x00100000 else 0x01000000
/-- Address of a copy of the stored dictionary values. -/
def storedAddr (i : Fin 2) : Nat := 0x01F00000 + i.val * 0x40000
/-- Address of a blob: a sector of its own in the 64 KiB of the blobs (log entry 164). -/
def blobAddr (w : Fin 3) : Nat := 0x01F80000 + w.val * 0x1000
/-- Address of a copy of the record area; writes alternate between the two (R510). -/
def recordAddr (seq : Nat) : Nat := 0x01F90000 + seq % 2 * 0x1000

/-- Quad I/O Fast Read: command 0xEC with 6 dummy cycles (R595). -/
def qspiRead (addr n : Nat) : QspiRun := { cmd := 0xEC, addr := addr, stride := 0, count := 1, dummy := 6, bytes := n }

/-- Erases the 4 KiB sectors of an area, command 0x21 (R595). -/
def qspiErase (addr n : Nat) : QspiRun :=
  { cmd := 0x21, addr := addr, stride := 4096, count := (n + 4095) / 4096, dummy := 0, bytes := 0 }

/-- Programs the 256-byte pages of an area, command 0x12 (R595). -/
def qspiProgram (addr n : Nat) : QspiRun :=
  { cmd := 0x12, addr := addr, stride := 256, count := (n + 255) / 256, dummy := 0, bytes := 256 }

/-- Writes an area that starts at a sector: its sectors are erased and its pages programmed. -/
def qspiWrite (addr n : Nat) : List QspiRun := [qspiErase addr n, qspiProgram addr n]

/-- The controller performs these transactions. -/
def State.qspi (s : State) (rs : List QspiRun) : State :=
  let all := s.flash.qspi ++ rs
  { s with flash := { s.flash with qspi := all.drop (all.length - 32) } }

/-- Writes the older copy of the record area with a content that differs in `f` (R510). -/
def State.writeRecord (s : State) (f : Flash → Flash) : State :=
  let seq := s.flash.recSeq + 1
  State.qspi { s with flash := { f s.flash with recSeq := seq } } (qspiWrite (recordAddr seq) 4096)

/-! ### Host writes of objects with a command of their own -/

/-- The status of a write, with no other effect. -/
def State.answer (s : State) (st : Status) : State := { s with status := st }

/-- A write is performed only while the dictionary server runs (R530); else it is lost. -/
def State.hostWrite (s : State) (f : State → State) : State := if s.serverUp then f s else s

/-- An effect at the instant of its command: the queue, the instant and, but for its own commands and VAON, the test
access port are out of its reach (R597). -/
def State.after (s : State) (t : Nat) (f : State → State) : State :=
  { f (s.advance t) with pending := s.pending, now := max s.now t, jtag := s.jtag }

/-- An effect that may reach the test access port. -/
def State.afterTap (s : State) (t : Nat) (f : State → State) : State :=
  { f (s.advance t) with pending := s.pending, now := max s.now t }

/-- The next-state outcome of a total effect. -/
def done (t : Nat) (s : State) (f : State → State) : Host.Outcome State Fault Refusal := .next (s.after t f)

/-- The next-state outcome of a command of the test access port, or of VAON, which resets it. -/
def doneTap (t : Nat) (s : State) (f : State → State) : Host.Outcome State Fault Refusal := .next (s.afterTap t f)

/-- A total effect whose operands must be well formed. -/
def doneIf (wf : Bool) (t : Nat) (s : State) (f : State → State) : Host.Outcome State Fault Refusal :=
  if wf then done t s f else .fault .illFormed

end Sys2Proof.Machine
end

