-- ==== Sys2Proof/Machine/HopperOps.lean ====
section
/-! DEFINITION. The hopper: buffer state, weirs, free lists, admission, frees, hand-overs and rebuilds (R297-R317). -/
namespace Sys2Proof.Machine

/-- Pool of a handle (R300). -/
def poolOf (h : Nat) : Nat := h / 2 ^ 21
/-- Index of a handle within its pool (R300). -/
def idxOf (h : Nat) : Nat := h % 2 ^ 21

/-- A pool number as an index; 5 and above name no pool. -/
def poolIdx (p : Nat) : Fin 5 := ⟨p % 5, Nat.mod_lt _ (by decide)⟩

/-- Count in force of a pool (R299). -/
def poolCount (s : State) (p : Nat) : Nat := if p < 5 then s.hop.counts[poolIdx p] else 0

/-- The buffer of a handle exists. -/
def bufExists (s : State) (h : Nat) : Bool := decide (idxOf h < poolCount s (poolOf h))

/-- Buffer size of a pool (Table 08-1). -/
def poolSize (p : Nat) : Nat :=
  if p = 0 then 256 else if p = 1 ∨ p = 2 then 2048 else if p = 3 then 10240 else 16384

/-- State of a buffer: 0 Free, 1 Tentative, 2 Held, 3 Retired (Table 08-3). -/
def bufState (s : State) (h : Nat) : Nat := stGet 1023 s.hop.state h / 1024
/-- Recorded owner of a buffer (Table 08-3). -/
def bufOwner (s : State) (h : Nat) : Nat := stGet 1023 s.hop.state h % 1024

/-- Writes a buffer's entry. -/
def setBuf (h st owner : Nat) (s : State) : State :=
  { s with hop := { s.hop with state := stSet 1023 s.hop.state h (st * 1024 + owner) } }

/-- The state of a buffer that an owner is granted or handed (R310, R313). -/
def ownerState (o : Nat) : Nat := if o ≤ 80 then 1 else 2

/-- Entries of a pool that are not Free. -/
def poolTaken (s : State) (p : Nat) : Nat := (s.hop.state.filter fun e => poolOf e.1 == p).length

/-- free(p) (R312). -/
def poolFree (s : State) (p : Nat) : Nat := poolCount s p - poolTaken s p

/-- Retired buffers of a pool (R308). -/
def poolRetired (s : State) (p : Nat) : Nat :=
  (s.hop.state.filter fun e => poolOf e.1 == p && e.2 / 1024 == 3).length

/-- held(o, p) (R312). A Retired buffer counts until its owner frees it, as R308 has the count fall with that free (log entry
186). -/
def heldBy (s : State) (o p : Nat) : Nat :=
  (s.hop.state.filter fun e => poolOf e.1 == p && e.2 % 1024 == o && decide (1 ≤ e.2 / 1024)).length

/-- The weir of an owner in a pool (Table 08-6). -/
def weirOf (row p : Nat) : Nat := fld row (109 - 22 * p) (88 - 22 * p)
/-- The weir of an owner in a pool. -/
def weir (s : State) (o p : Nat) : Nat := weirOf (s.row Obj.HOP_OWNER_TABLE o) p

/-- reserve(p) (R312). -/
def poolReserve (s : State) (p : Nat) : Nat :=
  (List.range 1024).foldl (fun n o => n + (weir s o p - heldBy s o p)) 0

/-- shared(p) (R312). -/
def poolShared (s : State) (p : Nat) : Int := (poolFree s p : Int) - (poolReserve s p : Int)

/-- A request of an owner is admissible at a pool (R313). -/
def admissible (s : State) (o p : Nat) : Bool :=
  if heldBy s o p < weir s o p then decide (poolFree s p > 0) else decide (poolShared s p > 0)

/-- Keeps the lowest free count and logs the start of an overcommit (R315). -/
def hopCheck (p : Fin 5) (s : State) : State :=
  let free := poolFree s p.val
  let s := s.setObj Obj.HOP_POOL_MIN_FREE (sub p) (min free (s.obj Obj.HOP_POOL_MIN_FREE (sub p)))
  let overCommit := decide (poolShared s p.val < 0)
  let s1 := if overCommit && !s.hop.overCommit[p] then s.ev Ev.HOP_OVERCOMMIT [p.val, free, poolReserve s p.val] else s
  { s1 with hop := { s1.hop with overCommit := vmod s1.hop.overCommit p fun _ => overCommit } }

/-- Checks every pool after a change of owners. -/
def hopCheckAll (s : State) : State := (fins 5).foldl (fun s p => hopCheck p s) s

/-! ### Free lists (R305, R307) -/

/-- The list of a buffer. -/
def listOf (s : State) (p i : Nat) : Fin 19 :=
  let n := if p = 0 then i / (s.hop.counts[(0 : Fin 5)] / 8) % 8
    else if p = 1 then 8 + i / (s.hop.counts[(1 : Fin 5)] / 8) % 8 else 14 + p
  ⟨n % 19, Nat.mod_lt _ (by decide)⟩

/-- Pool of a list. -/
def listPool (l : Fin 19) : Nat := if l.val < 8 then 0 else if l.val < 16 then 1 else l.val - 14
/-- Slice of a list; 0 for P2-P4. -/
def listSlice (l : Fin 19) : Nat := if l.val < 8 then l.val else if l.val < 16 then l.val - 8 else 0

/-- Updates a free list. -/
def State.modList (s : State) (l : Fin 19) (f : FreeList → FreeList) : State :=
  { s with hop := { s.hop with lists := vmod s.hop.lists l f } }

/-- The lowest Free index of a run, stepping over buffers that a rebuild left out; `n` bounds the steps. -/
def freshIndex (s : State) (p : Nat) : Nat → Nat → Nat
  | 0, i => i
  | n + 1, i => if bufState s (p * 2 ^ 21 + i) = 0 then i else freshIndex s p n (i + 1)

/-- The head of a free list and the list after the pop (R305). -/
def listHead (s : State) (l : Fin 19) : Option (Nat × FreeList) :=
  let fl := s.hop.lists[l]
  if fl.rebuilding then none
  else match fl.pushed with
    | i :: rest => some (i, { fl with pushed := rest })
    | [] =>
      let i := freshIndex s (listPool l) s.hop.state.length fl.next
      if i < fl.last then some (i, { fl with next := i + 1 }) else none

/-- The index after the first one with a given value, or the first of `rest`. -/
def nextOf (i : Nat) (rest : Option Nat) : List Nat → Option Nat
  | [] => none
  | x :: xs => if x = i then (match xs with
      | y :: _ => some y
      | [] => rest) else nextOf i rest xs

/-- `NEXT` of a free buffer's link word (Table 08-2): the buffer below it on its list, 0x1F_FFFF at the end. -/
def linkNext (s : State) (l : Fin 19) (i : Nat) : Nat :=
  let fl := s.hop.lists[l]
  let fresh := fun (k : Nat) =>
    let n := freshIndex s (listPool l) s.hop.state.length k
    if n < fl.last then some n else none
  (if fl.pushed.contains i then nextOf i (fresh fl.next) fl.pushed else fresh (i + 1)).getD 0x1FFFFF

/-- The link word that the first 8 bytes of a free buffer hold (Table 08-2); none can be read where the memory has an
uncorrectable error (R308). -/
def linkWord (s : State) (l : Fin 19) (i : Nat) : Option Nat :=
  if s.hop.bad.contains (listPool l * 2 ^ 21 + i) then none
  else some (0xA5 * 2 ^ 56 + listPool l * 2 ^ 53 + listSlice l * 2 ^ 50 + linkNext s l i)

/-- The checks of a pop (R307): the link word's `MARK`, `POOL` and `SLICE`, and the buffer's state. -/
def popOk (s : State) (l : Fin 19) (i : Nat) : Bool :=
  match linkWord s l i with
  | some w => fld w 63 56 == 0xA5 && fld w 55 53 == listPool l && fld w 52 50 == listSlice l &&
      bufState s (listPool l * 2 ^ 21 + i) == 0
  | none => false

/-- One pop (R307): a failed check yields no buffer and starts a rebuild. -/
def popList (l : Fin 19) (s : State) : Option Nat × State :=
  match listHead s l with
  | none => (none, s)
  | some (i, fl) =>
    if popOk s l i then (some (listPool l * 2 ^ 21 + i), s.modList l fun _ => fl)
    else (none, s.modList l fun f => { f with rebuilding := true })

/-- The lists that a request of region `g` tries in a pool (R298). -/
def tryLists (p g : Nat) : List (Fin 19) :=
  (if p = 0 then (List.range 8).map fun k => (g + k) % 8
   else if p = 1 then (List.range 8).map fun k => 8 + (g + k) % 8
   else [14 + p]).map fun n => ⟨n % 19, Nat.mod_lt _ (by decide)⟩

/-- Pops from the first list that yields a buffer; a buffer of another region's slice counts (R298). -/
def popPool (p g : Nat) (s : State) : Option Nat × State :=
  let (r, s, _) := (tryLists p g).foldl (fun (acc : Option Nat × State × Bool) l =>
    match acc with
    | (some h, s, far) => (some h, s, far)
    | (none, s, far) =>
      match popList l s with
      | (some h, s) => (some h, if far then s.bump Obj.HOP_REMOTE_ALLOCS (p + 1) else s, far)
      | (none, s) => (none, s, true)) (none, s, false)
  (r, s)

/-- Links a buffer at the head of its list (R305). -/
def pushBuf (h : Nat) (s : State) : State :=
  s.modList (listOf s (poolOf h) (idxOf h)) fun f => { f with pushed := idxOf h :: f.pushed }

/-! ### Frees and hand-overs (R304, R308, R316, R317) -/

/-- A buffer that has been freed: Free and on its list, or unowned where it is Retired (R308, R316). -/
def freed (h : Nat) (s : State) : State :=
  if bufState s h = 3 then hopCheck (poolIdx (poolOf h)) (setBuf h 3 1023 s)
  else hopCheck (poolIdx (poolOf h)) (pushBuf h (setBuf h 0 1023 s))

/-- The list of a buffer is being rebuilt, so that its free waits at the free port (R307). -/
def freeWaits (s : State) (h : Nat) : Bool := bufExists s h && s.hop.lists[listOf s (poolOf h) (idxOf h)].rebuilding

/-- Puts a free at the port of a list that is being rebuilt. -/
def waitFree (h : Nat) (owner : Option Nat) (requester : Nat) (s : State) : State :=
  s.modList (listOf s (poolOf h) (idxOf h)) fun f => { f with waiting := f.waiting ++ [(h, owner, requester)] }

/-- The hopper frees a buffer itself, without owner check (R302, R304). -/
def freeSelf (h : Nat) (s : State) : State :=
  if bufState s h = 0 then s
  else if freeWaits s h then waitFree h none 15 s
  else freed h s

/-- An accepted free of the old buffer stops its spill and frees the copy's buffer (R304). -/
def stopSpill (h : Nat) (s : State) : State :=
  let (mine, rest) := s.hop.spills.partition fun x => x.old == h
  let reqs := s.hop.reqs.map fun l => l.filter fun q => q.use != .spill h
  let s := { s with hop := { s.hop with spills := rest, reqs := reqs } }
  mine.foldl (fun s x => freeSelf x.new s) s

/-- The checks of R316 and their outcome. -/
def freeNow (h owner requester : Nat) (s : State) : State :=
  let st := bufState s h
  let o := bufOwner s h
  if !bufExists s h || st = 0 || (st = 3 && o = 1023) then
    (s.bump Obj.HOP_DOUBLE_FREE).ev Ev.HOP_DOUBLE_FREE [h, requester, owner]
  else if o ≠ owner then
    (s.bump Obj.HOP_FOREIGN_FREE).ev Ev.HOP_FOREIGN_FREE [h, o, owner, requester]
  else stopSpill h (freed h s)

/-- A free (R316); it waits while its list is rebuilt (R307). -/
def hopFree (h owner requester : Nat) (s : State) : State :=
  if freeWaits s h then waitFree h (some owner) requester s else freeNow h owner requester s

/-- The requester number of frees and hand-overs inside the part, beside the ports' requesters (log entry 32). -/
def selfRequester : Nat := 15

/-- Presents a request at a pool port (R313). -/
def hopAsk (p : Nat) (q : HopReq) (s : State) : State :=
  { s with hop := { s.hop with reqs := vmod s.hop.reqs (poolIdx p) fun l => l ++ [q] } }

/-- A hand-over (R317), and the spill it starts (R304). -/
def handOver (h cur new : Nat) (s : State) : State :=
  let st := bufState s h
  let o := bufOwner s h
  if !bufExists s h || st = 0 || st = 3 || o ≠ cur || !ownerUsed new then
    (s.bump Obj.HOP_BAD_HANDOVERS).ev Ev.HOP_BAD_HANDOVER [h, st * 1024 + o, cur, new]
  else
    let s := hopCheck (poolIdx (poolOf h)) (setBuf h (ownerState new) new s)
    if bitAt (s.row Obj.HOP_OWNER_TABLE new) 126 && decide (poolOf h ≤ 1) then
      hopAsk 2 { requester := 9, owner := new, region := 0, use := .spill h } s
    else s

/-- Frees buffers on behalf of their owner. -/
def releaseHandles (owner : Nat) (hs : List Nat) (s : State) : State :=
  hs.foldl (fun s h => hopFree h owner selfRequester s) s

/-- A buffer is withdrawn after an uncorrectable error (R308). -/
def retireBuf (h : Nat) (s : State) : State :=
  if bufExists s h = false ∨ bufState s h = 3 then s
  else if bufState s h = 0 then { s with hop := { s.hop with bad := if s.hop.bad.contains h then s.hop.bad else h :: s.hop.bad } }
  else
    let o := bufOwner s h
    hopCheckAll ((setBuf h 3 o s).ev Ev.HOP_BUFFER_RETIRED [h, o])

/-- A rebuild completes (R307, R308): the list holds every Free buffer in ascending order, and waiting frees go on. -/
def rebuildList (l : Fin 19) (s : State) : State :=
  let fl := s.hop.lists[l]
  if !fl.rebuilding then s
  else
    let p := listPool l
    let lo := if l.val < 16 then listSlice l * (s.hop.counts[poolIdx p] / 8) else 0
    let hi := if l.val < 16 then lo + s.hop.counts[poolIdx p] / 8 else s.hop.counts[poolIdx p]
    let mine := fun (h : Nat) => poolOf h == p && decide (lo ≤ idxOf h) && decide (idxOf h < hi)
    let bad := s.hop.bad.filter mine
    let s := bad.foldl (fun s h => (setBuf h 3 1023 s).ev Ev.HOP_BUFFER_RETIRED [h, 1023]) s
    let s := { s with hop := { s.hop with bad := s.hop.bad.filter fun h => !mine h } }
    let next := fl.next
    let linked := (List.range (next - lo)).filterMap fun i =>
      if bufState s (p * 2 ^ 21 + lo + i) = 0 then some (lo + i) else none
    let n := hi - lo - (s.hop.state.filter fun e => mine e.1).length
    let s := s.modList l fun f => { f with pushed := linked, rebuilding := false, waiting := [] }
    let s := (s.bump Obj.HOP_LIST_REBUILDS).ev Ev.HOP_LIST_REBUILT [p, listSlice l, n]
    let s := hopCheck (poolIdx p) s
    fl.waiting.foldl (fun s f => match f.2.1 with
      | some o => hopFree f.1 o f.2.2 s
      | none => freeSelf f.1 s) s

/-- A refusal at a pool (R314, R315). -/
def hopRefuse (q : HopReq) (p : Nat) (s : State) : State :=
  let short := decide (heldBy s q.owner p < weir s q.owner p)
  let s := s.bump Obj.HOP_FAILS (p + 1)
  let s := if short then s.bump Obj.HOP_RESERVE_SHORT (p + 1) else s
  s.evOnce Ev.HOP_POOL_EMPTY p [p, q.owner]

/-- A refused request passes to the next pool (R314); a spill never does (R304). -/
def hopFallsBack (s : State) (q : HopReq) (p : Nat) : Bool :=
  bitAt (s.row Obj.HOP_OWNER_TABLE q.owner) 127 && decide (p < 4) &&
    (match q.use with
      | .spill _ => false
      | _ => true)

/-- The lowest rung of the ladder that fits a length (R301). -/
def rungFor (len : Nat) : Nat :=
  if len ≤ 256 then 0 else if len ≤ 2048 then 1 else if len ≤ 10240 then 3 else 4

/-- The carving of R299: 0 valid, 4 a count outside its limits, else the first of conditions 1-3 that fails. -/
def carveTest (n : Nat → Nat) : Nat :=
  let ok := fun (v lo m : Nat) => decide (lo ≤ v) && decide (v % m = 0)
  if !(ok (n 0) 8192 8 && ok (n 1) 2048 8 && ok (n 2) 1024 1024 && ok (n 3) 1024 1024 && ok (n 4) 1024 1024) then 4
  else if 256 * n 0 + 2048 * n 1 > 50331648 then 1
  else if 2048 * n 2 + 10240 * n 3 + 16384 * n 4 > 6822035456 then 2
  else if n 2 + n 3 + n 4 > 1310720 then 3
  else 0

/-- At boot the pools are carved, the weirs tested and every buffer is Free (R299, R305). -/
def carve (s : State) : State :=
  let n := fun (p : Nat) => s.obj Obj.HOP_CARVE (p + 1)
  let bad := carveTest n
  let counts : Vector Nat 5 := if bad = 0 then Vector.ofFn fun p => n p.val else Hop.defaultCounts
  let s := if bad = 0 then s else s.ev Ev.HOP_CARVE_REJECTED ([bad, 0] ++ (List.range 5).map n)
  let s := { s with hop := { Hop.init with counts := counts, lists := Hop.listsOf counts } }
  let s := (fins 5).foldl (fun s p => s.setObj Obj.HOP_POOL_MIN_FREE (sub p) counts[p]) s
  (fins 5).foldl (fun s p =>
    let sum := (List.range 1024).foldl (fun t o => t + weir s o p.val) 0
    if sum > counts[p] then
      let s := (List.range 1024).foldl (fun s o =>
        let v := s.row Obj.HOP_OWNER_TABLE o
        s.setRow Obj.HOP_OWNER_TABLE o (setFld v (109 - 22 * p.val) (88 - 22 * p.val) 0)) s
      s.ev Ev.HOP_CARVE_REJECTED ([5, p.val] ++ (List.range 5).map n)
    else s) s

end Sys2Proof.Machine
end

