-- ==== Sys2Proof/Machine/PmOps.lean ====
section
/-! DEFINITION. Performance monitoring: what events add to the present second, suspect marks and bins (R419-R422). -/
namespace Sys2Proof.Machine

/-- Updates an entity: clients 0-7, channels 8-11 (R419). -/
def State.modPm (s : State) (e : Fin 12) (f : PmEntity → PmEntity) : State := { s with pm := vmod s.pm e f }

/-- The entity of a client. -/
def pmClient (c : Fin 8) : Fin 12 := ⟨c.val, by omega⟩
/-- The entity of a channel. -/
def pmChan (ch : Fin 4) : Fin 12 := ⟨8 + ch.val, by omega⟩

/-- Adds errored blocks to the present second. -/
def pmErrored (e : Fin 12) (n : Nat) (s : State) : State :=
  s.modPm e fun x => { x with acc := { x.acc with errored := x.acc.errored + n } }

/-- A defect is present in this second. -/
def pmDefect (e : Fin 12) (s : State) : State := s.modPm e fun x => { x with acc := { x.acc with defect := true } }

/-- Adds to word `8 + i` of the present second (Table 11-11). -/
def pmWord (e : Fin 12) (i : Fin 8) (n : Nat) (s : State) : State :=
  s.modPm e fun x => { x with acc := { x.acc with words := vmod x.acc.words i fun v => v + n } }

/-- Adds to a channel's compatibility counts of this second. -/
def compatCh (ch : Fin 4) (i : Fin 6) (n : Nat) (s : State) : State :=
  { s with compat := { s.compat with ch := vmod s.compat.ch ch fun v => vmod v i fun x => x + n } }

/-- Adds to a client's compatibility counts of this second. -/
def compatCli (c : Fin 8) (i : Fin 4) (s : State) : State :=
  { s with compat := { s.compat with cli := vmod s.compat.cli c fun v => vmod v i fun x => x + 1 } }

/-- The TAI second of device time. -/
def taiSecond (s : State) : Nat := s.devTime / secU

/-- A bin of width `w` from second `st` holds a second of a span. -/
def spanIn (w st : Nat) (m : Nat × Nat) : Bool := decide (m.1 < st + w) && decide (st ≤ m.2)

/-- Marks the bins of one width that hold a second of a span as suspect: the current one, and those that open later. -/
def markSpan (w : Nat) (m : Nat × Nat) (b : PmBins) : PmBins :=
  { b with marks := if b.marks.contains m then b.marks else m :: b.marks
           cur := b.cur.map fun c => if spanIn w c.start m then { c with suspect := true } else c }

/-- Marks the bin of one width that holds a second as suspect. -/
def markBins (w sec : Nat) (b : PmBins) : PmBins := markSpan w (sec, sec) b

/-- Marks the bins of an entity that hold the present second (R420). -/
def pmSuspect (e : Fin 12) (s : State) : State :=
  let sec := taiSecond s
  s.modPm e fun x => { x with quarter := markBins 900 sec x.quarter, day := markBins 86400 sec x.day }

/-- Marks the bins of every entity (R420). -/
def pmSuspectNow (s : State) : State := (fins 12).foldl (fun s e => pmSuspect e s) s

/-- Run and Idle are left: the time until they are reached again makes bins suspect (R420). -/
def pmAsleep (s : State) : State :=
  let sec := taiSecond s
  let f := fun (w : Nat) (b : PmBins) => { markBins w sec b with out := some (b.out.getD sec) }
  (fins 12).foldl (fun s e => s.modPm e fun x => { x with quarter := f 900 x.quarter, day := f 86400 x.day }) s

/-- Run is reached again (R420). -/
def pmAwake (s : State) : State :=
  let sec := taiSecond s
  let f := fun (w : Nat) (b : PmBins) => match b.out with
    | some a => { markSpan w (min a sec, sec) b with out := none }
    | none => b
  (fins 12).foldl (fun s e => s.modPm e fun x => { x with quarter := f 900 x.quarter, day := f 86400 x.day }) s

end Sys2Proof.Machine
end

