-- ==== Sys2Proof/Machine/Gates.lean ====
section
/-! DEFINITION. Port types, sluices (R345-R352) and what a step of device time does to the gates (R349). -/
namespace Sys2Proof.Machine

/-! ### Port types (Table 10-3) -/

/-- Width, lane mode, FEC modes allowed and rate in Gb/s of a port type. -/
def portType (c : Nat) : Option (Nat × Nat × List Nat × Nat) :=
  match c with
  | 1 => some (1, 1, [0, 1], 10)
  | 2 => some (1, 2, [0, 1, 2], 25)
  | 3 => some (1, 3, [3], 50)
  | 4 => some (4, 2, [0, 2], 100)
  | 5 => some (2, 3, [3], 100)
  | 6 => some (1, 4, [3], 100)
  | 7 => some (4, 3, [3], 200)
  | 8 => some (2, 4, [3], 200)
  | 9 => some (8, 3, [3], 400)
  | 10 => some (4, 4, [3], 400)
  | _ => none

/-- Rate of a port in Gb/s, 0 without a type. -/
def portRate (s : State) (p : Fin 8) : Nat :=
  match portType (s.obj Obj.MAC_PORT_TYPE (sub p)) with
  | some (_, _, _, r) => r
  | none => 0

/-- Width of a port, 0 without a type. -/
def portWidth (s : State) (p : Fin 8) : Nat :=
  match portType (s.obj Obj.MAC_PORT_TYPE (sub p)) with
  | some (w, _, _, _) => w
  | none => 0

/-- Ticks that `n` bytes take at a port's rate. -/
def bytesTicks (rate n : Nat) : Nat := if rate = 0 then 0 else n * 8 * tickNs / rate

/-- Updates a port. -/
def State.modPort (s : State) (p : Fin 8) (f : Port → Port) : State := { s with ports := vmod s.ports p f }
/-- Updates a port's gates. -/
def State.modGates (s : State) (p : Fin 8) (f : PortGates → PortGates) : State :=
  { s with sch := { s.sch with gates := vmod s.sch.gates p f } }

/-- Preemption is active on a port (R380). -/
def preemptActive (s : State) (p : Fin 8) : Bool :=
  s.ports[p].st == .up && s.flag Obj.MAC_PREEMPT_ENABLE (sub p) && (s.ports[p].preempt == 2 || s.ports[p].preempt == 4)

/-- The minimum fragment F (R380). -/
def minFragment (s : State) (p : Fin 8) : Nat := 64 * (s.obj Obj.MAC_MIN_FRAGMENT (sub p) + 1)

/-- The row of a host class that a selection works with: a write acts on the first selection of a later tick (R329, R333). -/
def rowInForce (s : State) (r : Nat) : Nat :=
  match s.sch.rowChanges.find? fun x => x.2.1 == r with
  | some x => x.2.2.1
  | none => s.row Obj.SCH_CLASS_TABLE r

/-- Class row of a port (Table 09-3). -/
def classRow (s : State) (p : Fin 8) (c : Nat) : Nat := rowInForce s (8 * p.val + c)

/-- A class is an express class (Table 09-3). -/
def classExpress (s : State) (p : Fin 8) (c : Nat) : Bool := bitAt (classRow s p c) 62

/-- The gates that a selection sees: a change acts on the next tick's selection (R333). -/
def gatesSeen (s : State) (p : Fin 8) : Nat :=
  let g := s.sch.gates[p]
  if g.before.1 = tickOf s.now + 1 then g.before.2 else g.gates

/-- Egress length with FCS (R374). -/
def egressLen (n : Nat) : Nat := max (n + 4) 64

/-- Updates a cut-through frame at the egress of a port, on the line or preempted. -/
def State.modTx (s : State) (p : Fin 8) (fid : Nat) (f : Tx → Tx) : State :=
  let g := fun (x : Tx) => if x.cutThrough && x.frame.fid == fid then f x else x
  s.modPort p fun o => { o with tx := o.tx.map g, held := o.held.map g }

/-- A cut-through frame that is still at the egress of a port. -/
def txOf (s : State) (p : Fin 8) (fid : Nat) : Option Tx :=
  (s.ports[p].tx.toList ++ s.ports[p].held.toList).find? fun x => x.cutThrough && x.frame.fid == fid

/-! ### Gate lists (R345, R346) -/

/-- The segments of one cycle: start, end and gates, in 2^-40 ns. The last entry holds to the cycle's end; entries past
it are not used. -/
def gclSegs (cycle : Nat) : Nat → List (Nat × Nat) → List (Nat × Nat × Nat)
  | _, [] => []
  | a, [(g, _)] => if a < cycle then [(a, cycle, g)] else []
  | a, (g, i) :: e :: es =>
    if a < cycle then (a, min cycle (a + i * nsU), g) :: gclSegs cycle (a + i * nsU) (e :: es) else []

/-- The segments of a list: its first `length` entries run (R346). -/
def segsOf (l : Gcl) : List (Nat × Nat × Nat) := gclSegs (l.cycle * nsU) 0 (l.entries.take l.length)

/-- Position of an instant in the cycle of a list, in 2^-40 ns (R346). -/
def gclPos (l : Gcl) (u : Int) : Nat := ((u - l.anchor * (nsU : Int)) % ((l.cycle * nsU : Nat) : Int)).toNat

/-- The gates of a list at an instant, and the instant at which the entry in progress ends. -/
def gclAt (l : Gcl) (u : Int) : Nat × Int :=
  let pos := gclPos l u
  match (segsOf l).find? fun x => decide (x.1 ≤ pos) && decide (pos < x.2.1) with
  | some (_, e, g) => (g, u + ((e : Int) - (pos : Int)))
  | none => (0xFF, u)

/-- How long after an instant a list next closes a class; 0 when it is closed. -/
def gclCloses (l : Gcl) (c : Nat) (u : Int) : Option Nat :=
  let pos := gclPos l u
  let cyc := l.cycle * nsU
  let segs := segsOf l
  if !bitAt (gclAt l u).1 c then some 0
  else match segs.find? fun x => decide (x.1 > pos) && !bitAt x.2.2 c with
    | some x => some (x.1 - pos)
    | none => (segs.find? fun x => !bitAt x.2.2 c).map fun x => cyc - pos + x.1

/-- The gates of the entry in progress at an instant, and where it ends: an old entry that a change left in progress
keeps its gates until then (R348). -/
def gatesEntry (pg : PortGates) (l : Gcl) (u : Int) : Nat × Int :=
  match pg.overlap with
  | some (g, e) => if u < e then (g, e) else gclAt l u
  | none => gclAt l u

/-- The gates of a port at an instant of device time (R345, R348). -/
def gatesAt (s : State) (p : Fin 8) (u : Int) : Nat :=
  let pg := s.sch.gates[p]
  if !s.flag Obj.GATE_ENABLE (sub p) then 0xFF
  else match pg.active with
    | none => 0xFF
    | some l => (gatesEntry pg l u).1

/-- The close instant of a class under the lists that will be in force, as a time from now; none where it never closes
(R350). -/
def closeIn (s : State) (p : Fin 8) (c : Nat) (u : Int) : Option Nat :=
  let pg := s.sch.gates[p]
  let after := fun (l : Gcl) (e : Int) => (gclCloses l c e).map fun d => (e - u).toNat + d
  if !s.flag Obj.GATE_ENABLE (sub p) then none
  else match pg.active, pg.pending with
    | none, none => none
    | none, some q => after q (max u (pg.changeAt * (nsU : Int)))
    | some l, pend =>
      let own := match pg.overlap with
        | some (g, e) => if u < e then (if bitAt g c then after l e else some 0) else gclCloses l c u
        | none => gclCloses l c u
      match pend with
      | none => own
      | some q =>
        let tc := pg.changeAt * (nsU : Int)
        match own with
        | some d => if u + (d : Int) < tc then some d else after q (max tc (gatesEntry pg l (tc - 1)).2)
        | none => after q (max tc (gatesEntry pg l (tc - 1)).2)

/-- A frame of egress length `len` meets the guard band of its class (R350, R351). -/
def guardBand (s : State) (p : Fin 8) (c len : Nat) : Bool :=
  match closeIn s p c (s.devTime : Int) with
  | none => true
  | some t =>
    let fits := fun (n : Nat) => decide (n * 8 * nsU ≤ t * portRate s p)
    let whole := fits (len + 20)
    let f := minFragment s p
    whole || (preemptActive s p && !classExpress s p c && decide (len ≥ f + 64) && fits (f + 24))

/-! ### Closing gates and frames on the line (R351, R352) -/

/-- The egress length of a frame that has begun; none while a cut-through frame is still arriving (R352). -/
def txLen (s : State) (x : Tx) : Option Nat :=
  if !x.cutThrough || x.committed then some x.len
  else match s.frame? x.frame.fid with
    | some f => if f.complete || f.cut then some (egressLen f.data.length) else none
    | none => some x.len

/-- Bytes of a frame that have left at an instant, from its destination address on. -/
def sentAt (s : State) (p : Fin 8) (x : Tx) (t : Nat) : Nat :=
  let done := bytesTicks (portRate s p) 8
  let n := if portRate s p = 0 ∨ t ≤ x.startedAt + done then x.sent
    else x.sent + (t - x.startedAt - done) * portRate s p / (8 * tickNs)
  match txLen s x with
  | some len => min len n
  | none => n

/-- Bytes of the frame on the line that have left by now. -/
def txSent (s : State) (p : Fin 8) (x : Tx) : Nat := sentAt s p x s.now

/-- The egress length that the MAC is sure of, FCS included. A cut-through frame that still arrives from a host port comes at
least as fast as it leaves (R376), so that the bytes staged at its start are always left; of a frame from a channel the MAC
knows the bytes that have come. -/
def lenFloor (s : State) (p : Fin 8) (x : Tx) : Nat :=
  match txLen s x, s.frame? x.frame.fid with
  | some n, _ => n
  | none, some f => if f.src < 8 then txSent s p x + x.staged else f.data.length + 4
  | none, none => x.len

/-- The MAC can end the fragment in progress now (R382). -/
def canPreempt (s : State) (p : Fin 8) (x : Tx) : Bool :=
  let n := txSent s p x
  preemptActive s p && !classExpress s p x.cls && decide (n - x.sent + 4 ≥ minFragment s p) && decide (lenFloor s p x ≥ n + 64)

/-- The latest preemption point that leaves the line free now, after mCRC and gap (R351, R382): bytes of the frame sent. -/
def closePoint (s : State) (p : Fin 8) (x : Tx) : Option Nat :=
  let n := min (txSent s p x - 16) (lenFloor s p x - 64)
  if preemptActive s p && !classExpress s p x.cls && decide (x.sent + minFragment s p ≤ n + 4) then some n else none

/-- The fragment in progress ends after byte `n`: the rest of the frame waits (R334, R351, R382). -/
def endFragment (p : Fin 8) (x : Tx) (n : Nat) (s : State) : State :=
  (s.bumpRow Obj.MAC_COUNTERS p.val 18 15).modPort p fun o => { o with tx := none, held := some { x with sent := n } }

/-- A frame has outlasted the close of its class by `ticks` (R352). -/
def logOverrun (p : Fin 8) (x : Tx) (ticks : Nat) (s : State) : State :=
  s.evOnce Ev.GATE_OVERRUN p.val [p.val, x.cls, ticks / tickNs]

/-- The frame on the line is sent past the close of its class: counted, and logged with the time it still takes, or, while
its length is unknown, at its end (R352, DESIGN CHOICE, log entry 188). -/
def overrunFrame (p : Fin 8) (x : Tx) (s : State) : State :=
  let s := s.bump Obj.GATE_OVERRUNS (sub p)
  match txLen s x with
  | some n => logOverrun p x (bytesTicks (portRate s p) (n - txSent s p x)) (s.modPort p fun o => { o with tx := some { x with overrun := true } })
  | none => s.modPort p fun o => { o with tx := some { x with overrun := true, closedAt := some s.now } }

/-- All of a frame has left. -/
def allSent (s : State) (p : Fin 8) (x : Tx) : Bool :=
  match txLen s x with
  | some n => decide (n ≤ txSent s p x)
  | none => false

/-- Gate changes reach the scheduler; a class that closes ends its fragment or is overrun (R346, R351, R352). -/
def gateEntry (p : Fin 8) (s : State) : State :=
  let g := gatesAt s p (s.devTime : Int)
  let old := s.sch.gates[p].gates
  let s := s.modGates p fun x => { x with
    gates := g
    before := if x.before.1 = tickOf s.now + 1 then x.before else (tickOf s.now + 1, old)
    overlap := match x.overlap with
    | some (a, e) => if (s.devTime : Int) < e then some (a, e) else none
    | none => none }
  match s.ports[p].tx with
  | some x =>
    if bitAt old x.cls && !bitAt g x.cls then
      if allSent s p x || x.overrun then s
      else match closePoint s p x with
        | some n => (endFragment p x n s).bump Obj.GATE_PREEMPT_CLOSES (sub p)
        | none => overrunFrame p x s
    else s
  | none => s

def execGateEntry (t : Nat) (p : Fin 8) (s : State) : Host.Outcome State Fault Refusal :=
  done t s fun s => if s.running then gateEntry p s else s

/-! ### Commits (R347, R348) -/

/-- The shadow list of a port, all 256 entries (Table 09-7). -/
def shadowList (s : State) (p : Fin 8) : List (Nat × Nat) :=
  (List.range 256).map fun e =>
    let v := s.row Obj.GCL_SHADOW (256 * p.val + e)
    (fld v 63 56, fld v 31 0)

/-- A TIME80 in ns. -/
def time80Ns (v : Nat) : Nat := v / 2 ^ 32 * 1000000000 + v % 2 ^ 32

/-- R347; the statuses in the order of R608. -/
def gclCommit (p : Fin 8) (v : Nat) (s : State) : State :=
  let len := s.obj Obj.GCL_LENGTH (sub p)
  let cycle := s.obj Obj.GCL_CYCLE_NS (sub p)
  let es := shadowList s p
  let good := decide (1 ≤ len) && decide (len ≤ 256) && decide (1 ≤ cycle) && decide (cycle ≤ 1000000000) &&
    (es.take len).all fun e => decide (16 ≤ e.2) && decide (e.2 ≤ 1000000000)
  if v ≠ 1 || !good then s.answer .range
  else if s.sch.gates[p].pending.isSome then s.answer .busy
  else
    let base := time80Ns (s.obj Obj.GCL_BASE_TIME (sub p))
    let lim := s.devTime + 10000 * nsU
    let late := decide (base * nsU < lim)
    let k := (lim - base * nsU + cycle * nsU - 1) / (cycle * nsU)
    let tc : Nat := if late then base + k * cycle else base
    let s := if late then s.bump Obj.GCL_LATE_COMMITS (sub p) else s
    let l : Gcl := { entries := es, length := len, cycle := cycle, anchor := (tc : Int) }
    (s.modGates p fun x => { x with pending := some l, changeAt := (tc : Int) }).answer .ok

def execGclCommit (t : Nat) (p : Fin 8) (v : Nat) (s : State) : Host.Outcome State Fault Refusal :=
  done t s fun s => s.hostWrite (gclCommit p v)

/-- The pending list becomes active; `seam` keeps the entry in progress (R348, R349). -/
def gclActivate (p : Fin 8) (seam : Bool) (s : State) : State :=
  let pg := s.sch.gates[p]
  match pg.pending with
  | none => s
  | some q =>
    let tc := pg.changeAt * (nsU : Int)
    let beyond : Option (Nat × Int) := match pg.active with
      | some l =>
        let (g, e) := gatesEntry pg l (tc - 1)
        if seam && decide (e > tc) then some (g, e) else none
      | none => none
    let s := s.modGates p fun x => { x with active := some q, pending := none, overlap := beyond }
    s.ev Ev.GCL_CHANGED ([p.val] ++ p64 (ofS 64 pg.changeAt) ++ [b2n beyond.isSome])

/-- R348: at Tc. -/
def gclChanged (p : Fin 8) (s : State) : State :=
  let pg := s.sch.gates[p]
  if pg.pending.isSome && decide ((s.devTime : Int) ≥ pg.changeAt * (nsU : Int)) then gateEntry p (gclActivate p true s) else s

def execGclChanged (t : Nat) (p : Fin 8) (s : State) : Host.Outcome State Fault Refusal :=
  done t s fun s => if s.running then gclChanged p s else s

/-- A step of device time by `u` ends the entry in progress on every port; each port counts and logs it (R349). -/
def gatesTimeStep (u : Int) (s : State) : State :=
  (fins 8).foldl (fun s p =>
    let pg := s.sch.gates[p]
    let s := (s.bump Obj.GCL_TIME_STEPS (sub p)).ev Ev.GCL_TIME_STEP ([p.val] ++ p64 (ofS 64 (u / (nsU : Int))))
    let s := s.modGates p fun x => { x with overlap := none }
    let s := if pg.pending.isSome && decide ((s.devTime : Int) ≥ pg.changeAt * (nsU : Int)) then gclActivate p false s else s
    gateEntry p s) s

end Sys2Proof.Machine
end

