-- ==== Sys2Proof/Machine/Time.lean ====
section
/-! DEFINITION. Chapter 12: the clocks and their servos, device time, the time-stamp queue, PPS, the time link and the PTP stack. -/
namespace Sys2Proof.Machine

/-- Updates a domain. -/
def State.modDom (s : State) (x : Fin 2) (f : Dom → Dom) : State :=
  { s with time := { s.time with doms := vmod s.time.doms x f } }

/-- The state code of Table 12-3. -/
def domCode : DomState → Nat
  | .freeRun => 0
  | .locking => 1
  | .locked => 2
  | .holdover => 3

/-- The rank of a state in automatic selection (R440). -/
def domRank : DomState → Nat
  | .freeRun => 0
  | .locking => 1
  | .holdover => 2
  | .locked => 3

/-- A signed value in 2^-40 ns as picoseconds, rounded down. -/
def toPs (u : Int) : Int := u * 1000 / (2 ^ 40 : Nat)

/-- A signed value as a 64-bit two-word parameter (R569). -/
def pI64 (i : Int) : List Nat := p64 (ofS 64 i)

/-- The event time counter over a step of device time from what it read (R455): a backward step holds it, and the start
of a hold is logged with the size of the step. -/
def holdEventTime (dev0 before : Nat) (s : State) : State :=
  if s.devTime / nsU < before then
    let s := { s with island := { s.island with lastTime := max s.island.lastTime before } }
    if dev0 < before then s else s.ev Ev.EVENT_TIME_HELD (p64 (before - s.devTime / nsU))
  else s

/-- What follows a step of device time (R442). -/
def deviceStepped (u : Int) (dev0 before : Nat) (s : State) : State :=
  let s := { s with time := { s.time with stepped := true } }
  holdEventTime dev0 before (pmSuspectNow (gatesTimeStep u s))

/-- Device time has started again from 0: the event time counter holds what it read, and the start of a hold is held for the
log with the size of the step (R428, R455). -/
def holdFromZero (dev0 before : Nat) (s : State) : State :=
  let s := { s with island := { s.island with lastTime := before } }
  if dev0 < before ∨ before = 0 then s else s.evHeld Ev.EVENT_TIME_HELD (p64 before)

/-- A step of a domain clock by θ (R438, R442). -/
def stepDom (x : Fin 2) (theta : Int) (s : State) : State :=
  let dev0 := s.devTime / nsU
  let before := s.eventTime
  let sel := s.time.selected = x
  let s := s.modDom x fun d =>
    { d with clk := { at0 := s.now, val := ((clockAt d.clk s.now : Int) + theta).toNat, rate := d.clk.rate } }
  let s := s.bump Obj.TIME_STEPS (sub x)
  let s := s.ev (Ev.TIME_STEPPED + x.val) ([x.val] ++ pI64 (toPs theta) ++ [b2n sel])
  if sel then deviceStepped theta dev0 before s else s

/-- The rate words that have been in force since an instant, newest first. -/
def keepRates (from0 : Nat) : List (Nat × Int) → List (Nat × Int)
  | [] => []
  | h :: l => if h.1 ≤ from0 then [h] else h :: keepRates from0 l

/-- Sets a domain's rate word at this instant (R427). -/
def setRate (x : Fin 2) (word : Int) (s : State) : State :=
  let w := clampI (-32768000000) 32768000000 word
  s.modDom x fun d =>
    { d with clk := { at0 := s.now, val := clockAt d.clk s.now, rate := w }
             hist := (s.now, w) :: keepRates (s.now - 64 * tickS) d.hist }

/-- Makes a domain steer device time without a phase step (R440, R441). -/
def switchTo (x : Fin 2) (cause : Nat) (s : State) : State :=
  if s.time.selected = x then s
  else
    let d : Int := (s.devTime : Int) - (clockAt s.time.doms[x].clk s.now : Int)
    let old := s.time.selected
    let s := { s with time := { s.time with selected := x, delta := d, deltaAt := s.now } }
    let s := s.bump Obj.TIME_SWITCHES
    s.ev Ev.TIME_SWITCHED ([old.val, x.val] ++ pI64 (toPs d) ++ [cause])

/-- Automatic selection: the other domain takes over when its rank is strictly higher (R440). -/
def autoSelect (s : State) : State :=
  if s.obj Obj.TIME_SELECT = 2 then
    let o : Fin 2 := 1 - s.time.selected
    if domRank s.time.doms[o].state > domRank s.time.doms[s.time.selected].state then switchTo o 2 s else s
  else s

/-- A state change of a domain by a trigger of Table 12-4. -/
def domEnter (x : Fin 2) (st : DomState) (code : Nat) (s : State) : State :=
  let old := s.time.doms[x].state
  let s := s.modDom x fun d => { d with
    state := st
    run := if st = .locking then none else d.run
    outliers := if st = .locking then 0 else d.outliers
    lockedAt := if st = .locked then s.now else d.lockedAt
    holdoverAt := if st = .holdover then s.now else d.holdoverAt }
  autoSelect (s.ev (Ev.TIME_STATE_CHANGED + x.val) [x.val, domCode old, domCode st, code])

/-- Whole seconds since the last entry to Locked, 0 outside it (R439). -/
def lockedSeconds (s : State) (x : Fin 2) : Nat :=
  if s.time.doms[x].state = .locked then (s.now - s.time.doms[x].lockedAt) / tickS else 0

/-- The mean of the rate words in force over the last 64 s (R438): the time-weighted sum of the history. -/
def meanRate (now : Nat) (d : Dom) : Int :=
  let from0 := now - 64 * tickS
  let go := fun (acc : Int × Nat) (h : Nat × Int) =>
    let b := max h.1 from0
    if acc.2 > b then (acc.1 + h.2 * ((acc.2 - b : Nat) : Int), b) else acc
  let (sum, b) := d.hist.foldl go (0, now)
  let (sum, b) := if b > from0 ∧ d.hist = [] then (sum + d.clk.rate * ((b - from0 : Nat) : Int), from0) else (sum, b)
  if now ≤ b then d.clk.rate else sum / ((now - b : Nat) : Int)

/-- Source loss of a domain (codes 5 and 6 of Table 12-4). -/
def sourceLoss (x : Fin 2) (s : State) : State :=
  let d := s.time.doms[x]
  if d.state = .locked ∧ lockedSeconds s x ≥ 900 then
    domEnter x .holdover 5 (setRate x (meanRate s.now d) s)
  else if d.state = .locked ∨ d.state = .locking then
    domEnter x .freeRun 6 ((setRate x 0 s).modDom x fun d => { d with integral := 0 })
  else s

/-- A usable sample θ with source time `src` for a domain (R438). -/
def servoSample (x : Fin 2) (theta : Int) (src : Nat) (s : State) : State :=
  let d := s.time.doms[x]
  let step := (s.obj Obj.TIME_STEP_THRESHOLD_NS (sub x) * nsU : Nat)
  let tau : Int := match d.last with
    | none => secU
    | some l => (src : Int) - (l : Int)
  let s := s.modDom x fun d => { d with last := some src, lastUsable := s.now, theta := theta }
  let abs : Int → Int := fun v => if v < 0 then -v else v
  match d.state with
  | .freeRun =>
    let pair := match d.pair with
      | some (pt, ps, at0) =>
        if s.now > at0 + s.obj Obj.TIME_SRC_TIMEOUT_S (sub x) * tickS then none else some (pt, ps)
      | none => none
    match pair with
    | none => s.modDom x fun d => { d with pair := some (theta, src, s.now) }
    | some (pt, ps) =>
      if abs (theta - pt) > (s.obj Obj.TIME_CONFIRM_NS (sub x) * nsU : Nat) then
        s.modDom x fun d => { d with pair := some (theta, src, s.now) }
      else
        let dt : Int := (src : Int) - (ps : Int)
        let (integral, s) : Int × State :=
          if dt = 0 then ((Config.freeValue s.draws : Int), { s with draws := s.draws + 1 })
          else ((theta - pt) * (secU : Int) / dt, s)
        let s := s.modDom x fun d => { d with integral := integral, pair := none }
        let s := setRate x (integral / (2 ^ 24 : Nat)) s
        domEnter x .locking 1 (stepDom x theta s)
  | .holdover =>
    let s := if abs theta > step then stepDom x theta s else s
    domEnter x .locking 3 s
  | _ =>
    let outlier := d.state = .locked ∧ abs theta > (s.obj Obj.TIME_OUTLIER_NS (sub x) * nsU : Nat)
    let s := if outlier then
        let s := s.modDom x fun d => { d with outliers := d.outliers + 1 }
        (s.bump Obj.TIME_OUTLIERS (sub x)).evOnce (Ev.TIME_OUTLIER + x.val) x.val ([x.val] ++ pI64 (toPs theta))
      else s
    if outlier ∧ d.outliers + 1 < 4 then s
    else
      let s := if outlier then domEnter x .locking 4 s else s
      let s := s.modDom x fun d => { d with outliers := 0 }
      let big := abs theta > step
      let s := if big then
          let s := stepDom x theta s
          if s.time.doms[x].state = .locked then domEnter x .locking 4 s
          else s.modDom x fun d => { d with run := none, outliers := 0 }
        else s
      let theta : Int := if big then 0 else theta
      let locking := s.time.doms[x].state = .locking
      let kp : Int := if locking then 4 else 16
      let ki : Int := if locking then 64 else 1024
      let integral := s.time.doms[x].integral + theta * tau / (ki * (secU : Int))
      let lim : Int := 500000 * (2 ^ 40 : Nat)
      let rate := clampI (-lim) lim (integral + theta / kp)
      let s := s.modDom x fun d => { d with integral := integral }
      let s := setRate x (rate / (2 ^ 24 : Nat)) s
      if abs theta ≤ (20 * nsU : Nat) then
        let run := s.time.doms[x].run.getD src
        let s := s.modDom x fun d => { d with run := some run }
        if locking ∧ src ≥ run + 64 * secU then domEnter x .locked 2 s else s
      else s.modDom x fun d => { d with run := none }

/-- The mean of the last 16 emission errors of a channel, in 2^-40 ns (R434). -/
def epsMean (s : State) (ch : Fin 4) : Int :=
  let l := s.time.eps[ch]
  if l.isEmpty then 0 else l.foldl (· + ·) 0 / (l.length : Int)

/-- Takes an emission error, in 2^-40 ns, into the mean (R434). -/
def addEps (ch : Fin 4) (e : Int) (s : State) : State :=
  { s with time := { s.time with eps := vmod s.time.eps ch fun l => (e :: l).take 16 } }

/-- A domain takes the Time of Day directives of a channel that is its source; one kept over Sleep only within its
timeout (R428). -/
def todTimely (s : State) (x : Fin 2) (ch : Fin 4) (di : DirIn) : Bool :=
  s.obj Obj.TIME_DOM_SOURCE (sub x) == ch.val + 1 &&
    decide (s.now ≤ di.arrival + s.obj Obj.TIME_SRC_TIMEOUT_S (sub x) * tickS)

/-- A Time of Day directive as a servo sample (R433, R435). -/
def timeOfDay (ch : Fin 4) (di : DirIn) (s : State) : State :=
  let c := di.d.content
  let sec := fld c 287 240
  let ns := fld c 239 208
  let frac := fld c 207 192
  let asym := toS 32 (fld c 191 160)
  let rx := s.rx[ch]
  let usable := di.tod && di.firstTod && ns ≤ 999999999 && di.measured && rx.calibrated && s.act[ch].rtdValid && !di.jumped
  let use := fun (x : Fin 2) => s.obj Obj.TIME_DOM_SOURCE (sub x) = ch.val + 1
  let a : Int := (s.act[ch].rtd * 2 ^ 40 * 10000 / 995328 : Nat)
  let dd : Int := (a - epsMean s ch) * ((2 ^ 31 : Nat) + asym) / (2 ^ 32 : Nat)
  let src := ((sec * secU + ns * nsU + frac * 2 ^ 24 : Nat) : Int) + dd
  let s := s.bump Obj.TIME_TOD_RECEIVED (sub ch)
  let sample := fun (s : State) (x : Fin 2) =>
    if todTimely s x ch di then
      let same := match s.time.doms[x].headEnd with
        | some h => h = rx.heId
        | none => true
      if usable && same then
        let s := { s with time := { s.time with dd := vmod s.time.dd ch fun _ => toPs dd } }
        let s := s.modDom x fun d => { d with headEnd := some rx.heId }
        servoSample x (src - (clockAt s.time.doms[x].clk di.arrival : Int)) src.toNat s
      else s
    else s
  let bad := !usable || (fins 2).any fun x => use x &&
    (match s.time.doms[x].headEnd with
      | some h => h != rx.heId
      | none => false)
  let s := if bad then s.bump Obj.TIME_TOD_UNUSABLE (sub ch) else s
  (fins 2).foldl sample s

/-- A change of a channel's latched head end acts as a change of source on its domains (R433). -/
def headEndChanged (ch : Fin 4) (s : State) : State :=
  (fins 2).foldl (fun s x =>
    if s.obj Obj.TIME_DOM_SOURCE (sub x) = ch.val + 1 then
      (sourceLoss x s).modDom x fun d => { d with headEnd := some s.rx[ch].heId }
    else s) s

/-- The every-second check of a domain (R437, R438). -/
def sourceCheck (s : State) (x : Fin 2) : State :=
  let d := s.time.doms[x]
  let lim := s.obj Obj.TIME_SRC_TIMEOUT_S (sub x) * tickS
  let s := s.modDom x fun d => { d with pair := match d.pair with
    | some (a, b, at0) => if s.now > at0 + lim then none else some (a, b, at0)
    | none => none }
  if (d.state = .locking ∨ d.state = .locked) ∧ s.now ≥ d.lastUsable + lim then sourceLoss x s else s

def execSourceTimeout (t : Nat) (s : State) : Host.Outcome State Fault Refusal :=
  done t s fun s => if s.running then (fins 2).foldl sourceCheck s else s

/-- Code 7 of Table 12-4: the rate word is kept. -/
def execTimeHoldover (t : Nat) (x : Fin 2) (s : State) : Host.Outcome State Fault Refusal :=
  done t s fun s =>
    if s.running ∧ s.time.doms[x].state = .holdover ∧
        s.now ≥ s.time.doms[x].holdoverAt + s.obj Obj.TIME_HOLDOVER_S (sub x) * tickS then
      domEnter x .freeRun 7 s
    else s

/-- R443: accepted only while the selected domain is in Free-run. -/
def timeSet (sec ns : Nat) (s : State) : State :=
  let x := s.time.selected
  if ns > 999999999 ∨ sec ≥ 2 ^ 48 then s.answer .range
  else if s.time.doms[x].state ≠ .freeRun then s.answer .state
  else
    let dev0 := s.devTime / nsU
    let before := s.eventTime
    let v := sec * secU + ns * nsU
    let u : Int := (v : Int) - (s.devTime : Int)
    let s := s.modDom x fun d =>
      { d with clk := { at0 := s.now, val := v, rate := d.clk.rate }, pair := none }
    let s := { s with time := { s.time with delta := 0, deltaAt := s.now } }
    let s := s.ev (Ev.TIME_STEPPED + x.val) ([x.val] ++ pI64 (toPs u) ++ [1])
    (deviceStepped u dev0 before s).answer .ok

def execTimeSet (t sec ns : Nat) (s : State) : Host.Outcome State Fault Refusal :=
  done t s fun s => s.hostWrite (timeSet sec ns)

/-- R440. -/
def timeSelect (v : Nat) (s : State) : State :=
  if v > 2 then s.answer .range
  else
    let s := (s.setObj Obj.TIME_SELECT 0 v).answer .ok
    if v = 0 then switchTo 0 1 s else if v = 1 then switchTo 1 1 s else autoSelect s

def execTimeSelect (t v : Nat) (s : State) : Host.Outcome State Fault Refusal :=
  done t s fun s => s.hostWrite (timeSelect v)

/-- R437: a change of source acts as an immediate source loss; code 8 applies after it when the new source is none. -/
def timeDomSource (x : Fin 2) (v : Nat) (s : State) : State :=
  if v > 6 then s.answer .range
  else
    let old := s.obj Obj.TIME_DOM_SOURCE (sub x)
    let s := (s.setObj Obj.TIME_DOM_SOURCE (sub x) v).answer .ok
    if old = v then s
    else
      let s := sourceLoss x s
      let he : Option Nat := if h : 1 ≤ v ∧ v ≤ 4 then
          (s.rx[(⟨v - 1, by omega⟩ : Fin 4)].latched).map (·.2)
        else none
      let s := s.modDom x fun d => { d with headEnd := he }
      let st := s.time.doms[x].state
      if v = 0 ∧ (st = .locking ∨ st = .holdover) then domEnter x .freeRun 8 s else s

def execTimeDomSource (t : Nat) (x : Fin 2) (v : Nat) (s : State) : Host.Outcome State Fault Refusal :=
  done t s fun s => s.hostWrite (timeDomSource x v)

/-! ### PPS -/

/-- Device time stands at a whole second, within 2 ns. -/
def wholeSecond (s : State) : Bool := decide ((s.devTime + 2 * nsU) % secU ≤ 4 * nsU)

/-- PPS_OUT rises at a whole second of device time, within its 2 ns (R451). -/
def ppsOut (s : State) : State :=
  let st := s.time.doms[s.time.selected].state
  let squelched := s.flag Obj.PPS_OUT_SQUELCH && (st == .freeRun || st == .locking)
  let rise := ((s.now : Int) - toS 32 (s.obj Obj.PPS_OUT_ADJ_PS) * (tickPs : Int)).toNat
  let soon := match s.time.ppsOutRise with
    | some r => rise < r + 500 * tickMs
    | none => false
  if s.flag Obj.PPS_OUT_ENABLE && wholeSecond s && !squelched && !soon then
    { s with time := { s.time with ppsOutRise := some rise,
                                   ppsOutUntil := rise + s.obj Obj.PPS_OUT_WIDTH_MS * tickMs } }
  else s

def execPpsOut (t : Nat) (s : State) : Host.Outcome State Fault Refusal :=
  done t s fun s => if s.running ∨ s.inSleep then ppsOut s else s

/-- The level of PPS_OUT now (R451). -/
def ppsOutHigh (s : State) : Bool :=
  match s.time.ppsOutRise with
  | some r => r ≤ s.now && s.now < s.time.ppsOutUntil
  | none => false

/-- The whole second nearest a clock value. -/
def nearestSecond (u : Nat) : Nat := (u + secU / 2) / secU * secU

/-- A rising edge on PPS_IN (R452). -/
def ppsIn (s : State) : State :=
  let soon := match s.time.ppsInLast with
    | some l => s.now < l + 900 * tickMs
    | none => false
  if !s.flag Obj.PPS_IN_ENABLE || soon then s
  else
    let e := ((roundStamp s.now : Int) - toS 32 (s.obj Obj.PPS_IN_ADJ_PS) * (tickPs : Int)).toNat
    let d := s.devTimeAt e
    let off := toPs ((d : Int) - (nearestSecond d : Int))
    let s := { s with time := { s.time with ppsInLast := some s.now, ppsInOffset := off, ppsInFaulted := false } }
    (fins 2).foldl (fun s x =>
      if s.running ∧ s.obj Obj.TIME_DOM_SOURCE (sub x) = 6 then
        let c := clockAt s.time.doms[x].clk e
        servoSample x ((nearestSecond c : Int) - (c : Int)) (nearestSecond c) s
      else s) s

def execPpsIn (t : Nat) (s : State) : Host.Outcome State Fault Refusal :=
  done t s fun s => if s.running ∨ s.inSleep then ppsIn s else s

def execPpsInFault (t : Nat) (s : State) : Host.Outcome State Fault Refusal :=
  done t s fun s => match s.time.ppsInLast with
    | some l =>
      if (s.running || s.inSleep) && s.flag Obj.PPS_IN_ENABLE && !s.time.ppsInFaulted && decide (s.now ≥ l + 1100 * tickMs) then
        let s := { s with time := { s.time with ppsInFaulted := true } }
        (s.bump Obj.PPS_IN_MISSED).ev Ev.PPS_IN_FAULT [(s.now - l) / tickUs]
      else s
    | none => s

/-! ### The time link (R453, R454) -/

/-- The message of Table 12-7 that the manager drives now, with its CRC. -/
def tlinkMessage (s : State) : Nat :=
  let u := s.devTime
  let body := (u + nsU / 2) / secU * 2 ^ 80 + domCode s.time.doms[s.time.selected].state * 2 ^ 78 +
    b2n s.time.stepped * 2 ^ 77 + s.bus.addr * 2 ^ 64 + s.obj Obj.TIME_TAI_UTC * 2 ^ 48 + s.time.tlSeq * 2 ^ 32
  body + crc16Tlink body

def execTlinkMessageSend (t : Nat) (s : State) : Host.Outcome State Fault Refusal :=
  done t s fun s =>
    if !wholeSecond s then s
    else if s.running ∧ s.bus.manager ∧ s.flag Obj.TLINK_ENABLE then
      { s with time := { s.time with tlOut := tlinkMessage s, tlDriving := true, stepped := false,
                                     tlSeq := (s.time.tlSeq + 1) % 65536 } }
    else { s with time := { s.time with tlDriving := false, stepped := false } }

/-- The high time of a cell in ps: the second marker, a bit of the message, or idle (R453). -/
def cellHigh (msg k : Nat) : Nat :=
  if k = 0 then 90000 else if k ≤ 128 then (if bitAt msg (128 - k) then 70000 else 30000) else 50000

/-- The high times in ps of the marker and the message cells that the manager drives (R453). -/
def tlinkCells (msg : Nat) : List Nat := (List.range 129).map (cellHigh msg)

/-- A measured high time fits a class within 10 ns (R454). -/
def cellFits (high cls : Nat) : Bool := decide (high ≤ cls + 10000) && decide (cls ≤ high + 10000)

/-- The class of a measured high time: of two that both fit, at 40, 60 and 80 ns, the shorter (DESIGN CHOICE, log entry
91). -/
def cellClass (high : Nat) : Option Nat := [30000, 50000, 70000, 90000].find? (cellFits high)

/-- The message that measured cells spell: the marker, then a bit in each cell; none where a cell fits no class or another
one than its place allows (R454). -/
def tlinkRead (highs : List Nat) : Option Nat :=
  match highs.map cellClass with
  | some 90000 :: rest =>
    rest.foldl (fun m c => match m, c with
      | some v, some 70000 => some (2 * v + 1)
      | some v, some 30000 => some (2 * v)
      | _, _ => none) (some 0)
  | _ => none

/-- A worker receives a message whose marker edge came at this instant (R454). In Sleep the time engine runs and takes the
message, but no domain takes a sample (R428). -/
def tlinkMsg (highs : List Nat) (s : State) : State :=
  if s.bus.manager then s
  else match tlinkRead highs with
  | none => s.bump Obj.TLINK_CRC_ERRORS
  | some m =>
    if m % 2 ^ 16 ≠ crc16Tlink m then s.bump Obj.TLINK_CRC_ERRORS
    else
      let q := fld m 47 32
      let back := s.time.tlFault
      let s := { s with time := { s.time with tlLastGood := some s.now, tlLastSeq := q, tlFault := false } }
      let s := if back then s.ev Ev.TLINK_FAULT [0, q] else s
      let src := fld m 127 80 * secU + s.obj Obj.TLINK_DELAY_PS * nsU / 1000
      (fins 2).foldl (fun s x =>
        if s.running ∧ s.obj Obj.TIME_DOM_SOURCE (sub x) = 5 then
          servoSample x ((src : Int) - (clockAt s.time.doms[x].clk (roundStamp s.now) : Int)) src s
        else s) s

def execTlinkMessage (t : Nat) (highs : List Nat) (s : State) : Host.Outcome State Fault Refusal :=
  doneIf (decide (highs.length = 129)) t s fun s => if s.running ∨ s.inSleep then tlinkMsg highs s else s

def execTlinkFault (t : Nat) (s : State) : Host.Outcome State Fault Refusal :=
  done t s fun s => match s.time.tlLastGood with
    | some g =>
      if (s.running || s.inSleep) && !s.bus.manager && !s.time.tlFault && decide (s.now ≥ g + 1100 * tickMs) then
        State.ev { s with time := { s.time with tlFault := true } } Ev.TLINK_FAULT [1, s.time.tlLastSeq]
      else s
    | none => s

/-- `TLINK_STATE`. -/
def tlinkState (s : State) : Nat :=
  if s.time.tlDriving then b2n (s.flag Obj.TLINK_ENABLE)
  else if s.bus.manager then 0
  else match s.time.tlLastGood with
    | some _ => if s.time.tlFault then 3 else 2
    | none => 0

/-! ### The time-stamp queue (R448-R450) -/

/-- A host kind of entry (R448). -/
def tsHostKind (k : Nat) : Bool := k == 1 || k == 2 || k == 3

/-- The 256-bit entry of Table 12-6. -/
def tsBits (e : TsEntry) : Nat :=
  2 ^ 255 + e.kind * 2 ^ 252 + e.port * 2 ^ 248 + e.domain * 2 ^ 247 + b2n e.uncal * 2 ^ 246 + b2n e.gap * 2 ^ 245 +
    b2n e.notSent * 2 ^ 244 + e.tag * 2 ^ 224 + e.ptpSeq * 2 ^ 208 + e.ptpType * 2 ^ 204 + b2n e.ptpValid * 2 ^ 203 +
    e.burstOffset * 2 ^ 176 + (if e.notSent then 0 else e.stamp)

/-- The control cores consume a complete entry of their own transmission at once (R448; DESIGN CHOICE, log entry 199). -/
def coresHave (e : TsEntry) : Bool := e.kind == 4 && e.complete

/-- The control cores consume an entry (R448). -/
def tsConsume (id : Nat) (s : State) : State :=
  { s with time := { s.time with tsq := s.time.tsq.filter fun e => e.id ≠ id } }

/-- Reserves or takes an entry; none when the queue is full for its consumer, and the drop is counted (R450). -/
def tsCapture (e : TsEntry) (s : State) : Option Nat × State :=
  let host := (s.time.tsq.filter fun x => tsHostKind x.kind).length
  let full := s.time.tsq.length ≥ 512 || (tsHostKind e.kind && host ≥ s.obj Obj.TS_HOST_LIMIT)
  if full then
    let s := if tsHostKind e.kind then { s with time := { s.time with gapHost := true } }
      else { s with time := { s.time with gapCpu := true } }
    (none, (s.bump Obj.TS_QUEUE_OVERFLOW).evOnce Ev.TS_QUEUE_OVERFLOW 0 [e.kind, e.tag])
  else
    let id := s.time.tsNext
    let gap := if tsHostKind e.kind then s.time.gapHost else s.time.gapCpu
    let e := { e with id := id, gap := gap, domain := s.time.selected.val }
    let tm := { s.time with tsq := s.time.tsq ++ (if coresHave e then [] else [e]), tsNext := id + 1 }
    let tm := if tsHostKind e.kind then { tm with gapHost := false } else { tm with gapCpu := false }
    (some id, { s with time := tm })

/-- Completes a reserved entry with its stamp, or as not sent (R449). The stamp's domain is that of its instant, and a
stamp of an uncalibrated path is flagged (R430). -/
def tsComplete (id : Option Nat) (sent : Bool) (stamp off : Nat) (s : State) (uncal : Bool := false) : State :=
  match id with
  | none => s
  | some i =>
    let q := s.time.tsq.map fun e =>
      if e.id = i then { e with
        complete := true, notSent := !sent, stamp := stamp, burstOffset := off, uncal := uncal
        domain := if sent then s.time.selected.val else e.domain } else e
    { s with time := { s.time with tsq := q.filter fun e => !coresHave e } }

/-- A stamp taken before the calibration of its path completes is counted when it is taken (R430). -/
def countUncal (uncal : Bool) (s : State) : State := if uncal then s.bump Obj.TIME_UNCAL_STAMPS else s

/-- `TS_POP`: the oldest complete host entry, or 0 (R448, R449). -/
def tsPop (s : State) : State :=
  match s.time.tsq.find? fun e => tsHostKind e.kind && e.complete with
  | some e => { s with value := beBytes 32 (tsBits e), status := .ok,
                       time := { s.time with tsq := s.time.tsq.filter fun x => x.id ≠ e.id } }
  | none => { s with value := zeros 32, status := .ok }

def execTsPop (t : Nat) (s : State) : Host.Outcome State Fault Refusal :=
  done t s fun s => s.hostWrite tsPop

/-! ### The PTP stack (R447) -/

/-- The MAC address of a node (R525). -/
def nodeMac (a : Nat) : Bytes := [0x02, 0x4C, 0x59, 0x54, 0x00, BitVec.ofNat 8 a]

/-- The clockClass that the selected domain's state announces (R447). -/
def clockClass (s : State) : Nat :=
  match s.time.doms[s.time.selected].state with
  | .locked => s.obj Obj.TIME_PTP_CLASS_LOCKED
  | .holdover => 135
  | _ => 248

/-- A PTP message in an Ethernet frame; layout of IEEE 1588 (PRESUMED, log entry 8). -/
def ptpFrame (s : State) (type len logInt : Nat) (seq : Nat) (body : Bytes) (corr : Bytes := zeros 8) : Bytes :=
  let dst : Bytes := if s.obj Obj.TIME_PTP_MCAST = 0 then [0x01, 0x80, 0xC2, 0, 0, 0x0E] else [0x01, 0x1B, 0x19, 0, 0, 0]
  let id := beBytes 8 (beNat (nodeMac s.bus.addr) / 2 ^ 24 * 2 ^ 40 + 0xFFFE * 2 ^ 24 + beNat (nodeMac s.bus.addr) % 2 ^ 24)
  dst ++ nodeMac s.bus.addr ++ beBytes 2 0x88F7 ++ beBytes 1 type ++ beBytes 1 2 ++ beBytes 2 len ++
    beBytes 1 (s.obj Obj.TIME_PTP_DOMAIN) ++ zeros 1 ++ zeros 2 ++ corr ++ zeros 4 ++ id ++ beBytes 2 1 ++
    beBytes 2 seq ++ beBytes 1 (if type = 0 then 0 else if type = 9 then 3 else 5) ++ beBytes 1 logInt ++ body

/-- The answer to a Delay_Req whose PTP header begins at an offset and whose ingress stamp the entry holds: the receive time,
its part below the nanosecond taken off the correction of the request, and the port that asked (R447, log entry 8). -/
def delayResp (s : State) (req : Bytes) (off : Nat) (stamp : Nat) : Bytes :=
  let corr := ofS 64 (toS 64 (beAt req (off + 8) 8) - ((stamp % 2 ^ 16 : Nat) : Int))
  ptpFrame s 9 54 (ofS 8 (-4)) (beAt req (off + 30) 2)
    (beBytes 6 (stamp / 2 ^ 46) ++ beBytes 4 (stamp / 2 ^ 16 % 2 ^ 30) ++ (req.drop (off + 20)).take 10) (beBytes 8 corr)

/-- A frame is a Delay_Req for the stack: a master port, Ethernet encapsulation, the domain's number (R447). -/
def isDelayReq (s : State) (q : QFrame) : Bool :=
  match q.ptpOff, q.udpOff with
  | some o, none => q.fromPort && bitAt (s.obj Obj.TIME_PTP_PORTS) q.src && beAt q.data o 1 % 16 == 1 &&
      beAt q.data (o + 4) 1 == s.obj Obj.TIME_PTP_DOMAIN
  | _, _ => false

/-- The control cores take a frame from the mailbox: they consume its entry of the time-stamp queue (R448), and the PTP
stack answers a Delay_Req whose stamp it has (R447). -/
def coresTake (q : QFrame) (s : State) : State :=
  match q.ts with
  | none => s
  | some id =>
    let s1 := tsConsume id s
    match s.time.tsq.find? fun e => e.id == id, q.ptpOff with
    | some e, some o =>
      if isDelayReq s q then { s1 with cpuq := s1.cpuq ++ [(delayResp s q.data o e.stamp, q.src * 8 + 7, 0)] } else s1
    | _, _ => s1

/-- An interval of the PTP stack has passed since the last message of its kind (R447). -/
def ptpDue (s : State) (last : Option Nat) (interval : Nat) : Bool := last.all fun l => decide (l + interval ≤ s.now)

/-- Submits a frame of the PTP stack on every master port (R447). -/
def ptpSubmit (bytes : Bytes) (mode : Nat) (s : State) : State :=
  (List.range 8).foldl (fun s p =>
    if bitAt (s.obj Obj.TIME_PTP_PORTS) p then { s with cpuq := s.cpuq ++ [(bytes, p * 8 + 7, mode)] } else s) s

def execPtpSync (t : Nat) (s : State) : Host.Outcome State Fault Refusal :=
  done t s fun s =>
    if s.running ∧ ptpDue s s.time.ptpSyncAt (tickS / 16) then
      let s := ptpSubmit (ptpFrame s 0 44 (ofS 8 (-4)) s.time.ptpSyncSeq (zeros 10)) 1 s
      { s with time := { s.time with ptpSyncSeq := (s.time.ptpSyncSeq + 1) % 65536, ptpSyncAt := some s.now } }
    else s

def execPtpAnnounce (t : Nat) (s : State) : Host.Outcome State Fault Refusal :=
  done t s fun s =>
    if s.running ∧ ptpDue s s.time.ptpAnnAt (tickS / 8) then
      let id := (ptpFrame s 0 0 0 0 []).drop 34 |>.take 8
      let body := zeros 10 ++ beBytes 2 (s.obj Obj.TIME_TAI_UTC) ++ zeros 1 ++ beBytes 1 128 ++
        beBytes 1 (clockClass s) ++ beBytes 1 0xFE ++ beBytes 2 0xFFFF ++ beBytes 1 128 ++ id ++ zeros 2 ++ beBytes 1 0xA0
      let s := ptpSubmit (ptpFrame s 0xB 64 (ofS 8 (-3)) s.time.ptpAnnSeq body) 0 s
      { s with time := { s.time with ptpAnnSeq := (s.time.ptpAnnSeq + 1) % 65536, ptpAnnAt := some s.now } }
    else s

end Sys2Proof.Machine
end

