-- ==== Sys2Proof/Machine/PowerOps.lean ====
section
/-! DEFINITION. Operations of the power state machine that other chapters use: fail-safe PTXDIS, restarts, wakes and the start of an exit (R49, R194, R491-R499, R514, R547). -/
namespace Sys2Proof.Machine

/-- Updates one channel's tailrace and guard. -/
def State.modUs (s : State) (ch : Fin 4) (f : Us → Us) : State := { s with us := vmod s.us ch f }
/-- Updates one channel's receiver. -/
def State.modRx (s : State) (ch : Fin 4) (f : Rx → Rx) : State := { s with rx := vmod s.rx ch f }
/-- Updates one channel's activation. -/
def State.modAct (s : State) (ch : Fin 4) (f : Act → Act) : State := { s with act := vmod s.act ch f }

/-- A fail-safe path asserts PTXDIS on every channel: no latch, no trip (R194). -/
def assertPtxdisAll (s : State) : State :=
  (fins 4).foldl (fun s ch => s.modUs ch fun u => { u with failSafe := true }) s

/-- A JTAG instruction is in force (R597). -/
def tapIn (s : State) (i : JtagInstr) : Bool := !s.jtag.held && s.jtag.instr == i

/-- The boundary cell of PBEN[n], and of PTXDIS[n], in the order of Table 17-1 (log entry 142). -/
def pbenCell (s : State) (ch : Fin 4) : Bool := s.jtag.boundary.getLsbD ch.val
/-- The boundary cell of PTXDIS[n]. -/
def ptxdisCell (s : State) (ch : Fin 4) : Bool := s.jtag.boundary.getLsbD (4 + ch.val)

/-- The level of PTXDIS of a channel: under EXTEST its boundary cell, and no other instruction reaches it; else a fail-safe
path or the guard latch (R194, R597). Under HIGHZ the pull-up of R588 holds it (log entry 162). -/
def ptxdis (s : State) (ch : Fin 4) : Bool :=
  if tapIn s .extest then ptxdisCell s ch
  else tapIn s .highz || s.us[ch].failSafe || s.us[ch].latched.isSome

/-- The level of PBEN of a channel: the cells of EXTEST and CLAMP cannot raise it while PTXDIS is low, and under EXTEST it
is low while the cell of PTXDIS is 0 (R597). -/
def pbenPin (s : State) (ch : Fin 4) : Bool :=
  if tapIn s .extest || tapIn s .clamp then pbenCell s ch && ptxdis s ch
  else !tapIn s .highz && s.us[ch].pben

/-- The always-on island drives its balls: VAON is present, and the package is not in Off (R572). -/
def drivesAlert (s : State) : Bool := match s.pwr.phase with
  | .vaonWait => false
  | .asleep => s.pwr.state != .off
  | _ => true

/-- The level of ALERT_N: low from a latched cause to the read of `DEV_ALERT_CAUSE` (R572); open drain (R600). -/
def alertN (s : State) : Bool := !(drivesAlert s && s.island.alertCause != 0xFFFF)

/-- The level of THERM_N: low while the thermal alarm is active (R515); open drain (R600). -/
def thermN (s : State) : Bool := !s.mon.alarm

/-- Restarts the package (R514): every block but the always-on island is reset and the boot of Table 14-6 begins. The
straps keep their values (log entry 12), and a latch of the emission guard holds on (R195, R196). -/
def restart (cause : Nat) (s : State) : State :=
  let before := s.eventTime
  let dev0 := if s.timeStopped then before else s.devTime / nsU
  let r := State.reset
  let clk : Clock := { at0 := s.now, val := 0, rate := 0 }
  let guard := fun (u : Us) => { r.us[(0 : Fin 4)] with latched := u.latched, silenceHeld := u.silenceHeld }
  let s := holdFromZero dev0 before s
  { r with
    pending := s.pending, now := s.now, draws := s.draws, nextFid := s.nextFid, jtag := s.jtag, flash := { s.flash with writing := none }
    island := { s.island with resetCause := cause, wakeLatch := 0 }
    bus := { r.bus with addr := s.bus.addr, mgrCapable := s.bus.mgrCapable, bootSel := s.bus.bootSel, term := s.bus.term,
                        heardAt := s.now }
    time := { r.time with doms := r.time.doms.map fun d => { d with clk := clk } }
    mon := s.mon
    us := s.us.map guard
    pwr := { r.pwr with phaseAt := s.now, bootAt := s.now, freshAt := s.now, initWdAt := some s.now,
                        pwrGood := s.pwr.pwrGood, state := .run, target := .run } }

/-- A failed start: its reason is recorded, PTXDIS asserted and the package restarts with cause 7 (R512). -/
def failStart (reason : Nat) (s : State) : State :=
  let s := { s with island := { s.island with bootReason := reason, failedStart := some (reason, s.island.attempts) } }
  restart 7 (assertPtxdisAll s)

/-- The codes of Table 14-1. -/
def pwrCode : PwrState → Nat
  | .run => 0
  | .idle => 1
  | .sleep => 2
  | .deepSleep => 3
  | .off => 4

/-- A state of Table 14-1 by its code. -/
def pwrOfCode : Nat → Option PwrState
  | 0 => some .run
  | 1 => some .idle
  | 2 => some .sleep
  | 3 => some .deepSleep
  | 4 => some .off
  | _ => none

/-- A wake source acts in a state (Table 14-2). -/
def wakeActs (st : PwrState) (b : Nat) : Bool :=
  match st with
  | .sleep => b ≤ 5
  | .deepSleep => b == 0 || b == 1 || b == 2 || b == 5
  | .off => b == 0
  | _ => false

/-- A source is enabled: WAKE_N cannot be disabled (R492). -/
def wakeEnabled (s : State) (b : Nat) : Bool := b == 0 || bitAt (s.obj Obj.PWR_WAKE_ENABLE) b

/-- The slot of R547. -/
def staggerSlot (addr mgr : Nat) : Nat := 1 + (addr + 64 - mgr % 64) % 64 / 4

/-- The package must wait for its slot before step 1 of the wake order (R547). -/
def staggerWaits (s : State) : Bool :=
  (s.pwr.state == .deepSleep || s.pwr.state == .off) && !s.island.wasManager

/-- The regulator group that is enabled and whose PWR_GOOD has not risen (R584). -/
def ramping (s : State) : Option (Fin 4) := (fins 4).find? fun g => s.island.pwrEn[g] && !s.pwr.pwrGood[g]

/-- The next PWR_EN to rise, one group at a time in the order 0, 1, 2, 3 (R499, R584). -/
def nextEnable (s : State) : Vector Bool 4 :=
  match ramping s, (fins 4).find? fun g => !s.island.pwrEn[g] with
  | none, some g => vmod s.island.pwrEn g fun _ => true
  | _, _ => s.island.pwrEn

/-- In step 5 of an entry, how long after its start PWR_EN of a group falls: group 3, then 1, for Off then 2 and 0, each
200 µs after the one before (Table 14-3, R498). -/
def enFalls (st : PwrState) (g : Fin 4) : Option Nat :=
  match st with
  | .deepSleep => [(3, 0), (1, 200 * tickUs)].lookup g.val
  | .off => [(3, 0), (1, 200 * tickUs), (2, 400 * tickUs), (0, 600 * tickUs)].lookup g.val
  | _ => none

/-- The level of PWR_EN of a group: on the way up it rises 100 µs after the PWR_GOOD before it, where step 1 goes on (R584). -/
def pwrEnPin (s : State) (g : Fin 4) : Bool :=
  s.island.pwrEn[g] && !(s.pwr.phase == .exit 1 && ramping s == some g && decide (s.now < s.pwr.phaseAt)) &&
    !(s.pwr.phase == .entry 5 && (enFalls s.pwr.target g).any fun d => decide (s.pwr.phaseAt + d ≤ s.now))

/-- The level of OSC_EN: high 100 µs after the last PWR_GOOD, where step 2 begins (R584), and low from the start of step 5 of an entry to Deep sleep or Off (Table 14-3). -/
def oscEnPin (s : State) : Bool :=
  s.island.oscEn && !(s.pwr.phase == .exit 2 && decide (s.now < s.pwr.phaseAt)) &&
    !(s.pwr.phase == .entry 5 && (s.pwr.target == .deepSleep || s.pwr.target == .off))

/-- Every PWR_EN that step 5 lowers is low (R498). -/
def suppliesDown (s : State) : Bool := (fins 4).all fun g => (enFalls s.pwr.target g).all fun d => decide (s.pwr.phaseAt + d ≤ s.now)

/-- A step of the wake order begins: step 1 raises the first PWR_EN, step 2 OSC_EN (Table 14-4). -/
def exitStep (ph : Phase) (s : State) : State :=
  let isl := match ph with
    | .exit 1 => { s.island with pwrEn := nextEnable s }
    | .exit 2 => { s.island with oscEn := true }
    | _ => s.island
  { s with pwr := { s.pwr with phase := ph, phaseAt := s.now }, island := isl }

/-- Before a cold boot the island enables any group that is off, and the oscillator (R587). -/
def powerUp (s : State) : State :=
  if s.island.oscEn && s.island.pwrEn.toList.all fun b => b then s
  else exitStep (.exit 1) { s with pwr := { s.pwr with exitAt := s.now } }

/-- Begins the exit to Run, with the wake sources that acted (R491, R495, R499); step 1 has nothing to do for Sleep. -/
def beginExit (bits : Nat) (s : State) : State :=
  let ph : Phase := if staggerWaits s then .stagger else if s.pwr.state == .sleep then .exit 2 else .exit 1
  exitStep ph { s with
    pwr := { s.pwr with exitAt := s.now, target := .run, wakeCause := bits, cause := 3 }
    island := { s.island with wakeLatch := 0 } }

/-- A wake source fires: it acts in a sleeping state, and is latched from the acceptance of an entry on, the field-bus
carrier only from step 4 (R492, R496). -/
def wakeFires (b : Nat) (s : State) : State :=
  match s.pwr.phase with
    | .asleep => if wakeActs s.pwr.state b then beginExit (2 ^ b) s else s
    | .up =>
      if b ≠ 0 ∧ b ≠ 5 then s
      else
        let old := if tickOf s.island.wakeAt = tickOf s.now then s.island.wakeBits else 0
        { s with island := { s.island with wakeAt := s.now, wakeBits := setBit old b true } }
    | .entry n =>
      if wakeActs s.pwr.target b && (b != 1 || n ≥ 4) then
        { s with island := { s.island with wakeLatch := setBit s.island.wakeLatch b true } }
      else s
    | _ => s

/-- A wake source fires while it is enabled (R492). -/
def wakeSource (b : Nat) (s : State) : State := if wakeEnabled s b then wakeFires b s else s

/-- The package sleeps, leaves Sleep, or has begun to enter it (R189-R191). That an entry to Sleep counts from its
acceptance on is the model's choice (log entry 182). -/
def asleepUp (s : State) : Bool :=
  s.inSleep || (match s.pwr.phase with
    | .entry _ => s.pwr.target == .sleep
    | _ => false)

/-- The PON wake of the watch channel (R190, R502): it acts in Sleep and is latched during the entry (R496). -/
def ponWake (ch : Fin 4) (s : State) : State :=
  if asleepUp s ∧ s.pwr.watch = some ch then wakeSource 4 s else s

/-- What an entry captures of the sources that fired in the cycle of its acceptance (R496): the field-bus carrier is left
out, the timer counts from the entry, and the others act in Sleep alone. -/
def wakeCaptured (target : PwrState) (s : State) : Nat :=
  if tickOf s.island.wakeAt = tickOf s.now then
    ([0, 5].filter fun b => wakeActs target b && bitAt s.island.wakeBits b).foldl (fun m b => setBit m b true) 0
  else 0

/-- An entry is accepted (R489, R496): the wake latch starts with that cycle, and step 1 is skipped for Sleep (Table
14-3). -/
def beginEntry (target : PwrState) (cause : Nat) (s : State) : State :=
  { s with
    pwr := { s.pwr with target := target, cause := cause, phaseAt := s.now, entryAt := s.now,
                        phase := .entry (if target = .sleep then 2 else 1) }
    island := { s.island with wakeLatch := wakeCaptured target s } }

/-- Leaves Idle: the clocks run again within 200 ns (R486, R505). -/
def leaveIdle (s : State) : State :=
  if s.pwr.state = .idle then
    let s := { s with pwr := { s.pwr with state := .run, target := .run, idleSince := s.now } }
    s.bump Obj.PWR_STATE_ENTRIES 1
  else { s with pwr := { s.pwr with idleSince := s.now } }

end Sys2Proof.Machine
end

