-- ==== Sys2Proof/Machine/QueueOps.lean ====
section
/-! DEFINITION. Frames inside the terminal by number, their owners, and frames that end without being sent (R219, R268, R310, R449). -/
namespace Sys2Proof.Machine

/-- Updates a frame. -/
def State.modFrame (s : State) (fid : Nat) (f : Frame → Frame) : State :=
  { s with frames := s.frames.map fun x => if x.fid = fid then f x else x }

/-- Gives a frame its order point (R276). -/
def setOrder (fid at0 : Nat) (s : State) : State :=
  State.modFrame { s with nextOrd := s.nextOrd + 1 } fid fun f => { f with order := some (at0, s.nextOrd) }

/-- Moves a frame's buffers to another owner (R310). -/
def frameTo (fid owner : Nat) (s : State) : State :=
  match s.frame? fid with
  | some f =>
    if f.owner = owner then s
    else (f.handles.foldl (fun s h => handOver h f.owner owner s) s).modFrame fid fun f => { f with owner := owner }
  | none => s

/-- Takes back a frame's buffer requests. -/
def dropAsks (fid : Nat) (s : State) : State :=
  let keep := fun (q : HopReq) => q.use != .first fid && q.use != .promote fid
  { s with hop := { s.hop with reqs := s.hop.reqs.map fun l => l.filter keep } }

/-- Removes a frame: its requests are taken back and its buffers freed. -/
def removeFrame (fid : Nat) (s : State) : State :=
  match s.frame? fid with
  | some f =>
    releaseHandles f.owner f.handles (dropAsks fid { s with frames := s.frames.filter fun x => x.fid ≠ fid })
  | none => s

/-- A time-stamp entry for a frame at its final commit (R448, R449). -/
def stampEntry (f : Frame) (kind port stamp : Nat) (complete : Bool) (s : State) : Option Nat × State :=
  let (off, v) := match f.ptp with
    | some (o, _) => (o, true)
    | none => (0, false)
  tsCapture { id := 0, complete := complete, kind := kind, port := port, domain := 0, uncal := f.uncal && (complete || kind == 0 || kind == 3), gap := false,
              notSent := false, tag := f.tag, ptpSeq := if v then beAt f.data (off + 30) 2 else 0,
              ptpType := if v then beAt f.data off 1 % 16 else 0, ptpValid := v, burstOffset := 0,
              stamp := if complete then s.stampOf stamp else 0 } s

/-- A frame commits as a drop: a marked one gives a kind 3 entry (R449). -/
def commitDrop (f : Frame) (s : State) : State :=
  let s := if f.marked then (stampEntry f 3 f.inPort f.stamp true s).2 else s
  removeFrame f.fid s

/-! ### The sack hoist (R261-R264) -/

/-- Frames in a region's sack-hoist queue. -/
def hoistDepth (s : State) (r : Nat) : Nat := (s.frames.filter fun f => f.stage == .hoist && f.region == r).length

/-- A recirculation or re-entry that does not take place (R243, R263, R264). -/
def recircDrop (cause region : Nat) (s : State) : State :=
  (s.bump (if cause = 1 then Obj.RECIRC_LIMIT_DROPS else Obj.RECIRC_FULL_DROPS)).evOnce Ev.RECIRC_DROP 0 [cause, region]

/-- A frame goes to a sack hoist as its next pass: its buffer passes to the queue's owner at the commit, and its committing
region asks for the entry (R262, R264, R310). -/
def askHoist (fid region rmeta : Nat) (l2 : Bool) (s : State) : State :=
  (frameTo fid (81 + region) s).modFrame fid fun f => { f with
    stage := .hoistAsk, askFrom := f.region, region := region, since := s.now, pass := f.pass + 1, rmeta := rmeta, l2 := l2
    reentry := false, ends := [], conflicts := [], lcDrop := false, miss := false, info := 0, emWait := none, order := none
    emRow := none, learn := none, passColour := none, debit := none, desc := [], action := 0, fcs := f.fcs.map fun _ => true }

/-- The frame of a committing region that has asked longest for an entry of a region's queue. -/
def hoistAsker (s : State) (region from0 : Nat) : Option Frame :=
  s.frames.foldl (fun best f =>
    if f.stage == .hoistAsk && f.region == region && f.askFrom == from0 then
      match best with
      | some g => if f.since < g.since then some f else best
      | none => some f
    else best) none

/-- A granted entry, checked against R264: the frame enters the queue, or a full queue drops it and the queue's owner frees
its buffer (R310). -/
def enterHoist (f : Frame) (s : State) : State :=
  if hoistDepth s f.region ≥ 256 then commitDrop f (recircDrop 2 f.region s)
  else
    let s := s.modFrame f.fid fun x => { x with stage := .hoist, src := 13, since := s.now }
    (setOrder f.fid s.now s).bump Obj.RECIRC_PASSES

/-- The hopper owner of a queued frame (Table 09-1). -/
def queueOwner (q : Nat) : Nat := if q < 2048 then 160 + q / 8 else 96 + (q - 2048)

/-- A committed frame is lost before it was sent: its sequence number is counted lost (R219), its time-stamp entry
completes as not sent (R449), and its buffers are freed. -/
def loseQueued (q : QFrame) (s : State) : State :=
  let s := match q.bond with
    | some g => if q.seqValid then s.bumpRow Obj.BOND_GROUP_COUNTERS g 8 7 else s
    | none => s
  releaseHandles (queueOwner q.queue) q.handles (tsComplete q.ts false 0 0 s)

end Sys2Proof.Machine
end

