-- ==== Sys2Proof/Machine/Arbiter.lean ====
section
/-! DEFINITION. The credit arbiter of every instance (R318-R322), its brake and its drain. -/
namespace Sys2Proof.Machine

/-- Updates an arbiter instance. -/
def State.modArb (s : State) (i : Fin 23) (f : Arb → Arb) : State := { s with arb := vmod s.arb i f }

/-- The table row of a requester (R323). -/
def arbRow (i : Fin 23) (r : Nat) : Nat := 16 * i.val + r

/-- The requester exists (Table 08-9). -/
def arbPresent (i : Fin 23) (r : Nat) : Bool := (arbDefault i.val r).isSome

/-- The winner uses the resource in the next cycle (R319). -/
def arbNextCycle (i : Fin 23) : Bool := i.val ≤ 8 || i.val == 22

/-- `WAIT_LIMIT` of a requester (Table 08-10). -/
def arbLimit (s : State) (i : Fin 23) (r : Nat) : Nat := fld (s.row Obj.ARB_REQUESTERS (arbRow i r)) 55 40
/-- `WEIGHT` of a requester (Table 08-10). -/
def arbWeight (s : State) (i : Fin 23) (r : Nat) : Nat := fld (s.row Obj.ARB_REQUESTERS (arbRow i r)) 63 56

/-- The member of a list with the largest value, the lowest index on a tie; the list is ascending. -/
def fullest (f : Nat → Nat) : List Nat → Option Nat
  | [] => none
  | x :: xs => match fullest f xs with
    | none => some x
    | some y => if f y > f x then some y else some x

/-- The winner among the candidates, and whether it is forced (R319). -/
def arbPick (s : State) (i : Fin 23) (cands : List Nat) : Option (Nat × Bool) :=
  let a := s.arb[i]
  let w := fun (r : Nat) => a.wait.toList.getD r 0
  let forced := cands.filter fun r => decide (arbLimit s i r > 0) && decide (w r ≥ arbLimit s i r)
  match fullest w forced with
  | some r => some (r, true)
  | none => (fullest (fun r => a.credit.toList.getD r 0) cands).map fun r => (r, false)

/-- The counters after a decision (R319). -/
def arbDecide (i : Fin 23) (cands : List Nat) (win : Option (Nat × Bool)) (s : State) : State :=
  let w := win.map Prod.fst
  let s := s.modArb i fun a => { a with
    winner := w
    credit := Vector.ofFn fun (r : Fin 16) => if w = some r.val then a.credit[r] - 1 else a.credit[r]
    wait := Vector.ofFn fun (r : Fin 16) =>
      if !cands.contains r.val || w = some r.val then 0 else min (a.wait[r] + 1) 65535 }
  let s := match win with
    | some (r, true) => s.bumpRow Obj.ARB_COUNTERS (arbRow i r) 4 1
    | _ => s
  cands.foldl (fun s r => if w = some r then s else s.bumpRow Obj.ARB_COUNTERS (arbRow i r) 4 3) s

/-- The oldest job that holds a context and has blocks left. -/
def nextJob (s : State) : Option Job := s.ciph.jobs.find? fun j => !j.exported

/-- The key engine has an unwrap, of a data key or of a blob, or a derivation on the job lane (R480). -/
def keyEngineBusy (s : State) : Bool :=
  !s.ciph.unwraps.isEmpty || (s.ciph.derive.toList.any fun d => d.isSome) || s.ciph.blobRun.toList.any fun b => b.isSome

/-- A granted requester uses its grant (R310, R322): one step of the oldest job begins on the cipher's job lane, a sack-hoist
entry is made, a mailbox transfer delivers the region's oldest frame, or the capture writer writes a copy to DRAM (R575). -/
def arbUse (i : Fin 23) (r : Nat) (s : State) : State :=
  let s := s.bumpRow Obj.ARB_COUNTERS (arbRow i r) 4 0
  if i.val = 22 then
    match s.mailbox.find? fun m => m.2.2 == r with
    | some m =>
      let s := m.1.handles.foldl (fun s h => handOver h 89 90 s) s
      let s := { s with mailbox := s.mailbox.eraseP fun x => x.2.2 == r }
      -- The PTP stack is done with a Delay_Req that it has answered.
      if isDelayReq s m.1 then releaseHandles 90 m.1.handles (coresTake m.1 s)
      else coresTake m.1 { s with accepted := s.accepted ++ [m] }
    | none => s
  else if i.val = 8 then
    match nextJob s with
    | some j => { s with ciph := { s.ciph with lane := some (j.id, s.now) } }
    | none => s
  else if 14 ≤ i.val then
    match hoistAsker s (i.val - 14) r with
    | some f => enterHoist f s
    | none => s
  else if i.val < 8 ∧ r = 11 then { s with cap := { s.cap with held := s.cap.held - 1 } }
  else s

/-- A withdrawn grant's credit returns, capped at the weight (R320). -/
def arbReturn (w : Nat) (a : Arb) : Arb :=
  { a with credit := Vector.ofFn fun (r : Fin 16) => if r.val = w then min (a.credit[r] + 1) a.weight[r] else a.credit[r] }

/-- A requester requests in this cycle: one that the cycle names, one whose frame waits for its sack-hoist entry
(R264), and the capture writer while it holds a copy (R575). -/
def arbRequests (s : State) (i : Fin 23) (reqs : BitVec 16) (r : Nat) : Bool :=
  arbPresent i r && (reqs.getLsbD r || (decide (14 ≤ i.val ∧ i.val ≤ 21) && (hoistAsker s (i.val - 14) r).isSome) ||
    decide (i.val < 8 ∧ r = 11 ∧ 0 < s.cap.held))

/-- The job lane is taken: by a job step under way, or by the key engine, which goes ahead of arbitration (R480). -/
def laneBusy (s : State) (i : Fin 23) : Bool := i.val == 8 && (s.ciph.lane.isSome || keyEngineBusy s)

/-- One cycle of an instance other than the hopper ports (R319-R321). While a step holds the job lane, no decision is made
there (log entry 185). -/
def arbCycle (i : Fin 23) (reqs : BitVec 16) (s : State) : State :=
  if 9 ≤ i.val ∧ i.val ≤ 13 then s
  else
    let req := arbRequests s i reqs
    let s := match s.arb[i].winner with
      | some w =>
        if arbNextCycle i then
          if req w then arbUse i w s
          else
            let s := s.bump Obj.ARB_DEAD_CYCLES (sub i)
            let s := s.bumpRow Obj.ARB_COUNTERS (arbRow i w) 4 2
            s.modArb i (arbReturn w)
        else s
      | none => s
    let s := s.modArb i fun a => { a with winner := none }
    if s.arb[i].brakeAt.isSome || laneBusy s i then s
    else
      let cands := (List.range 16).filter req
      let win := arbPick s i cands
      let s := arbDecide i cands win s
      match win with
      | some (r, _) =>
        let s := s.modArb i fun a => { a with lastGrant := s.now }
        if arbNextCycle i then s else (arbUse i r s).modArb i fun a => { a with winner := none }
      | none => s

def execArbDecision (t : Nat) (inst : Fin 23) (reqs : BitVec 16) (s : State) : Host.Outcome State Fault Refusal :=
  done t s fun s => if s.running then arbCycle inst reqs s else s

/-- R318: every credit counter takes its weight. -/
def arbWindow (i : Fin 23) (s : State) : State :=
  let w : Vector Nat 16 := Vector.ofFn fun r => arbWeight s i r.val
  s.modArb i fun a => { a with credit := w, weight := w }

def execArbWindow (t : Nat) (inst : Fin 23) (s : State) : Host.Outcome State Fault Refusal :=
  done t s fun s => if s.running then arbWindow inst s else s

/-- R321. -/
def arbBrake (i : Fin 23) (v : Nat) (s : State) : State :=
  if v > 1 then s.answer .range
  else
    let s := (s.setObj Obj.ARB_BRAKE (sub i) v).answer .ok
    if v = 0 then (s.setObj Obj.ARB_DRAINED (sub i) 0).modArb i fun a => { a with brakeAt := none, drained := false }
    else if s.arb[i].brakeAt.isSome then s
    else s.modArb i fun a => { a with brakeAt := some s.now }

def execArbBrake (t : Nat) (inst : Fin 23) (v : Nat) (s : State) : Host.Outcome State Fault Refusal :=
  done t s fun s => s.hostWrite (arbBrake inst v)

/-- Clock period of an instance in ticks (Table 08-9). -/
def arbPeriod (i : Fin 23) : Nat :=
  if i.val < 8 then 2 * tickCore else if i.val < 14 then tickCore else if i.val < 22 then 2 * tickCore else 4 * tickCore

/-- The outstanding work that the state shows has ended: handles not yet delivered at a hopper port, a job step in progress
on the cipher's lane, else a winner whose use is due (Table 08-9). -/
def arbIdle (s : State) (i : Fin 23) : Bool :=
  if 9 ≤ i.val ∧ i.val ≤ 13 then decide (s.now ≥ s.arb[i].lastGrant + 3 * tickCore)
  else s.arb[i].winner.isNone && !(i.val == 8 && s.ciph.lane.isSome)

/-- R321: the drain of a braked instance. -/
def arbDrained (i : Fin 23) (s : State) : State :=
  match s.arb[i].brakeAt with
  | some b =>
    if s.arb[i].drained || !arbIdle s i then s
    else
      let s := (s.setObj Obj.ARB_DRAINED (sub i) 1).modArb i fun a => { a with drained := true }
      s.ev Ev.ARB_DRAINED [i.val, (s.now - b) / arbPeriod i]
  | none => s

def execArbDrained (t : Nat) (inst : Fin 23) (s : State) : Host.Outcome State Fault Refusal :=
  done t s (arbDrained inst)

end Sys2Proof.Machine
end

