-- ==== Sys2Proof/Machine/Bonding.lean ====
section
/-! DEFINITION. Chapter 05: bonding groups, skew, bucket maps and the receive reorder. -/
namespace Sys2Proof.Machine

/-- Updates a group. -/
def State.modGroup (s : State) (g : Fin 64) (f : Group → Group) : State :=
  { s with bond := { s.bond with groups := vmod s.bond.groups g f } }

/-- Adds to a word of a group's counters (Table 05-7). -/
def groupCount (g : Fin 64) (w n : Nat) (s : State) : State := s.bumpRow Obj.BOND_GROUP_COUNTERS g.val 8 w n

/-- The codes of Table 05-2. -/
def groupCode : GroupState → Nat
  | .unconfigured => 0
  | .held => 1
  | .active => 2
  | .degraded => 3
  | .down => 4

/-- The channels of a 4-bit mask, ascending. -/
def chans (m : Nat) : List Nat := (List.range 4).filter fun n => bitAt m n

/-- The bucket map of R213 from the member and Up lists. -/
def bucketMap (ms us : List Nat) : List Nat :=
  if us.isEmpty then []
  else ((List.range 64).foldl (fun (acc : List Nat × Nat) b =>
    let c := ms.getD (b % ms.length) 0
    if us.contains c then (acc.1 ++ [c], acc.2)
    else (acc.1 ++ [us.getD (acc.2 % us.length) 0], acc.2 + 1)) ([], 0)).1

/-- The group carries traffic (Table 05-2). -/
def groupLive (g : Group) : Bool := g.st == .active || g.st == .degraded

/-- A held or arriving frame leaves the reorder toward the parser (R223). -/
def releaseFrame (g : Fin 64) (fid : Nat) (s : State) : State :=
  groupCount g 0 1 (frameTo fid (16 + g.val) (setOrder fid s.now (s.modFrame fid fun f => { f with ready := true })))

/-- Releases the run: held frames while the frame with sequence E is held (R223); `n` bounds the run. -/
def releaseRun (g : Fin 64) : Nat → State → State
  | 0, s => s
  | n + 1, s =>
    let gr := s.bond.groups[g]
    match gr.held.find? fun h => h.seq == gr.expected with
    | some h =>
      let s := releaseFrame g h.fid s
      releaseRun g n (s.modGroup g fun x =>
        { x with held := x.held.filter fun y => y.seq ≠ h.seq, expected := (x.expected + 1) % 4096 })
    | none => s

/-- How far ahead of E a sequence number lies (R223). -/
def seqDist (e q : Nat) : Nat := (q + 4096 - e % 4096) % 4096

/-- The held sequence nearest to E. -/
def nearestHeld (gr : Group) : Option Nat :=
  gr.held.foldl (fun best h => match best with
    | none => some h.seq
    | some b => if seqDist gr.expected h.seq < seqDist gr.expected b then some h.seq else some b) none

/-- Logs and counts a skip from E to `target` (R226). -/
def countGap (g : Fin 64) (e target gap cause : Nat) (s : State) : State :=
  (groupCount g 1 gap s).evOnce Ev.BOND_GAP g.val [g.val, e, target, gap, cause]

/-- Skips to a sequence number and releases the run (R224, R225). -/
def skipTo (g : Fin 64) (target cause : Nat) (s : State) : State :=
  let e := s.bond.groups[g].expected
  let s := countGap g e target (seqDist e target) cause s
  let s := if cause = 2 then s.bump Obj.BOND_STORE_FULL_SKIPS else s
  let s := s.modGroup g fun x => { x with expected := target }
  releaseRun g (s.bond.groups[g].held.length) s

/-- Frames in the reorder store (R224). -/
def heldFrames (s : State) : Nat := s.bond.groups.toList.foldl (fun n g => n + g.held.length) 0

/-- The reorder's decision on a present frame (R223, R224); `n` bounds the repeats after a skip. -/
def present (g : Fin 64) (fid q : Nat) : Nat → State → State
  | 0, s => s
  | n + 1, s =>
    let s := if s.bond.groups[g].expValid then s
      else s.modGroup g fun x => { x with expected := q, expValid := true }
    let gr := s.bond.groups[g]
    let d := seqDist gr.expected q
    if d = 0 then
      let s := (releaseFrame g fid s).modGroup g fun x => { x with expected := (x.expected + 1) % 4096 }
      releaseRun g gr.held.length s
    else if d ≥ 2048 then groupCount g 2 1 (removeFrame fid s)
    else if gr.held.any fun h => h.seq == q then groupCount g 3 1 (removeFrame fid s)
    else if heldFrames s ≥ 16384 then
      present g fid q n (skipTo g ((nearestHeld gr).getD q) 2 s)
    else (frameTo fid 80 s).modGroup g fun x => { x with held := x.held ++ [{ seq := q, fid := fid, at0 := s.now }] }

/-- Flushes the receive sequence state (R228): held frames go out in ascending order of d and E is forgotten. -/
def flushGroup (g : Fin 64) (cause : Nat) (s : State) : State :=
  let gr := s.bond.groups[g]
  let sorted := gr.held.mergeSort fun a b => seqDist gr.expected a.seq ≤ seqDist gr.expected b.seq
  let s := sorted.foldl (fun s h => releaseFrame g h.fid s) s
  let s := match sorted.getLast? with
    | some h =>
      let e' := (h.seq + 1) % 4096
      countGap g gr.expected e' (seqDist gr.expected e' - sorted.length) cause s
    | none => s
  s.modGroup g fun x => { x with held := [], expValid := false }

/-- What the bonding step does with a carrier of a bonded flow (R216, R221, R222): whether it goes on, and its counts. A
carrier that the reorder of a round-robin group does not handle is discarded (DESIGN CHOICE, log entry 174). -/
def bondCarrier (g : Fin 64) (ch : Fin 4) (seqValid : Bool) (s : State) : Bool × State :=
  let gr := s.bond.groups[g]
  if !gr.valid then (false, s.bump Obj.BOND_NO_GROUP)
  else if !groupLive gr then (false, groupCount g 4 1 s)
  else if gr.mode = 0 then (true, if seqValid then groupCount g 5 1 s else s)
  else if !(bitAt gr.members ch.val && s.rx[ch].st == .sync && gr.headEnd == some s.rx[ch].heId) then (false, s)
  else (true, if seqValid then s else groupCount g 5 1 s)

/-- A frame of a round-robin group without a sequence number passes at once, as output of the group's reorder (R222, R227). -/
def passUnsequenced (g : Fin 64) (fid : Nat) (s : State) : State :=
  frameTo fid (16 + g.val) (setOrder fid s.now (s.modFrame fid fun f => { f with ready := true }))

/-- The first carrier of a sequenced frame of a round-robin group has left decryption: the frame is present (R221). -/
def bondArrive (fid : Nat) (g : Fin 64) (seqValid : Bool) (q : Nat) (s : State) : State :=
  { s with bond := { s.bond with presented := s.bond.presented ++ [(fid, g.val, seqValid, q)] } }

/-- R223: the oldest present frame of a round-robin group is decided. -/
def presentFrame (s : State) : State :=
  match s.bond.presented with
  | [] => s
  | (fid, g, _, q) :: rest =>
    let s := { s with bond := { s.bond with presented := rest } }
    if h : g < 64 then
      let g' : Fin 64 := ⟨g, h⟩
      let gr := s.bond.groups[g']
      if !gr.valid then (removeFrame fid s).bump Obj.BOND_NO_GROUP
      else if !groupLive gr then groupCount g' 4 1 (removeFrame fid s)
      else present g' fid q 4 s
    else s

def execPresentFrame (t : Nat) (s : State) : Host.Outcome State Fault Refusal := done t s presentFrame

/-- The timeout check of one group (R225); `n` bounds the skips. -/
def timeoutGroup (g : Fin 64) : Nat → State → State
  | 0, s => s
  | n + 1, s =>
    let gr := s.bond.groups[g]
    let due := gr.held.any fun h => s.now ≥ h.at0 + gr.timeout * tickUs
    if due then
      match nearestHeld gr with
      | some q => timeoutGroup g n (skipTo g q 1 s)
      | none => s
    else s

def execReorderTimeout (t : Nat) (s : State) : Host.Outcome State Fault Refusal :=
  done t s fun s => (fins 64).foldl (fun s g => timeoutGroup g s.bond.groups[g].held.length s) s

/-! ### Members (R206), skew (R207-R209) and group states (R204, R205) -/

/-- The skew limit in ticks. -/
def skewLimit (s : State) : Int := (s.obj Obj.BOND_SKEW_LIMIT * tickUs : Nat)

/-- A channel's skew is valid and within the limit (R206). -/
def skewGood (s : State) (ch : Fin 4) : Bool :=
  let k := s.bond.skew[ch]
  k.valid && decide (-(skewLimit s) ≤ k.value) && decide (k.value ≤ skewLimit s)

/-- A member channel is Up in its group (R206). -/
def memberUp (s : State) (g : Group) (ch : Fin 4) : Bool :=
  bitAt g.members ch.val && s.act[ch].st == .operating && s.rx[ch].st == .sync &&
    g.headEnd == some s.rx[ch].heId && skewGood s ch

/-- The reason code of `BOND_MEMBER_CHANGED` for a channel that is not Up. -/
def downReason (s : State) (g : Group) (ch : Fin 4) : Nat :=
  if s.act[ch].st ≠ .operating then 1
  else if s.rx[ch].st ≠ .sync ∨ g.headEnd ≠ some s.rx[ch].heId then 2
  else 3

/-- Changes a group's state and logs it (R204). -/
def groupEnter (g : Fin 64) (st : GroupState) (s : State) : State :=
  let old := s.bond.groups[g].st
  if old = st then s
  else (s.modGroup g fun x => { x with st := st }).ev Ev.BOND_GROUP_STATE [g.val, groupCode old, groupCode st]

/-- The group becomes Unconfigured: its held frames are discarded as its carriers are from then on (Table 05-2, R222). -/
def dropHeld (g : Fin 64) (s : State) : State :=
  let hs := s.bond.groups[g].held
  let s := hs.foldl (fun s h => groupCount g 4 1 (removeFrame h.fid s)) s
  groupEnter g .unconfigured (s.modGroup g fun x => { x with held := [], expValid := false, up := 0 })

/-- Clears a row (R201, Table 05-3). -/
def clearGroup (g : Fin 64) (s : State) : State := (dropHeld g s).modGroup g fun _ => Group.init

/-- Evaluates a group after a change of a member's condition (R204-R206, R228): `why` is the condition that changed, 1
activation state, 2 Sync or `HEAD_END_ID`, 3 skew. -/
def evalGroup (why : Nat) (s : State) (g : Fin 64) : State :=
  let gr := s.bond.groups[g]
  if !gr.valid || s.inSleep then s
  else
    let keep := (fins 4).any fun c => bitAt gr.members c.val &&
      (s.act[c].st == .operating || s.act[c].st == .intermittent) && gr.headEnd == some s.rx[c].heId
    if gr.headOwned && !keep then clearGroup g s
    else if gr.st = .unconfigured then s
    else
      let up := (fins 4).foldl (fun m c => if memberUp s gr c then m + 2 ^ c.val else m) 0
      if up = gr.up then s
      else
        let left := (fins 4).any fun c => bitAt gr.up c.val && !bitAt up c.val
        let s := (fins 4).foldl (fun s c =>
          if bitAt gr.up c.val ≠ bitAt up c.val then
            let isUp := bitAt up c.val
            s.ev Ev.BOND_MEMBER_CHANGED [g.val, c.val, b2n isUp, if isUp then why else downReason s gr c]
          else s) s
        let flushDue := left && groupLive gr
        let s := s.modGroup g fun x => { x with
          up := up
          dirty := some (flushDue || x.dirty == some true) }
        let all := up = gr.members
        let st := match gr.st with
          | .held => if all then GroupState.active else .held
          | .active => if up = 0 then .down else if all then .active else .degraded
          | .degraded => if up = 0 then .down else if all then .active else .degraded
          | .down => if all then .active else if up ≠ 0 then .degraded else .down
          | .unconfigured => .unconfigured
        groupEnter g st s

/-- Evaluates every group after a change of a condition of its members. -/
def bondRefresh (why : Nat) (s : State) : State := (fins 64).foldl (evalGroup why) s

/-- Takes the head end of host-owned rows at a member's first entry to Operating (R206). -/
def bondOperating (ch : Fin 4) (s : State) : State :=
  (fins 64).foldl (fun s g =>
    let gr := s.bond.groups[g]
    if gr.valid && gr.headEnd.isNone && (chans gr.members).head? == some ch.val then
      s.modGroup g fun x => { x with headEnd := some s.rx[ch].heId }
    else s) s

/-- The reference channel for a head end (R207). -/
def skewRef (s : State) (he : Nat) : Option Nat :=
  (fins 4).foldl (fun r c => match r with
    | some _ => r
    | none => if s.rx[c].st = .sync ∧ s.rx[c].heId = he then some c.val else none) none

/-- Makes a channel's skew invalid and restarts its count (R208). -/
def skewReset (ch : Fin 4) (s : State) : State :=
  { s with bond := { s.bond with skew := vmod s.bond.skew ch fun k => { k with pairs := [], valid := false, value := 0, beyond := false } } }

/-- Recomputes the references after a channel entered or left Sync (R207, R208). -/
def skewRefs (s : State) : State :=
  bondRefresh 2 ((fins 4).foldl (fun s c =>
    let ref := if s.rx[c].st = .sync then skewRef s s.rx[c].heId else none
    if s.bond.refOf[c] = ref then s
    else
      let isRef := ref = some c.val
      { s with bond := { s.bond with
        refOf := vmod s.bond.refOf c fun _ => ref
        skew := vmod s.bond.skew c fun _ => { pairs := [], valid := isRef, value := 0, beyond := false, isRef := isRef } } }) s)

/-- The signed difference of two SFCs modulo 2^51. -/
def sfcDiff (a b : Nat) : Int :=
  let d : Nat := (a + 2 ^ 51 - b % 2 ^ 51) % 2 ^ 51
  if d < 2 ^ 50 then (d : Int) else (d : Int) - (2 ^ 51 : Nat)

/-- Whole ns of a skew, rounded toward minus infinity (DESIGN CHOICE, log entry 176). -/
def skewNs (v : Int) : Int := v / (tickNs : Int)

/-- A used frame of the reference itself: after a `PHASE_JUMP` its own skew, which is 0, is valid again after 8 measured
frames (R208; DEDUCED, log entry 177). -/
def skewSelf (ch : Fin 4) (s : State) : State :=
  match s.rx[ch].lastUsed with
  | some (_, _, m) =>
    let k := s.bond.skew[ch]
    if k.valid then s
    else
      let pairs := if m then (0 :: k.pairs).take 8 else []
      bondRefresh 3 { s with bond := { s.bond with skew := vmod s.bond.skew ch fun k =>
        { k with pairs := pairs, valid := pairs.length == 8 } } }
  | none => s

/-- A used frame of a channel forms a pair with the reference (R207-R209). -/
def skewPair (ch : Fin 4) (s : State) : State :=
  match s.bond.refOf[ch] with
  | none => s
  | some r =>
    if r = ch.val then skewSelf ch s
    else if h : r < 4 then
      let rf := s.rx[(⟨r, h⟩ : Fin 4)]
      match s.rx[ch].lastUsed, rf.lastUsed with
      | some (n, a, m), some (nr, ar, mr) =>
        if !(m && mr) then
          { s with bond := { s.bond with skew := vmod s.bond.skew ch fun k => { k with pairs := [] } } }
        else
          let d : Int := (a : Int) - (ar : Int) - sfcDiff n nr * (tickFrame : Int)
          let k := s.bond.skew[ch]
          let pairs := (d :: k.pairs).take 8
          let full := pairs.length = 8
          let v := if full then pairs.foldl (· + ·) 0 / 8 else k.value
          let beyond := if full then decide (v > skewLimit s) || decide (v < -(skewLimit s)) else k.beyond
          let s := { s with bond := { s.bond with skew := vmod s.bond.skew ch fun k =>
            { k with pairs := pairs, valid := k.valid || full, value := v, beyond := beyond } } }
          let s := if beyond && !k.beyond then
              (s.bump Obj.BOND_SKEW_EXCEEDED_COUNT (sub ch)).ev Ev.BOND_SKEW_EXCEEDED [ch.val, pI32 (skewNs v)]
            else s
          bondRefresh 3 s
      | _, _ => s
    else s

/-- A phase jump is logged on a channel: its skew, and that of every channel it is the reference of, starts again (R208). -/
def skewJump (ch : Fin 4) (s : State) : State :=
  bondRefresh 3 ((fins 4).foldl (fun s c =>
    if c = ch ∨ s.bond.refOf[c] = some ch.val then skewReset c s else s) s)

/-- A change of the limit: what it puts beyond the limit is logged (R209). -/
def skewLimitSet (s : State) : State :=
  bondRefresh 3 ((fins 4).foldl (fun s c =>
    let k := s.bond.skew[c]
    let beyond := k.valid && !skewGood s c
    let s := { s with bond := { s.bond with skew := vmod s.bond.skew c fun k => { k with beyond := beyond } } }
    if beyond && !k.beyond then
      (s.bump Obj.BOND_SKEW_EXCEEDED_COUNT (sub c)).ev Ev.BOND_SKEW_EXCEEDED [c.val, pI32 (skewNs k.value)]
    else s) s)

/-! ### Commands -/

/-- R203. A write of 1 takes every valid row from Unconfigured to Held, as a row that becomes valid, and evaluates it: Table 05-3
has no trigger for it (DESIGN CHOICE, log entry 178). -/
def bondEnable (v : Nat) (s : State) : State :=
  if v > 1 then s.answer .range
  else
    let s := (s.setObj Obj.BOND_ENABLE 0 v).answer .ok
    (fins 64).foldl (fun s g =>
      if s.bond.groups[g].valid then
        if v = 0 then dropHeld g s
        else if s.bond.groups[g].st = .unconfigured then evalGroup 1 (groupEnter g .held s) g else s
      else s) s

def execBondEnable (t v : Nat) (s : State) : Host.Outcome State Fault Refusal :=
  done t s fun s => s.hostWrite (bondEnable v)

/-- R214, R228, R229. -/
def rebuild (g : Fin 64) (s : State) : State :=
  let gr := s.bond.groups[g]
  match gr.dirty with
  | none => s
  | some left =>
    let s := s.modGroup g fun x => { x with map := bucketMap (chans x.members) (chans x.up), dirty := none }
    if left then flushGroup g 3 s else s

def execBucketMapRebuild (t : Nat) (g : Fin 64) (s : State) : Host.Outcome State Fault Refusal := done t s (rebuild g)

/-- R218, R230: at the first frame boundary after the change. -/
def modeChange (g : Fin 64) (s : State) : State :=
  match s.bond.groups[g].change with
  | none => s
  | some (m, tmo) =>
    let old := s.bond.groups[g].mode
    let s := if m ≠ old then flushGroup g 4 s else s
    s.modGroup g fun x => { x with
      mode := m, timeout := tmo, change := none
      usNext := if m ≠ old ∧ m = 1 then 0 else x.usNext }

def execModeChange (t : Nat) (g : Fin 64) (s : State) : Host.Outcome State Fault Refusal := done t s (modeChange g)

/-- The row as TABLE_READ returns it (Table 05-1). -/
def groupRow (s : State) (g : Fin 64) : Nat :=
  let x := s.bond.groups[g]
  let (m, tmo) := x.change.getD (x.mode, x.timeout)
  b2n x.valid * 2 ^ 63 + b2n x.headOwned * 2 ^ 62 + m * 2 ^ 60 + x.members * 2 ^ 56 + x.up * 2 ^ 52 +
    groupCode x.st * 2 ^ 49 + x.headEnd.getD 0 * 2 ^ 37 + tmo * 2 ^ 26 + b2n x.expValid * 2 ^ 25 + x.usNext * 2 ^ 12 + x.expected

/-- Configures a row; the group enters Held unless bonding is disabled (R199, R201, R218). -/
def configureGroup (g : Fin 64) (headOwned : Bool) (mode members timeout : Nat) (he : Option Nat) (s : State) : State :=
  let s := s.modGroup g fun _ =>
    { Group.init with valid := true, headOwned := headOwned, mode := mode, members := members, timeout := timeout, headEnd := he }
  if s.flag Obj.BOND_ENABLE then evalGroup 1 (groupEnter g .held s) g else s

/-- A host write of a row (R200, R202). -/
def writeGroupRow (g : Fin 64) (v : Nat) (s : State) : Status × State :=
  let x := s.bond.groups[g]
  let valid := bitAt v 63
  let mode := fld v 61 60
  let members := fld v 59 56
  let tmo := fld v 36 26
  if (valid && popCount 4 members < 2) || mode ≥ 2 || tmo < 50 || tmo > 2000 then (.range, s)
  else if x.valid && x.headOwned && valid then (.state, s)
  else if x.valid && valid && members ≠ x.members then (.state, s)
  else if !valid then
    let s := if x.valid then clearGroup g s else s
    (.ok, s.modGroup g fun x => { x with mode := mode, members := members, timeout := tmo })
  else if x.valid then (.ok, s.modGroup g fun y => { y with change := some (mode, tmo) })
  else (.ok, configureGroup g false mode members tmo none s)

/-- The terminal channel that stands for head-end channel `k` (R232). -/
def mapChannel (s : State) (he k : Nat) : Option (Fin 4) :=
  (fins 4).find? fun c => s.rx[c].st == .sync && s.rx[c].heId == he && s.rx[c].chId == k

/-- Table 05-5: the answer to a Bonding Control and its effect. Content fields by Table 03-7. -/
def bondingControl (ch : Fin 4) (c : Nat) (s : State) : Nat × State :=
  let gi : Fin 64 := ⟨fld c 287 282 % 64, Nat.mod_lt _ (by decide)⟩
  let action := fld c 281 280
  let ms := fld c 279 276
  let mode := fld c 275 274
  let tmo := fld c 271 256
  let he := s.rx[ch].heId
  let x := s.bond.groups[gi]
  let mapped := (chans ms).map fun k => mapChannel s he k
  let members := mapped.foldl (fun m o => match o with
    | some (f : Fin 4) => if bitAt m f.val then m else m + 2 ^ f.val
    | none => m) 0
  let act := fun (r : Nat) (s : State) => (r, s.ev Ev.BOND_DIRECTIVE [gi.val, action, r])
  let change := fun (s : State) => s.modGroup gi fun y => { y with change := some (mode, tmo) }
  if !s.flag Obj.BOND_ENABLE then act 1 s
  else if action = 3 ∨ mode ≥ 2 ∨ tmo < 50 ∨ tmo > 2000 then (2, s)
  else if action = 0 then
    if popCount 4 ms < 2 then (2, s)
    else if mapped.any Option.isNone then act 3 s
    else if !bitAt members ch.val then act 1 s
    else if !x.valid then act 0 (configureGroup gi true mode members tmo (some he) s)
    else if x.headOwned && x.members == members then act 0 (change s)
    else act 1 s
  else if action = 1 then
    if !x.valid then act 0 s
    else if x.headOwned && bitAt x.members ch.val then act 0 (clearGroup gi s)
    else act 1 s
  else if x.valid && x.headOwned && bitAt x.members ch.val then act 0 (change s)
  else act 1 s

/-- The channel belongs to a bonding group (R233). -/
def inBondGroup (s : State) (ch : Fin 4) : Bool :=
  s.bond.groups.toList.any fun g => g.valid && bitAt g.members ch.val

/-- The channels a queued frame of a group may use, by the group's Up members and bucket map (R214, R215, R217). -/
def channelSet (up map : List Nat) (q : QFrame) : List Nat :=
  if q.seqValid then up
  else match map[fld q.hash 13 8]? with
    | some c => if up.contains c then [c] else []
    | none => []

end Sys2Proof.Machine
end

