-- ==== Sys2Proof/Machine/Crypto.lean ====
section
/-! DEFINITION. The ciphers that the spec names by standard (R460, R467, R476): AES (FIPS 197), AES-CMAC (SP 800-38B), AES Key Wrap (RFC 3394) and AES-GCM (SP 800-38D). PRESUMED from those standards (log entry 7). -/
namespace Sys2Proof.Machine

/-- Doubling in GF(2^8) modulo x^8 + x^4 + x^3 + x + 1. -/
def gfDouble (a : Nat) : Nat := if a ≥ 128 then Nat.xor (a * 2 % 256) 0x1B else a * 2

/-- Multiplication in GF(2^8). -/
def gfMul (a b : Nat) : Nat :=
  ((List.range 8).foldl (fun (p : Nat × Nat) i =>
    (if bitAt b i then Nat.xor p.1 p.2 else p.1, gfDouble p.2)) (0, a)).1

/-- The inverse in GF(2^8), a^254; 0 goes to 0. -/
def gfInv (a : Nat) : Nat :=
  let a2 := gfMul a a
  let a4 := gfMul a2 a2
  let a8 := gfMul a4 a4
  let a16 := gfMul a8 a8
  let a32 := gfMul a16 a16
  let a64 := gfMul a32 a32
  let a128 := gfMul a64 a64
  gfMul a128 (gfMul a64 (gfMul a32 (gfMul a16 (gfMul a8 (gfMul a4 a2)))))

/-- The AES S-box. -/
def aesSub (a : Nat) : Nat :=
  let b := gfInv a
  let r := fun n => (b * 2 ^ n + b / 2 ^ (8 - n)) % 256
  Nat.xor (Nat.xor (Nat.xor (Nat.xor b (r 1)) (Nat.xor (r 2) (r 3))) (r 4)) 0x63

/-- The S-box as a table. -/
def aesBox : Array Nat := ((List.range 256).map aesSub).toArray

/-- The inverse S-box as a table. -/
def aesInvBox : Array Nat :=
  (List.range 256).foldl (fun t i => t.set! (aesSub i) i) (Array.replicate 256 0)

/-- The words of the key schedule, newest last; `nk` words of key, `n` words to add. -/
def aesExpand (nk : Nat) : Nat → Nat → List (List Nat) → List (List Nat)
  | 0, _, ws => ws
  | n + 1, rc, ws =>
    let i := ws.length
    let prev := ws.getD (i - 1) []
    let back := ws.getD (i - nk) []
    let sub := fun (w : List Nat) => w.map fun x => aesBox.getD x 0
    let (g, rc') :=
      if i % nk = 0 then
        let w := sub (prev.drop 1 ++ prev.take 1)
        (List.zipWith Nat.xor w [rc, 0, 0, 0], gfDouble rc)
      else if nk > 6 ∧ i % nk = 4 then (sub prev, rc)
      else (prev, rc)
    aesExpand nk n rc' (ws ++ [List.zipWith Nat.xor back g])

/-- Four-byte words of a list. -/
def chunk4 : Nat → List Nat → List (List Nat)
  | 0, _ => []
  | n + 1, l => if l.isEmpty then [] else l.take 4 :: chunk4 n (l.drop 4)

/-- The round keys of a 16- or 32-byte key, 16 bytes each. -/
def aesRoundKeys (key : Bytes) : List (List Nat) :=
  let nk := key.length / 4
  let ws := aesExpand nk (4 * (nk + 7) - nk) 1 (chunk4 8 (key.map BitVec.toNat))
  (List.range (nk + 7)).map fun r => ((ws.drop (4 * r)).take 4).flatten

/-- Position permutation of ShiftRows on a column-major block. -/
def aesShift (st : List Nat) : List Nat :=
  (List.range 16).map fun i => st.getD ((i + 4 * (i % 4)) % 16) 0
/-- The inverse of `aesShift`. -/
def aesUnshift (st : List Nat) : List Nat :=
  (List.range 16).map fun i => st.getD ((i + 12 * (i % 4)) % 16) 0

/-- MixColumns with a row of coefficients. -/
def aesMix (m : List Nat) (st : List Nat) : List Nat :=
  (List.range 16).map fun i =>
    let c := i / 4 * 4
    (List.range 4).foldl (fun v k => Nat.xor v (gfMul (m.getD ((k + 4 - i % 4) % 4) 0) (st.getD (c + k) 0))) 0

/-- AES encryption of a block (16 numbers below 256). -/
def aesEncBlock (rks : List (List Nat)) (blk : List Nat) : List Nat :=
  let n := rks.length - 1
  let st := List.zipWith Nat.xor blk (rks.getD 0 [])
  let sb := fun (s : List Nat) => s.map fun x => aesBox.getD x 0
  let st := (List.range (n - 1)).foldl (fun s r =>
    List.zipWith Nat.xor (aesMix [2, 3, 1, 1] (aesShift (sb s))) (rks.getD (r + 1) [])) st
  List.zipWith Nat.xor (aesShift (sb st)) (rks.getD n [])

/-- AES decryption of a block. -/
def aesDecBlock (rks : List (List Nat)) (blk : List Nat) : List Nat :=
  let n := rks.length - 1
  let st := List.zipWith Nat.xor blk (rks.getD n [])
  let sb := fun (s : List Nat) => s.map fun x => aesInvBox.getD x 0
  let st := (List.range (n - 1)).foldl (fun s r =>
    aesMix [14, 11, 13, 9] (List.zipWith Nat.xor (sb (aesUnshift s)) (rks.getD (n - 1 - r) []))) st
  List.zipWith Nat.xor (sb (aesUnshift st)) (rks.getD 0 [])

/-- A byte string as numbers and back. -/
def natsOf (bs : Bytes) : List Nat := bs.map BitVec.toNat
/-- Numbers as bytes. -/
def bytesOf (l : List Nat) : Bytes := l.map (BitVec.ofNat 8)

/-- AES of one 16-byte block under a key. -/
def aes (key blk : Bytes) : Bytes := bytesOf (aesEncBlock (aesRoundKeys key) (natsOf blk))

/-- 16-byte blocks of a string; the last may be short. -/
def blocks16 : Nat → Bytes → List Bytes
  | 0, _ => []
  | n + 1, bs => if bs.isEmpty then [] else bs.take 16 :: blocks16 n (bs.drop 16)

/-- Doubling in GF(2^128) for CMAC subkeys. -/
def cmacDouble (v : Nat) : Nat :=
  let d := v * 2 % 2 ^ 128
  if v ≥ 2 ^ 127 then Nat.xor d 0x87 else d

/-- AES-CMAC, 128-bit code (SP 800-38B). -/
def cmac (key msg : Bytes) : Bytes :=
  let rks := aesRoundKeys key
  let enc := fun (b : Bytes) => bytesOf (aesEncBlock rks (natsOf b))
  let k1 := cmacDouble (beNat (enc (zeros 16)))
  let k2 := cmacDouble k1
  let n := (msg.length + 15) / 16
  let bs := blocks16 (n + 1) msg
  let full := msg.length % 16 = 0 ∧ msg.length ≠ 0
  let last := bs.getLastD []
  let lastBlk := if full then xorBytes last (beBytes 16 k1)
    else xorBytes (last ++ [0x80] ++ zeros (15 - last.length)) (beBytes 16 k2)
  let x := bs.dropLast.foldl (fun x b => enc (xorBytes x b)) (zeros 16)
  enc (xorBytes x lastBlk)

/-- The most significant 64 bits of a CMAC (Table 03-4, R544). -/
def cmac64 (key msg : Bytes) : Nat := beNat ((cmac key msg).take 8)

/-- The RFC 3394 initial value. -/
def kwIv : Bytes := List.replicate 8 0xA6

/-- AES Key Wrap of a string of 8-byte blocks (RFC 3394). -/
def keyWrap (kek plain : Bytes) : Bytes :=
  let rks := aesRoundKeys kek
  let n := plain.length / 8
  let r0 := (List.range n).map fun i => (plain.drop (8 * i)).take 8
  let (a, r) := (List.range (6 * n)).foldl (fun (p : Bytes × List Bytes) t =>
    let i := t % n
    let b := bytesOf (aesEncBlock rks (natsOf (p.1 ++ p.2.getD i [])))
    (xorBytes (b.take 8) (beBytes 8 (t + 1)), p.2.set i (b.drop 8))) (kwIv, r0)
  a ++ r.flatten

/-- AES Key Unwrap; none when the integrity check fails (RFC 3394, R460). -/
def keyUnwrap (kek wrapped : Bytes) : Option Bytes :=
  let rks := aesRoundKeys kek
  let n := wrapped.length / 8 - 1
  let r0 := (List.range n).map fun i => (wrapped.drop (8 * (i + 1))).take 8
  let (a, r) := (List.range (6 * n)).foldl (fun (p : Bytes × List Bytes) k =>
    let t := 6 * n - k
    let i := (t - 1) % n
    let b := bytesOf (aesDecBlock rks (natsOf (xorBytes p.1 (beBytes 8 t) ++ p.2.getD i [])))
    (b.take 8, p.2.set i (b.drop 8))) (wrapped.take 8, r0)
  if a = kwIv then some r.flatten else none

/-- Multiplication in GF(2^128) of GCM. -/
def ghashMul (x y : Nat) : Nat :=
  ((List.range 128).foldl (fun (p : Nat × Nat) i =>
    let z := if bitAt x (127 - i) then Nat.xor p.1 p.2 else p.1
    let v := p.2 / 2
    (z, if p.2 % 2 = 1 then Nat.xor v (0xE1 * 2 ^ 120) else v)) (0, y)).1

/-- GHASH over a padded string. -/
def ghash (h : Nat) (acc : Nat) (bs : Bytes) : Nat :=
  (blocks16 (bs.length / 16 + 1) bs).foldl (fun a b =>
    ghashMul (Nat.xor a (beNat (b ++ zeros (16 - b.length)))) h) acc

/-- Counter-mode keystream applied from counter block `c`. -/
def gctr (rks : List (List Nat)) (c : Nat) (bs : Bytes) : Bytes :=
  ((blocks16 (bs.length / 16 + 1) bs).foldl (fun (p : Nat × Bytes) b =>
    let k := bytesOf (aesEncBlock rks (natsOf (beBytes 16 p.1)))
    (p.1 / 2 ^ 32 * 2 ^ 32 + (p.1 + 1) % 2 ^ 32, p.2 ++ xorBytes b k)) (c, [])).2

/-- The GCM tag over AAD and ciphertext for a 96-bit IV. -/
def gcmTag (rks : List (List Nat)) (iv aad ct : Bytes) : Bytes :=
  let h := beNat (bytesOf (aesEncBlock rks (natsOf (zeros 16))))
  let y := ghash h (ghash h 0 aad) ct
  let y := ghashMul (Nat.xor y (aad.length * 8 * 2 ^ 64 + ct.length * 8)) h
  xorBytes (beBytes 16 y) (bytesOf (aesEncBlock rks (natsOf (iv ++ [0, 0, 0, 1]))))

/-- AES-GCM encryption: ciphertext and 16-byte tag. -/
def gcmSeal (key iv aad pt : Bytes) : Bytes × Bytes :=
  let rks := aesRoundKeys key
  let ct := gctr rks (beNat (iv ++ [0, 0, 0, 2])) pt
  (ct, gcmTag rks iv aad ct)

/-- AES-GCM decryption: plaintext and the computed 16-byte tag. -/
def gcmOpen (key iv aad ct : Bytes) : Bytes × Bytes :=
  let rks := aesRoundKeys key
  (gctr rks (beNat (iv ++ [0, 0, 0, 2])) ct, gcmTag rks iv aad ct)

end Sys2Proof.Machine
end

