-- ==== Sys2Proof/Machine/Cipher.lean ====
section
/-! DEFINITION. Chapter 13: key slots, installed blobs, session and data keys, switchover and the job lane. -/
namespace Sys2Proof.Machine

/-- Updates a key slot. -/
def State.modSlot (s : State) (i : Fin 256) (f : Slot → Slot) : State :=
  { s with ciph := { s.ciph with slots := vmod s.ciph.slots i f } }

/-- The slot of an index below 256. -/
def slotIdx (i : Nat) : Fin 256 := ⟨i % 256, Nat.mod_lt _ (by decide)⟩

/-- The slot `base + 4n` of a channel (Table 13-2). -/
def chanSlot (base : Nat) (ch : Fin 4) : Fin 256 := slotIdx (base + 4 * ch.val)

/-- Codes of `STATE` in Table 13-3. -/
def slotCode : SlotState → Nat
  | .free => 0
  | .valid => 1
  | .locked => 2
  | .fixed => 3

/-- The row of Table 13-3. -/
def slotRow (k : Slot) : Nat :=
  slotCode k.st * 2 ^ 62 + b2n k.len256 * 2 ^ 61 + k.index * 2 ^ 59 + b2n k.newest * 2 ^ 58 + k.txCh * 2 ^ 54 +
    k.sessionCh * 2 ^ 52 + k.tag * 2 ^ 44 + k.flow * 2 ^ 28

/-- The key material of a slot, or the dummy key where it holds none (R477). -/
def slotKey (s : State) (i : Fin 256) : Bytes :=
  let k := s.ciph.slots[i]
  if k.key.isEmpty then zeros 32 else k.key

/-- Writes a 256-bit key into a fixed-purpose slot. -/
def fillSlot (i : Fin 256) (key : Bytes) (s : State) : State :=
  s.modSlot i fun _ => { Slot.empty with st := .valid, len256 := true, key := key }

/-- Erases a slot that holds a key, leaving it Free, and counts it (R463). -/
def eraseSlot (i : Fin 256) (s : State) : State :=
  if s.ciph.slots[i].st = .valid then (s.modSlot i fun _ => Slot.empty).bump Obj.CIPH_KEYS_ERASED
  else s.modSlot i fun k => if k.st = .fixed then k else Slot.empty

/-- The data slots. -/
def dataSlots : List (Fin 256) := (List.range 224).map slotIdx

/-- The data slot that holds (flow, index), Valid or Locked (R469, R470). -/
def keySlot (s : State) (flow index : Nat) : Option (Fin 256) :=
  dataSlots.find? fun i => let k := s.ciph.slots[i]
    (k.st == .valid || k.st == .locked) && k.flow == flow && k.index == index

/-- A Valid slot of (flow, index) (R473). -/
def validSlot (s : State) (flow index : Nat) : Option (Fin 256) :=
  dataSlots.find? fun i => let k := s.ciph.slots[i]
    k.st == .valid && k.flow == flow && k.index == index

/-- The flow has a Locked slot (R472). -/
def flowLocked (s : State) (flow : Nat) : Bool :=
  dataSlots.any fun i => s.ciph.slots[i].st == .locked && s.ciph.slots[i].flow == flow

/-- SFC `a` is at or before `b`, modulo 2^51. -/
def sfcLe (a b : Nat) : Bool := decide ((b + 2 ^ 51 - a % 2 ^ 51) % 2 ^ 51 < 2 ^ 50)

/-- The transmit slot of a flow on a channel for upstream frame `sfc` (R471-R474, R478). -/
def txSlot (s : State) (flow ch sfc : Nat) : Option (Fin 256) :=
  match s.ciph.txKeys.find? fun e => e.flow = flow && e.ch = ch &&
      (match e.fromSfc with
        | none => true
        | some f => sfcLe f sfc) &&
      (match e.tillSfc with
        | none => true
        | some f => !sfcLe f sfc) with
  | some e => match e.slot with
    | some i => if s.ciph.slots[slotIdx i].st = .valid ∧ s.ciph.slots[slotIdx i].flow = flow then some (slotIdx i) else none
    | none => none
  | none => none

/-- A flow's transmit key on a channel becomes `slot` from frame `from0` on; `TX_CH` bits follow (R474). With `hold` the flow is
not sent before that frame where it has no other key (R472). -/
def setTxKey (flow : Nat) (ch : Nat) (from0 : Option Nat) (slot : Option (Fin 256)) (s : State) (hold : Bool := false) : State :=
  let s := dataSlots.foldl (fun s i =>
    if s.ciph.slots[i].flow = flow ∧ s.ciph.slots[i].st ≠ .free then
      s.modSlot i fun k => { k with txCh := setFld k.txCh ch ch (b2n (some i == slot)) }
    else s) s
  let old := if from0 = none then s.ciph.txKeys.filter fun e => !(e.flow = flow && e.ch = ch) else s.ciph.txKeys
  { s with ciph := { s.ciph with
    txKeys := { flow := flow, ch := ch, fromSfc := from0, tillSfc := none, slot := slot.map Fin.val, hold := hold } :: old } }

/-- The SFC of the first upstream frame whose mark is still to arrive on a channel, where it is in Sync. -/
def nextSfc (s : State) (ch : Fin 4) : Option Nat :=
  if s.rx[ch].st = .sync then some (s.rx[ch].expSfc % 2 ^ 51) else none

/-- A slot loses its key for good: it is Locked, keeping flow and index (R463, R464). -/
def lockSlot (i : Fin 256) (s : State) : State :=
  let s := (s.modSlot i fun k => { k with st := .locked, key := [], txCh := 0, newest := false })
  let s := { s with ciph := { s.ciph with txKeys := s.ciph.txKeys.filter fun e => e.slot ≠ some i.val } }
  s.bump Obj.CIPH_KEYS_ERASED

/-- The session of a channel ends (R115, R463). -/
def endSessionKeys (ch : Fin 4) (s : State) : State :=
  let mine := dataSlots.filter fun i => s.ciph.slots[i].st == .valid && s.ciph.slots[i].sessionCh == ch.val
  let s := mine.foldl (fun s i => lockSlot i s) s
  let s := if mine.isEmpty then s else s.ev Ev.CIPH_KEYS_LOCKED [ch.val, mine.length]
  let had := [224, 225, 226, 227].any fun b => s.ciph.slots[chanSlot b ch].st == .valid
  let s := [224, 225, 226, 227].foldl (fun s b => eraseSlot (chanSlot b ch) s) s
  let s := { s with ciph := { s.ciph with
    staged := vmod s.ciph.staged ch fun _ => none
    derive := vmod s.ciph.derive ch fun _ => none
    unwraps := s.ciph.unwraps.filter fun u => u.ch ≠ ch } }
  if had then s.ev Ev.CIPH_SESSION_KEYS [ch.val, 4] else s

/-- The pending keys become the current ones (R468). -/
def confirmKeys (ch : Fin 4) (s : State) : State :=
  let kek := s.ciph.slots[chanSlot 226 ch]
  let mk := s.ciph.slots[chanSlot 227 ch]
  let s := eraseSlot (chanSlot 224 ch) (eraseSlot (chanSlot 225 ch) s)
  let s := (s.modSlot (chanSlot 224 ch) fun _ => kek).modSlot (chanSlot 225 ch) fun _ => mk
  let s := (s.modSlot (chanSlot 226 ch) fun _ => Slot.empty).modSlot (chanSlot 227 ch) fun _ => Slot.empty
  s.ev Ev.CIPH_SESSION_KEYS [ch.val, 2]

/-- The pending keys are discarded (R468). -/
def discardKeys (ch : Fin 4) (s : State) : State :=
  (eraseSlot (chanSlot 226 ch) (eraseSlot (chanSlot 227 ch) s)).ev Ev.CIPH_SESSION_KEYS [ch.val, 3]

/-- The transmit keys of the source move to the target in the slots `mine`, whose session moves; a moved key takes the place of
another key that its flow has on the target. The source keeps them for the frames before the handover frame `x`, whose bursts it
still sends (R152, R468). -/
def moveTxKeys (src tgt : Fin 4) (x : Nat) (mine : List (Fin 256)) (flows : List Nat) (l : List TxKey) : List TxKey :=
  let moves := fun (e : TxKey) => e.ch == src.val && mine.any fun i => e.slot == some i.val
  let rest := l.filter fun e => !(e.ch == src.val && e.tillSfc.isSome) && !(e.ch == tgt.val && flows.contains e.flow)
  (rest.map fun e => if moves e then { e with ch := tgt.val, fromSfc := none } else e) ++
    ((rest.filter moves).map fun e => { e with tillSfc := some x })

/-- A handover moves the session slots of the source to the target, and with every data slot of its session the transmit keys
(R468). -/
def moveKeys (src tgt : Fin 4) (x : Nat) (s : State) : State :=
  let s := [224, 225, 226, 227].foldl (fun s b =>
    let k := s.ciph.slots[chanSlot b src]
    (s.modSlot (chanSlot b tgt) fun _ => k).modSlot (chanSlot b src) fun _ => Slot.empty) s
  let mine := dataSlots.filter fun i => s.ciph.slots[i].st != .free && s.ciph.slots[i].sessionCh == src.val
  let flows := (mine.filter fun i => bitAt s.ciph.slots[i].txCh src.val).map fun i => s.ciph.slots[i].flow
  let s := dataSlots.foldl (fun s i => s.modSlot i fun k =>
    if k.st = .free then k
    else if mine.contains i then { k with
      sessionCh := tgt.val
      txCh := if bitAt k.txCh src.val then setBit (setBit k.txCh src.val false) tgt.val true else k.txCh }
    else if flows.contains k.flow then { k with txCh := setBit k.txCh tgt.val false }
    else k) s
  { s with ciph := { s.ciph with txKeys := moveTxKeys src tgt x mine flows s.ciph.txKeys } }

/-! ### Derivation (R467) -/

/-- The registration secret is installed (R141). -/
def secretInstalled (s : State) : Bool := s.ciph.slots[slotIdx 240].st == .valid

/-- The 64 bytes of R467. -/
def deriveKeys (secret : Bytes) (heNonce tNonce serial headEnd : Nat) : Bytes :=
  let label : Bytes := [0x4C, 0x53, 0x46, 0x33, 0x2D, 0x53, 0x45, 0x53, 0x53, 0x49, 0x4F, 0x4E]
  ([1, 2, 3, 4].map fun i => cmac secret (beBytes 1 i ++ label ++ [0] ++ beBytes 16 heNonce ++ beBytes 16 tNonce ++
    beBytes 8 serial ++ beBytes 4 headEnd ++ beBytes 2 0x0200)).flatten

/-- The serial number (R135): "TVOS" and the fused number. -/
def serialNumber : Nat := 0x54564F53 * 2 ^ 32 + Config.serialNumber.toNat

/-! ### Data keys (R469-R472) -/

/-- The slot an install uses (R470). -/
def installSlot (s : State) (flow index : Nat) : Option (Fin 256) :=
  match keySlot s flow index with
  | some i => some i
  | none =>
    match dataSlots.find? fun i => s.ciph.slots[i].st == .locked && s.ciph.slots[i].flow == flow with
    | some i => some i
    | none => dataSlots.find? fun i => s.ciph.slots[i].st == .free

/-- Writes a data key (R471). -/
def writeKey (i : Fin 256) (u : KeyUnwrap) (key : Bytes) (s : State) : State :=
  let locked := flowLocked s u.flow
  let hadValid := dataSlots.any fun j => s.ciph.slots[j].st == .valid && s.ciph.slots[j].flow == u.flow
  let s := dataSlots.foldl (fun s j =>
    if s.ciph.slots[j].flow = u.flow then s.modSlot j fun k => { k with newest := false } else s) s
  let s := s.modSlot i fun k => { k with
    st := .valid, len256 := u.len256, index := u.index, newest := true, sessionCh := u.ch.val, tag := u.tag, flow := u.flow
    key := key }
  if hadValid then s
  else (fins 4).foldl (fun s c => setTxKey u.flow c.val (nextSfc s c) (some i) s locked) s

/-- Deletes the key at (flow, index) (row 11 of Table 13-5, R472). -/
def deleteKey (i : Fin 256) (s : State) : State :=
  let k := s.ciph.slots[i]
  let other := dataSlots.find? fun j => j != i && s.ciph.slots[j].st == .valid && s.ciph.slots[j].flow == k.flow
  let was := k.txCh
  let s := eraseSlot i s
  (fins 4).foldl (fun s c =>
    if bitAt was c.val then setTxKey k.flow c.val (nextSfc s c) other s true else s) s

/-- At a switch edge every flow takes its newest Valid key on the channel (R474). -/
def keySwitchEdge (ch : Fin 4) (sfc : Nat) (flag : Bool) (s : State) : State :=
  let edge := s.ciph.prevFlag[ch] && !flag
  let s := { s with ciph := { s.ciph with prevFlag := vmod s.ciph.prevFlag ch fun _ => flag } }
  if !edge then s
  else
    let turn := dataSlots.filter fun i => let k := s.ciph.slots[i]
      k.st == .valid && k.newest && !bitAt k.txCh ch.val
    let s := turn.foldl (fun s i => setTxKey s.ciph.slots[i].flow ch.val (some sfc) (some i) s) s
    if turn.isEmpty then s
    else (s.bump Obj.CIPH_KEY_SWITCHES (sub ch)).ev (Ev.CIPH_KEY_SWITCHED + ch.val) (p64 sfc ++ [turn.length])

/-- A change of the flow's transmit key that falls on a later frame holds the flow until then (R472, log entry 207). -/
def txGap (s : State) (flow ch sfc : Nat) : Bool :=
  s.ciph.txKeys.any fun e => e.hold && e.flow == flow && e.ch == ch && e.fromSfc.any fun f => !sfcLe f sfc

/-- R471, R472: a frame of this flow must be held: no Valid transmit key on the channel, and a Locked slot or a key that is
gone. -/
def flowHeld (s : State) (flow ch sfc : Nat) : Bool :=
  (flowLocked s flow || txGap s flow ch sfc) && (txSlot s flow ch sfc).isNone

/-- The carrier IV of Table 13-6. -/
def carrierIv (sfc chId : Nat) (upstream : Bool) (flow cidx : Nat) : Bytes :=
  beBytes 12 (sfc * 2 ^ 45 + chId * 2 ^ 43 + b2n upstream * 2 ^ 42 + flow * 2 ^ 26 + cidx * 2 ^ 10)

/-! ### Blobs (R465, R466) -/

/-- The device key (Table 13-1). -/
def deviceKey : Bytes := (List.range 32).map Config.deviceKey

/-- The slot that a blob fills: secret, array key, capture key (Table 13-2). -/
def blobSlot (w : Fin 3) : Fin 256 := slotIdx (240 + w.val)

/-- Stores a blob in flash and starts its unwrap (R465). -/
def storeBlob (w : Fin 3) (bs : Bytes) (s : State) : State :=
  State.qspi { s with
    flash := { s.flash with blobs := vmod s.flash.blobs w fun _ => bs }
    ciph := { s.ciph with blobRun := vmod s.ciph.blobRun w fun _ => some s.now } }
    (qspiWrite (blobAddr w) 40)

/-- The result of a blob's unwrap (R465). -/
def unwrapBlob (w : Fin 3) (s : State) : State :=
  let b := s.flash.blobs[w]
  let s := { s with pwr := { s.pwr with idleSince := s.now } }
  let set := fun (v : Nat) (s : State) =>
    { s with ciph := { s.ciph with blobState := vmod s.ciph.blobState w fun _ => v, blobRun := vmod s.ciph.blobRun w fun _ => none } }
  if beNat b = 0 then set 0 (eraseSlot (blobSlot w) s)
  else match keyUnwrap deviceKey b with
    | some k => set 1 (fillSlot (blobSlot w) k (eraseSlot (blobSlot w) s))
    | none => ((set 2 (eraseSlot (blobSlot w) s)).bump Obj.CIPH_BLOB_UNWRAP_FAILS).ev Ev.CIPH_UNWRAP_FAILED [w.val + 1, 0, 0]

/-- A host write of a blob object. -/
def writeBlob (w : Fin 3) (bs : Bytes) (s : State) : State :=
  if bs.length ≠ 40 then s.answer .typeMismatch else (storeBlob w bs s).answer .ok

def execCiphSecretBlob (t : Nat) (bs : Bytes) (s : State) : Host.Outcome State Fault Refusal :=
  done t s fun s => s.hostWrite (writeBlob 0 bs)

def execCiphArrayKeyBlob (t : Nat) (bs : Bytes) (s : State) : Host.Outcome State Fault Refusal :=
  done t s fun s => s.hostWrite (writeBlob 1 bs)

def execCiphCaptureBlob (t : Nat) (bs : Bytes) (s : State) : Host.Outcome State Fault Refusal :=
  done t s fun s => s.hostWrite (writeBlob 2 bs)

def execBlobUnwrapComplete (t : Nat) (w : Fin 3) (s : State) : Host.Outcome State Fault Refusal :=
  done t s fun s => match s.ciph.blobRun[w] with
    | some st => if s.now ≥ st + 2 * tickUs then unwrapBlob w s else s
    | none => s

/-- R466. -/
def secretSeal (bs : Bytes) (s : State) : State :=
  if bs.length ≠ 32 then s.answer .typeMismatch
  else if (fins 4).any fun c => s.flag Obj.ACT_ENABLE (sub c) then s.answer .state
  else (storeBlob 0 (keyWrap deviceKey bs) s).answer .ok

def execCiphSecretSeal (t : Nat) (bs : Bytes) (s : State) : Host.Outcome State Fault Refusal :=
  done t s fun s => s.hostWrite (secretSeal bs)

/-- R472: frees the Locked slots of a flow. -/
def unlockFlow (v : Nat) (s : State) : State :=
  if v ≥ 0xFFFF then s.answer .range
  else (dataSlots.foldl (fun s i =>
    if s.ciph.slots[i].st = .locked ∧ s.ciph.slots[i].flow = v then s.modSlot i fun _ => Slot.empty else s) s).answer .ok

def execCiphUnlockFlow (t v : Nat) (s : State) : Host.Outcome State Fault Refusal :=
  done t s fun s => s.hostWrite (unlockFlow v)

/-- R464. -/
def slotError (i : Fin 256) (s : State) : State :=
  let k := s.ciph.slots[i]
  let s := if i.val < 224 then (if k.st = .valid then lockSlot i s else s) else eraseSlot i s
  (s.bump Obj.CIPH_SLOT_PARITY_ERRORS).ev Ev.CIPH_SLOT_ERROR [i.val, k.flow]

def execCiphSlotError (t : Nat) (slot : Fin 256) (s : State) : Host.Outcome State Fault Refusal :=
  done t s (slotError slot)

/-- A new context key, and the image key from its fuses (R463). -/
def loadFixedKeys (s : State) : State :=
  let (k, s) := s.draw (2 ^ 256)
  fillSlot (slotIdx 244) ((List.range 32).map Config.imageKey) (fillSlot (slotIdx 243) (beBytes 32 k) s)

/-! ### The job lane (R480, R481) -/

/-- The slots a job kind may name (Table 13-2). -/
def jobSlotOk (k : JobKind) (slot : Nat) : Bool :=
  match k with
  | .gcmSeal => slot == 242
  | .gcmOpen => slot == 244
  | _ => slot == 241 || slot == 255 || (224 ≤ slot && slot < 240 && (slot % 4 == 1 || slot % 4 == 3))

/-- Blocks of a job: AAD and data in 128-bit blocks. -/
def jobBlocks (aad data : Bytes) : Nat := (aad.length + 15) / 16 + (data.length + 15) / 16

/-- Jobs that hold one of the 64 contexts (R481). -/
def contextsUsed (s : State) : Nat := (s.ciph.jobs.filter fun j => !j.exported).length

/-- Ends a job with an error (R480, R481). -/
def jobError (id : Nat) (s : State) : State :=
  let r : JobResult := { id := id, pass := false, out := [], tag := [], error := true }
  State.bump { s with ciph := { s.ciph with results := s.ciph.results ++ [r], nextJob := max s.ciph.nextJob (id + 1) } } Obj.CIPH_JOB_ERRORS

/-- Requests a job: it takes a context, or ends with an error for a slot it may not name (R480). With all 64 contexts
taken the request waits outside the cipher. A slot that holds no key is an error as well (log entry 24). -/
def startJob (k : JobKind) (slot : Fin 256) (iv aad data tag : Bytes) (s : State) : State :=
  let s := leaveIdle s
  let st := s.ciph.slots[slot].st
  if !jobSlotOk k slot.val || !(st == .valid || st == .fixed) then jobError s.ciph.nextJob s
  else if contextsUsed s ≥ 64 then s
  else
    let j : Job := { id := s.ciph.nextJob, kind := k, slot := slot.val, iv := iv, aad := aad, data := data, tag := tag,
                     blocksLeft := jobBlocks aad data, exported := false }
    { s with ciph := { s.ciph with jobs := s.ciph.jobs ++ [j], nextJob := s.ciph.nextJob + 1 } }

def execGcmSeal (t : Nat) (slot : Fin 256) (iv aad data : Bytes) (s : State) : Host.Outcome State Fault Refusal :=
  doneIf (iv.length == 12) t s (startJob .gcmSeal slot iv aad data [])

def execGcmOpen (t : Nat) (slot : Fin 256) (iv aad data tag : Bytes) (s : State) : Host.Outcome State Fault Refusal :=
  doneIf (iv.length == 12 && tag.length == 16) t s (startJob .gcmOpen slot iv aad data tag)

def execCmacGenerate (t : Nat) (slot : Fin 256) (data : Bytes) (s : State) : Host.Outcome State Fault Refusal :=
  done t s (startJob .cmacGenerate slot [] [] data [])

def execCmacVerify (t : Nat) (slot : Fin 256) (data tag : Bytes) (s : State) : Host.Outcome State Fault Refusal :=
  doneIf (tag.length == 8 || tag.length == 16) t s (startJob .cmacVerify slot [] [] data tag)

/-- What a finished job gives (Table 13-7): plaintext only after a pass. -/
def jobResult (s : State) (j : Job) : JobResult :=
  let key := slotKey s (slotIdx j.slot)
  match j.kind with
  | .gcmSeal =>
    let (ct, tg) := gcmSeal key j.iv j.aad j.data
    { id := j.id, pass := true, out := ct, tag := tg, error := false }
  | .gcmOpen =>
    let (pt, tg) := gcmOpen key j.iv j.aad j.data
    { id := j.id, pass := tg == j.tag, out := if tg = j.tag then pt else [], tag := [], error := false }
  | .cmacGenerate => { id := j.id, pass := true, out := cmac key j.data, tag := [], error := false }
  | .cmacVerify =>
    { id := j.id, pass := (cmac key j.data).take j.tag.length == j.tag, out := [], tag := [], error := false }

/-- The granted step of up to 64 blocks ends, 8 cycles and one for each block after its grant was used (R479, R480). -/
def jobStep (s : State) : State :=
  match s.ciph.lane with
  | none => s
  | some (id, at0) =>
    match s.ciph.jobs.find? fun j => j.id == id && !j.exported with
    | none => { s with ciph := { s.ciph with lane := none } }
    | some j =>
      if s.now < at0 + (8 + min j.blocksLeft 64) * tickCore then s
      else if j.blocksLeft > 64 then
        { s with ciph := { s.ciph with lane := none, jobs := s.ciph.jobs.map fun x =>
          if x.id = j.id then { x with blocksLeft := x.blocksLeft - 64 } else x } }
      else
        State.bump { s with
          ciph := { s.ciph with
            lane := none, jobs := s.ciph.jobs.filter fun x => x.id ≠ j.id, results := s.ciph.results ++ [jobResult s j] }
          pwr := { s.pwr with idleSince := s.now } } Obj.CIPH_JOBS

def execJobStepComplete (t : Nat) (s : State) : Host.Outcome State Fault Refusal := done t s jobStep

/-- The codes of Table 13-7. -/
def jobCode : JobKind → Nat
  | .gcmSeal => 1
  | .gcmOpen => 2
  | .cmacGenerate => 3
  | .cmacVerify => 4

/-- The 96-byte context of Table 13-8 between steps. -/
def jobContext (s : State) (j : Job) : Bytes :=
  let ab := (j.aad.length + 15) / 16
  let done := jobBlocks j.aad j.data - j.blocksLeft
  let aadDone := min j.aad.length (16 * done)
  let dataDone := min j.data.length (16 * (done - ab))
  let rks := aesRoundKeys (slotKey s (slotIdx j.slot))
  let gcm := j.kind == .gcmSeal || j.kind == .gcmOpen
  let j0 := if gcm then beNat (j.iv ++ [0, 0, 0, 1]) else 0
  let h := beNat (bytesOf (aesEncBlock rks (natsOf (zeros 16))))
  let ct := if j.kind = .gcmSeal then gctr rks (beNat (j.iv ++ [0, 0, 0, 2])) (j.data.take dataDone) else j.data.take dataDone
  let acc :=
    if gcm then ghash h (ghash h 0 (j.aad.take aadDone)) ct
    else beNat ((blocks16 (dataDone / 16 + 1) (j.data.take dataDone)).foldl (fun x b =>
      bytesOf (aesEncBlock rks (natsOf (xorBytes x b)))) (zeros 16))
  beBytes 1 (jobCode j.kind) ++ beBytes 1 j.slot ++ beBytes 1 (b2n (decide (done ≥ ab))) ++ zeros 5 ++
    beBytes 8 aadDone ++ beBytes 8 dataDone ++
    beBytes 16 (if gcm then j0 + 1 + (dataDone + 15) / 16 else 0) ++ beBytes 16 acc ++ zeros 16 ++ beBytes 16 j0 ++ zeros 8

/-- R481: the context leaves wrapped under the context key and frees its place. -/
def exportContext (id : Nat) (s : State) : State :=
  match s.ciph.jobs.find? fun j => j.id == id && !j.exported with
  | none => s
  | some j =>
    { s with value := keyWrap (slotKey s (slotIdx 243)) (jobContext s j)
             ciph := { s.ciph with jobs := s.ciph.jobs.map fun x => if x.id = id then { x with exported := true } else x } }

def execContextExport (t id : Nat) (s : State) : Host.Outcome State Fault Refusal := done t s (exportContext id)

/-- R481: a context that fails its integrity check ends its job with an error. -/
def restoreContext (bs : Bytes) (s : State) : State :=
  match keyUnwrap (slotKey s (slotIdx 243)) bs with
  | none => jobError s.ciph.nextJob s
  | some c =>
    match s.ciph.jobs.find? fun j => j.exported && jobContext s j == c with
    | some j =>
      if contextsUsed s ≥ 64 then s
      else { s with ciph := { s.ciph with jobs := s.ciph.jobs.map fun x => if x.id = j.id then { x with exported := false } else x } }
    | none => s

def execContextRestore (t : Nat) (bs : Bytes) (s : State) : Host.Outcome State Fault Refusal :=
  doneIf (bs.length == 104) t s (restoreContext bs)

end Sys2Proof.Machine
end

