-- ==== Sys2Proof/Machine/TailOps.lean ====
section
/-! DEFINITION. The upstream directive queue (R130, R131), bursts that are not sent (R187), open fragments that are discarded (R188) and allocation bindings (R161-R165). -/
namespace Sys2Proof.Machine

/-! ### Upstream directives -/

/-- The priority of an upstream type (R130): lower leaves first. -/
def upRank (type : Nat) : Nat :=
  if type = 0x81 ∨ type = 0x82 then 0 else if type = 0x83 then 1 else if type = 0x85 then 2 else 3

/-- Age of a directive: how many were numbered since (R130). -/
def upAge (next seq : Nat) : Nat := (next + 256 - seq) % 256

/-- Puts a directive at its place: by type, then by order of creation (R130). -/
def upInsert (next : Nat) (u : UpDir) : List UpDir → List UpDir
  | [] => [u]
  | v :: vs =>
    if upRank u.type < upRank v.type ∨ (upRank u.type = upRank v.type ∧ upAge next v.seq < upAge next u.seq) then u :: v :: vs
    else v :: upInsert next u vs

/-- Queues a directive, new or again; one that would overflow the 8 entries is dropped and counted (R130). -/
def upPush (ch : Fin 4) (u : UpDir) (s : State) : State :=
  let a := s.act[ch]
  if a.upq.length ≥ 8 then s.bump Obj.ACT_UP_DIRECTIVES_DROPPED (sub ch)
  else s.modAct ch fun a => { a with upq := upInsert a.upSeq u a.upq }

/-- Creates and queues a directive, numbered per channel (R130). -/
def upNew (ch : Fin 4) (type content : Nat) (s : State) : UpDir × State :=
  let u : UpDir := { type := type, seq := s.act[ch].upSeq, content := content, sends := 0, sentAt := 0 }
  (u, upPush ch u (s.modAct ch fun a => { a with upSeq := (a.upSeq + 1) % 256 }))

/-- Creates and queues the answer to an accepted directive, and keeps it for its duplicates (R129). -/
def upAnswer (ch : Fin 4) (forType forSeq type content : Nat) (s : State) : State :=
  let (u, s) := upNew ch type content s
  s.modAct ch fun a => { a with dups := a.dups.map fun e =>
    if e.1 = forType ∧ e.2.1 = forSeq then (e.1, e.2.1, e.2.2.1, some u) else e }

/-- The content of an Acknowledge (Table 03-7). -/
def ackContent (type seq result : Nat) : Nat := type * 2 ^ 280 + seq * 2 ^ 272 + result * 2 ^ 264

/-- Answers a directive with an Acknowledge (R132). -/
def upAck (ch : Fin 4) (type seq result : Nat) (s : State) : State :=
  upAnswer ch type seq 0x85 (ackContent type seq result) s

/-- The channels in Sync with the head end of `ch`, as a mask (Table 03-7). -/
def syncMask (s : State) (ch : Fin 4) : Nat :=
  (fins 4).foldl (fun m c =>
    if s.rx[c].st = .sync ∧ s.rx[c].heId = s.rx[ch].heId then m + 2 ^ c.val else m) 0

/-- The content of a Serial Number (Table 03-7). -/
def serialContent (s : State) (ch : Fin 4) (delay : Nat) : Nat :=
  serialNumber * 2 ^ 224 + delay * 2 ^ 208 + syncMask s ch * 2 ^ 204 + s.obj Obj.BOND_ENABLE * 2 ^ 203 +
    s.obj Obj.PWR_HE_SLEEP_PERMIT * 2 ^ 202 + b2n s.clientEnabled * 2 ^ 201 + 0xB0 * 2 ^ 193

/-- The bits [383:64] of a directive (Table 03-4). -/
def dirBytes (tid type seq rsv content : Nat) : Bytes :=
  beBytes 40 (tid * 2 ^ 310 + type * 2 ^ 302 + seq * 2 ^ 294 + rsv * 2 ^ 288 + content)

/-- The key that codes the upstream directives of a channel (Table 03-5). -/
def upKey (s : State) (ch : Fin 4) : Bytes :=
  match s.act[ch].session with
  | .none => zeros 32
  | .pending | .renewing => slotKey s (chanSlot 227 ch)
  | .confirmed => slotKey s (chanSlot 225 ch)

/-- The 48 bytes of an upstream directive in a burst of a terminal ID (R125, R185). -/
def upBytes (s : State) (ch : Fin 4) (tid : Nat) (u : UpDir) : Bytes :=
  let m := dirBytes tid u.type u.seq 0 u.content
  m ++ (cmac (upKey s ch) m).take 8

/-- A directive left in a burst: it is counted, and a type that awaits an Acknowledge waits from now (R131). The first
send of a renewing Registration starts its second (R127). -/
def upSent (ch : Fin 4) (u : UpDir) (s : State) : State :=
  let s := s.bump Obj.ACT_UP_DIRECTIVES_SENT (sub ch)
  if u.type = 0x82 ∨ u.type = 0x83 ∨ u.type = 0x84 then
    s.modAct ch fun a => { a with
      await := (a.await.filter fun v => !(v.type = u.type && v.seq = u.seq)) ++ [{ u with sends := u.sends + 1, sentAt := a.frames }]
      renewAt := if u.type = 0x82 && a.session == .renewing && a.renewAt.isNone then some s.now else a.renewAt }
  else s

/-! ### Layout (R176, R177) -/

/-- Information bytes of the last, shortened codeword. -/
def lastInfo (b : Nat) : Nat := if b % 2160 ≥ 256 then b % 2160 - 240 else 0

/-- The information capacity of a chain of B bytes. -/
def infoBytes (b : Nat) : Nat := 1920 * (b / 2160) + lastInfo b

/-- The function g of R177: the information offset at a line offset. -/
def infoAt (b line : Nat) : Nat :=
  let q := b / 2160
  if line / 2160 < q then 1920 * (line / 2160) + min (line % 2160) 1920 else 1920 * q + min (line % 2160) (lastInfo b)

/-- The line offset of an information byte. -/
def lineAt (i : Nat) : Nat := 2160 * (i / 1920) + i % 1920

/-- Segments of a data chain: allocation, row, information offset and length (R177). -/
def segmentsOf (b pre : Nat) (start : Nat) (gs : List (Grant × Nat)) : List (Grant × Nat × Nat × Nat) :=
  let starts := (gs.map fun g => max pre (infoAt b (16 * (g.1.start - start)))) ++ [infoBytes b]
  gs.zipIdx.map fun e =>
    let a := starts.getD e.2 0
    let z := starts.getD (e.2 + 1) 0
    (e.1.1, e.1.2, a, z - a)

/-! ### Chains that are not sent (R187) and fragments that are discarded (R188) -/

/-- The open fragment of an allocation row on a channel. -/
def openFrag (s : State) (ch : Fin 4) (row : Nat) : Option QFrame :=
  (s.us[ch].openFrags.find? fun e => e.1 == row).map Prod.snd

/-- Sets or clears the open fragment of a row on a channel. -/
def setFrag (ch : Fin 4) (row : Nat) (q : Option QFrame) (s : State) : State :=
  s.modUs ch fun u => { u with openFrags := (u.openFrags.filter fun e => e.1 ≠ row) ++ (match q with
    | some q => [(row, q)]
    | none => []) }

/-- Returns one taken frame (R187): the rest of an open fragment stays the open fragment; a frame of which no carrier has
been sent goes whole to the head of its queue. -/
def giveBackOne (ch : Fin 4) (t : Taken) (s : State) : State :=
  if t.wasOpen then setFrag ch t.row (some t.frame) s
  else
    let s := if t.whole then s else setFrag ch t.row none s
    { s with usq := t.frame :: s.usq }

/-- Returns the frames and the directive of a sealed chain, in their original order (R187). -/
def giveBack (ch : Fin 4) (k : Chain) (s : State) : State :=
  let s := k.taken.foldr (giveBackOne ch) s
  match k.directive with
  | some u => if u.type = 0x81 then s
    else s.modAct ch fun a => { a with upq := upInsert a.upSeq u a.upq }
  | none => s

/-- A chain is not sent (R187): a sealed one gives back what it took and is counted. -/
def abandonChain (ch : Fin 4) (k : Chain) (s : State) : State :=
  if k.sealedAt.isSome then (giveBack ch k s).bump Obj.US_BURSTS_ABANDONED (sub ch) else s

/-- Every open fragment of a channel is discarded (R188). -/
def dropFragments (ch : Fin 4) (s : State) : State :=
  let fr := s.us[ch].openFrags
  let s := s.modUs ch fun u => { u with openFrags := [] }
  fr.foldl (fun s e => (loseQueued e.2 s).bump Obj.US_FRAGMENTS_ABANDONED (sub ch)) s

/-- Line bytes of a burst that have left by an instant: from the header on. -/
def lineSent (k : Chain) (now : Nat) : Nat :=
  let h := k.riseAt + 128 * (k.p + 1) * k.period / 12441600
  if now ≤ h then 0 else (now - h) * 1555200 / k.period

/-- The buffers of the frames that a burst has sent whole are freed (R310). -/
def freeSent (k : Chain) (sent : Nat) (s : State) : State :=
  k.taken.foldl (fun s t =>
    if t.whole && decide (t.lineEnd ≤ sent) then releaseHandles (queueOwner t.frame.queue) t.frame.handles s else s) s

/-- Idle carriers and padding of a data segment between two information offsets, each with the line byte at which it has
left (R179); `n` bounds the carriers. -/
def idlePieces (content : Bytes) : Nat → Nat → Nat → List (Nat × Nat)
  | 0, _, _ => []
  | n + 1, off, stop =>
    if stop ≤ off then []
    else if stop < off + 8 then [(lineAt (stop - 1) + 1, stop - off)]
    else
      let v := beAt content (off - 8) 8
      let e := off + 8 + fld v 63 50
      let rest := idlePieces content n e stop
      if fld v 47 32 = 0xFFFF then (lineAt (e - 1) + 1, e - off) :: rest else rest

/-- Idle carrier and padding bytes of a data chain that have left by a line byte. -/
def idleSent (k : Chain) (sent : Nat) : Nat :=
  let data := k.grants.filter fun g => g.1.size != 0
  let pre := 8 + (if k.directive.isSome then 48 else 0) + 8 * (k.grants.length - data.length)
  let ps := (segmentsOf (16 * k.slots) pre k.startSlot data).flatMap fun g =>
    idlePieces k.content (g.2.2.2 / 8 + 1) (if g.2.2.2 < 8 then g.2.2.1 else g.2.2.1 + 8) (g.2.2.1 + g.2.2.2)
  (ps.filter fun e => decide (e.1 ≤ sent)).foldl (fun n e => n + e.2) 0

/-- Counts the carriers of a burst whose last byte has left by a line byte (Table 04-8). -/
def countCarriers (ch : Fin 4) (k : Chain) (sent idle : Nat) (s : State) : State :=
  let out := k.taken.filter fun t => decide (t.lineEnd ≤ sent)
  let s := out.foldl (fun s t => s.bumpRow Obj.US_ALLOC_COUNTERS t.row 2 1 t.bytes) s
  let s := s.bump Obj.US_PAYLOAD_BYTES (sub ch) (out.foldl (fun n t => n + t.bytes) 0)
  (s.bump Obj.US_IDLE_BYTES (sub ch) idle).bump Obj.US_FRAGMENTS_SENT (sub ch) (out.countP fun t => !t.whole)

/-- Frames of a cut burst whose carriers were not sent whole return; the directive returns as well where it was not sent
whole. `cut` says, for each taken frame in order, whether its last carrier byte had left (R188). -/
def cutBurst (ch : Fin 4) (k : Chain) (sent : Nat) (s : State) : State :=
  countCarriers ch k sent (if k.kind = .data then idleSent k sent else 0) <| freeSent k sent <| giveBack ch { k with
    taken := k.taken.filter fun t => t.lineEnd > sent
    directive := if sent ≥ 56 then none else k.directive } s

/-- The upstream side of leaving Sync (R45, R188): PBEN falls, the cut frame and every sealed frame not yet sent return,
and the open fragments are discarded. -/
def upstreamLost (ch : Fin 4) (s : State) : State :=
  let s := s.us[ch].chains.foldr (abandonChain ch) s
  let s := match s.us[ch].burst with
    | some k => cutBurst ch k (lineSent k s.now) s
    | none => s
  let s := s.modUs ch fun u => { u with burst := none, chains := [], pben := false, maps := [] }
  dropFragments ch s

/-! ### Allocation bindings (R161-R165) -/

/-- The entry of a channel in a row of Table 04-2. -/
def allocEntry (v : Nat) (ch : Fin 4) : Option Nat :=
  if bitAt v (18 + 15 * ch.val) then some (fld v (17 + 15 * ch.val) (4 + 15 * ch.val)) else none

/-- The row bound to an ID on a channel, for a frame whose mark arrived at `at0` (R160, R163). -/
def allocRow (s : State) (ch : Fin 4) (at0 id : Nat) : Option Nat :=
  (List.range 256).find? fun r => allocEntry (s.rowFor Obj.US_ALLOC_TABLE r at0) ch == some id

/-- Collisions with the assigned terminal ID, counted and logged at their start (R164). -/
def allocConflicts (ch : Fin 4) (s : State) : State :=
  let tid := s.act[ch].tid
  let rows := if tid = 1023 then [] else
    (List.range 256).filter fun r => allocEntry (s.row Obj.US_ALLOC_TABLE r) ch == some tid
  let fresh := rows.filter fun r => !s.us[ch].conflicts.contains r
  let s := s.modUs ch fun u => { u with conflicts := rows }
  fresh.foldl (fun s r => (s.bump Obj.US_ALLOC_CONFLICTS (sub ch)).ev (Ev.ALLOC_CONFLICT + ch.val) [r, tid]) s

/-- A handover moves every entry of the source to the target and discards the source's open fragments (R165). -/
def moveBindings (src tgt : Fin 4) (s : State) : State :=
  let s := (List.range 256).foldl (fun s r =>
    let v := s.row Obj.US_ALLOC_TABLE r
    let e := fld v (18 + 15 * src.val) (4 + 15 * src.val)
    let w := setFld (setFld v (18 + 15 * tgt.val) (4 + 15 * tgt.val) e) (18 + 15 * src.val) (4 + 15 * src.val) 0
    if e = 0 ∧ w = v then s else s.setRowLater Obj.US_ALLOC_TABLE r w) s
  dropFragments src s

/-- A latch release of the guard (R195, R196). -/
def releaseFailSafe (ch : Fin 4) (s : State) : State :=
  if s.us[ch].failSafe then
    let s := s.modUs ch fun u => { u with failSafe := false }
    if s.us[ch].latched.isNone then s.ev (Ev.GUARD_RELEASED + ch.val) [3] else s
  else s

end Sys2Proof.Machine
end

