-- ==== Sys2Proof/Machine/ActOps.lean ====
section
/-! DEFINITION. Operations of the activation machine: state changes (R114-R120), EqD changes (R144), the fantail (R147), coding of directives (R126, R127) and session steps. -/
namespace Sys2Proof.Machine

/-- The codes of Table 03-1. -/
def actCode : ActState → Nat
  | .initial => 0
  | .standby => 1
  | .announced => 2
  | .ranging => 3
  | .operating => 4
  | .intermittent => 5
  | .emergencyStop => 6
  | .silenced => 7

/-- The codes of Table 03-5. -/
def sessionCode : Session → Nat
  | .none => 0
  | .pending => 1
  | .confirmed => 2
  | .renewing => 3

/-- The largest EqD, 250 µs in line bits (R143). -/
def eqdMax : Nat := 24883200

/-- Tresp in line bits (R142). -/
def tresp : Nat := 3483648

/-- The stop record of a channel is set in either copy (R117). -/
def stopSet (s : State) (ch : Fin 4) : Bool := s.island.stop[ch] || s.flash.stop[ch]

/-- Writes the stop record to both copies and logs a change (R117, R148). -/
def setStop (ch : Fin 4) (v : Bool) (s : State) : State :=
  if stopSet s ch = v then s
  else
    let s := { s with island := { s.island with stop := vmod s.island.stop ch fun _ => v } }
    let s := s.writeRecord fun f => { f with stop := vmod f.stop ch fun _ => v }
    s.ev (Ev.STOP_CHANGED + ch.val) [b2n v]

/-- What R115 lists, on entry to Initial or Standby, and on entry to Emergency stop or Silenced (R148). -/
def actClear (ch : Fin 4) (s : State) : State :=
  let s := endSessionKeys ch s
  let s := s.modAct ch fun a => { a with
    tid := 1023, session := .none, eqd := 0, eqdq := [], rtdValid := false, upq := [], await := [], tAnnounce := none
    tRange := none, tLost := none, renewAt := none, regNonce := none, renewing := false, handover := none, incoming := none
    announced := false, handedOff := none }
  let s := s.modUs ch fun u => { u with conflicts := [] }
  let s := if s.pwr.heWait = some ch then { s with pwr := { s.pwr with heWait := none, quietSince := s.now } } else s
  dropFragments ch s

/-- A timer's deadline, from an object in ms read when it starts (R122). -/
def deadline (s : State) (idx : Nat) (ch : Fin 4) : Nat := s.now + s.obj idx (sub ch) * tickMs

/-- The channel enters a state on a trigger, unless R116 places it elsewhere (R114-R120). Trigger 19 alone leaves Silenced
(Table 03-2), also at an evaluation at which the acknowledgement has already cleared the silence record. -/
def actEnter (ch : Fin 4) (next : ActState) (trig : Nat) (s : State) : State :=
  let old := s.act[ch].st
  let new : ActState :=
    if s.island.silence[ch] ∨ (old = .silenced ∧ trig ≠ 19) then .silenced
    else if stopSet s ch then .emergencyStop else next
  if new = old ∧ trig ≠ 6 ∧ trig ≠ 17 then s
  else
    let s := s.modAct ch fun a => { a with st := new }
    let s := if new = old then s else s.ev (Ev.ACT_STATE_CHANGED + ch.val) [actCode old, actCode new, trig]
    -- leaving (R122, R434, R501)
    let s := if old = .announced ∧ new ≠ .announced then s.modAct ch fun a => { a with tAnnounce := none } else s
    let s := if old = .ranging ∧ new ≠ .ranging then s.modAct ch fun a => { a with tRange := none } else s
    let s := if old = .intermittent then s.modAct ch fun a => { a with tLost := none, prev := none, pEst := none } else s
    let s := if old = .operating ∧ new ≠ .operating then
        { s with pwr := { s.pwr with allow := vmod s.pwr.allow ch fun _ => none }
                 time := { s.time with eps := vmod s.time.eps ch fun _ => [] } }
      else s
    -- entering
    let s := match new with
      | .initial | .emergencyStop => actClear ch s
      | .silenced =>
        let (d, s) := (actClear ch s).draw 65535
        s.modAct ch fun a => { a with token := d + 1 }
      | .standby => releaseFailSafe ch (actClear ch s)
      | .announced => s.modAct ch fun a => { a with tAnnounce := some (deadline s Obj.ACT_T_ANNOUNCE ch) }
      | .ranging => s.modAct ch fun a => { a with tRange := some (deadline s Obj.ACT_T_RANGE ch) }
      | .intermittent =>
        (s.bump Obj.ACT_INTERMITTENT_ENTRIES (sub ch)).modAct ch fun a => { a with
          tLost := some (deadline s Obj.ACT_T_LOST ch), lostIds := some (s.rx[ch].heId, s.rx[ch].chId) }
      | .operating => bondOperating ch s
    let s := if new = .silenced then s else s.modAct ch fun a => { a with token := 0 }
    bondRefresh 1 s

/-! ### EqD (R144-R147) -/

/-- SFC `x` is already past at the verification of a directive of frame `n` (R144). -/
def sfcPast (x n : Nat) : Bool :=
  let d := (x + 2 ^ 51 - n % 2 ^ 51) % 2 ^ 51
  d = 0 || d ≥ 2 ^ 50

/-- Frames from `n` to `x`, modulo 2^51. -/
def sfcDist (x n : Nat) : Nat := (x + 2 ^ 51 - n % 2 ^ 51) % 2 ^ 51

/-- The value a change gives, where it stays in range (R144). -/
def eqdValue (old : Nat) (e : EqdChange) : Option Nat :=
  let v : Int := if e.delta then (old : Int) + e.value else e.value
  if 0 ≤ v ∧ v ≤ (eqdMax : Int) then some v.toNat else none

/-- Puts a change in order of its upstream frame, after those of the same frame. -/
def eqdInsert (n : Nat) (e : EqdChange) : List EqdChange → List EqdChange
  | [] => [e]
  | x :: xs => if sfcDist e.sfc n < sfcDist x.sfc n then e :: x :: xs else x :: eqdInsert n e xs

/-- Schedules a change carried by frame `n`: the result code of the answer (R144). -/
def scheduleEqd (ch : Fin 4) (n : Nat) (immediate : Bool) (apply : Nat) (delta : Bool) (value : Int) (source : Nat)
    (power : Option Nat) (s : State) : Nat × State :=
  let late := !immediate && sfcPast apply n
  let e : EqdChange := { immediate := immediate || late, sfc := if immediate || late then (n + 1) % 2 ^ 51 else apply,
                         delta := delta, value := value, source := source, power := power }
  let q := s.act[ch].eqdq
  let before := q.filter fun x => sfcDist x.sfc n ≤ sfcDist e.sfc n
  let old := before.foldl (fun v x => (eqdValue v x).getD v) s.act[ch].eqd
  if (eqdValue old e).isNone then (2, s)
  else
    let s := if late then s.bump Obj.ACT_LATE_APPLY (sub ch) else s
    (if late then 6 else 0, s.modAct ch fun a => { a with eqdq := eqdInsert n e a.eqdq })

/-- The EqD in force changes, and the change is logged (R144). -/
def setEqd (ch : Fin 4) (v source : Nat) (s : State) : State :=
  let old := s.act[ch].eqd
  if old = v then s
  else (s.modAct ch fun a => { a with eqd := v }).ev (Ev.EQD_CHANGED + ch.val) [old, v, source]

/-- One change takes force (R144, R146). -/
def applyOne (ch : Fin 4) (s : State) (e : EqdChange) : State :=
  match eqdValue s.act[ch].eqd e with
  | none => s
  | some v =>
    let s := setEqd ch v e.source s
    match e.power with
    | none => s
    | some p =>
      let reg := s.obj Obj.ACT_OPT_POWER_REG (sub ch)
      let w : OptWrite := { device := fld reg 14 8, register := fld reg 7 0, data := p }
      s.modAct ch fun a => { a with powerLevel := p, optPending := if reg ≠ 0 then some w else a.optPending }

/-- Every change due at upstream frame `n` takes force (R144). -/
def applyEqd (ch : Fin 4) (n : Nat) (s : State) : State :=
  let q := s.act[ch].eqdq
  let due := q.filter fun e => sfcLe e.sfc n
  let s := s.modAct ch fun a => { a with eqdq := q.filter fun e => !sfcLe e.sfc n }
  due.foldl (applyOne ch) s

/-- Ticks of a frame of the channel's recovered clock (R142): `p_est` of the fantail, and 125 µs while it has none. That
the fantail's estimate stands for the period of the recovered clock is the model's choice (log entry 179). -/
def linePeriod (s : State) (ch : Fin 4) : Nat :=
  match s.act[ch].pEst with
  | some e => e.toNat
  | none => tickFrame

/-- Ticks of `n` line bits of a recovered clock whose frame of 12,441,600 bits lasts `period` ticks (R142). -/
def bitTicks (period n : Nat) : Nat := n * period / 12441600

/-- The fantail at a mark in Sync (R147): `n` is the expected SFC. It answers whether the phase jumped. A deviation that is
no whole number of ps is logged rounded down, which the model chooses (log entry 180). -/
def fantail (ch : Fin 4) (n arrival : Nat) (measured : Bool) (s : State) : Bool × State :=
  let a := s.act[ch]
  match a.prev, a.pEst with
  | none, _ => (false, s.modAct ch fun a => { a with prev := some arrival, pEst := none })
  | some p, none =>
    (false, s.modAct ch fun a => { a with prev := some arrival, pEst := some ((arrival : Int) - (p : Int)) })
  | some p, some e =>
    let d : Int := (arrival : Int) - ((p : Int) + e)
    let lim : Int := (s.obj Obj.ACT_JUMP_LIMIT (sub ch) * tickPs : Nat)
    let jump := measured && (decide (d > lim) || decide (d < -lim))
    let s := if jump then
        let s := (s.bump Obj.ACT_PHASE_JUMPS (sub ch)).ev (Ev.PHASE_JUMP + ch.val) [pI32 (d / (tickPs : Int))]
        (s.bump Obj.ACT_JUMP_SUPPRESSED (sub ch)).modAct ch fun a => { a with suppressed := (n :: a.suppressed).take 8 }
      else if measured then
        s.modAct ch fun a => { a with pEst := some (e + ((arrival : Int) - (p : Int) - e) / 64) }
      else s
    (jump, s.modAct ch fun a => { a with prev := some arrival })

/-- `ACT_DS_FREQ_OFFSET` (R147): the frame period against 125 µs of device time, in ppb. -/
def freqOffset (s : State) (ch : Fin 4) : Int :=
  match s.act[ch].pEst with
  | none => 0
  | some e =>
    let r := s.time.doms[s.time.selected].clk.rate
    (e * (1000000000 * (65536 : Nat) + r) / (65536 : Nat)) / (tickFrame : Int) - 1000000000

/-! ### Coding (R126, R127) -/

/-- How a directive verified: 0 under the all-zero key, 1 under the pending or new key, 2 under the current key. -/
def codeKey (sess : Session) (mgmt pend : Bytes) (type : Nat) (d : Directive) : Option Nat :=
  let msg := dirBytes d.tid type d.seq d.rsv d.content
  let ok := fun (k : Bytes) => !k.isEmpty && cmac64 k msg == d.code
  let zero := if ok (zeros 32) then some 0 else none
  if d.tid = 1023 then zero
  else match sess with
    | .none => zero
    | .pending => if ok pend then some 1 else if type = 5 then zero else none
    | .confirmed => if ok mgmt then some 2 else none
    | .renewing => if ok pend then some 1 else if ok mgmt then some 2 else none

/-- A pending or new session is confirmed by the first unicast directive under its key (R127, R468). -/
def confirmSession (ch : Fin 4) (s : State) : State :=
  let renewed := s.act[ch].session == .renewing
  let s := s.modAct ch fun a => { a with session := .confirmed, renewAt := none, renewing := false }
  let s := s.ev (Ev.SESSION_CONFIRMED + ch.val) [b2n renewed]
  confirmKeys ch s

/-- A directive is not acted on: it is counted and logged at most once per channel per second (R128, R133, R154). -/
def rejectDir (ch : Fin 4) (type counter reason : Nat) (s : State) : State :=
  let s := if type = 0x0B then s.bump Obj.TIME_TOD_UNUSABLE (sub ch) else s
  (s.bump counter (sub ch)).evOnce (Ev.DIRECTIVE_REJECTED + ch.val) 0 [type, reason]

/-- The addressing and states of Table 03-6: broadcast allowed, unicast allowed, accepted in. `sync` says that the channel is
in Sync. -/
def dirRules (type : Nat) (st : ActState) (sync : Bool) : Option (Bool × Bool × Bool) :=
  let op := st == .operating
  let ro := st == .ranging || st == .operating
  match type with
  | 0x01 => some (true, false, true)
  | 0x02 => some (true, false, st == .standby || st == .announced)
  | 0x03 => some (true, false, st == .announced || st == .ranging)
  | 0x04 => some (false, true, ro)
  | 0x05 => some (false, true, ro)
  | 0x06 => some (false, true, op)
  | 0x07 => some (true, true, true)
  | 0x08 => some (true, false, st == .emergencyStop || st == .silenced)
  | 0x09 => some (true, true, st == .announced || ro)
  | 0x0A => some (false, true, op)
  | 0x0B => some (true, true, sync)
  | 0x0C => some (false, true, op)
  | 0x0D => some (false, true, op)
  | 0x0E => some (false, true, op)
  | 0x0F => some (false, true, ro)
  | _ => none

/-- The fields of a directive fit their widths (Table 03-4). -/
def dirWf (d : Directive) : Bool :=
  d.tid < 1024 && d.seq < 256 && d.rsv < 64 && d.content < 2 ^ 288 && d.code < 2 ^ 64

/-- The framer passes a directive by its address (R96). -/
def dirAddressed (s : State) (ch : Fin 4) (d : Directive) : Bool :=
  d.tid == 1023 || d.tid == s.act[ch].tid

/-- A directive out of range (R133): an Acknowledge with RANGE where the type is answered by one, else a rejection. -/
def dirRange (ch : Fin 4) (type seq : Nat) (s : State) : Bool × State :=
  if type = 0x04 ∨ type = 0x0A ∨ type = 0x0C ∨ type = 0x0D ∨ type = 0x0E then (false, upAck ch type seq 2 s)
  else (false, rejectDir ch type Obj.ACT_DIRECTIVES_STATE 4 s)

/-! ### Directives held in Sleep (R428, R502) -/

/-- A directive that passes the framer in Sleep: the newest Time of Day is kept; one for this terminal, or a broadcast
Disable, Enable or Deactivate, wakes the package and is held, up to 16 (R502). -/
def sleepDirective (ch : Fin 4) (di : DirIn) (s : State) : State :=
  if s.pwr.watch ≠ some ch then s
  else if di.type = 0x0B then { s with island := { s.island with keptTod := some (ch, di) } }
  else if di.d.tid ≠ 1023 ∨ di.type = 7 ∨ di.type = 8 ∨ di.type = 9 then
    let s := if s.island.heldDirs.length < 16 then
        { s with island := { s.island with heldDirs := s.island.heldDirs ++ [(ch, di)] } }
      else s.bump Obj.PWR_DIRECTIVES_LOST
    ponWake ch s
  else s

end Sys2Proof.Machine
end

