-- ==== Sys2Proof/Machine/Activation.lean ====
section
/-! DEFINITION. Chapter 03: the directives (R128-R152) and the activation machine (R121). -/
namespace Sys2Proof.Machine

/-! ### What each directive does. A handler answers whether the directive was acted on. -/

/-- A burst profile directive changes the profile from frame N + 2 (R168-R170). -/
def actProfileDir (ch : Fin 4) (di : DirIn) (s : State) : Bool × State :=
  let c := di.d.content
  let store := bitAt c 285
  let p := fld c 281 274
  let g := fld c 273 266
  if store && (p < 4 || p > 128 || g < 1 || g > 64) then dirRange ch 0x01 di.d.seq s
  else
    let i : Fin 4 := ⟨fld c 287 286 % 4, Nat.mod_lt _ (by decide)⟩
    let queued := s.us[ch].profq.filter fun x => x.idx = i.val
    let old := (queued.getLast?.map ProfChange.prof).getD s.us[ch].profs[i]
    let new : BurstProfile :=
      if store then { valid := true, stale := false, p := p, guardSlots := g, pattern := fld c 265 202, delimiter := fld c 201 138 }
      else { old with valid := false, stale := false }
    let ch1 : ProfChange := { sfc := (di.sfc + 2) % 2 ^ 51, idx := i.val, prof := new }
    (true, s.modUs ch fun u => { u with profq := u.profq ++ [ch1], profSeen := some di.sfc })

/-- R136, R137. In Announced a window without `ALL` is not answered, and an answer already armed stays: whether a window that
is not answered replaces the first is left open, and this is the model's choice (log entry 181). -/
def actAnnounceWindow (ch : Fin 4) (di : DirIn) (s : State) : Bool × State :=
  let c := di.d.content
  let n := fld c 236 229
  let pre := fld c 209 178
  if n = 0 ∨ pre > eqdMax then dirRange ch 0x02 di.d.seq s
  else if s.act[ch].st = .announced ∧ bitAt c 210 = false then (true, s)
  else
    let (f, s) := s.draw n
    let (dl, s) := s.draw (fld c 228 213 + 1)
    let x := (fld c 287 237 + f) % 2 ^ 51
    let a : Option Announce :=
      if sfcPast x di.sfc then none else some { sfc := x, delay := dl, profile := fld c 212 211, preEqd := pre, all := bitAt c 210 }
    (true, s.modAct ch fun ac => { ac with announce := a })

/-- R138. -/
def actAssign (ch : Fin 4) (di : DirIn) (s : State) : Bool × State :=
  let c := di.d.content
  let id := fld c 223 214
  if fld c 287 224 ≠ serialNumber then (false, s)
  else if id = 1023 then dirRange ch 0x03 di.d.seq s
  else
    let s := (s.modAct ch fun a => { a with tid := id }).ev (Ev.TERMINAL_ID_ASSIGNED + ch.val) [id]
    (true, allocConflicts ch (actEnter ch .ranging 6 s))

/-- R143. -/
def actRangingTime (ch : Fin 4) (di : DirIn) (key : Nat) (s : State) : Bool × State :=
  let c := di.d.content
  let eqd := fld c 287 256
  if key = 0 then (false, rejectDir ch 0x04 Obj.ACT_DIRECTIVES_STATE 2 s)
  else if eqd > eqdMax then dirRange ch 0x04 di.d.seq s
  else
    let s := s.modAct ch fun a => { a with rtd := fld c 255 224, rtdValid := true }
    let (r, s) := scheduleEqd ch di.sfc (bitAt c 172) (fld c 223 173) false (eqd : Int) 1 none s
    let s := upAck ch 0x04 di.d.seq r s
    (true, if s.act[ch].st = .ranging then actEnter ch .operating 7 s else s)

/-- R140, R141, R467. -/
def actRegNonce (ch : Fin 4) (di : DirIn) (key : Nat) (s : State) : Bool × State :=
  let inRanging := s.act[ch].st == .ranging
  if (inRanging && key = 2) || (!inRanging && key = 0) then
    (false, rejectDir ch 0x05 Obj.ACT_DIRECTIVES_STATE 2 s)
  else
    let s := if inRanging ∧ s.ciph.slots[chanSlot 227 ch].st = .valid then discardKeys ch s else s
    -- a Registration for an earlier nonce has no key to be coded under any more
    let s := s.modAct ch fun a => { a with
      upq := a.upq.filter fun u => u.type != 0x82, await := a.await.filter fun u => u.type != 0x82 }
    if !secretInstalled s then (true, s.evOnce (Ev.DIRECTIVE_REJECTED + ch.val) 0 [0x05, 6])
    else
      let (tn, s) := s.draw (2 ^ 128)
      let he := fld di.d.content 287 160
      let keys := deriveKeys (slotKey s (slotIdx 240)) he tn serialNumber s.rx[ch].heId
      let dv : Derivation := { keys := keys, startedAt := s.now }
      let s := { s with ciph := { s.ciph with derive := vmod s.ciph.derive ch fun _ => some dv } }
      (true, s.modAct ch fun a => { a with regNonce := some (he / 2 ^ 64, tn), renewing := !inRanging, regSeq := di.d.seq })

/-- A Key Report (Table 03-7). -/
def keyReport (ch : Fin 4) (seq flow index tag st : Nat) (s : State) : State :=
  upAnswer ch 0x06 seq 0x83 (flow * 2 ^ 272 + index * 2 ^ 270 + tag * 2 ^ 262 + st * 2 ^ 254) s

/-- Clears the staged part of a channel. -/
def clearStaged (ch : Fin 4) (s : State) : State :=
  { s with ciph := { s.ciph with staged := vmod s.ciph.staged ch fun _ => none } }

/-- The rows of Table 13-5 (R469). -/
def actKeyControl (ch : Fin 4) (di : DirIn) (s : State) : Bool × State :=
  let c := di.d.content
  let q := di.d.seq
  let flow := fld c 287 272
  let idx := fld c 271 270
  let act := fld c 269 268
  let long := bitAt c 267
  let part1 := bitAt c 266
  let tag := fld c 265 258
  let rep := fun (st : Nat) (s : State) => (true, keyReport ch q flow idx tag st s)
  if flow = 0xFFFF ∨ idx = 0 ∨ idx = 3 ∨ act ≥ 2 then dirRange ch 0x06 q s
  else if act = 0 then
    if !long && part1 then rep 2 s
    else if long && !part1 then
      let st : Staged := { flow := flow, index := idx, tag := tag, bytes := beBytes 24 (fld c 255 64), frames := s.act[ch].frames }
      (true, { s with ciph := { s.ciph with staged := vmod s.ciph.staged ch fun _ => some st } })
    else
      let first := match s.ciph.staged[ch] with
        | some st => if st.flow = flow ∧ st.index = idx ∧ st.tag = tag then some st.bytes else none
        | none => none
      -- a 128-bit install that goes ahead leaves a staged part where it is
      let kept := s
      let s := clearStaged ch s
      if long && first.isNone then rep 2 s
      else
        let busy : Bool := match keySlot s flow idx with
          | some i => s.ciph.slots[i].st == .valid && s.ciph.slots[i].txCh != 0
          | none => false
        if busy then rep 1 s
        else if (installSlot s flow idx).isNone then rep 4 (s.bump Obj.CIPH_NO_SLOT (sub ch))
        else
          let w := if long then first.getD [] ++ beBytes 16 (fld c 255 128) else beBytes 24 (fld c 255 64)
          let u : KeyUnwrap := { ch := ch, flow := flow, index := idx, tag := tag, len256 := long, wrapped := w,
                                 kek := slotKey s (chanSlot 224 ch), startedAt := s.now, seq := q }
          let s := if long then s else kept
          (true, { s with ciph := { s.ciph with unwraps := s.ciph.unwraps ++ [u] } })
  else
    match keySlot s flow idx with
    | none => rep 0 s
    | some i =>
      let k := s.ciph.slots[i]
      let onAir := (fins 4).any fun n => bitAt k.txCh n.val && s.act[n].st == .operating
      if k.st == .valid && onAir && (validSlot s flow (3 - idx)).isSome then rep 1 s
      else rep 0 (deleteKey i s)

/-- R116, R120, R148: the stop record is set and the channel enters Emergency stop, or stays in Silenced. -/
def actDisable (ch : Fin 4) (di : DirIn) (s : State) : Bool × State :=
  if fld di.d.content 287 224 ≠ serialNumber then (false, s)
  else (true, actEnter ch .emergencyStop 16 (setStop ch true s))

/-- R120, R148: both copies of the stop record are cleared and the channel goes to Initial, or stays in Silenced. -/
def actEnable (ch : Fin 4) (di : DirIn) (s : State) : Bool × State :=
  if fld di.d.content 287 224 ≠ serialNumber then (false, s)
  else (true, actEnter ch .initial 18 (setStop ch false s))

/-- R150. -/
def actDeactivate (ch : Fin 4) (di : DirIn) (s : State) : Bool × State :=
  (true, actEnter ch .standby 10 (s.modAct ch fun a => { a with deactReason := fld di.d.content 287 280 }))

/-- R501. -/
def actSleepAllow (ch : Fin 4) (di : DirIn) (s : State) : Bool × State :=
  let c := di.d.content
  let ms := fld c 271 256
  if !s.flag Obj.PWR_HE_SLEEP_PERMIT then (true, upAck ch 0x0A di.d.seq 1 s)
  else if bitAt c 287 ∧ ms = 0 then dirRange ch 0x0A di.d.seq s
  else
    let v := if bitAt c 287 then some ms else none
    let s := { s with pwr := { s.pwr with allow := vmod s.pwr.allow ch fun _ => v, quietSince := s.now } }
    (true, upAck ch 0x0A di.d.seq 0 s)

/-- R433. -/
def actTimeOfDay (ch : Fin 4) (di : DirIn) (s : State) : Bool × State :=
  if fld di.d.content 239 208 > 999999999 then dirRange ch 0x0B di.d.seq s
  else (true, timeOfDay ch di s)

/-- R144, R146. -/
def actAdjust (ch : Fin 4) (di : DirIn) (s : State) : Bool × State :=
  let c := di.d.content
  let power := if bitAt c 219 then some (fld c 218 217) else none
  let (r, s) := scheduleEqd ch di.sfc (bitAt c 220) (fld c 271 221) true (toS 16 (fld c 287 272)) 2 power s
  (true, upAck ch 0x0C di.d.seq r s)

/-- The target channel of a handover (R151). -/
def handoverTarget (s : State) (ch : Fin 4) (id : Nat) : Option (Fin 4) :=
  (fins 4).find? fun c => c != ch && s.act[c].st == .standby && s.rx[c].heId == s.rx[ch].heId && s.rx[c].chId == id

/-- R151. -/
def actHandover (ch : Fin 4) (di : DirIn) (s : State) : Bool × State :=
  let c := di.d.content
  let tid := fld c 285 276
  let eqd := fld c 275 244
  let x := fld c 243 193
  if tid = 1023 ∨ eqd > eqdMax then dirRange ch 0x0D di.d.seq s
  else match handoverTarget s ch (fld c 287 286) with
    | none => (true, upAck ch 0x0D di.d.seq 3 s)
    | some tgt =>
      let d := sfcDist x di.sfc
      if inBondGroup s ch then (true, upAck ch 0x0D di.d.seq 1 s)
      else if d < 2 ∨ d > 8000 then (true, upAck ch 0x0D di.d.seq 6 s)
      else
        let h : Handover := { target := tgt, sfc := x, tid := tid, eqd := eqd, reached := false }
        (true, upAck ch 0x0D di.d.seq 0 (s.modAct ch fun a => { a with handover := some h }))

/-- R232. -/
def actBondingControl (ch : Fin 4) (di : DirIn) (s : State) : Bool × State :=
  let (r, s) := bondingControl ch di.d.content s
  (r != 2, upAck ch 0x0E di.d.seq r s)

/-- R131, R502: a downstream Acknowledge. -/
def actAcknowledge (ch : Fin 4) (di : DirIn) (s : State) : Bool × State :=
  let c := di.d.content
  let ty := fld c 287 280
  let sq := fld c 279 272
  let waiting := (s.act[ch].await ++ s.act[ch].upq.filter fun u => u.sends != 0).any fun u => u.type == ty && u.seq == sq
  let s := s.modAct ch fun a => { a with
    await := a.await.filter fun u => !(u.type = ty && u.seq = sq)
    upq := a.upq.filter fun u => !(u.type = ty && u.seq = sq && waiting) }
  if ty = 0x84 ∧ waiting ∧ s.pwr.heWait = some ch then
    let s := { s with pwr := { s.pwr with heWait := none, quietSince := s.now } }
    if fld c 271 264 = 0 then
      let s := { s with pwr := { s.pwr with watch := some ch, heSleep := s.pwr.allow[ch] } }
      (true, beginEntry .sleep 2 s)
    else (true, s)
  else (true, s)

/-- The action of a directive that R128 accepts. -/
def dirAct (ch : Fin 4) (di : DirIn) (key : Nat) (s : State) : Bool × State :=
  match di.type with
  | 0x01 => actProfileDir ch di s
  | 0x02 => actAnnounceWindow ch di s
  | 0x03 => actAssign ch di s
  | 0x04 => actRangingTime ch di key s
  | 0x05 => actRegNonce ch di key s
  | 0x06 => actKeyControl ch di s
  | 0x07 => actDisable ch di s
  | 0x08 => actEnable ch di s
  | 0x09 => actDeactivate ch di s
  | 0x0A => actSleepAllow ch di s
  | 0x0B => actTimeOfDay ch di s
  | 0x0C => actAdjust ch di s
  | 0x0D => actHandover ch di s
  | 0x0E => actBondingControl ch di s
  | _ => actAcknowledge ch di s

/-! ### R126-R129 around a directive -/

/-- Sends again the answer of an accepted directive (R129). -/
def duplicate (ch : Fin 4) (ans : Option UpDir) (s : State) : State :=
  let s := s.bump Obj.ACT_DIRECTIVES_DUPLICATE (sub ch)
  match ans with
  | some u => upPush ch u s
  | none => s

/-- A directive whose code has verified under `key` acts, repeats its answer or is discarded (R127-R129). -/
def actVerified (ch : Fin 4) (di : DirIn) (key : Nat) (s : State) : State :=
  let uni := di.d.tid != 1023
  let s := if uni && key = 1 && (s.act[ch].session == .pending || s.act[ch].session == .renewing) then confirmSession ch s else s
  match (if uni then s.act[ch].dups.find? fun e => e.1 == di.type && e.2.1 == di.d.seq else none) with
  | some e => duplicate ch e.2.2.2 s
  | none =>
    match dirRules di.type s.act[ch].st (s.rx[ch].st == .sync) with
    | none => rejectDir ch di.type Obj.ACT_DIRECTIVES_UNKNOWN 3 s
    | some (b, u, ok) =>
      if !(if uni then u else b) || !ok then rejectDir ch di.type Obj.ACT_DIRECTIVES_STATE 2 s
      else
        let fr := s.act[ch].frames
        let s := if uni then s.modAct ch fun a => { a with dups := a.dups ++ [(di.type, di.d.seq, fr, none)] } else s
        let (did, s) := dirAct ch di key s
        if did then s.bump Obj.ACT_DIRECTIVES_ACCEPTED (sub ch)
        else if uni then s.modAct ch fun a => { a with dups := a.dups.filter fun e => !(e.1 = di.type && e.2.1 = di.d.seq) }
        else s

/-- The keys of R126 as the session stands. -/
def mgmtKey (s : State) (ch : Fin 4) : Bytes := s.ciph.slots[chanSlot 225 ch].key
/-- The pending or new session management key. -/
def pendKey (s : State) (ch : Fin 4) : Bytes := s.ciph.slots[chanSlot 227 ch].key

/-- One directive by itself: the code check against the session as it stands, then its action. -/
def oneDirective (ch : Fin 4) (di : DirIn) (s : State) : State :=
  match codeKey s.act[ch].session (mgmtKey s ch) (pendKey s ch) di.type di.d with
  | none => rejectDir ch di.type Obj.ACT_DIRECTIVES_AUTH_FAILED 1 s
  | some k => actVerified ch di k s

/-- The code checks of a frame's directives in their order, each against the session that those before it in the frame leave
(R126): a directive that verifies acts, for the checks of the rest, on a state of its own. -/
def checkCodes (ch : Fin 4) : List DirIn → State → List (DirIn × Option Nat)
  | [], _ => []
  | di :: ds, s =>
    let k := codeKey s.act[ch].session (mgmtKey s ch) (pendKey s ch) di.type di.d
    (di, k) :: checkCodes ch ds (match k with
      | some key => actVerified ch di key s
      | none => s)

/-- Directives that failed their check are counted and logged. -/
def codeFailures (ch : Fin 4) (l : List (DirIn × Option Nat)) (s : State) : State :=
  l.foldl (fun s e => if e.2.isNone then rejectDir ch e.1.type Obj.ACT_DIRECTIVES_AUTH_FAILED 1 s else s) s

/-- The context of a directive that comes as a command of its own: the frame being received (log entry 30). -/
def dirContext (s : State) (ch : Fin 4) (type : Nat) (d : Directive) : DirIn :=
  let (n, a, m) := s.rx[ch].lastUsed.getD (s.rx[ch].sfc, s.rx[ch].lastArrival, false)
  let f := s.rx[ch].rxq.getLast?
  { type := type, d := d, sfc := n, arrival := a, measured := m
    tod := match f with
      | some f => match f.hdr with
        | some h => h.tod
        | none => false
      | none => true
    firstTod := match f with
      | some f => !f.todSeen
      | none => true
    jumped := match f with
      | some f => f.jumped
      | none => false }

/-- A directive of a given type arrives on a channel in Sync: the framer's address test, then Sleep's handling or the
machine's (R96, R128, R502). -/
def directiveRow (ch : Fin 4) (type : Nat) (d : Directive) (s : State) : State :=
  if s.rx[ch].st ≠ .sync ∨ dirAddressed s ch d = false then s
  else if s.inSleep then sleepDirective ch (dirContext s ch type d) s
  else if s.running then oneDirective ch (dirContext s ch type d) (leaveIdle s)
  else s

def execProfile (t : Nat) (ch : Fin 4) (d : Directive) (s : State) : Host.Outcome State Fault Refusal :=
  doneIf (dirWf d) t s (directiveRow ch 0x01 d)
def execAnnounceWindow (t : Nat) (ch : Fin 4) (d : Directive) (s : State) : Host.Outcome State Fault Refusal :=
  doneIf (dirWf d) t s (directiveRow ch 0x02 d)
def execAssignTerminalId (t : Nat) (ch : Fin 4) (d : Directive) (s : State) : Host.Outcome State Fault Refusal :=
  doneIf (dirWf d) t s (directiveRow ch 0x03 d)
def execRangingTime (t : Nat) (ch : Fin 4) (d : Directive) (s : State) : Host.Outcome State Fault Refusal :=
  doneIf (dirWf d) t s (directiveRow ch 0x04 d)
def execRegistrationNonce (t : Nat) (ch : Fin 4) (d : Directive) (s : State) : Host.Outcome State Fault Refusal :=
  doneIf (dirWf d) t s (directiveRow ch 0x05 d)
def execKeyControl (t : Nat) (ch : Fin 4) (d : Directive) (s : State) : Host.Outcome State Fault Refusal :=
  doneIf (dirWf d) t s (directiveRow ch 0x06 d)
def execDisable (t : Nat) (ch : Fin 4) (d : Directive) (s : State) : Host.Outcome State Fault Refusal :=
  doneIf (dirWf d) t s (directiveRow ch 0x07 d)
def execEnable (t : Nat) (ch : Fin 4) (d : Directive) (s : State) : Host.Outcome State Fault Refusal :=
  doneIf (dirWf d) t s (directiveRow ch 0x08 d)
def execDeactivate (t : Nat) (ch : Fin 4) (d : Directive) (s : State) : Host.Outcome State Fault Refusal :=
  doneIf (dirWf d) t s (directiveRow ch 0x09 d)
def execSleepAllow (t : Nat) (ch : Fin 4) (d : Directive) (s : State) : Host.Outcome State Fault Refusal :=
  doneIf (dirWf d) t s (directiveRow ch 0x0A d)
def execTimeOfDay (t : Nat) (ch : Fin 4) (d : Directive) (s : State) : Host.Outcome State Fault Refusal :=
  doneIf (dirWf d) t s (directiveRow ch 0x0B d)
def execAdjustTransmit (t : Nat) (ch : Fin 4) (d : Directive) (s : State) : Host.Outcome State Fault Refusal :=
  doneIf (dirWf d) t s (directiveRow ch 0x0C d)
def execChannelHandover (t : Nat) (ch : Fin 4) (d : Directive) (s : State) : Host.Outcome State Fault Refusal :=
  doneIf (dirWf d) t s (directiveRow ch 0x0D d)
def execBondingControl (t : Nat) (ch : Fin 4) (d : Directive) (s : State) : Host.Outcome State Fault Refusal :=
  doneIf (dirWf d) t s (directiveRow ch 0x0E d)
def execAcknowledge (t : Nat) (ch : Fin 4) (d : Directive) (s : State) : Host.Outcome State Fault Refusal :=
  doneIf (dirWf d) t s (directiveRow ch 0x0F d)

/-! ### Timers of the channel (R122) -/

/-- A deadline has passed. -/
def timeUp (s : State) (d : Option Nat) : Bool :=
  match d with
  | some x => s.now ≥ x
  | none => false

/-- Trigger 8. -/
def announceExpiry (ch : Fin 4) (s : State) : State :=
  if s.act[ch].st = .announced ∧ timeUp s s.act[ch].tAnnounce then actEnter ch .standby 8 s else s

/-- Trigger 9. -/
def rangeExpiry (ch : Fin 4) (s : State) : State :=
  if s.act[ch].st = .ranging ∧ timeUp s s.act[ch].tRange then actEnter ch .standby 9 s else s

/-- Trigger 12 by `T_lost`. -/
def lostExpiry (ch : Fin 4) (s : State) : State :=
  if s.act[ch].st = .intermittent ∧ timeUp s s.act[ch].tLost then actEnter ch .initial 12 s else s

/-- R131: a directive without an Acknowledge for 8 frames is queued again, or dropped after its third send. -/
def resendOne (ch : Fin 4) (s : State) (u : UpDir) : State :=
  if s.act[ch].frames ≤ u.sentAt + 8 then s
  else
    let s := s.modAct ch fun a => { a with await := a.await.filter fun v => !(v.type = u.type && v.seq = u.seq) }
    if u.sends ≥ 3 then
      let s := rejectDir ch u.type Obj.ACT_UP_DIRECTIVES_DROPPED 5 s
      if u.type = 0x84 ∧ s.pwr.heWait = some ch then
        { s with pwr := { s.pwr with heWait := none, quietSince := s.now } }
      else s
    else upPush ch u s

/-- Every directive that awaits an Acknowledge. -/
def resends (ch : Fin 4) (s : State) : State := s.act[ch].await.foldl (resendOne ch) s

/-- R129: accepted directives leave the window after 16 frames. -/
def dupWindow (ch : Fin 4) (s : State) : State :=
  s.modAct ch fun a => { a with dups := a.dups.filter fun e => a.frames < e.2.2.1 + 16 }

/-- R127: the new key is discarded 1 s after the first send of its Registration. -/
def renewalTimeout (ch : Fin 4) (s : State) : State :=
  match s.act[ch].renewAt with
  | some x =>
    if s.act[ch].session = .renewing ∧ s.now ≥ x + tickS then
      discardKeys ch (s.modAct ch fun a => { a with session := .confirmed, renewAt := none, renewing := false })
    else s
  | none => s

/-- R469: a staged part 0 is discarded when 8 frames pass without its part 1. -/
def stagedTimeout (ch : Fin 4) (s : State) : State :=
  match s.ciph.staged[ch] with
  | some st => if s.act[ch].frames ≥ st.frames + 8 then clearStaged ch s else s
  | none => s

/-! ### Handover (R152) -/

/-- The source side: abandoned when the target has left Standby, else trigger 13 once the frame is reached; the bursts of the
frames before `HANDOVER_SFC` that are still to rise go on (R121, R152). -/
def handoverSource (ch : Fin 4) (s : State) : State :=
  match s.act[ch].handover with
  | none => s
  | some h =>
    if s.act[h.target].st ≠ .standby then
      (s.modAct ch fun a => { a with handover := none }).ev (Ev.HANDOVER + ch.val) [ch.val, h.target.val, 3]
    else if h.reached ∧ s.act[ch].st = .operating then
      let x : Nat × Nat := (h.sfc, s.act[ch].tid)
      let s := moveKeys ch h.target h.sfc s
      let s := s.modAct ch fun a => { a with session := .none, handover := none }
      (actEnter ch .standby 13 s).modAct ch fun a => { a with handedOff := some x }
    else s

/-- The target side: trigger 14 once its first frame has begun. Its `HANDOVER` record bears the source channel's number, which
Table 03-11 does not settle (log entry 40). -/
def handoverTargetSide (ch : Fin 4) (s : State) : State :=
  match s.act[ch].incoming with
  | some (src, h, true) =>
    if s.act[ch].st = .standby then
      let s := s.modAct ch fun a => { a with
        tid := h.tid, session := .confirmed, rtdValid := false, incoming := none }
      let s := actEnter ch .operating 14 s
      let s := moveBindings src ch s
      (allocConflicts ch s).ev (Ev.HANDOVER + src.val) [src.val, ch.val, 0]
    else s.modAct ch fun a => { a with incoming := none }
  | _ => s

/-! ### The evaluation (R121) -/

/-- Triggers 17, 16, 18 and 19. -/
def evalStops (ch : Fin 4) (l : List (DirIn × Option Nat)) (s : State) : State :=
  let s := if s.act[ch].trip = some true then
      let was := s.island.silence[ch]
      let s := { s with island := { s.island with silence := vmod s.island.silence ch fun _ => true } }
      let s := if was then s else s.ev (Ev.SILENCE_CHANGED + ch.val) [1]
      actEnter ch .silenced 17 (s.modUs ch fun u => { u with silenceHeld := true })
    else s
  let run := fun (ty : Nat) (s : State) => l.foldl (fun s e => match e.2 with
    | some k => if e.1.type = ty then actVerified ch e.1 k s else s
    | none => s) s
  let s := run 8 (run 7 s)
  if s.act[ch].acked ∧ s.act[ch].st = .silenced then actEnter ch .initial 19 s else s

/-- Triggers 1, 15, 2, 3, 11 and 12. -/
def evalLosses (ch : Fin 4) (s : State) : State :=
  let st := s.act[ch].st
  let s := if s.act[ch].disabled ∧ st ≠ .emergencyStop ∧ st ≠ .silenced then actEnter ch .initial 1 s else s
  let st := s.act[ch].st
  let s := if s.act[ch].trip = some false ∧ (st = .standby ∨ st = .announced ∨ st = .ranging ∨ st = .operating) then
      actEnter ch .initial 15 s else s
  let st := s.act[ch].st
  let out := s.rx[ch].st ≠ .sync || s.act[ch].leftSync
  let s := if out ∧ (st = .standby ∨ st = .announced ∨ st = .ranging) then actEnter ch .initial 2 s
    else if out ∧ st = .operating then actEnter ch .intermittent 3 s
    else s
  if s.act[ch].st = .intermittent then
    if s.rx[ch].st = .sync then
      if s.act[ch].lostIds = some (s.rx[ch].heId, s.rx[ch].chId) then actEnter ch .operating 11 s
      else actEnter ch .initial 12 s
    else lostExpiry ch s
  else s

/-- A profile is stored on the channel, counting those whose change waits for its frame (trigger 4). -/
def profileStored (s : State) (ch : Fin 4) : Bool :=
  (fins 4).any fun i =>
    let q := s.us[ch].profq.filter fun x => x.idx = i.val
    ((q.getLast?.map ProfChange.prof).getD s.us[ch].profs[i]).valid

/-- Triggers 5, 8, 9 and 4, and the other limits of Table 03-3. -/
def evalTimers (ch : Fin 4) (s : State) : State :=
  let s := if s.act[ch].announced ∧ s.act[ch].st = .standby then actEnter ch .announced 5 s else s
  let s := rangeExpiry ch (announceExpiry ch s)
  let s := if s.act[ch].st = .initial ∧ s.rx[ch].st = .sync ∧ s.flag Obj.ACT_ENABLE (sub ch) ∧ profileStored s ch then
      actEnter ch .standby 4 s else s
  stagedTimeout ch (renewalTimeout ch (resends ch (dupWindow ch s)))

/-- One evaluation of a channel (R121). -/
def evaluate (ch : Fin 4) (s : State) : State :=
  if !s.running then s
  else
    let ds := s.act[ch].dirq
    let s := s.modAct ch fun a => { a with dirq := [], frames := a.frames + 1, evalAt := s.now }
    let s := dupWindow ch s
    let l := checkCodes ch ds s
    let s := codeFailures ch l s
    let s := evalLosses ch (evalStops ch l s)
    let s := l.foldl (fun s e => match e.2 with
      | some k => if e.1.type = 7 ∨ e.1.type = 8 then s else actVerified ch e.1 k s
      | none => s) s
    let s := handoverTargetSide ch (handoverSource ch s)
    let s := evalTimers ch s
    let s := if s.act[ch].trip.isSome then s.bump Obj.ACT_GUARD_TRIPS (sub ch) else s
    s.modAct ch fun a => { a with leftSync := false, trip := none, disabled := false, acked := false, announced := false }

def execActEvaluation (t : Nat) (ch : Fin 4) (s : State) : Host.Outcome State Fault Refusal := done t s (evaluate ch)

/-! ### The other rows -/

/-- R119: trigger 1 or 4 follows at the next evaluation (log entry 31). -/
def actEnable1 (ch : Fin 4) (v : Nat) (s : State) : State :=
  if v > 1 then s.answer .range
  else
    let s := (s.setObj Obj.ACT_ENABLE (sub ch) v).answer .ok
    if v = 0 then s.modAct ch fun a => { a with disabled := true } else s

def execActEnable (t : Nat) (ch : Fin 4) (v : Nat) (s : State) : Host.Outcome State Fault Refusal :=
  done t s fun s => s.hostWrite (actEnable1 ch v)

/-- R467, R140: the derivation ends 20 µs after the code check. -/
def derivationDone (ch : Fin 4) (s : State) : State :=
  match s.ciph.derive[ch], s.act[ch].regNonce with
  | some dv, some (echo, tn) =>
    if s.now < dv.startedAt + 20 * tickUs then s
    else
      let s := { s with ciph := { s.ciph with derive := vmod s.ciph.derive ch fun _ => none }
                        pwr := { s.pwr with idleSince := s.now } }
      let s := fillSlot (chanSlot 227 ch) (dv.keys.drop 32) (fillSlot (chanSlot 226 ch) (dv.keys.take 32) s)
      let s := s.ev Ev.CIPH_SESSION_KEYS [ch.val, 1]
      let ses : Session := if s.act[ch].renewing then .renewing else .pending
      let s := s.modAct ch fun a => { a with session := ses, renewAt := none, regNonce := none }
      upAnswer ch 0x05 s.act[ch].regSeq 0x82 (tn * 2 ^ 160 + serialNumber * 2 ^ 96 + echo * 2 ^ 32) s
  | _, _ => s

def execDerivationComplete (t : Nat) (ch : Fin 4) (s : State) : Host.Outcome State Fault Refusal :=
  done t s (derivationDone ch)

/-- Rows 6-8 of Table 13-5, 2 µs after the code check (R469). -/
def unwrapDone (s : State) : State :=
  match s.ciph.unwraps with
  | [] => s
  | u :: rest =>
    if s.now < u.startedAt + 2 * tickUs then s
    else
      let s := { s with ciph := { s.ciph with unwraps := rest }, pwr := { s.pwr with idleSince := s.now } }
      match keyUnwrap u.kek u.wrapped with
      | none =>
        let s := (s.bump Obj.CIPH_UNWRAP_FAILS (sub u.ch)).ev Ev.CIPH_UNWRAP_FAILED [4, u.ch.val, u.tag]
        keyReport u.ch u.seq u.flow u.index u.tag 5 s
      | some k =>
        match installSlot s u.flow u.index with
        | none => keyReport u.ch u.seq u.flow u.index u.tag 4 (s.bump Obj.CIPH_NO_SLOT (sub u.ch))
        | some i => keyReport u.ch u.seq u.flow u.index u.tag 0 ((writeKey i u k s).bump Obj.CIPH_KEYS_INSTALLED (sub u.ch))

def execUnwrapComplete (t : Nat) (s : State) : Host.Outcome State Fault Refusal := done t s unwrapDone

def execStagedPartTimeout (t : Nat) (ch : Fin 4) (s : State) : Host.Outcome State Fault Refusal :=
  done t s (stagedTimeout ch)

/-- The transfer of an optics write: device address and write bit, register address, data. A master that finds OPT_SDA low
sends 9 clocks and a STOP before it (R596). -/
def optTransfer (sdaLow : Bool) (w : OptWrite) : List I2c :=
  (if sdaLow then List.replicate 9 .clock ++ [.stop] else []) ++
    [.start, .byte (w.device * 2), .byte w.register, .byte w.data, .stop]

/-- The I²C transfer of an optics write ends (R146, R596). -/
def optWrite (ch : Fin 4) (sdaLow acked : Bool) (s : State) : State :=
  match s.act[ch].optPending with
  | none => s
  | some w =>
    let s := s.modAct ch fun a => { a with optPending := none, optSent := optTransfer sdaLow w, optLast := if acked then some w else a.optLast }
    if acked then s else s.bump Obj.ACT_OPT_WRITE_FAILS (sub ch)

def execOptWriteComplete (t : Nat) (ch : Fin 4) (sdaLow acked : Bool) (s : State) : Host.Outcome State Fault Refusal :=
  done t s (optWrite ch sdaLow acked)

/-- R144: the changes due at the frame whose mark arrived last. -/
def eqdApply (ch : Fin 4) (s : State) : State :=
  if s.rx[ch].st = .sync then applyEqd ch s.us[ch].curSfc s else s

def execEqdApply (t : Nat) (ch : Fin 4) (s : State) : Host.Outcome State Fault Refusal := done t s (eqdApply ch)

def execHandoverFrame (t : Nat) (ch : Fin 4) (s : State) : Host.Outcome State Fault Refusal :=
  done t s fun s => if s.running then handoverTargetSide ch (handoverSource ch s) else s

def execTAnnounce (t : Nat) (ch : Fin 4) (s : State) : Host.Outcome State Fault Refusal :=
  done t s fun s => if s.running then announceExpiry ch s else s

def execTRange (t : Nat) (ch : Fin 4) (s : State) : Host.Outcome State Fault Refusal :=
  done t s fun s => if s.running then rangeExpiry ch s else s

def execTLost (t : Nat) (ch : Fin 4) (s : State) : Host.Outcome State Fault Refusal :=
  done t s fun s => if s.running then lostExpiry ch s else s

def execUpstreamResend (t : Nat) (ch : Fin 4) (s : State) : Host.Outcome State Fault Refusal :=
  done t s fun s => if s.running then resends ch s else s

def execDuplicateWindow (t : Nat) (ch : Fin 4) (s : State) : Host.Outcome State Fault Refusal := done t s (dupWindow ch)

def execRenewalTimeout (t : Nat) (ch : Fin 4) (s : State) : Host.Outcome State Fault Refusal :=
  done t s fun s => if s.running then renewalTimeout ch s else s

/-- R149. -/
def silenceAck (ch : Fin 4) (v : Nat) (s : State) : State :=
  if s.act[ch].token ≠ 0 ∧ v = s.act[ch].token then
    let s := { s with island := { s.island with silence := vmod s.island.silence ch fun _ => false } }
    let s := (s.modAct ch fun a => { a with acked := true, token := 0 }).answer .ok
    s.ev (Ev.SILENCE_CHANGED + ch.val) [0]
  else (s.bump Obj.ACT_SILENCE_ACK_FAILS (sub ch)).answer .range

def execActSilenceAck (t : Nat) (ch : Fin 4) (v : Nat) (s : State) : Host.Outcome State Fault Refusal :=
  done t s fun s => s.hostWrite (silenceAck ch v)

end Sys2Proof.Machine
end

