-- ==== Sys2Proof/Machine/BusOps.lean ====
section
/-! DEFINITION. Messages of the field bus: headers, codes, counters, the transmit queue, DISCOVER bodies, roles and the sending of events (R519, R522-R527, R534-R546). -/
namespace Sys2Proof.Machine

/-- Updates the field bus. -/
def State.modBus (s : State) (f : Bus → Bus) : State := { s with bus := f s.bus }

/-! ### Messages (R527, R543, R544) -/

/-- The codes of Table 15-3. -/
def statusCode : Status → Nat
  | .ok => 0
  | .noObject => 1
  | .noSub => 2
  | .readOnly => 3
  | .writeOnly => 4
  | .typeMismatch => 5
  | .range => 6
  | .state => 7
  | .busy => 8
  | .auth => 9
  | .tooLong => 10
  | .notManager => 11
  | .unreachable => 12
  | .timeout => 13

/-- The fields of a header (Table 15-2), `VERSION` 1 and the reserved fields 0. -/
structure Vdp where
  resp : Bool
  auth : Bool
  svc : Nat
  length : Nat
  dst : Nat
  src : Nat
  status : Nat
  txn : Nat
  counter : Nat
  deriving DecidableEq, Repr

/-- The 20 header bytes of Table 15-2. -/
def vdpBytes (h : Vdp) : Bytes :=
  beBytes 20 (2 ^ 156 + b2n h.resp * 2 ^ 155 + b2n h.auth * 2 ^ 154 + h.svc % 256 * 2 ^ 144 + h.length % 65536 * 2 ^ 128 +
    h.dst % 128 * 2 ^ 120 + h.src % 128 * 2 ^ 112 + h.status % 256 * 2 ^ 104 + h.txn % 65536 * 2 ^ 80 + h.counter % 2 ^ 64)

/-- The header of a message, or none where R528 finds the format wrong: `n` bytes of payload are present. -/
def vdpHeader (msg : Bytes) : Option Vdp :=
  let v := beAt msg 0 20
  let len := fld v 143 128
  let auth := bitAt v 154
  if msg.length < 20 ∨ fld v 159 156 ≠ 1 ∨ len < 20 ∨ len > msg.length ∨ (auth = true ∧ len < 28) then none
  else some { resp := bitAt v 155, auth := auth, svc := fld v 151 144, length := len, dst := fld v 126 120,
              src := fld v 118 112, status := fld v 111 104, txn := fld v 95 80, counter := fld v 63 0 }

/-- The body of a message with this header. -/
def vdpBody (h : Vdp) (msg : Bytes) : Bytes := (msg.take (h.length - (if h.auth then 8 else 0))).drop 20

/-- The 8-byte code at its end. -/
def vdpCode (h : Vdp) (msg : Bytes) : Bytes := (msg.take h.length).drop (h.length - 8)

/-- The array management key is installed (R544). -/
def arrayKeyIn (s : State) : Bool := s.ciph.slots[slotIdx 241].st == .valid

/-- The code of a header and body under the array management key (R544). -/
def vdpMac (s : State) (m : Bytes) : Bytes := (cmac (slotKey s (slotIdx 241)) m).take 8

/-- The sender's `COUNTER` after one more message with `AUTH` 1; the epoch advances where the low half would wrap (R543). -/
def nextCounter (s : State) : Nat × State :=
  let s := if s.bus.txLow + 1 ≥ 2 ^ 32 then
      State.writeRecord { s with bus := { s.bus with txLow := 1 } } fun f => { f with epoch := f.epoch + 1 }
    else s.modBus fun b => { b with txLow := b.txLow + 1 }
  (s.flash.epoch * 2 ^ 32 + s.bus.txLow, s)

/-- `FB_TX_COUNTER`. -/
def txCounter (s : State) : Nat := s.flash.epoch * 2 ^ 32 + s.bus.txLow

/-- A message with its code, and the state with the counter moved. Without a key the code is a free value (log entry 6). -/
def mkMsg (h : Vdp) (body : Bytes) (s : State) : Bytes × State :=
  if h.auth then
    let (c, s) := nextCounter s
    let m := vdpBytes { h with length := 28 + body.length, counter := c } ++ body
    if arrayKeyIn s then (m ++ vdpMac s m, s)
    else (m ++ beBytes 8 (Config.freeValue s.draws), { s with draws := s.draws + 1 })
  else (vdpBytes { h with length := 20 + body.length, counter := 0 } ++ body, s)

/-- The header of a message of this package with status 0; `mkMsg` fills in length and counter. -/
def ownHdr (s : State) (resp auth : Bool) (svc dst txn : Nat) : Vdp :=
  { resp := resp, auth := auth, svc := svc, length := 0, dst := dst, src := s.bus.addr, status := 0, txn := txn, counter := 0 }

/-- The longest message (R527). -/
def vdpLimit (inband : Bool) : Nat := if inband then 9000 else 1500

/-! ### The transmit queue and the frame (R519, R522, R524, R525) -/

/-- The MAC address of a node; 127 is broadcast (R525). -/
def busMac (a : Nat) : Bytes := if a = 127 then List.replicate 6 0xFF else nodeMac a

/-- The MAC frame that carries a message: padded to 64 bytes, with its FCS (R522). -/
def busFrame (s : State) (dst : Nat) (msg : Bytes) : Bytes :=
  let d := busMac dst ++ busMac s.bus.addr ++ beBytes 2 (s.obj Obj.FB_ETHERTYPE) ++ msg
  let d := d ++ zeros (60 - d.length)
  let c := crc32Eth d
  d ++ (beBytes 4 c).reverse

/-- The half-cells of a byte, least significant bit first: the complement of the bit, then the bit (R519). -/
def manchester (b : Byte) : List Bool := (List.range 8).flatMap fun i => [!b.getLsbD i, b.getLsbD i]

/-- The levels, half-cell by half-cell, that the driver holds for a frame: preamble, SFD, the frame, and logic 0 for two bit
times before it goes to high impedance (R519). -/
def busLevels (frame : Bytes) : List Bool :=
  (List.replicate 7 0x55 ++ [0xD5] ++ frame).flatMap manchester ++ List.replicate 4 false

/-- The gap between frames, 96 bit times, and the jam, 32 bits (Table 15-1). -/
def busGap : Nat := 960 * tickNs
/-- The jam after a collision (Table 15-1). -/
def busJam : Nat := 320 * tickNs

/-- Ticks of a frame on the bus, preamble and SFD included: 80 ns to a byte (R519). -/
def busTicks (msg : Bytes) : Nat := (8 + max 60 (14 + msg.length) + 4) * 80 * tickNs

/-- Adds a frame to the transmit queue of 32 (R524). -/
def pushBus (urgent : Bool) (dst : Nat) (msg : Bytes) (s : State) (from0 : Nat := 0) : State :=
  if s.bus.txq.length ≥ 32 then s.bump Obj.FB_TX_DROPS
  else s.modBus fun b => { b with txq := b.txq ++ [{ urgent := urgent, dst := dst, msg := msg, from0 := from0 }] }

/-- The next frame: responses before the rest, each group in order of creation (R524); a delayed one is not there yet. -/
def nextBusFrame (now : Nat) (q : List BusFrame) : Option BusFrame :=
  match q.find? fun f => f.urgent && decide (f.from0 ≤ now) with
  | some f => some f
  | none => q.find? fun f => decide (f.from0 ≤ now)

/-- A frame on the bus whose last bit has passed has been sent. -/
def busSettle (s : State) : State :=
  match s.bus.sending, s.bus.sendAt with
  | some f, some t =>
    if s.now ≥ t + busTicks f.msg then
      State.bump (s.modBus fun b => { b with sending := none, sendAt := none, collisions := 0, freeAt := t + busTicks f.msg })
        Obj.FB_FRAMES_TX
    else s
  | _, _ => s

/-- Sends a message in-band, from the control cores in class `FB_INBAND_CLASS` (R546). -/
def pushInband (route msg : Bytes) (s : State) : State :=
  let q := s.obj Obj.FB_INBAND_PORT * 8 + s.obj Obj.FB_INBAND_CLASS
  { s with cpuq := s.cpuq ++ [(route ++ msg, q, 0)] }

/-- Sends a message by the way its peer is reached. -/
def pushMsg (route : Option Bytes) (urgent : Bool) (dst : Nat) (msg : Bytes) (s : State) (from0 : Nat := 0) : State :=
  match route with
  | some r => pushInband r msg s
  | none => pushBus urgent dst msg s from0

/-- The package's own next `TXN_ID`. -/
def nextTxn (s : State) : Nat × State :=
  (s.bus.nextTxn, s.modBus fun b => { b with nextTxn := (b.nextTxn + 1) % 65536 })

/-- Sends a request or an event of its own (R540-R542). -/
def sendOwn (route : Option Bytes) (auth : Bool) (svc dst : Nat) (body : Bytes) (s : State) : State :=
  let (txn, s) := nextTxn s
  let (m, s) := mkMsg (ownHdr s false auth svc dst txn) body s
  pushMsg route false dst m s

/-! ### DISCOVER (R538, Table 15-5) -/

/-- `PWR_STATE` and the flags of this package. -/
def inSafeMode (s : State) : Bool := s.pwr.phase == .safeMode

/-- The body of Table 15-5. -/
def discoverBytes : DiscoverBody → Bytes
  | .request kind time => beBytes 1 kind ++ zeros 3 ++ beBytes 10 time
  | .response serial rev pwr capable mgr safe join leaving attempts seq tstate =>
    beBytes 32 (serial * 2 ^ 192 + rev * 2 ^ 184 + pwr * 2 ^ 181 + b2n capable * 2 ^ 180 + b2n mgr * 2 ^ 179 + b2n safe * 2 ^ 178 +
      b2n join * 2 ^ 177 + b2n leaving * 2 ^ 176 + attempts * 2 ^ 168 + seq * 2 ^ 136 + tstate * 2 ^ 128)

/-- What this package says of itself. -/
def ownDiscover (s : State) (join leaving : Bool) (pwr : PwrState) : DiscoverBody :=
  .response serialNumber 0xB0 (pwrCode pwr) s.bus.mgrCapable s.bus.manager (inSafeMode s) join leaving s.island.attempts
    s.pwr.imageSeqRun (domCode s.time.doms[s.time.selected].state)

/-- An unsolicited broadcast DISCOVER response: `JOIN` on entering Run, `LEAVING` before the server stops (R538). -/
def announceSelf (join leaving : Bool) (pwr : PwrState) (s : State) : State :=
  let (txn, s) := nextTxn s
  let (m, s) := mkMsg (ownHdr s true false 0x0D 127 txn) (discoverBytes (ownDiscover s join leaving pwr)) s
  pushBus true 127 m s

/-! ### Roles (R535, R539, R540) -/

/-- Takes the manager role: every other row starts Absent (R535, R539). -/
def takeRole (cause : Nat) (s : State) : State :=
  let s := s.modBus fun b => { b with manager := true, tracked := none, members := Vector.replicate 64 Member.init, heartbeatAt := none }
  s.ev Ev.ROLE_CHANGED [1, cause]

/-- Tracks a manager from its heartbeat on (R540). -/
def track (a : Nat) (s : State) : State :=
  { s with bus := { s.bus with tracked := some a, heardAt := s.now }, island := { s.island with lastManager := a } }

/-- A manager that hears a lower one becomes a worker (R535). -/
def yieldRole (a : Nat) (s : State) : State :=
  let s := s.ev Ev.MANAGER_CONFLICT [a]
  let s := track a (s.modBus fun b => { b with manager := false })
  s.ev Ev.ROLE_CHANGED [0, 2]

/-! ### Events to subscribers (R534, R542) -/

/-- The 32 bytes of a record (Table 16-10). -/
def evBytes (r : EvRec) : Bytes :=
  beBytes 32 (r.time * 2 ^ 192 + r.source * 2 ^ 176 + b2n r.retained * 2 ^ 175 + b2n r.timeHeld * 2 ^ 174 + b2n r.rateLimited * 2 ^ 173 +
    b2n r.continued * 2 ^ 172 + r.severity * 2 ^ 170 + r.seq * 2 ^ 128 + r.p0 * 2 ^ 96 + r.p1 * 2 ^ 64 + r.p2 * 2 ^ 32 + r.p3)

/-- A record from its bytes. -/
def evOfBytes (bs : Bytes) : EvRec :=
  let v := beAt bs 0 32
  { time := fld v 255 192, source := fld v 191 176, retained := bitAt v 175, timeHeld := bitAt v 174, rateLimited := bitAt v 173,
    continued := bitAt v 172, severity := fld v 171 170, seq := fld v 159 128, p0 := fld v 127 96, p1 := fld v 95 64,
    p2 := fld v 63 32, p3 := fld v 31 0 }

/-- Order of records in an array: `TIME`, `SOURCE`, `SEQ` (R574). -/
def evKey (r : EvRec) : Nat := r.time * 2 ^ 48 + r.source * 2 ^ 32 + r.seq

/-- Puts a record at its place, after its equals. -/
def evInsert (r : EvRec) : List EvRec → List EvRec
  | [] => [r]
  | x :: xs => if evKey r < evKey x then r :: x :: xs else x :: evInsert r xs

/-- Records in order. -/
def evSort (rs : List EvRec) : List EvRec := rs.foldl (fun acc r => evInsert r acc) []

/-- Groups of at most 40 (R534). -/
def evChunks : Nat → List EvRec → List (List EvRec)
  | 0, _ => []
  | n + 1, rs => if rs.isEmpty then [] else rs.take 40 :: evChunks n (rs.drop 40)

/-- The body of an EVENT message (Table 15-4). -/
def eventBody (rs : List EvRec) : Bytes := beBytes 1 rs.length ++ zeros 3 ++ rs.flatMap evBytes

/-- A record is in a subscription's range. -/
def subCovers (x : Subscription) (r : EvRec) : Bool := decide (x.first ≤ r.source) && decide (r.source ≤ x.last)

/-- Sends records to one subscriber with or without `AUTH`. -/
def eventsTo (src : Nat) (auth : Bool) (route : Option Bytes) (rs : List EvRec) (s : State) : State :=
  (evChunks rs.length (evSort rs)).foldl (fun s c => sendOwn route auth 0x0A src (eventBody c) s) s

/-- Sends records to every subscriber whose ranges hold them; with `AUTH` where a subscription that holds the record has
it (R534). -/
def eventsOut (rs : List EvRec) (s : State) : State :=
  if rs.isEmpty then s
  else
    let peers := (s.bus.subs.map fun x => x.src).eraseDups
    peers.foldl (fun s p =>
      let mine := s.bus.subs.filter fun x => x.src == p
      let route := (mine.head?).bind fun x => x.route
      let auth := rs.filter fun r => mine.any fun x => x.auth && subCovers x r
      let plain := rs.filter fun r => !(mine.any fun x => x.auth && subCovers x r) && mine.any fun x => subCovers x r
      eventsTo p false route plain (eventsTo p true route auth s)) s

/-- Records written since the last look go to the subscribers; a manager holds them for merging (R534, R542). -/
def drainEvents (s : State) : State :=
  let rs := s.log.unsent
  let s := { s with log := { s.log with unsent := [] } }
  if s.bus.manager then s.modBus fun b => { b with merge := b.merge ++ rs } else eventsOut (rs.map fun x => x.1) s

end Sys2Proof.Machine
end

