-- ==== Sys2Proof/Machine/Patterns.lean ====
section
/-! DEFINITION. Levels of a line (Table 02-1) and the test patterns of Table 10-9: generators and checkers (R155, R360, R361, R384, R386). -/
namespace Sys2Proof.Machine

/-! ### Levels -/

/-- The level of a PAM4 symbol, its first bit the most significant (Table 02-1). -/
def pamLevel (v : Nat) : Int :=
  match v with
  | 0 => -3
  | 1 => -1
  | 3 => 1
  | _ => 3

/-- The four levels that carry a line byte, negated under `US_TX_INVERT` (R155). -/
def byteLevels (invert : Bool) (b : Byte) : List Int :=
  [6, 4, 2, 0].map fun k =>
    let l := pamLevel (b.toNat / 2 ^ k % 4)
    if invert then -l else l

/-- The levels of line bytes. -/
def lineLevels (invert : Bool) (line : Bytes) : List Int := line.flatMap (byteLevels invert)

/-- The bits of a byte in transmission order. -/
def oneByte (b : Byte) : List Bool := [7, 6, 5, 4, 3, 2, 1, 0].map fun i => b.toNat.testBit i

/-- The bits of a stretch of a line. -/
def byteBits (bs : Bytes) : List Bool := bs.flatMap oneByte

/-- The bit pairs of a stretch. -/
def bitPairs : List Bool → List (Bool × Bool)
  | a :: b :: l => (a, b) :: bitPairs l
  | _ => []

/-- The two bits of a PAM4 symbol as a number, the first the most significant (R360). -/
def pairNat (x : Bool × Bool) : Nat := 2 * x.1.toNat + x.2.toNat

/-- The levels that carry a stretch of bits: the four of Table 02-1, or -1 and +1 in NRZ; negated where `invert` is set. -/
def bitLevels (pam invert : Bool) (l : List Bool) : List Int :=
  let sign := fun (x : Int) => if invert then -x else x
  if pam then (bitPairs l).map fun x => sign (pamLevel (pairNat x)) else l.map fun b => sign (if b then 1 else -1)

/-- The bits that a level carries. -/
def levelPair (pam : Bool) (x : Int) : List Bool := if pam then [decide (x > 0), decide (-2 < x) && decide (x < 2)] else [decide (x > 0)]

/-- The bits of a stretch of levels. -/
def levelBits (pam : Bool) (l : List Int) : List Bool := l.flatMap (levelPair pam)

/-- The negation of every level, seen on the bits (R361). -/
def negateBits (pam : Bool) (l : List Bool) : List Bool :=
  if pam then (bitPairs l).flatMap fun x => [!x.1, x.2] else l.map fun b => !b

/-! ### Patterns (Table 10-9) -/

/-- The binary sequence of a pattern code: its exponents, the highest first. -/
def prbsTaps (code : Nat) : List Nat :=
  match code % 8 with
  | 0 => [7, 6]
  | 1 => [9, 5]
  | 2 => [13, 12, 2, 1]
  | 3 => [15, 14]
  | 4 => [23, 18]
  | _ => [31, 28]

/-- SSPRQ (Table 10-9). -/
def isSsprq (code : Nat) : Bool := code == 14

/-- Bits of a sequence that give all that follow. -/
def prbsDegree (code : Nat) : Nat := if isSsprq code then 32 else (prbsTaps code).headD 0

/-- The bit that follows a register. -/
def prbsNext (code reg : Nat) : Bool :=
  if isSsprq code then Config.ssprqBit (Config.ssprqPlace reg) else (prbsTaps code).foldl (fun b t => b != reg.testBit (t - 1)) false

/-- A register with one bit more. -/
def prbsShift (reg : Nat) (b : Bool) : Nat := (2 * reg + b.toNat) % 2 ^ 32

/-- The register from which a generator starts; never all zero. -/
def prbsStart (code : Nat) : Nat := 1 + Config.prbsSeed code % (2 ^ prbsDegree code - 1)

/-- A binary pattern on a PAM4 lane uses the levels -3 and +3 only: each of its bits is a symbol whose second bit is 0
(R384). -/
def outerOnly (code : Nat) (pam : Bool) : Bool := pam && decide (code < 8)

/-- The generator's next bit, inverted while bits of `INJECT` are left. -/
def prbsStep (code : Nat) (g : Prbs) : Bool × Prbs :=
  let b := if isSsprq code then Config.ssprqBit g.made else prbsNext code g.gen
  (b != decide (g.flip > 0), { g with gen := prbsShift g.gen b, made := g.made + 1, flip := g.flip - 1 })

/-- The next `n` bits that the generator puts on its lane. -/
def prbsBits (code : Nat) (pam : Bool) : Nat → Prbs → List Bool × Prbs
  | 0, g => ([], g)
  | 1, g => if outerOnly code pam then ([], g) else
    let x := prbsStep code g
    ([x.1], x.2)
  | n + 2, g =>
    if outerOnly code pam then
      let x := prbsStep code g
      let r := prbsBits code pam n x.2
      (x.1 :: false :: r.1, r.2)
    else
      let x := prbsStep code g
      let y := prbsStep code x.2
      let r := prbsBits code pam n y.2
      (x.1 :: y.1 :: r.1, r.2)

/-- What a checker has found over a stretch: bits and errors while locked, losses of lock, and the changes of its lock, the
last one first. -/
structure Check where
  bits : Nat
  errors : Nat
  losses : Nat
  changes : List Bool
  x : Prbs
  deriving DecidableEq, Repr

/-- One bit of the sequence, `seen`, carried by line bits of which `wrong` gives the errors against the bit that was
expected (R386): the checker seeds itself, locks after 256 bits in a row that match, and loses lock with 128 errors among
the last 1,024. -/
def checkStep (code : Nat) (seen : Bool) (wrong : Bool → List Bool) (c : Check) : Check :=
  let x := c.x
  if x.locked then
    let e := prbsNext code x.chk
    let w := wrong e
    let errs := (w.reverse ++ x.errs).take 1024
    let n := (w.filter id).length
    let lost := decide ((errs.filter id).length ≥ 128)
    let c := { c with bits := c.bits + w.length, errors := c.errors + n }
    if lost then { c with losses := c.losses + 1, changes := false :: c.changes
                          x := { x with chk := 0, seeded := 0, run := 0, locked := false, errs := [] } }
    else { c with x := { x with chk := prbsShift x.chk e, errs := errs } }
  else if x.seeded < prbsDegree code then { c with x := { x with chk := prbsShift x.chk seen, seeded := x.seeded + 1 } }
  else
    let w := wrong (prbsNext code x.chk)
    let run := if w.any id then 0 else x.run + w.length
    let x := { x with chk := prbsShift x.chk seen, run := run }
    if run ≥ 256 then { c with changes := true :: c.changes, x := { x with run := 0, locked := true, errs := [] } }
    else { c with x := x }

/-- A checker over the bits of a line. -/
def checkBits (code : Nat) (pam : Bool) (l : List Bool) (c : Check) : Check :=
  if outerOnly code pam then (bitPairs l).foldl (fun c p => checkStep code p.1 (fun e => [p.1 != e, p.2]) c) c
  else l.foldl (fun c b => checkStep code b (fun e => [b != e]) c) c

end Sys2Proof.Machine
end

