-- ==== Sys2Proof/Machine/Parsing.lean ====
section
/-! DEFINITION. The parser front end: headers, length checks, flags, key, descriptor and symmetric hash (R210-R212, R236-R245). -/
namespace Sys2Proof.Machine

/-- What the parser looks at next. -/
inductive NextHdr
  | etype (v : Nat)
  | label
  | afterMpls
  | ip4
  | ip6
  | proto (v : Nat)
  | app (kind : Nat)
  | stop
  deriving DecidableEq, Repr

/-- The parse as it stands. -/
structure Parse where
  off : Nat
  layers : Nat
  truncated : Bool
  l2unknown : Bool
  conflict : Option Nat
  ends : List (Nat × Nat)
  tags : List Nat
  etype : Nat
  labels : Nat
  label0 : Nat
  l3 : Nat
  src : Nat
  dst : Nat
  proto : Nat
  dscp : Nat
  ecn : Nat
  frag : Nat
  fragmented : Bool
  /-- Payload length of the IP header, 0 when not known, and extension bytes parsed. -/
  ipLen : Nat
  exts : Nat
  extBytes : Nat
  ipOff : Nat
  options : Bool
  expiring : Bool
  l4 : Nat
  sport : Nat
  dport : Nat
  tcpFlags : Nat
  appKind : Nat
  appType : Nat
  ptpDomain : Nat
  udpOff : Option Nat
  vlanOff : Nat
  mplsOff : Nat
  l4Off : Nat
  appOff : Nat
  deriving DecidableEq, Repr

/-- The parse before the first header. -/
def Parse.init : Parse :=
  { off := 0, layers := 0, truncated := false, l2unknown := false, conflict := none, ends := [], tags := [], etype := 0,
    labels := 0, label0 := 0, l3 := 0, src := 0, dst := 0, proto := 0, dscp := 0, ecn := 0, frag := 0,
    fragmented := false, ipLen := 0, exts := 0, extBytes := 0, ipOff := 0xFF, options := false, expiring := false,
    l4 := 0, sport := 0, dport := 0, tcpFlags := 0, appKind := 0, appType := 0, ptpDomain := 0, udpOff := none,
    vlanOff := 0xFF, mplsOff := 0xFF, l4Off := 0xFF, appOff := 0xFF }

/-- Parsing ends by truncation (R237). -/
def cutParse (p : Parse) : NextHdr × Parse := (.stop, { p with truncated := true })

/-- A window check fails: the header counts as a layer and parsing ends (R240). -/
def conflictAt (code n : Nat) (p : Parse) : NextHdr × Parse :=
  (.stop, { p with conflict := some code, layers := p.layers + 1, off := p.off + n })

/-- An IPv4 address in mapped form (R211). -/
def mapped (a : Nat) : Nat := 0xFFFF * 2 ^ 32 + a

/-- The choice by a type field (Table 06-1). A tag stands from its TPID (R244 and the worked example of chapter 06). -/
def byType (c : ParseCfg) (w : Bytes) (v : Nat) (p : Parse) : NextHdr × Parse :=
  let room := fun (n : Nat) => decide (p.off + n ≤ w.length) && decide (p.layers < 8)
  if v < 0x0600 then (.stop, { p with l2unknown := true })
  else if v = 0x8100 ∨ v = 0x88A8 ∨ v = c.tpidAlt then
    if p.tags.length ≥ 3 || !room 4 then cutParse p
    else
      let t := beAt w (p.off + 2) 2
      (.etype t, { p with tags := p.tags ++ [beAt w p.off 2], etype := t, layers := p.layers + 1, off := p.off + 4,
                          vlanOff := if p.tags.isEmpty then p.off - 2 else p.vlanOff })
  else if v = 0x8847 ∨ v = 0x8848 then (.label, p)
  else if v = 0x0800 then (.ip4, p)
  else if v = 0x86DD then (.ip6, p)
  else if v = 0xAEFE then (.app 1, p)
  else if v = 0x88F7 then (.app 2, p)
  else if v = c.vdpType then (.app 4, p)
  else (.stop, { p with l2unknown := true })

/-- An MPLS label entry (Table 06-1). -/
def parseLabel (w : Bytes) (p : Parse) : NextHdr × Parse :=
  if p.labels ≥ 4 ∨ p.off + 4 > w.length ∨ p.layers ≥ 8 then cutParse p
  else
    let e := beAt w p.off 4
    let q := { p with labels := p.labels + 1, label0 := if p.labels = 0 then e else p.label0, layers := p.layers + 1,
                      off := p.off + 4, mplsOff := if p.labels = 0 then p.off else p.mplsOff }
    (if bitAt e 8 then .afterMpls else .label, q)

/-- After the bottom of the stack (R237, Table 06-1); `more` says that the frame holds bytes beyond the window. -/
def parseAfterMpls (w : Bytes) (more : Bool) (p : Parse) : NextHdr × Parse :=
  if p.off < w.length then
    let n := beAt w p.off 1 / 16
    (if n = 4 then .ip4 else if n = 6 then .ip6 else .stop, p)
  else if more then cutParse p else (.stop, p)

/-- An IPv4 header (Tables 06-1 and 06-2). -/
def parseIp4 (w : Bytes) (p : Parse) : NextHdr × Parse :=
  if p.off + 20 > w.length ∨ p.layers ≥ 8 then cutParse p
  else
    let ihl := beAt w p.off 1 % 16
    let total := beAt w (p.off + 2) 2
    let ff := beAt w (p.off + 6) 2
    let mf := bitAt ff 13
    let fo := ff % 2 ^ 13
    let ttl := beAt w (p.off + 8) 1
    let v := beAt w (p.off + 9) 1
    let tos := beAt w (p.off + 1) 1
    let q := { p with
      l3 := 1, src := mapped (beAt w (p.off + 12) 4), dst := mapped (beAt w (p.off + 16) 4), proto := v, dscp := tos / 4
      ecn := tos % 4, fragmented := mf || fo != 0, frag := if fo ≠ 0 then 2 else if mf then 1 else 0
      options := decide (ihl > 5), expiring := decide (ttl ≤ 1), ipOff := p.off, ipLen := total - 4 * ihl }
    if ihl < 5 then conflictAt 1 20 q
    else if total < 4 * ihl then conflictAt 1 20 q
    else (.proto v, { q with layers := p.layers + 1, off := p.off + 4 * ihl, ends := q.ends ++ [(1, p.off + total)] })

/-- An IPv6 header. -/
def parseIp6 (w : Bytes) (p : Parse) : NextHdr × Parse :=
  if p.off + 40 > w.length ∨ p.layers ≥ 8 then cutParse p
  else
    let vtf := beAt w p.off 4
    let plen := beAt w (p.off + 4) 2
    let v := beAt w (p.off + 6) 1
    let q := { p with
      l3 := 2, src := beAt w (p.off + 8) 16, dst := beAt w (p.off + 24) 16, proto := v, dscp := fld vtf 27 22
      ecn := fld vtf 21 20, expiring := decide (beAt w (p.off + 7) 1 ≤ 1), ipOff := p.off, ipLen := plen
      layers := p.layers + 1, off := p.off + 40
      ends := if plen = 0 then p.ends else p.ends ++ [(2, p.off + 40 + plen)] }
    (.proto v, q)

/-- An IPv6 extension header (Tables 06-1 and 06-2). -/
def parseExt (w : Bytes) (v : Nat) (p : Parse) : NextHdr × Parse :=
  if p.exts ≥ 2 ∨ p.off + 8 > w.length ∨ p.layers ≥ 8 then cutParse p
  else
    let len := if v = 44 then 8 else 8 * (beAt w (p.off + 1) 1 + 1)
    let nh := beAt w p.off 1
    let fo := beAt w (p.off + 2) 2 / 8
    let q := { p with
      proto := nh, exts := p.exts + 1, extBytes := p.extBytes + len
      fragmented := p.fragmented || v == 44
      frag := if v = 44 then (if fo ≠ 0 then 2 else 1) else p.frag }
    if p.ipLen ≠ 0 ∧ p.extBytes + len > p.ipLen then conflictAt 3 8 q
    else (.proto nh, { q with layers := p.layers + 1, off := p.off + len })

/-- A UDP header: the next header by destination port (Table 06-1). -/
def parseUdp (c : ParseCfg) (w : Bytes) (p : Parse) : NextHdr × Parse :=
  if p.off + 4 > w.length ∨ p.layers ≥ 8 then cutParse p
  else
    let dp := beAt w (p.off + 2) 2
    let q := { p with l4 := 1, sport := beAt w p.off 2, dport := dp, l4Off := p.off, udpOff := some p.off }
    let len := beAt w (p.off + 4) 2
    let checked := decide (p.off + 6 ≤ w.length) && !(p.l3 == 2 && p.ipLen == 0)
    if checked && (decide (len < 8) || decide (len > p.ipLen - p.extBytes)) then conflictAt 4 8 q
    else
      let k := { q with layers := p.layers + 1, off := p.off + 8 }
      if dp = 319 ∨ dp = 320 then (.app 3, k)
      else if dp ≠ 0 ∧ dp = c.ecpriPort then (.app 1, k)
      else (.stop, k)

/-- A TCP header. -/
def parseTcp (w : Bytes) (p : Parse) : NextHdr × Parse :=
  if p.off + 14 > w.length ∨ p.layers ≥ 8 then cutParse p
  else
    let q := { p with l4 := 2, sport := beAt w p.off 2, dport := beAt w (p.off + 2) 2,
                      tcpFlags := beAt w (p.off + 13) 1, l4Off := p.off }
    let d := beAt w (p.off + 12) 1 / 16
    if d < 5 then conflictAt 5 14 q else (.stop, { q with layers := p.layers + 1, off := p.off + 4 * d })

/-- eCPRI (1), PTP over Ethernet (2) or UDP (3), and VDP (4). -/
def parseApp (w : Bytes) (kind : Nat) (p : Parse) : NextHdr × Parse :=
  let n := if kind = 2 ∨ kind = 3 then 5 else 4
  if p.off + n > w.length ∨ p.layers ≥ 8 then cutParse p
  else
    let q := { p with appKind := kind, appOff := p.off, layers := p.layers + 1, off := p.off + n }
    if kind = 1 then
      (.stop, { q with appType := beAt w (p.off + 1) 1, ends := p.ends ++ [(6, p.off + 4 + beAt w (p.off + 2) 2)] })
    else if kind = 4 then (.stop, { q with ends := p.ends ++ [(7, p.off + beAt w (p.off + 2) 2)] })
    else (.stop, { q with appType := beAt w p.off 1 % 16, ptpDomain := beAt w (p.off + 4) 1 })

/-- One step of the parser. -/
def parseStep (c : ParseCfg) (w : Bytes) (more : Bool) (n : NextHdr) (p : Parse) : NextHdr × Parse :=
  match n with
  | .etype v => byType c w v p
  | .label => parseLabel w p
  | .afterMpls => parseAfterMpls w more p
  | .ip4 => parseIp4 w p
  | .ip6 => parseIp6 w p
  | .proto v =>
    if p.l3 = 2 ∧ (v = 0 ∨ v = 43 ∨ v = 44 ∨ v = 60) then parseExt w v p
    else if p.fragmented then (.stop, p)
    else if v = 17 then parseUdp c w p
    else if v = 6 then parseTcp w p
    else (.stop, p)
  | .app k => parseApp w k p
  | .stop => (.stop, p)

/-- Runs the parser; 8 layers and the steps between them need at most 24 steps. -/
def parseRun (c : ParseCfg) (w : Bytes) (more : Bool) : Nat → NextHdr → Parse → Parse
  | 0, _, p => p
  | n + 1, .stop, p => let _ := n; p
  | n + 1, h, p => let (h', p') := parseStep c w more h p; parseRun c w more n h' p'

/-- The parse of a window; `more` says that the frame holds bytes beyond it (R237). -/
def parseWindow (c : ParseCfg) (w : Bytes) (more : Bool) : Parse :=
  if w.length < 14 then { Parse.init with truncated := true }
  else
    let t := beAt w 12 2
    parseRun c w more 24 (.etype t) { Parse.init with off := 14, layers := 1, etype := t }

/-- The symmetric hash (R210, R211); `l2` takes the row without an IP header. -/
def symHash (p : Parse) (w : Bytes) (l2 : Bool) : Nat :=
  let ip := p.l3 ≠ 0 ∧ l2 = false
  let mac := fun (o : Nat) => if w.length < 14 then 0 else beAt w o 6
  let a := if ip then p.src else mac 6
  let b := if ip then p.dst else mac 0
  let ports := ip ∧ p.l4 ≠ 0
  let x := if ports then p.sport else 0
  let y := if ports then p.dport else 0
  crc32c (beBytes 16 (min a b) ++ beBytes 16 (max a b) ++ beBytes 2 (min x y) ++ beBytes 2 (max x y) ++
    beBytes 1 (if ip then p.proto else 0))

/-- The parse flags (Table 06-5); `enc` and `bonded` come with the frame. -/
def parseFlags (p : Parse) (w : Bytes) (conflict enc bonded : Bool) : Nat :=
  let dm := if w.length < 14 then 0 else beAt w 0 6
  b2n p.truncated * 2 ^ 15 + b2n conflict * 2 ^ 14 + b2n p.options * 2 ^ 13 + b2n (decide (p.exts > 0)) * 2 ^ 12 +
    b2n p.expiring * 2 ^ 11 + b2n p.l2unknown * 2 ^ 10 + b2n (bitAt dm 40) * 2 ^ 9 + b2n (dm == 0xFFFFFFFFFFFF) * 2 ^ 8 +
    b2n ((p.appKind == 2 || p.appKind == 3) && decide (p.appType ≤ 3)) * 2 ^ 7 + b2n enc * 2 ^ 6 + b2n bonded * 2 ^ 5 +
    b2n (p.appKind == 4) * 2 ^ 4

/-- The 640-bit key (Table 06-4); `l2` gives the layer-2 key of R242. -/
def buildKey (inPort pass flags flow flowTag rmeta hash : Nat) (p : Parse) (w : Bytes) (l2 : Bool) : Nat :=
  let mac := fun (o : Nat) => if w.length < 14 then 0 else beAt w o 6
  let top := inPort * 2 ^ 636 + pass * 2 ^ 634 + flags * 2 ^ 618 + flow * 2 ^ 602 + flowTag * 2 ^ 586 + rmeta * 2 ^ 554 +
    mac 0 * 2 ^ 506 + mac 6 * 2 ^ 458 + p.tags.length * 2 ^ 456 + p.tags.getD 0 0 * 2 ^ 440 + p.tags.getD 1 0 * 2 ^ 424 +
    p.tags.getD 2 0 * 2 ^ 408 + p.etype * 2 ^ 392
  let rest := p.labels * 2 ^ 389 + p.label0 / 2 ^ 12 * 2 ^ 369 + fld p.label0 11 9 * 2 ^ 366 + p.l3 * 2 ^ 364 +
    p.src * 2 ^ 236 + p.dst * 2 ^ 108 + p.proto * 2 ^ 100 + p.dscp * 2 ^ 94 + p.ecn * 2 ^ 92 + p.frag * 2 ^ 90 +
    p.l4 * 2 ^ 88 + p.sport * 2 ^ 72 + p.dport * 2 ^ 56 + p.tcpFlags * 2 ^ 48 + p.appKind * 2 ^ 45 +
    p.appType * 2 ^ 37 + p.ptpDomain * 2 ^ 29
  top + (if l2 then 0 else rest) + hash % 2 ^ 16 * 2 ^ 13

/-- The descriptor of R244: offsets of tag, label, IP, L4 and application headers, the first byte not parsed, layers. -/
def buildDesc (p : Parse) : List Nat := [p.vlanOff, p.mplsOff, p.ipOff, p.l4Off, p.appOff, p.off, p.layers]

/-! ### Length conflicts (R240-R242) -/

/-- The End checks that fail for a frame of `len` bytes without FCS. -/
def endsFailed (ends : List (Nat × Nat)) (len : Nat) : List Nat :=
  (ends.filter fun e => decide (e.2 > len)).map Prod.fst

/-- The parse of a pass with the configuration of its start, written into its frame (R238, R240-R244). An End check of a frame that has ended is decided here. -/
def parseFrame (lcMode : Nat) (f : Frame) : Frame :=
  let w := f.data.take 64
  let more := decide (f.data.length > 64) || (f.data.length == 64 && !f.complete)
  let p := parseWindow f.cfg w more
  -- A frame that ends inside its window, and a later pass, has its End checks decided now.
  let decided := f.complete && (decide (f.data.length ≤ 64) || f.l2)
  let failedEnd := if decided then endsFailed p.ends f.data.length else []
  let failed := p.conflict.toList ++ failedEnd
  let bad := !failed.isEmpty
  let conflict := bad || f.l2
  let l2 := (conflict && lcMode == 1) || f.l2
  let hash := symHash p w l2
  let flags := parseFlags p w conflict f.encrypted f.bonded
  { f with
    key := buildKey f.inPort f.pass flags f.flow f.flowTag (f.rmeta / 2 ^ 96) hash p w l2
    desc := buildDesc p, hash := hash
    ptp := if p.appKind = 2 ∨ p.appKind = 3 then some (p.appOff, if p.appKind = 3 then p.udpOff else none) else none
    ends := if l2 || decided || decide (f.pass > 0) then [] else p.ends
    conflicts := f.conflicts ++ (if f.l2 then [] else failed.map fun k => (k, 1))
    lcDrop := bad && lcMode == 0 && !f.l2 }

end Sys2Proof.Machine
end

