-- ==== Sys2Proof/Machine/RuleOps.lean ====
section
/-! DEFINITION. The rule table, action records, the flow table, VLAN edits, rule-set generations and ageing (R247-R270). -/
namespace Sys2Proof.Machine

/-- The stored rows of a table, as row and value, in rising order. -/
def tabRows (s : State) (tbl : Nat) : List (Nat × Nat) :=
  (s.tab.filter fun e => e.1 / 2 ^ 24 == tbl - 0x6000).map fun e => (e.1 % 2 ^ 24, e.2)

/-! ### Rows (Table 06-6) -/

/-- The row belongs to a generation (R265). -/
def rowMember (v g : Nat) : Bool := bitAt v (1470 + g)
/-- `PRIORITY`. -/
def rowPriority (v : Nat) : Nat := fld v 1469 1454
/-- The row matches a key in a generation (R248). -/
def rowMatches (v g key : Nat) : Bool :=
  let mask := fld v 767 128
  rowMember v g && Nat.land key mask == Nat.land (fld v 1407 768) mask

/-- The winning row and its action (R248): highest priority, then lowest index. -/
def ruleLookup (s : State) (g key : Nat) : Option (Nat × Nat) :=
  (tabRows s Obj.RULE_TABLE).foldl (fun best e =>
    if rowMatches e.2 g key then
      match best with
      | some b => if rowPriority e.2 > rowPriority b.2 then some e else some b
      | none => some e
    else best) none

/-! ### Action records (Table 06-7) -/

/-- `DEST`: 0 drop, 1 host port, 2 upstream queue, 3 control cores, 4 recirculate. -/
def actDest (a : Nat) : Nat := fld a 127 125
/-- Host class as 8 * port + class. -/
def actHost (a : Nat) : Nat := fld a 124 122 * 8 + fld a 121 119
/-- Upstream queue 8 * `ALLOC_ROW` + `CLASS`. -/
def actQueue (a : Nat) : Nat := fld a 118 111 * 8 + fld a 121 119
/-- `EM_PROFILE`. -/
def actProfile (a : Nat) : Nat := fld a 33 31

/-- A record that a write may not place (R252). -/
def actBad (a : Nat) : Bool :=
  decide (actDest a ≥ 5) || decide (fld a 55 53 ≥ 5) || (actDest a == 2 && fld a 110 95 == 0xFFFF)

/-! ### The flow table (R255-R260) -/

/-- The key bits that a mask selects, descending, into `EM_KEY` from bit 319 down (R256). -/
def packKey (key mask : Nat) : Nat :=
  let (v, n) := (List.range 640).foldl (fun (acc : Nat × Nat) i =>
    if bitAt mask (639 - i) then (acc.1 * 2 + b2n (bitAt key (639 - i)), acc.2 + 1) else acc) (0, 0)
  v * 2 ^ (320 - n)

/-- The bucket of a packed key (R256). -/
def emBucket (profile packed : Nat) : Nat := crc32c (beBytes 1 profile ++ beBytes 40 packed) % 2 ^ 17

/-- The rows of a bucket, ways 0-7. -/
def bucketRows (b : Nat) : List Nat := (List.range 8).map fun w => 8 * b + w

/-- The way that hits (R257). -/
def emFind (s : State) (profile packed : Nat) : Option Nat :=
  (bucketRows (emBucket profile packed)).find? fun r =>
    let v := s.row Obj.EM_TABLE r
    bitAt v 63 && fld v 61 59 == profile && fld v 511 192 == packed

/-- The low 32 bits of the TAI seconds. -/
def taiLow (s : State) : Nat := s.devTime / secU % 2 ^ 32

/-- `LAST_HIT` becomes the current second (R257). -/
def emTouch (r : Nat) (s : State) : State :=
  let v := s.row Obj.EM_TABLE r
  s.setRow Obj.EM_TABLE r (setFld v 31 0 (taiLow s))

/-- A learn at commit (R258, R259). -/
def emLearn (profile packed action : Nat) (s : State) : State :=
  match emFind s profile packed with
  | some r => emTouch r s
  | none =>
    let b := emBucket profile packed
    match (bucketRows b).find? fun r => !bitAt (s.row Obj.EM_TABLE r) 63 with
    | some r =>
      let a := setFld action 35 34 0
      let v := packed * 2 ^ 192 + a * 2 ^ 64 + 2 ^ 63 + 2 ^ 62 + profile * 2 ^ 59 + taiLow s
      (s.setRow Obj.EM_TABLE r v).bump Obj.EM_LEARNS
    | none => (s.bump Obj.EM_LEARN_FULL).evOnce Ev.EM_LEARN_FAILED 0 [profile, b]

/-- The sweep of R260. -/
def emAgeing (s : State) : State :=
  let age := s.obj Obj.EM_AGE_S
  if age = 0 then s
  else (tabRows s Obj.EM_TABLE).foldl (fun s e =>
    let old := (taiLow s + 2 ^ 32 - e.2 % 2 ^ 32) % 2 ^ 32
    if bitAt e.2 63 && bitAt e.2 62 && decide (old ≥ age) then
      (s.setRow Obj.EM_TABLE e.1 (setBit e.2 63 false)).bump Obj.EM_AGED
    else s) s

def execEmAgeing (t : Nat) (s : State) : Host.Outcome State Fault Refusal :=
  done t s fun s => if s.running then emAgeing s else s

/-! ### VLAN edits (R254) -/

/-- The edited frame, or none where the operation is not applied; `tags` is the count of tags parsed. -/
def vlanEdit (a tags : Nat) (d : Bytes) : Option Bytes :=
  let tpid := if bitAt a 52 then 0x88A8 else 0x8100
  let tag := beBytes 2 tpid ++ beBytes 2 (fld a 51 36)
  let op := fld a 55 53
  if op = 0 then some d
  else if op = 1 then (if tags ≥ 3 then none else some (d.take 12 ++ tag ++ d.drop 12))
  else if op = 2 then (if tags = 0 then none else some (d.take 12 ++ d.drop 16))
  else if op = 3 then (if tags = 0 then none else some (d.take 12 ++ tag ++ d.drop 16))
  else if op = 4 then (if tags < 2 then none else some (d.take 12 ++ d.drop 20))
  else none

/-- Tags after an applied operation. -/
def tagsAfter (op tags : Nat) : Nat :=
  if op = 1 then tags + 1 else if op = 2 then tags - 1 else if op = 4 then tags - 2 else tags

/-- Sets DEI of the outer tag (R343). -/
def setDei (tags : Nat) (d : Bytes) : Bytes :=
  if tags = 0 then d else d.take 14 ++ ((d.drop 14).take 1).map (fun b => b ||| 0x10) ++ d.drop 15

/-! ### Generations (R265-R269) -/

/-- Frames of the draining generation still in the engines (R268). -/
def drainCount (s : State) : Nat :=
  if s.rules.draining then (s.frames.filter fun f => f.generation == 1 - s.rules.active).length else 0

/-- R267. -/
def ruleSwap (v : Nat) (s : State) : State :=
  if v ≠ 1 then s.answer .range
  else if s.rules.draining then s.answer .busy
  else
    let s := { s with rules := { active := 1 - s.rules.active, draining := true, flipAt := s.now } }
    let s := s.bump Obj.RULE_SWAPS
    (s.ev Ev.RULE_SWAPPED [s.rules.active, drainCount s]).answer .ok

def execRuleSwap (t v : Nat) (s : State) : Host.Outcome State Fault Refusal :=
  done t s fun s => s.hostWrite (ruleSwap v)

/-- R268: the shadow becomes a copy of the active set. -/
def ruleDrained (s : State) : State :=
  if !s.rules.draining || drainCount s ≠ 0 then s
  else
    let a := s.rules.active
    let s := (tabRows s Obj.RULE_TABLE).foldl (fun s e =>
      s.setRow Obj.RULE_TABLE e.1 (setBit e.2 (1470 + (1 - a)) (rowMember e.2 a))) s
    let us := (s.now - s.rules.flipAt) / tickUs
    let s := { s with rules := { s.rules with draining := false } }
    s.ev Ev.RULE_DRAINED [1 - a, us]

def execRuleDrained (t : Nat) (s : State) : Host.Outcome State Fault Refusal := done t s ruleDrained

/-- The value a row takes from a write: `VALUE` bits under a mask bit of 0 are stored as 0 (R248). -/
def ruleStored (v : Nat) : Nat := setFld v 1407 768 (Nat.land (fld v 1407 768) (fld v 767 128))

/-- A write of a rule row: RANGE, then STATE, then BUSY (R252, R266, R269, R608). -/
def ruleRowStatus (s : State) (r v : Nat) : Status :=
  let a := s.rules.active
  let old := s.row Obj.RULE_TABLE r
  let new := ruleStored v
  let body := fun (x : Nat) => fld x 1469 0
  if actBad (v % 2 ^ 128) then .range
  else if rowMember old a ≠ rowMember new a ∨ (rowMember old a ∧ body old ≠ body new) then .state
  else if s.rules.draining && (rowMember old (1 - a) != rowMember new (1 - a) ||
    (rowMember old (1 - a) && body old != body new)) then .busy
  else .ok

/-- Host write of a flow-table row: its bucket must be that of its key (R259), its record sound (R252). -/
def emRowStatus (r v : Nat) : Status :=
  if actBad (fld v 191 64) then .range
  else if bitAt v 63 && r / 8 != emBucket (fld v 61 59) (fld v 511 192) then .range
  else .ok

/-- A profile mask has at most 320 ones (R256). -/
def emProfileStatus (v : Nat) : Status := if popCount 640 v > 320 then .range else .ok

end Sys2Proof.Machine
end

