-- ==== Sys2Proof/Machine/Sched.lean ====
section
/-! DEFINITION. Queues and tail drop, strict and deficit round robin selection, shapers, policers and latency observation (R326-R344, R353-R356). -/
namespace Sys2Proof.Machine

/-! ### Depths and enqueue (R326-R328) -/

/-- The frames of an upstream queue that are not yet sent, open fragments among them. -/
def queueFrames (s : State) (q : Nat) : List QFrame :=
  (s.us.toList.flatMap fun u => (u.openFrags.map Prod.snd).filter fun f => f.queue == q && f.flume.isNone) ++
    s.usq.filter fun f => f.queue == q && f.flume.isNone

/-- The frames of a queue by observation index (Table 09-1). -/
def obsFrames (s : State) (q : Nat) : List QFrame :=
  if q < 2048 then queueFrames s q else s.sch.hq.filter fun f => f.queue == q

/-- What a frame adds to its queue's depth (R328). -/
def depthOf (q : QFrame) : Nat := if q.queue < 2048 then q.data.length else egressLen q.data.length

/-- Depth of a queue in bytes (R328). -/
def queueDepth (s : State) (q : Nat) : Nat := (obsFrames s q).foldl (fun n f => n + depthOf f) 0

/-- The limit of a queue for a colour, in bytes (R328). -/
def queueLimit (s : State) (q colour : Nat) : Nat :=
  if q < 2048 then
    let v := s.row Obj.SCH_QUEUE_TABLE q
    1024 * (if colour ≤ 1 then fld v 46 25 else fld v 24 3)
  else
    let v := s.row Obj.SCH_CLASS_TABLE (q - 2048)
    1024 * (if colour ≤ 1 then fld v 31 16 else fld v 15 0)

/-- Adds to a word of a queue's counters. -/
def queueCount (q w n : Nat) (s : State) : State := s.bumpRow Obj.SCH_QUEUE_COUNTERS q 6 w n

/-- A frame within its queue's limit (R328). -/
def fitsQueue (s : State) (q : QFrame) : Bool :=
  decide (queueDepth s q.queue + depthOf q ≤ queueLimit s q.queue q.colour)

/-- A tail drop (R328): counted by colour and logged. -/
def tailDrop (q : QFrame) (s : State) : State :=
  (queueCount q.queue (if q.colour ≤ 1 then 2 else 3) 1 s).evOnce Ev.QUEUE_TAIL_DROP 0 [q.queue, max 1 q.colour]

/-- Puts a frame at the end of its queue (R327). -/
def enqueue (q : QFrame) (s : State) : State :=
  let s := queueCount q.queue 1 (depthOf q) (queueCount q.queue 0 1 s)
  if q.queue < 2048 then { s with usq := s.usq ++ [q] } else { s with sch := { s.sch with hq := s.sch.hq ++ [q] } }

/-! ### Shapers (R336-R339) -/

/-- Refill per tick in 2^-32 byte (R337). -/
def rateInc (kbps : Nat) : Nat := kbps * 2 ^ 32 / 3000000

/-- A signed byte of a row. -/
def rowOverhead (v : Nat) : Int := toS 8 (fld v 119 112)

/-- Tokens after a reset (R336, R339). -/
def shaperFresh (v : Nat) : Int := if bitAt v 126 then ((fld v 111 88 * 2 ^ 32 : Nat) : Int) else 0

/-- Tokens of a shaper now, in 2^-32 byte (R337). -/
def shaperTokens (s : State) (r : Nat) : Int :=
  let v := s.row Obj.SHP_TABLE r
  let (tok, tick) : Int × Nat := match s.sch.shapers.find? fun x => x.row == r with
    | some x => (x.tokens, x.tick)
    | none => (shaperFresh v, tickOf s.pwr.freshAt)
  min (tok + ((rateInc (fld v 63 32) * (tickOf s.now - tick) : Nat) : Int)) ((fld v 111 88 * 2 ^ 32 : Nat) : Int)

/-- A shaper is enabled. -/
def shaperOn (s : State) (r : Nat) : Bool := bitAt (s.row Obj.SHP_TABLE r) 127

/-- The shaper was reset in the tick that is running. -/
def shaperJustReset (s : State) (r : Nat) : Option Shaper :=
  s.sch.shapers.find? fun x => x.row == r && x.resetAt == tickOf s.now + 1

/-- The tokens that a selection of this tick sees, none where the shaper holds nothing back: a change acts on the next
tick's selection (R333). -/
def shaperSeen (s : State) (r : Nat) : Option Int :=
  match shaperJustReset s r with
  | some x => x.before
  | none => if shaperOn s r then some (shaperTokens s r) else none

/-- The shaper does not hold its frames back (R338). -/
def shaperOpen (s : State) (r : Nat) : Bool :=
  match shaperSeen s r with
  | some t => decide (t > 0)
  | none => true

/-- Writes a shaper's record. -/
def setShaper (x : Shaper) (s : State) : State :=
  { s with sch := { s.sch with shapers := x :: s.sch.shapers.filter fun y => y.row ≠ x.row } }

/-- What a departure of `cost` bytes debits (R338). -/
def shaperCost (s : State) (r cost : Nat) : Int :=
  let n : Int := (cost : Int) + rowOverhead (s.row Obj.SHP_TABLE r)
  (if n ≤ 0 then 0 else n) * ((2 ^ 32 : Nat) : Int)

/-- A departure's debit (R338); a reset of the same tick comes after it (R339). -/
def shaperDebit (r cost : Nat) (s : State) : State :=
  match shaperJustReset s r with
  | some x => setShaper { x with before := x.before.map fun t => t - shaperCost s r cost } s
  | none =>
    if shaperOn s r then
      setShaper { row := r, tokens := shaperTokens s r - shaperCost s r cost, tick := tickOf s.now, resetAt := 0, before := none } s
    else s

/-- An accepted write of a row resets the tokens (R339). -/
def shaperWrite (r v : Nat) (s : State) : State :=
  let seen := shaperSeen s r
  let old := shaperTokens s r
  let s := s.setRow Obj.SHP_TABLE r (setFld v 31 0 0)
  let s := setShaper { row := r, tokens := shaperFresh v, tick := tickOf s.now, resetAt := tickOf s.now + 1, before := seen } s
  (s.bump Obj.SHP_RESETS).ev Ev.SHAPER_RESET [r, pI32 (old / ((2 ^ 32 : Nat) : Int)), b2n (bitAt v 126)]

/-- A shaper row that a write may hold (R336). -/
def shaperRowStatus (v : Nat) : Status :=
  if bitAt v 127 && (decide (fld v 63 32 < 1) || decide (fld v 63 32 > 400000000)) then .range
  else if fld v 111 88 < 64 then .range else .ok

/-! ### Policers (R340-R344) -/

/-- The 750 MHz cycle of an instant. -/
def cycleOf (t : Nat) : Nat := t / (2 * tickCore)

/-- The policer was written in the cycle that is running (R344). -/
def policerJustReset (s : State) (p : Nat) : Option Policer :=
  s.sch.policers.find? fun x => x.row == p && x.resetAt == cycleOf s.now + 1

/-- Both buckets now, in 2^-32 byte. -/
def policerNow (s : State) (p : Nat) : Nat × Nat :=
  let v := s.row Obj.POL_TABLE p
  let c := fld v 111 88 * 2 ^ 32
  let e := fld v 87 64 * 2 ^ 32
  match s.sch.policers.find? fun x => x.row == p with
  | some x =>
    let dt := tickOf s.now - x.tick
    (min c (x.tc + rateInc (fld v 63 32) * dt), min e (x.te + rateInc (fld v 31 0) * dt))
  | none => (c, e)

/-- Both buckets as a meter operation of this cycle sees them (R344). -/
def policerSeen (s : State) (p : Nat) : Nat × Nat :=
  match policerJustReset s p with
  | some x => x.before
  | none => policerNow s p

/-- Configuration count of a policer. -/
def policerConfig (s : State) (p : Nat) : Nat :=
  match s.sch.policers.find? fun x => x.row == p with
  | some x => x.config
  | none => 0

/-- The configuration that a debit of this cycle is taken under: a write of the same cycle comes after it (R287, R344). -/
def debitConfig (s : State) (p : Nat) : Nat :=
  policerConfig s p - (if (policerJustReset s p).isSome then 1 else 0)

/-- Writes a policer's record. -/
def putPolicer (x : Policer) (s : State) : State :=
  { s with sch := { s.sch with policers := x :: s.sch.policers.filter fun y => y.row ≠ x.row } }

/-- Sets both buckets now; a write of this cycle fills them after it. -/
def setPolicer (p tc te : Nat) (s : State) : State :=
  match policerJustReset s p with
  | some x => putPolicer { x with before := (tc, te), opsAt := 0, start := (0, 0), ops := [] } s
  | none => putPolicer { row := p, tc := tc, te := te, tick := tickOf s.now, config := policerConfig s p, resetAt := 0, before := (0, 0)
                         opsAt := 0, start := (0, 0), ops := [] } s

/-- The buckets before the first meter operation of the running 750 MHz cycle, and the operations of that cycle (R342). -/
def cycleOps (s : State) (p : Nat) : (Nat × Nat) × List (Nat × Nat × Nat × Nat) :=
  match s.sch.policers.find? fun x => x.row == p && x.opsAt == cycleOf s.now + 1 with
  | some x => (x.start, x.ops)
  | none => (policerSeen s p, [])

/-- Records the operations of the running cycle. -/
def noteOps (p : Nat) (start : Nat × Nat) (ops : List (Nat × Nat × Nat × Nat)) (s : State) : State :=
  { s with sch := { s.sch with policers := s.sch.policers.map fun x =>
      if x.row = p then { x with opsAt := cycleOf s.now + 1, start := start, ops := ops } else x } }

/-- Adds an operation behind those of its region and of the lower ones (R342). -/
def addOp (op : Nat × Nat × Nat × Nat) (ops : List (Nat × Nat × Nat × Nat)) : List (Nat × Nat × Nat × Nat) :=
  (ops.filter fun x => decide (x.1 ≤ op.1)) ++ op :: ops.filter fun x => decide (op.1 < x.1)

/-- The colour and the debits of the two buckets for `b` units (R341): 1 green, 2 yellow, 3 red. -/
def meter (v tc te b pre : Nat) : Nat × Nat × Nat :=
  let aware := bitAt v 125
  let pre := max 1 pre
  if !bitAt v 126 then
    if (aware && pre == 3) || decide (te < b) then (3, 0, 0)
    else if (aware && pre == 2) || decide (tc < b) then (2, 0, b)
    else (1, b, b)
  else if (!aware || pre == 1) && decide (tc ≥ b) then (1, b, 0)
  else if (!aware || pre != 3) && decide (te ≥ b) then (2, 0, b)
  else (3, 0, 0)

/-- The metering length B (R341). -/
def meterLen (v len : Nat) : Nat := ((len : Int) + rowOverhead v).toNat

/-- A policer row that a write may hold (R340). -/
def policerRowStatus (v : Nat) : Status :=
  if fld v 124 123 = 3 ∨ fld v 63 32 > 400000000 ∨ fld v 31 0 > 400000000 then .range
  else if bitAt v 127 && !bitAt v 126 && (decide (fld v 31 0 < fld v 63 32) || decide (fld v 87 64 < fld v 111 88)) then .range
  else .ok

/-- An accepted write fills both buckets (R344). -/
def policerWrite (p v : Nat) (s : State) : State :=
  let seen := policerSeen s p
  let ops := cycleOps s p
  putPolicer { opsAt := cycleOf s.now + 1, start := ops.1, ops := ops.2, row := p, tc := fld v 111 88 * 2 ^ 32, te := fld v 87 64 * 2 ^ 32, tick := tickOf s.now, config := policerConfig s p + 1
               resetAt := cycleOf s.now + 1, before := seen } (s.setRow Obj.POL_TABLE p v)

/-! ### Selection (R330, R331) -/

/-- The queue after `k` in a round: the next lower member, wrapping; members are in falling order. -/
def nextLower (qs : List Nat) (k : Nat) : Nat :=
  match qs.find? fun q => decide (q < k) with
  | some q => q
  | none => qs.headD k

/-- Deficit of a queue. -/
def deficit (s : State) (q : Nat) : Nat := stGet 0 s.sch.deficits q

/-- Sets a deficit. -/
def setDeficit (q v : Nat) (s : State) : State :=
  { s with sch := { s.sch with deficits := stSet 0 s.sch.deficits q v } }

/-- Writes a set's round-robin pointer. -/
def setPointer (set q : Nat) (fresh : Bool) (s : State) : State :=
  { s with sch := { s.sch with pointers := stSet 0 s.sch.pointers set (1 + 2 * q + b2n fresh) } }

/-- Marks a pointer whose queue has been made strict: the round goes on below it (R331). -/
def leftMark : Nat := 2 ^ 16

/-- A set's pointer and whether its visit is fresh; a pointer that names no member moves to the next lower one (R331). -/
def pointerOf (s : State) (set : Nat) (qs : List Nat) : Nat × Bool :=
  let v := stGet 0 s.sch.pointers set
  if v = 0 then (qs.headD 0, true)
  else
    let q := (v - 1) / 2
    if q ≥ leftMark then (nextLower qs (q - leftMark), true)
    else if qs.contains q then (q, v % 2 == 0) else (nextLower qs q, true)

/-- The round of R331; `cost` answers for a queue that is eligible and has a frame it may take, `n` bounds the visits. -/
def dwrrRound (set : Nat) (qs : List Nat) (cost : Nat → Option Nat) (quantum : Nat → Nat) (empty : Nat → Bool) :
    Nat → State → Option Nat × State
  | 0, s => (none, s)
  | n + 1, s =>
    let (k, fresh) := pointerOf s set qs
    let pass := setPointer set (nextLower qs k) true
    if empty k then dwrrRound set qs cost quantum empty n (pass (setDeficit k 0 s))
    else match cost k with
      | none => dwrrRound set qs cost quantum empty n (pass s)
      | some c =>
        let s := if fresh then setDeficit k (deficit s k + quantum k) s else s
        if c ≤ deficit s k then (some k, setPointer set k false (setDeficit k (deficit s k - c) s))
        else dwrrRound set qs cost quantum empty n (pass s)

/-- One selection over a set (R330, R331): queues in falling order. -/
def selectQueue (set : Nat) (qs : List Nat) (strict : Nat → Bool) (cost : Nat → Option Nat) (quantum : Nat → Nat)
    (empty : Nat → Bool) (s : State) : Option Nat × State :=
  match qs.find? fun q => strict q && (cost q).isSome with
  | some q => (some q, s)
  | none =>
    let ds := qs.filter fun q => !strict q
    if ds.any fun q => (cost q).isSome then dwrrRound set ds cost quantum empty 4096 s else (none, s)

/-! ### Latency observation (R353-R355) -/

/-- The bin of a value whose bin 1 starts at 2^base (R355). -/
def latBin (base v : Nat) : Nat := if v < 2 ^ base then 0 else min 15 (Nat.log2 v + 1 - base)

/-- Raises a maximum word of a row. -/
def maxRow (tbl r n w v : Nat) (s : State) : State :=
  let lo := 64 * (n - 1 - w)
  let old := s.row tbl r
  if fld old (lo + 63) lo < v then s.setRow tbl r (setFld old (lo + 63) lo v) else s

/-- Sets a word of a row. -/
def setRowWord (tbl r n w v : Nat) (s : State) : State :=
  let lo := 64 * (n - 1 - w)
  s.setRow tbl r (setFld (s.row tbl r) (lo + 63) lo v)

/-- A frame of `len` bytes departs from a queue (R354): counted, and its sojourn is sampled where its turn has come. -/
def departs (q len sojourn : Nat) (s : State) : State :=
  let s := queueCount q 5 len (queueCount q 4 1 s)
  let n := stGet 0 s.sch.departs q + 1
  let s := { s with sch := { s.sch with departs := stSet 0 s.sch.departs q n }
                    pwr := { s.pwr with quietSince := s.now, idleSince := s.now } }
  if n % 2 ^ fld (s.row Obj.LAT_CONFIG q) 4 0 = 0 then
    let s := s.bumpRow Obj.LAT_HISTOGRAMS q 34 (16 + latBin 7 sojourn)
    let s := maxRow Obj.LAT_HISTOGRAMS q 34 33 sojourn s
    setRowWord Obj.LAT_STATE q 5 2 sojourn (s.bumpRow Obj.LAT_STATE q 5 4)
  else s

/-- A queued frame departs (R354). -/
def departed (q : QFrame) (sojourn : Nat) (s : State) : State := departs q.queue (depthOf q) sojourn s

/-- The sojourn of a frame that departs now, in ns. -/
def sojournNow (s : State) (q : QFrame) : Nat := (s.now - q.at0) / tickNs

/-- R353: samples every queue. -/
def depthSample (s : State) : State :=
  (List.range 2112).foldl (fun s q =>
    let d := queueDepth s q
    let s := s.bumpRow Obj.LAT_HISTOGRAMS q 34 (latBin 8 d)
    (maxRow Obj.LAT_HISTOGRAMS q 34 32 d s).bumpRow Obj.LAT_STATE q 5 3) s

def execDepthSample (t : Nat) (s : State) : Host.Outcome State Fault Refusal :=
  done t s fun s => if s.running then depthSample s else s

/-! ### Writes of the queue and class rows (R329, R331) -/

/-- A row of Table 09-2 that a write may hold. -/
def queueRowStatus (v : Nat) : Status :=
  if fld v 62 47 < 64 ∨ fld v 46 25 < 16 ∨ fld v 24 3 < 16 then .range else .ok

/-- A row of Table 09-3 that a write may hold. -/
def classRowStatus (v : Nat) : Status :=
  if fld v 61 46 < 64 ∨ fld v 31 16 < 16 ∨ fld v 15 0 < 16 ∨ fld v 45 32 < 64 ∨ fld v 45 32 > 16000 then .range else .ok

/-- A pointer that has stood since boot names the highest member of its round (R331); a round without members has none to
name (DESIGN CHOICE, log entry 187). -/
def fixPointer (set : Nat) (members : List Nat) (s : State) : State :=
  match members with
  | q :: _ => if stGet 0 s.sch.pointers set = 0 then setPointer set q true s else s
  | [] => s

/-- A queue that becomes strict leaves the round with a deficit of 0, and a pointer that names it moves on; one that
leaves the strict set joins the round with a deficit of 0 (R331). `sets` are the rounds that it may stand in, each with its
members before the change in falling order. -/
def strictChange (q : Nat) (sets : List (Nat × List Nat)) (old new : Nat) (s : State) : State :=
  let s := sets.foldl (fun s k => fixPointer k.1 k.2 s) s
  if bitAt old 63 = bitAt new 63 then s
  else
    let s := setDeficit q 0 s
    if bitAt new 63 then
      sets.foldl (fun s k =>
        let v := stGet 0 s.sch.pointers k.1
        if v > 0 ∧ (v - 1) / 2 = q then setPointer k.1 (q + leftMark) true s else s) s
    else s

/-- The DWRR queues of an allocation, in falling order (R330). -/
def allocRound (s : State) (a : Nat) : List Nat :=
  ([7, 6, 5, 4, 3, 2, 1, 0].map fun k => 8 * a + k).filter fun q => !bitAt (s.row Obj.SCH_QUEUE_TABLE q) 63

/-- A write of a queue row acts on the next selection of its allocation (R329, R331). -/
def queueRowWrite (q v : Nat) (s : State) : State :=
  strictChange q [(q / 8, allocRound s (q / 8))] (s.row Obj.SCH_QUEUE_TABLE q) v (s.setRow Obj.SCH_QUEUE_TABLE q v)

/-- A write of a class row acts on the first selection of a later tick (R329, R333). -/
def classRowWrite (r v : Nat) (s : State) : State :=
  let old := s.row Obj.SCH_CLASS_TABLE r
  let s := { s with sch := { s.sch with rowChanges := s.sch.rowChanges ++ [(tickOf s.now, r, old, v)] } }
  s.setRow Obj.SCH_CLASS_TABLE r v

/-- The DWRR classes of a port's round, in falling order; with preemption, one round for the express classes and one for
the others (R334). -/
def classRound (s : State) (p : Fin 8) (express : Bool) : List Nat :=
  ([7, 6, 5, 4, 3, 2, 1, 0].filter fun c => !bitAt (classRow s p c) 63 &&
    (if preemptActive s p || express then classExpress s p c == express else true)).map fun c => 2048 + 8 * p.val + c

/-- The first recorded write of a class row takes effect. -/
def takeRowChange (x : Nat × Nat × Nat × Nat) (s : State) : State :=
  let p : Fin 8 := Fin.ofNat 8 (x.2.1 / 8)
  let sets := [(256 + 2 * p.val, classRound s p false), (257 + 2 * p.val, classRound s p true)]
  let s := strictChange (2048 + x.2.1) sets x.2.2.1 x.2.2.2 s
  { s with sch := { s.sch with rowChanges := s.sch.rowChanges.drop 1 } }

/-- The writes of class rows of earlier ticks take effect before a selection (R333). -/
def settleRows (s : State) : State :=
  (s.sch.rowChanges.filter fun x => decide (x.1 < tickOf s.now)).foldl (fun s x => takeRowChange x s) s

end Sys2Proof.Machine
end

