-- ==== Sys2Proof/Machine/Egress.lean ====
section
/-! DEFINITION. What a MAC sends of a frame: corrections of PTP messages, padding and the FCS (R374, R377, R444-R446). -/
namespace Sys2Proof.Machine

/-! ### What the MAC sends (R374, R444-R446) -/

/-- An instant's advance of device time over an earlier one, steps left out, in 2^-16 ns (R444). -/
def devDiff (s : State) (a b : Nat) : Int :=
  let r := s.time.doms[s.time.selected].clk.rate
  let u : Int := ((b : Int) - (a : Int)) * (1000000000 * (2 ^ 40 : Nat) + r * (2 ^ 24 : Nat)) / (7776000 * 1000000000 : Nat)
  (u + (s.deltaAtTime b - s.deltaAtTime a)) / (2 ^ 24 : Nat)

/-- One's complement sum of the 16-bit words of a byte string. -/
def wordSum : Bytes → Nat
  | a :: b :: rest => a.toNat * 256 + b.toNat + wordSum rest
  | [a] => a.toNat * 256
  | [] => 0

/-- Folds a sum to 16 bits. -/
def fold16 (n : Nat) : Nat := if n = 0 then 0 else (n - 1) % 65535 + 1

/-- Replaces `new.length` bytes at an offset. -/
def putAt (d : Bytes) (off : Nat) (new : Bytes) : Bytes := d.take off ++ new ++ d.drop (off + new.length)

/-- Writes a field of a PTP message; a nonzero UDP checksum is updated incrementally (R445). -/
def putPtp (udp : Option Nat) (off : Nat) (new d : Bytes) : Bytes :=
  let old := (d.drop off).take new.length
  let e := putAt d off new
  match udp with
  | some u =>
    let c := beAt d (u + 6) 2
    if c = 0 then e
    else
      let sum := fold16 (65535 - c + (new.length / 2 * 65535 - wordSum old) + wordSum new)
      let c' := 65535 - sum
      putAt e (u + 6) (beBytes 2 (if c' = 0 then 65535 else c'))
  | none => e

/-- Adds to the correctionField of a PTP message (R444). -/
def addCorrection (ptp : Nat) (udp : Option Nat) (n : Int) (d : Bytes) : Bytes :=
  putPtp udp (ptp + 8) (beBytes 8 (ofS 64 ((beAt d (ptp + 8) 8 : Int) + n))) d

/-- The frame is a PTP event message whose residence the port adds (R444). -/
def tcApplies (s : State) (p : Fin 8) (q : QFrame) : Bool :=
  q.fromPort && q.oneStep == 0 && q.ptpOff.isSome && s.flag Obj.TIME_TC_ENABLE (sub p)

/-- The bytes of a frame as sent, before padding (R444-R446); `stamp` is the instant of the egress stamp. -/
def stamped (s : State) (p : Fin 8) (q : QFrame) (stamp : Nat) : Bytes :=
  match q.ptpOff with
  | none => q.data
  | some o =>
    if tcApplies s p q then addCorrection o q.udpOff (devDiff s q.ingress stamp) q.data
    else if q.oneStep = 1 then
      let v := s.stampOf stamp
      let d := putPtp q.udpOff (o + 34) (beBytes 6 (v / 2 ^ 46) ++ beBytes 4 (v / 2 ^ 16 % 2 ^ 30)) q.data
      putPtp q.udpOff (o + 8) (beBytes 8 (v % 2 ^ 16)) d
    else if q.oneStep ≥ 2 then
      let u : Int := ((s.devTimeAt stamp / 2 ^ 24 : Nat) : Int)
      addCorrection o q.udpOff (u - ((q.oneStep - 2 : Nat) : Int)) q.data
    else q.data

/-- Padding to 60 bytes and the FCS (R374). -/
def padFcs (d : Bytes) : Bytes :=
  let p := d ++ zeros (60 - d.length)
  p ++ (beBytes 4 (crc32Eth p)).reverse

/-- The bytes of a stomped frame: those that were sent, with the complement of their FCS (R377). Bytes that no command has handed
to the model are free. -/
def stompedBytes (fid n : Nat) (d : Bytes) : Bytes :=
  let p := (List.range n).map fun i => (d[i]?).getD (Config.unseenByte fid i)
  p ++ ((beBytes 4 (crc32Eth p)).reverse.map fun b => ~~~b)

end Sys2Proof.Machine
end

