-- ==== Sys2Proof/Machine/CaptureOps.lean ====
section
/-! DEFINITION. The capture ring (R482, R575-R577). -/
namespace Sys2Proof.Machine

/-- Bytes of the ring (R577). -/
def capBytes : Nat := 2 ^ 30

/-- Rounds up to 64 bytes. -/
def up64 (n : Nat) : Nat := (n + 63) / 64 * 64

/-- A held record overlaps the bytes `a .. b-1` of the ring. -/
def capOverlaps (a b : Nat) (r : CapRec) : Bool := decide (r.off < b) && decide (a < r.off + up64 r.bytes.length)

/-- The 48-byte header of Table 16-11; `cause` is 0 for a commit. -/
def capHeader (s : State) (f : Frame) (recNo recLen : Nat) (sealed snapped beyond : Bool) (cause : Nat) : Bytes :=
  let word0 := recNo * 2 ^ 64 + (if sealed then s.flash.epoch else 0) * 2 ^ 32 + recLen * 2 ^ 16 + b2n sealed * 2 ^ 15 +
    b2n snapped * 2 ^ 14 + b2n beyond * 2 ^ 13 + b2n f.uncal * 2 ^ 12
  let rest := s.stampOf f.stamp * 2 ^ 160 + f.inPort * 2 ^ 156 + f.pass * 2 ^ 154 + actDest f.action * 2 ^ 151 +
    cause * 2 ^ 147 + f.region * 2 ^ 144 + f.data.length * 2 ^ 128 + f.rule * 2 ^ 112 + f.flow * 2 ^ 96 + f.hash * 2 ^ 64
  beBytes 16 word0 ++ beBytes 32 rest

/-- The copies that the capture writer holds (R575). -/
def capHolds : Nat := 256

/-- A copy that is not captured: one that finds the writer full is cause 1, one that cannot be sealed cause 2 (R482, R575,
Table 16-9). -/
def capDrop (cause : Nat) (s : State) : State :=
  (s.bump Obj.CAP_DROPS).evOnce Ev.CAP_DROP 0 [cause]

/-- One frame becomes a capture record (R575-R577). Its place in the ring is fixed as it is copied, and it leaves the writer at a
grant (log entry 204). -/
def capture (f : Frame) (beyond : Bool) (cause : Nat) (s : State) : State :=
  if !s.flag Obj.CAP_ENABLE then s
  else if s.cap.held ≥ capHolds then capDrop 1 s
  else
    let enc := s.flag Obj.CIPH_CAPTURE_ENCRYPT
    if enc && (s.ciph.slots[slotIdx 242].st != .valid || decide (s.flash.epoch ≥ 2 ^ 32)) then
      capDrop 2 (s.bump Obj.CIPH_JOB_ERRORS)
    else
      let snap := s.obj Obj.CAP_SNAP_LEN
      let d := f.data.take snap
      let padded := d ++ zeros ((16 - d.length % 16) % 16)
      let len := 48 + padded.length + (if enc then 16 else 0)
      let no := s.cap.nextNo
      let h := capHeader s f no len enc (decide (f.data.length > snap)) beyond cause
      let bytes := if enc then
          let (ct, tag) := gcmSeal (slotKey s (slotIdx 242)) (beBytes 4 s.flash.epoch ++ beBytes 8 no) (h.take 16) (h.drop 16 ++ padded)
          h.take 16 ++ ct ++ tag
        else h ++ padded
      let wraps := decide (s.cap.nextOff + len > capBytes)
      let off := if wraps then 0 else s.cap.nextOff
      let hit := fun (r : CapRec) => capOverlaps off (off + up64 len) r || (wraps && capOverlaps s.cap.nextOff capBytes r)
      let unread := s.cap.ring.any fun r => hit r && decide (r.recNo ≥ s.obj Obj.CAP_READ_FROM)
      if s.obj Obj.CAP_MODE = 1 ∧ (unread ∨ s.cap.stopped) then
        let s := if s.cap.stopped then s else State.ev { s with cap := { s.cap with stopped := true } } Ev.CAP_FULL [1]
        s.bump Obj.CAP_DROPS
      else
        let ring := (s.cap.ring.filter fun r => !hit r) ++ [{ recNo := no, off := off, bytes := bytes }]
        State.bump { s with cap := { ring := ring, nextNo := no + 1, nextOff := (off + up64 len) % capBytes, stopped := false, held := s.cap.held + 1 } }
          Obj.CAP_RECORDS

/-- Sets `CAP_READ_FROM`; a capture that has stopped resumes when it advances (R577). -/
def capReadFrom (v : Nat) (s : State) : State :=
  let up := decide (v > s.obj Obj.CAP_READ_FROM)
  let s := s.setObj Obj.CAP_READ_FROM 0 v
  if up then { s with cap := { s.cap with stopped := false } } else s

/-- `CAP_CLEAR` (R577). -/
def capClear (v : Nat) (s : State) : State :=
  if v ≠ 1 then s.answer .range
  else
    let s := { s with cap := { s.cap with ring := [], nextOff := 0, stopped := false } }
    (s.ev Ev.CAP_FULL [0]).answer .ok

def execCapClear (t v : Nat) (s : State) : Host.Outcome State Fault Refusal :=
  done t s fun s => s.hostWrite (capClear v)

end Sys2Proof.Machine
end

