-- ==== Sys2Proof/Machine/EngineOps.lean ====
section
/-! DEFINITION. Contexts, quotas, wait queues, late checks, undo and the sack hoist (R241, R243, R264, R273-R290). -/
namespace Sys2Proof.Machine

/-! ### Contexts and quotas (R273-R279) -/

/-- The frame holds a context (Table 07-1). -/
def holdsCtx (f : Frame) : Bool :=
  match f.stage with
  | .parsing | .lookup | .program | .awaiting | .ready => true
  | _ => false

/-- The pass's program is still running. -/
def ctxRunning (f : Frame) : Bool :=
  match f.stage with
  | .parsing | .lookup | .program => true
  | _ => false

/-- The frame waits for a context outside the sack hoist. -/
def ctxWaits (f : Frame) : Bool :=
  match f.stage with
  | .waiting | .noBuffer => true
  | _ => false

/-- Contexts that a source holds. -/
def inUse (s : State) (src : Nat) : Nat := (s.frames.filter fun f => holdsCtx f && f.src == src).length
/-- Contexts not Free (`CTX_IN_USE`). -/
def allInUse (s : State) : Nat := (s.frames.filter holdsCtx).length
/-- Frames in a source's wait queue. -/
def waitingOf (s : State) (src : Nat) : Nat := (s.frames.filter fun f => ctxWaits f && f.src == src).length
/-- Contexts that a cluster holds. -/
def clusterUse (s : State) (c : Nat) : Nat := (s.frames.filter fun f => holdsCtx f && f.cluster == c).length
/-- Contexts that an engine holds. -/
def engineUse (s : State) (c e : Nat) : Nat :=
  (s.frames.filter fun f => holdsCtx f && f.cluster == c && f.engine == e).length

/-- `QUOTA` of a source (Table 07-6). -/
def quota (s : State) (src : Nat) : Nat := fld (s.row Obj.CTX_SOURCE_TABLE src) 63 52
/-- `WAIT_LIMIT` of a source (Table 07-6). -/
def waitLimit (s : State) (src : Nat) : Nat := fld (s.row Obj.CTX_SOURCE_TABLE src) 51 38

/-- The active clusters. -/
def activeClusters (s : State) : List (Fin 64) := (fins 64).filter fun c => s.pwr.clusters[c] == .active

/-- A of R277: Free contexts in active clusters. -/
def freeContexts (s : State) : Nat := (activeClusters s).foldl (fun n c => n + (64 - clusterUse s c.val)) 0
/-- U of R277: quota not in use. -/
def unusedReserve (s : State) : Nat := (List.range 80).foldl (fun n r => n + (quota s r - inUse s r)) 0
/-- `CTX_SHARED_FREE`. -/
def sharedFree (s : State) : Nat := freeContexts s - unusedReserve s

/-- The sum of all quotas (R278). -/
def quotaSum (s : State) : Nat := (List.range 80).foldl (fun n r => n + quota s r) 0

/-- Counts the 375 MHz cycles of a shortfall up to now (R278). -/
def quotaSettle (s : State) : State :=
  if s.quotaShort then
    let n := tickOf s.now - tickOf s.quotaShortAt
    { s.bump Obj.CTX_QUOTA_SHORT_CYCLES 0 n with quotaShortAt := s.now }
  else s

/-- Judges the shortfall after a change of quotas or clusters (R278). -/
def quotaCheck (s : State) : State :=
  let s := quotaSettle s
  let n := 64 * (activeClusters s).length
  let short := decide (n < quotaSum s + 1)
  let s1 := if short && !s.quotaShort then s.ev Ev.CTX_QUOTA_SHORT [n, quotaSum s] else s
  { s1 with quotaShort := short, quotaShortAt := s.now }

/-- The member with the largest value, the first on a tie. -/
def argMax (f : Nat → Nat) : List Nat → Option Nat
  | [] => none
  | x :: xs => match argMax f xs with
    | some y => if f y > f x then some y else some x
    | none => some x

/-- The dispatcher's choice in a region (R19): cluster and engine with the most free threads. -/
def pickThread (s : State) (region : Nat) : Option (Nat × Nat) :=
  let cs := ((activeClusters s).map Fin.val).filter fun c => c / 8 == region && decide (clusterUse s c < 64)
  match argMax (fun c => 64 - clusterUse s c) cs with
  | some c => (argMax (fun e => 8 - engineUse s c e) (List.range 8)).map fun e => (c, e)
  | none => none

/-- A frame of a source may take a Free context of a region (R277). -/
def mayTake (s : State) (src region : Nat) : Bool :=
  (pickThread s region).isSome && (decide (inUse s src < quota s src) || decide (freeContexts s > unusedReserve s))

/-- Adds to a word of a source's counters (Table 07-7). -/
def sourceCount (src w n : Nat) (s : State) : State := s.bumpRow Obj.CTX_SOURCE_COUNTERS src 8 w n

/-- Parsing configuration now (R238). -/
def parseCfg (s : State) : ParseCfg :=
  { tpidAlt := s.obj Obj.PARSE_TPID_ALT, ecpriPort := s.obj Obj.PARSE_ECPRI_UDP_PORT, vdpType := s.obj Obj.FB_ETHERTYPE }

/-- `LC_MODE` of an ingress port (R241). -/
def lcMode (s : State) (inPort : Nat) : Nat := s.obj Obj.LC_MODE (inPort + 1)

/-- A frame takes a context, and its pass begins (R274, R280). -/
def takeContext (fid : Nat) (s : State) : State :=
  match s.frame? fid with
  | none => s
  | some f =>
    match pickThread s f.region with
    | none => s
    | some (c, e) =>
      let s := if f.stage = .hoist then frameTo fid 13 s else s
      let f := (s.frame? fid).getD f
      let again := decide (f.pass > 0)
      let g := if again then parseFrame (lcMode s f.inPort) { f with cfg := parseCfg s } else f
      let s := s.modFrame fid fun _ => { g with stage := .parsing, ctxAt := s.now, cluster := c, engine := e }
      let s := sourceCount f.src 0 1 s
      let s := s.bumpRow Obj.ENG_CLUSTER_COUNTERS c 3 0
      let s := if f.since = 0 then s else maxRow Obj.CTX_SOURCE_COUNTERS f.src 8 7 ((s.now - f.since) / tickNs) s
      s.setObj Obj.CTX_MAX_IN_USE 0 (max (s.obj Obj.CTX_MAX_IN_USE) (allInUse s))

/-- Nothing more comes of the frame: neither bytes nor, for a host frame, its FCS verdict. -/
def frameOver (f : Frame) : Bool := f.cut || (f.complete && (decide (f.src ≥ 8) || f.fcs.isSome))

/-- A frame that will take no context leaves without a place in retirement order (R279); the rest of one that is still
arriving is discarded. -/
def dropFrame (fid : Nat) (s : State) : State :=
  match s.frame? fid with
  | none => s
  | some f =>
    if frameOver f then removeFrame fid s
    else
      let s := releaseHandles f.owner f.handles (dropAsks fid s)
      s.modFrame fid fun x => { x with stage := .orphan, handles := [], asking := false, order := none, generation := 2 }

/-- A wait drop (1) or a buffer drop (2) of R279. -/
def waitDrop (fid src cause : Nat) (s : State) : State :=
  let s := { s with pwr := { s.pwr with idleSince := s.now } }
  dropFrame fid ((sourceCount src (2 + cause) 1 s).evOnce Ev.CTX_WAIT_DROP src [src, cause])

/-- The earliest waiting frame of a list. -/
def earliest : List Frame → Option Frame
  | [] => none
  | f :: fs => match earliest fs with
    | some g => if g.since < f.since then some g else some f
    | none => some f

/-- The heads that wait in a region: the oldest of each source, and of the sack-hoist queue (R276, R279). A head whose
buffer is still being decided keeps those behind it waiting. -/
def regionHeads (s : State) (r : Nat) : List Frame :=
  (List.range 80).filterMap fun src =>
    (earliest (s.frames.filter fun f => f.region == r && f.src == src && (ctxWaits f || f.stage == .hoist))).filter fun f =>
      f.stage != .noBuffer

/-! ### Late checks (Table 07-3) -/

/-- A check other than the length re-entry has failed: the lowest cause (R284). -/
def failedCause (f : Frame) : Option Nat :=
  if f.fcs = some false then some 1
  else if f.fecBad then some 2
  else if f.tagBad then some 3
  else if f.endBad then some 4
  else if f.truncated then some 6
  else none

/-- The checks still open, one bit per cause code. A promotion whose request is being decided may still truncate the frame
(R303). -/
def openChecks (f : Frame) : Nat :=
  if f.pass > 0 then 0
  else
    let host := f.src < 8
    let pon := f.ponCh.isSome
    (if host && f.fcs.isNone then 2 else 0) + (if pon && !f.complete then 4 else 0) +
      (if decide (f.tagsOpen > 0) || (pon && f.encrypted && !f.complete) then 8 else 0) +
      (if !f.complete && !f.ends.isEmpty then 16 else 0) + (if !f.complete || f.asking then 64 else 0)

/-- The open checks as `CTX_TIMEOUT` shows them: an End check under `LC_MODE` 1 is cause 5 (Table 07-3, Table 07-8). -/
def openBits (s : State) (f : Frame) : Nat :=
  openChecks f + (if lcMode s f.inPort = 1 ∧ bitAt (openChecks f) 4 then 16 else 0)

/-! ### What a pass leaves at its end (R271, R287) -/

/-- The parser counters of a pass, counted once at its commit or undo (R271, R272). -/
def parserCounters (f : Frame) (s : State) : State :=
  let p := f.inPort + 1
  let s := if bitAt f.key 633 then s.bump Obj.PARSE_TRUNCATED_COUNT p else s
  let s := f.conflicts.foldl (fun s c =>
    (s.bump Obj.LENGTH_CONFLICTS p).evOnce Ev.LENGTH_CONFLICT 0 [f.inPort, c.1, c.2]) s
  let s := if f.lcDrop then s.bump Obj.LENGTH_CONFLICT_DROPS p else s
  if f.miss then s.bump Obj.RULE_MISSES p else s

/-- The busy thread-cycles of a context that frees now. -/
def freeThread (f : Frame) (s : State) : State :=
  State.bumpRow { s with pwr := { s.pwr with idleSince := s.now } } Obj.ENG_CLUSTER_COUNTERS f.cluster 3 1 ((s.now - f.ctxAt) / tickCore)

/-- A tentative debit is credited back, unless its policer was written since (R287, R341, R344). -/
def creditBack (f : Frame) (s : State) : State :=
  match f.debit with
  | none => s
  | some (p, dc, de, cfg) =>
    if dc = 0 ∧ de = 0 then s
    else if policerConfig s p = cfg then
      let v := s.row Obj.POL_TABLE p
      let (c, e) := policerNow s p
      (setPolicer p (min (fld v 111 88 * 2 ^ 32) (c + dc)) (min (fld v 87 64 * 2 ^ 32) (e + de)) s).bump Obj.CTX_POLICER_CREDITS
    else s.bump Obj.CTX_POLICER_CREDITS_LOST

/-- `CTX_LAST_UNDO` (Table 07-7). -/
def lastUndo (s : State) (f : Frame) (cause : Nat) : Bytes :=
  beBytes 1 f.src ++ beBytes 1 cause ++ beBytes 1 f.pass ++ zeros 1 ++ beBytes 4 f.data.length ++ beBytes 1 f.region ++
    beBytes 1 f.cluster ++ beBytes 2 (8 * f.cluster + f.engine) ++ zeros 4 ++ beBytes 10 (time80 s.devTime) ++ zeros 6

/-- Counts an undo under its cause (R282, R295, R296). -/
def countUndo (f : Frame) (cause : Nat) (s : State) : State :=
  let s := sourceCount f.src 2 1 s
  let s := s.bumpRow Obj.CTX_UNDO_COUNTERS f.src 9 (cause - 1)
  let s := if cause = 8 then
      (s.bumpRow Obj.ENG_CLUSTER_COUNTERS f.cluster 3 2).evOnce Ev.CTX_PROGRAM_LIMIT f.src
        [f.src, f.cluster, 8 * f.cluster + f.engine]
    else if cause = 7 then s.evOnce Ev.CTX_TIMEOUT f.src [f.src, openBits s f]
    else s
  let s := if cause = 4 ∧ !f.lcDrop then s.bump Obj.LENGTH_CONFLICT_DROPS (f.inPort + 1) else s
  { s with lastUndo := lastUndo s f cause, undoneNow := some (f, s.now / (2 * tickCore), cause) }

/-- A lower cause is decided in the 750 MHz cycle in which the frame was undone: the undo is recorded under it (R284). What
has been logged under the first cause stays (log entry 175). -/
def recause (fid cause : Nat) (s : State) : State :=
  match s.undoneNow with
  | some (f, cycle, old) =>
    if f.fid = fid ∧ cycle = s.now / (2 * tickCore) ∧ cause < old then
      let row := s.row Obj.CTX_UNDO_COUNTERS f.src
      let lo := fun (c : Nat) => 64 * (9 - c)
      let word := fun (c : Nat) => fld row (lo c + 63) (lo c)
      let put := fun (c n row : Nat) => setFld row (lo c + 63) (lo c) n
      let s := s.setRow Obj.CTX_UNDO_COUNTERS f.src (put cause (word cause + 1) (put old (word old - 1) row))
      { s with lastUndo := lastUndo s f cause, undoneNow := some (f, cycle, cause) }
    else s
  | none => s

/-- The stomp of a cut-through frame (R292): its buffers go to the class owner, which frees them when the stomp ends; the MAC
logs `CTX_STOMP` once it has ended the frame (Table 07-5), at once where it has ended it already. An underrun of the same
375 MHz cycle is no underrun (R378). -/
def stompFrame (f : Frame) (cls cause : Nat) (s : State) : State :=
  let p : Fin 8 := ⟨cls / 8 % 8, Nat.mod_lt _ (by decide)⟩
  let s := f.handles.foldl (fun s h => handOver h f.owner (96 + cls) s) s
  let s := sourceCount f.src 6 1 s
  match txOf s p f.fid with
  | some _ => s.modTx p f.fid fun x =>
    { x with stomp := if x.stomp = 0 ∨ tickOf x.stompAt = tickOf s.now then 1 else x.stomp
             stompAt := if x.stomp = 0 then s.now else x.stompAt
             undoOf := some (f.src, cause), len := egressLen f.data.length
             frame := { x.frame with data := f.data, handles := f.handles } }
  | none => releaseHandles (96 + cls) f.handles (s.evOnce Ev.CTX_STOMP f.src [f.src, p.val, cause])

/-- The frame of an undone pass leaves: buffers freed or handed to the class owner, the rest discarded as it comes
(R283, R287, R289). -/
def discardFrame (f : Frame) (cause : Nat) (s : State) : State :=
  let s := match f.ct with
    | some cls =>
      let s := stompFrame f cls cause s
      s.modFrame f.fid fun x => { x with handles := [] }
    | none => s
  dropFrame f.fid (s.modFrame f.fid fun x => { x with undone := true })

/-- A pass is undone (R282-R290). -/
def undo (fid cause : Nat) (s : State) : State :=
  match s.frame? fid with
  | none => s
  | some f =>
    let s := creditBack f (freeThread f (parserCounters f (countUndo f cause s)))
    let s := if f.oversize && cause == 6 && bitAt f.action 57 then capture f true 6 s else s
    discardFrame f cause s

/-- The length re-entry (R241, R243): the pass is undone with cause 5 and the frame goes round as a layer-2 pass. -/
def lengthReentry (f : Frame) (s : State) : State :=
  let s := creditBack f (freeThread f (parserCounters f (countUndo f 5 s)))
  if f.pass + 1 ≥ f.maxPasses then discardFrame f 5 (recircDrop 1 f.region s)
  else if f.ct.isSome then discardFrame f 5 s
  else askHoist f.fid f.region f.rmeta true s

/-- Judges the checks of a pass after a change (R282, R284): undo, re-entry, or Ready. -/
def settle (fid : Nat) (s : State) : State :=
  match s.frame? fid with
  | none => s
  | some f =>
    -- A Ready context leaves only by its commit (Table 07-1).
    if !holdsCtx f || f.stage == .ready then s
    else match failedCause f with
      | some c => undo fid c s
      | none =>
        if f.reentry then (if openChecks f = 0 then lengthReentry f s else s)
        else if f.stage = .awaiting ∧ openChecks f = 0 then s.modFrame fid fun x => { x with stage := .ready }
        else s

/-- A frame takes a context; a check that has failed before undoes the pass at once. -/
def enterContext (fid : Nat) (s : State) : State := settle fid (takeContext fid s)

/-- A frame whose window is complete seeks a context (R277, R279). -/
def seekContext (fid : Nat) (s : State) : State :=
  match s.frame? fid with
  | none => s
  | some f =>
    if f.handles.isEmpty then
      if f.stage = .noBuffer then s
      else if waitingOf s f.src ≥ waitLimit s f.src then waitDrop fid f.src 1 s
      else s.modFrame fid fun x => { x with stage := .noBuffer, since := s.now }
    else
      let behind := s.frames.any fun g => g.fid != fid && ctxWaits g && g.src == f.src && g.region == f.region &&
        (f.stage != .noBuffer || decide (g.since < f.since) || (g.since == f.since && decide (g.fid < f.fid)))
      if !behind && mayTake s f.src f.region then enterContext fid s
      else if f.stage = .noBuffer then s.modFrame fid fun x => { x with stage := .waiting }
      else if waitingOf s f.src ≥ waitLimit s f.src then waitDrop fid f.src 1 s
      else s.modFrame fid fun x => { x with stage := .waiting, since := s.now }

/-- R279: a context frees, and the oldest eligible head takes it. -/
def contextAssign (region : Fin 8) (s : State) : State :=
  match earliest ((regionHeads s region.val).filter fun f => mayTake s f.src region.val) with
  | some f => enterContext f.fid s
  | none => s

/-- The End checks at the last byte (R240, R241). -/
def decideEnds (fid : Nat) (s : State) : State :=
  match s.frame? fid with
  | none => s
  | some f =>
    let bad := endsFailed f.ends f.data.length
    let s := s.modFrame fid fun x => { x with ends := [], conflicts := x.conflicts ++ bad.map fun c => (c, 2) }
    if bad.isEmpty then s
    else if lcMode s f.inPort = 0 then s.modFrame fid fun x => { x with endBad := true }
    else s.modFrame fid fun x => { x with reentry := true }

/-- Performs the meter operations of a cycle in order: the buckets they leave; each frame takes its colour and debit (R341,
R342). -/
def runOps (p v : Nat) (bk : Nat × Nat) (ops : List (Nat × Nat × Nat × Nat)) (s : State) : (Nat × Nat) × State :=
  ops.foldl (fun x op =>
    let (col, dc, de) := meter v x.1.1 x.1.2 (op.2.2.1 * 2 ^ 32) op.2.2.2
    ((x.1.1 - dc, x.1.2 - de), x.2.modFrame op.2.1 fun f =>
      { f with passColour := some (col, op.2.2.1), debit := some (p, dc, de, debitConfig s p) })) (bk, s)

/-- Metering of a `POLICE` action once the length is known (R281, R341-R343). Operations of one 750 MHz cycle are done lower
region first: the earlier ones of the cycle are done again behind a lower region's (R342). -/
def meterFrame (fid : Nat) (s : State) : State :=
  match s.frame? fid with
  | none => s
  | some f =>
    let p := fld f.action 86 75
    let v := s.row Obj.POL_TABLE p
    if !bitAt f.action 87 || !bitAt v 127 || f.passColour.isSome then s
    else
      let b := meterLen v f.data.length
      let (start, done) := cycleOps s p
      let ops := addOp (f.region, fid, b, fld f.action 74 73) done
      let r := runOps p v start ops s
      noteOps p start ops (setPolicer p r.1.1 r.1.2 r.2)

/-- The program has ended: the frame is metered if complete, then awaits its checks (R274, R281). -/
def programDone (fid : Nat) (s : State) : State :=
  let s := s.modFrame fid fun f => { f with stage := .awaiting }
  let s := match s.frame? fid with
    | some f => if f.complete then meterFrame fid s else s
    | none => s
  settle fid s

/-- The last byte of a frame has arrived. -/
def frameComplete (fid : Nat) (s : State) : State :=
  let s := s.modFrame fid fun f => { f with complete := true }
  let s := match s.frame? fid with
    | some f => if f.stage = .awaiting then meterFrame fid s else s
    | none => s
  settle fid (decideEnds fid s)

/-- Cause 6 comes to hold (R282, R283): a frame without a context is marked and undone once it takes one. -/
def truncateFrame (fid : Nat) (s : State) : State :=
  settle fid (recause fid 6 (s.modFrame fid fun f => { f with truncated := true }))

/-- The framer or the reorder discards what is left of a frame (R70, R106, R222): it is truncated and nothing more of it
comes. A frame that was never handed to the engines leaves at once, unless the reorder has it. -/
def cutFrame (fid : Nat) (s : State) : State :=
  let s := truncateFrame fid (s.modFrame fid fun f => { f with cut := true })
  match s.frame? fid with
  | some f =>
    let atReorder := s.bond.presented.any (fun p => p.1 == fid) ||
      s.bond.groups.toList.any fun g => g.held.any fun h => h.fid == fid
    if f.stage = .orphan ∨ (f.stage = .arriving ∧ !f.ready ∧ !atReorder) then removeFrame fid s else s
  | none => s

/-- Journal entries that a pass needs (R286, R287): one for each effect of its record and those of the image. -/
def journalSize (f : Frame) : Nat :=
  let a := f.action
  let n := [bitAt a 72, bitAt a 87, bitAt a 57, bitAt a 56, bitAt a 94, decide (fld a 55 53 ≠ 0), f.emRow.isSome || f.learn.isSome,
    decide (actDest a ≠ 0)].foldl (fun n b => n + b2n b) 2
  n + f.info / 2 ^ 112

end Sys2Proof.Machine
end

