-- ==== Sys2Proof/Machine/Engines.lean ====
section
/-! DEFINITION. The passes of frames: windows, lookups, checks, undo, commit and cut-through (R236-R293, R335). -/
namespace Sys2Proof.Machine

/-! ### Arrivals (R236, R279, R301) -/

/-- A frame with nothing known of it yet. -/
def Frame.blank (fid src inPort : Nat) : Frame :=
  { fid := fid, src := src, inPort := inPort, data := [], complete := false, stamp := 0, uncal := false, flow := 0,
    flowTag := 0, ponCh := none, bonded := false, encrypted := false, known := 0, fecBad := false, truncated := false, tagsOpen := 0,
    cut := false, undone := false, cfg := { tpidAlt := 0, ecpriPort := 0, vdpType := 0 },
    tagBad := false, fcs := none, oversize := false, express := false, ready := false, stage := .arriving,
    order := none, since := 0, ctxAt := 0, cluster := 0, engine := 0, pass := 0, maxPasses := 0, generation := 2, askFrom := 0,
    region := 0, hash := 0, key := 0, desc := [], ptp := none, ends := [], conflicts := [], lcDrop := false,
    endBad := false, l2 := false, reentry := false, miss := false, rmeta := 0, info := 0, rule := 0xFFFF, action := 0,
    emWait := none, emRow := none, learn := none, colour := 1, passColour := none, debit := none, marked := false,
    handles := [], owner := src, asking := false, ct := none, cpuEgress := none, oneStep := 0, tag := fid % 65536 }

/-- Requests a frame's first buffer through the ingress writer of its region, or as the control cores (R301, R313, Table
08-9). -/
def askFirst (f : Frame) (pool region : Nat) (s : State) : State :=
  let r := if f.src = 12 then 8 else region % 8
  (hopAsk pool { requester := r, owner := f.owner, region := region, use := .first f.fid } s).modFrame f.fid
    fun x => { x with asking := true }

/-- The parse window of a frame inside the terminal is complete: it is stamped, parsed and placed, and seeks a context
(R22, R23, R236, R279). -/
def openWindow (fid : Nat) (s : State) : State :=
  match s.frame? fid with
  | none => s
  | some f =>
    let g := parseFrame (lcMode s f.inPort)
      { f with generation := s.rules.active, maxPasses := s.obj Obj.RULE_MAX_PASSES, cfg := parseCfg s }
    let group := g.hash % 256
    let region := s.row Obj.GOV_PLACEMENT group % 8
    let s := s.modFrame fid fun _ => { g with region := region }
    let s := { s with pwr := { s.pwr with groupFrames := stSet 0 s.pwr.groupFrames group (stGet 0 s.pwr.groupFrames group + 1) } }
    let s := leaveIdle s
    let s := { s with pwr := { s.pwr with quietSince := s.now } }
    let s := if g.handles.isEmpty && !g.asking then
        askFirst { g with region := region } (if g.src < 8 then 0 else rungFor g.data.length) region s
      else s
    -- A frame that has come whole has its End checks decided (R240).
    seekContext fid (if g.complete then decideEnds fid s else s)

/-- Every member lane of a port is in near-end loopback: its receiver hears its own transmitter and HRX is ignored (R387). -/
def looped (s : State) (p : Fin 8) : Bool :=
  decide (0 < portWidth s p) && (List.range (portWidth s p)).all fun i => s.obj Obj.HL_LOOPBACK (p.val + i + 1) == 1

/-- The first bytes of a frame are those of the frame that the port sends, or has sent last. -/
def loopedFrame (s : State) (p : Fin 8) (bytes : Bytes) : Bool :=
  let o := s.ports[p]
  let sent := match o.tx with
    | some x => padFcs (stamped s p x.frame x.stamp)
    | none => o.lastSent
  bytes == sent.take bytes.length || bytes == o.lastSent.take bytes.length

/-- The latency in ps of a lane's path between the balls and the PCS, receive or transmit, for a frame at a position among
markers, codewords and gearbox words (R388). -/
def lanePs (s : State) (k : Fin 8) (rx : Bool) (pcs : Nat) : Int :=
  let l := s.lanes[k]
  let mode := s.obj Obj.HL_MODE (sub k)
  let fec := match (fins 8).find? fun p => s.ports[p].st != .disabled && decide (p.val ≤ k.val) && decide (k.val < p.val + portWidth s p) with
    | some p => s.obj Obj.MAC_FEC_MODE (sub p)
    | none => 0
  ((Config.lanePath rx mode fec + pcs : Nat) : Int) + toS 32 (if rx then l.calRx else l.calTx) +
    toS 32 (s.obj (if rx then Obj.HL_TS_RX_ADJ_PS else Obj.HL_TS_TX_ADJ_PS) (sub k))

/-- A host frame's first bytes: runts, control frames and unexpected SMDs never reach the engines (R366, R372, R383). -/
def hostWindow (p : Fin 8) (bytes : Bytes) (sof lane pcs : Nat) (express : Bool) (s : State) : State :=
  let pre := s.flag Obj.MAC_PREEMPT_ENABLE (sub p)
  if s.ports[p].st ≠ .up then s
  else if looped s p && !loopedFrame s p bytes then s
  else if !pre && !express then s.bumpRow Obj.MAC_COUNTERS p.val 18 7
  else if bytes.length < 60 then s.bumpRow Obj.MAC_COUNTERS p.val 18 3
  else if beAt bytes 12 2 = 0x8808 then s.bumpRow Obj.MAC_COUNTERS p.val 18 5
  else
    let s := if pre && express then s.bumpRow Obj.MAC_COUNTERS p.val 18 8 else s
    let k : Fin 8 := Fin.ofNat 8 (p.val + lane % portWidth s p)
    let late := lanePs s k true pcs * (tickPs : Int)
    let whole := decide (bytes.length < 64)
    let long := whole && decide (bytes.length + 4 > s.obj Obj.MAC_MAX_FRAME (sub p))
    let s := if long then s.bumpRow Obj.MAC_COUNTERS p.val 18 4 else s
    let f := { Frame.blank s.nextFid p.val p.val with
      data := bytes, complete := whole, oversize := long, truncated := long, cut := long, stamp := (((roundStamp sof : Nat) : Int) - late).toNat
      uncal := !s.lanes[k].locked, express := express, ready := true }
    let s := countUncal f.uncal { s with nextFid := s.nextFid + 1, frames := s.frames ++ [f] }
    openWindow f.fid (setOrder f.fid sof s)

/-- A frame of the control cores enters (R446). -/
def cpuWindow (bytes : Bytes) (egress : Option Nat) (oneStep : Nat) (s : State) : State :=
  let f := { Frame.blank s.nextFid 12 12 with
    data := bytes, known := bytes.length, complete := true, stamp := s.now, ready := true, cpuEgress := egress, oneStep := oneStep }
  let s := { s with nextFid := s.nextFid + 1, frames := s.frames ++ [f] }
  openWindow f.fid (setOrder f.fid s.now s)

/-- R236. -/
def windowComplete (a : Arrival) (s : State) : State :=
  match a with
  | .host p bytes sof lane pcs express => hostWindow p bytes sof lane pcs express s
  | .pon fid => match s.frame? fid with
    | some f =>
      if f.stage = .arriving && f.ready && (f.complete || f.cut || decide (f.data.length ≥ 64)) then openWindow fid s else s
    | none => s
  | .cpu bytes egress oneStep => cpuWindow bytes (egress.map Fin.val) oneStep s
  | .cpuNext => match s.cpuq with
    | (bytes, e, m) :: rest => cpuWindow bytes (some e) m { s with cpuq := rest }
    | [] => s

/-- An arrival that no wire can carry: more bytes than its window or its frame may hold. -/
def arrivalWf (a : Arrival) : Bool :=
  match a with
  | .host _ bytes _ _ _ _ => decide (bytes.length ≤ 64)
  | .cpu bytes _ m => decide (bytes.length ≤ 16000) && decide (m < 2 ^ 94)
  | _ => true

def execWindowComplete (t : Nat) (a : Arrival) (s : State) : Host.Outcome State Fault Refusal :=
  doneIf (arrivalWf a) t s fun s => if s.ingressOpen then windowComplete a s else s

def execContextAssign (t : Nat) (region : Fin 8) (s : State) : Host.Outcome State Fault Refusal :=
  done t s fun s => if s.ingressOpen then contextAssign region s else s

/-! ### Lookups (R246-R258) -/

/-- The action record that sends a frame of the control cores to its egress class. -/
def cpuAction (cls : Nat) : Nat := 2 ^ 125 + cls / 8 * 2 ^ 122 + cls % 8 * 2 ^ 119

/-- R246, R248, R249: the ternary result, and the flow-table lookup it issues. -/
def ternaryResult (fid : Nat) (s : State) : State :=
  match s.frame? fid with
  | none => s
  | some f =>
    if f.stage ≠ .parsing then s
    else if f.lcDrop then s.modFrame fid fun x => { x with stage := .program, action := 0 }
    else match f.cpuEgress with
      | some e => s.modFrame fid fun x => { x with stage := .program, action := cpuAction e }
      | none =>
        let (rule, a, miss) := match ruleLookup s f.generation f.key with
          | some (r, v) => (r, v % 2 ^ 128, false)
          | none => (0xFFFF, s.row Obj.RULE_DEFAULT_ACTIONS f.inPort % 2 ^ 128, true)
        let look := bitAt a 35
        let packed := packKey f.key (s.row Obj.EM_PROFILES (actProfile a))
        s.modFrame fid fun x => { x with
          rule := rule, action := a, miss := miss
          stage := if look then .lookup else .program
          emWait := if look then some (actProfile a, packed) else none }

def execTernaryResult (t fid : Nat) (s : State) : Host.Outcome State Fault Refusal := done t s (ternaryResult fid)

/-- R257, R258: a hit replaces the action; a miss may schedule a learn. -/
def emResult (fid : Nat) (s : State) : State :=
  match s.frame? fid with
  | none => s
  | some f =>
    match f.emWait with
    | none => s
    | some (prof, packed) =>
      if f.stage ≠ .lookup then s
      else match emFind s prof packed with
        | some r => s.modFrame fid fun x => { x with
            stage := .program, emWait := none, emRow := some r, rule := 0xFFFE, action := fld (s.row Obj.EM_TABLE r) 191 64 }
        | none => s.modFrame fid fun x => { x with
            stage := .program, learn := if bitAt f.action 34 then some (prof, packed) else none }

def execEmLookupResult (t fid : Nat) (s : State) : Host.Outcome State Fault Refusal := done t s (emResult fid)

/-! ### The program and the checks (R274, R275, R281-R286) -/

/-- A pass's program ends (R274); a journal that would need a 65th entry undoes it (R286). -/
def programEnd (fid info : Nat) (s : State) : State :=
  match s.frame? fid with
  | none => s
  | some f =>
    if f.stage ≠ .program then s
    else
      let s := s.modFrame fid fun x => { x with info := info }
      if journalSize { f with info := info } > 64 then undo fid 9 s else programDone fid s

def execProgramEnd (t fid info : Nat) (s : State) : Host.Outcome State Fault Refusal :=
  done t s (programEnd fid info)

/-- A host frame turns out to end with its window of 64 bytes: the parse in progress knows its end (R237, R240). -/
def reparse (fid : Nat) (s : State) : State :=
  match s.frame? fid with
  | none => s
  | some f =>
    if f.stage = .waiting ∨ f.stage = .noBuffer ∨ f.stage = .parsing then
      s.modFrame fid fun x => { parseFrame (lcMode s f.inPort) { x with complete := true, conflicts := [] } with
        region := x.region }
    else s

/-- `MAC_MAX_FRAME` of a port (R373). -/
def maxFrame (s : State) (port : Nat) : Nat := s.obj Obj.MAC_MAX_FRAME (port + 1)

/-- A host frame reaches `MAC_MAX_FRAME` and goes on: no more of its bytes pass, and the pass is undone with cause 6 (R285,
R373). -/
def markOversize (f : Frame) (rest : Bytes) (s : State) : State :=
  let s := s.bumpRow Obj.MAC_COUNTERS f.inPort 18 4
  truncateFrame f.fid (s.modFrame f.fid fun x => { x with
    oversize := true, data := (x.data ++ rest).take (maxFrame s f.inPort) })

/-- The end of a host frame whose rest was discarded (R373, R283). -/
def discardedEnd (fid : Nat) (s : State) : State :=
  match s.frame? fid with
  | none => s
  | some f =>
    if f.stage = .orphan then removeFrame fid s
    else s.modFrame fid fun x => { x with complete := true, cut := true, ends := [] }

/-- A host frame's last byte (R240, R281, R373, R383). -/
def lastByte (fid : Nat) (rest : Bytes) (asmOk : Bool) (s : State) : State :=
  match s.frame? fid with
  | none => s
  | some f =>
    if f.src ≥ 8 || f.complete then s
    else if f.oversize then discardedEnd fid s
    else if f.data.length + rest.length + 4 > maxFrame s f.inPort then discardedEnd fid (markOversize f rest s)
    else
      let bad := !asmOk && s.flag Obj.MAC_PREEMPT_ENABLE (f.inPort + 1)
      let s := if bad then s.bumpRow Obj.MAC_COUNTERS f.inPort 18 6 else s
      let s := s.modFrame fid fun x => { x with data := x.data ++ rest, truncated := x.truncated || bad }
      if f.stage = .orphan then
        let s := if bad then recause fid 6 s else s
        let late := !(endsFailed f.ends (f.data.length + rest.length)).isEmpty && lcMode s f.inPort == 0
        (if late then recause fid 4 s else s).modFrame fid fun x => { x with complete := true, ends := [] }
      else frameComplete fid (if rest.isEmpty then reparse fid s else s)

/-- A host frame holds at most 16,000 bytes with FCS (R373). -/
def execLastByte (t fid : Nat) (rest : Bytes) (asmOk : Bool) (s : State) : Host.Outcome State Fault Refusal :=
  doneIf (decide (rest.length ≤ 16000)) t s (lastByte fid rest asmOk)

/-- The bytes of a host frame reach `MAC_MAX_FRAME` (R373). -/
def oversizeFrame (fid : Nat) (rest : Bytes) (s : State) : State :=
  match s.frame? fid with
  | none => s
  | some f =>
    if f.src ≥ 8 || f.complete || f.oversize || decide (f.data.length + rest.length < maxFrame s f.inPort) then s
    else markOversize f rest s

def execOversize (t fid : Nat) (rest : Bytes) (s : State) : Host.Outcome State Fault Refusal :=
  doneIf (decide (rest.length ≤ 16000)) t s (oversizeFrame fid rest)

/-- R282: cause 1. -/
def fcsVerdict (fid : Nat) (good : Bool) (s : State) : State :=
  match s.frame? fid with
  | none => s
  | some f =>
    if f.src ≥ 8 || !f.complete || f.cut || f.fcs.isSome then s
    else
      let s := if good then
          (s.bumpRow Obj.MAC_COUNTERS f.inPort 18 0).bumpRow Obj.MAC_COUNTERS f.inPort 18 1 (f.data.length + 4)
        else s.bumpRow Obj.MAC_COUNTERS f.inPort 18 2
      let s := if good then s else recause fid 1 s
      if f.stage = .orphan then removeFrame fid s
      else settle fid (s.modFrame fid fun x => { x with fcs := some good })

def execFcsVerdict (t fid : Nat) (good : Bool) (s : State) : Host.Outcome State Fault Refusal :=
  done t s (fcsVerdict fid good)

/-- R473, R477: the verdict of the oldest carrier of a channel. -/
def tagVerdict (ch : Fin 4) (s : State) : State :=
  match s.rx[ch].verdicts with
  | [] => s
  | v :: rest =>
    let s := s.modRx ch fun r => { r with verdicts := rest }
    let s := if v.noKey then s.bump Obj.CIPH_DS_NO_KEY (sub ch)
      else if v.good then s.bump Obj.CIPH_DS_DECRYPTED (sub ch)
      else s.bump Obj.CIPH_DS_TAG_FAILS (sub ch)
    let bad := v.noKey || !v.good
    let s := if bad then s.evOnce (Ev.CIPH_TAG_FAIL + ch.val) 0 [v.flow, v.keyIndex, if v.noKey then 2 else 1] else s
    match v.client with
    | some _ => { s with flumeIn := s.flumeIn.map fun x => if x.fid = v.fid then { x with bad := x.bad || bad } else x }
    | none =>
      let s := if bad then recause v.fid 3 s else s
      settle v.fid (s.modFrame v.fid fun x => { x with tagsOpen := x.tagsOpen - 1, tagBad := x.tagBad || bad })

def execTagVerdict (t : Nat) (ch : Fin 4) (s : State) : Host.Outcome State Fault Refusal := done t s (tagVerdict ch)

/-- R283: cause 7. -/
def ctxTimeout (fid : Nat) (s : State) : State :=
  match s.frame? fid with
  | none => s
  | some f =>
    if holdsCtx f && f.stage != .ready && f.pass == 0 && openChecks f != 0 &&
        decide (s.now ≥ f.ctxAt + s.obj Obj.CTX_TIMEOUT_US * tickUs) then undo fid 7 s
    else s

def execCtxTimeout (t fid : Nat) (s : State) : Host.Outcome State Fault Refusal := done t s (ctxTimeout fid)

/-- R275: cause 8. -/
def ctxProgramLimit (fid : Nat) (s : State) : State :=
  match s.frame? fid with
  | none => s
  | some f =>
    if ctxRunning f && decide (s.now ≥ f.ctxAt + s.obj Obj.CTX_PROGRAM_LIMIT * tickCore) then undo fid 8 s else s

def execCtxProgramLimit (t fid : Nat) (s : State) : Host.Outcome State Fault Refusal := done t s (ctxProgramLimit fid)

/-! ### Commit (R253, R261-R264, R287-R290, R343, R449) -/

/-- `a` precedes `b` among order points. -/
def orderLt (a b : Nat × Nat) : Bool := decide (a.1 < b.1) || (a.1 == b.1 && decide (a.2 < b.2))

/-- The oldest of the frames that have an order point. -/
def oldestOf : List Frame → Option Frame
  | [] => none
  | f :: fs => match f.order, oldestOf fs with
    | none, r => r
    | some _, none => some f
    | some a, some g => if orderLt (g.order.getD (0, 0)) a then some g else some f

/-- The oldest frame of a source not yet retired (R289). -/
def sourceOldest (s : State) (src : Nat) : Option Frame := oldestOf (s.frames.filter fun f => f.src == src)

/-- The fate by colour of a pass (R343): worst colour so far, whether the frame drops, and whether DEI is set. -/
def colourFate (s : State) (f : Frame) : Nat × Bool × Bool :=
  match f.passColour with
  | some (c, _) =>
    let v := s.row Obj.POL_TABLE (fld f.action 86 75)
    let y := fld v 124 123
    (max f.colour c, (c == 2 && y == 2) || (c == 3 && !bitAt v 122), c == 2 && y == 1)
  | none =>
    let c := max 1 (fld f.action 74 73)
    (max f.colour c, c == 3, false)

/-- The counters of a commit: the rule counter and the policer's counter (R253, R343). -/
def commitCounters (f : Frame) (s : State) : State :=
  let n := f.data.length
  let s := if bitAt f.action 72 then
      let r := fld f.action 71 58
      (s.bumpRow Obj.RULE_COUNTERS r 2 0).bumpRow Obj.RULE_COUNTERS r 2 1 n
    else s
  match f.passColour with
  | some (c, b) =>
    let p := fld f.action 86 75
    (s.bumpRow Obj.POL_COUNTERS p 6 (2 * (c - 1))).bumpRow Obj.POL_COUNTERS p 6 (2 * (c - 1) + 1) b
  | none => s

/-- The flow-table effects of a commit (R257, R258). -/
def commitFlow (f : Frame) (s : State) : State :=
  match f.emRow with
  | some r => emTouch r (s.bump Obj.EM_HITS)
  | none => match f.emWait with
    | some _ =>
      let s := s.bump Obj.EM_MISSES
      match f.learn with
      | some (p, k) => emLearn p k f.action s
      | none => s
    | none => s

/-- The queued form of a committed frame. -/
def queuedFrame (f : Frame) (queue : Nat) (ts : Option Nat) (s : State) : QFrame :=
  let ev := bitAt f.key 625 && f.ptp.isSome
  { fid := f.fid, queue := queue, data := f.data, total := f.data.length, flow := fld f.action 110 95, bond := none,
    hash := f.hash, seqValid := false, seq := 0, colour := f.colour, at0 := s.now, ts := ts, tag := f.tag,
    handles := f.handles, chMask := 15, flume := none, ingress := f.stamp,
    ptpOff := if ev || f.oneStep > 0 then f.ptp.map Prod.fst else none
    udpOff := if ev || f.oneStep > 0 then f.ptp.bind Prod.snd else none
    oneStep := f.oneStep, express := f.express, fromPort := decide (f.inPort < 8), src := f.src, tsLost := f.marked && ts.isNone }

/-- Commit to a host class (R253, R328, R449). -/
def commitHost (f : Frame) (s : State) : State :=
  let cls := actHost f.action
  match f.ct with
  | some c =>
    -- Egress has begun: the class owner takes the buffers, and the MAC may send the FCS (R291, R292).
    let p : Fin 8 := ⟨c / 8 % 8, Nat.mod_lt _ (by decide)⟩
    let s := frameTo f.fid (96 + c) s
    let s := { s with frames := s.frames.filter fun x => x.fid ≠ f.fid }
    let kind := if f.src = 12 then 4 else 1
    match txOf s p f.fid with
    | some x =>
      let (ts, s) := if f.marked then stampEntry { f with uncal := x.uncal } kind p.val x.stamp true s else (none, s)
      s.modTx p f.fid fun x => { x with
        committed := true, len := egressLen f.data.length
        frame := { x.frame with
          data := f.data, total := f.data.length, handles := f.handles, ts := ts, colour := f.colour, tsLost := f.marked && ts.isNone } }
    | none =>
      -- The MAC has ended it with a bad FCS already (R377).
      let (ts, s) := if f.marked then stampEntry f kind p.val 0 false s else (none, s)
      releaseHandles (96 + c) f.handles (tsComplete ts false 0 0 s)
  | none =>
    let (ts, s) := if f.marked then stampEntry f (if f.src = 12 then 4 else 1) (cls / 8) 0 false s else (none, s)
    let q := queuedFrame f (2048 + cls) ts s
    if fitsQueue s q then
      let s := frameTo f.fid (96 + cls) s
      enqueue q { s with frames := s.frames.filter fun x => x.fid ≠ f.fid }
    else tailDrop q (removeFrame f.fid (tsComplete ts false 0 0 s))

/-- Commit to an upstream queue, with the assignment to a bonding group (R215, R217, R253, R328). -/
def commitUp (f : Frame) (s : State) : State :=
  let qn := actQueue f.action
  let group : Option (Fin 64) :=
    if bitAt f.action 94 then some ⟨fld f.action 93 88 % 64, Nat.mod_lt _ (by decide)⟩ else none
  let held := match group with
    | some g => !groupLive s.bond.groups[g]
    | none => false
  if held then
    match group with
    | some g => groupCount g 4 1 (commitDrop f s)
    | none => s
  else
    let (ts, s) := if f.marked then stampEntry f 2 8 0 false s else (none, s)
    let q := queuedFrame f qn ts s
    let (q, s) := match group with
      | some g =>
        let gr := s.bond.groups[g]
        if gr.mode = 1 then
          ({ q with bond := some g.val, seqValid := true, seq := gr.usNext },
            groupCount g 6 1 (s.modGroup g fun x => { x with usNext := (x.usNext + 1) % 4096 }))
        else ({ q with bond := some g.val }, s)
      | none => (q, s)
    if fitsQueue s q then
      let s := frameTo f.fid (queueOwner qn) s
      enqueue q { s with frames := s.frames.filter fun x => x.fid ≠ f.fid }
    else
      let s := match q.bond with
        | some g => if q.seqValid then s.bumpRow Obj.BOND_GROUP_COUNTERS g 8 7 else s
        | none => s
      tailDrop q (removeFrame f.fid (tsComplete ts false 0 0 s))

/-- Commit to the control cores (R58, R253, R449). -/
def commitCpu (f : Frame) (s : State) : State :=
  let (ts, s) := stampEntry f 0 f.inPort f.stamp true s
  let s := frameTo f.fid 89 s
  let q := { queuedFrame f 0 ts s with tsLost := ts.isNone }
  { s with mailbox := s.mailbox ++ [(q, fld f.action 26 19, f.region)], frames := s.frames.filter fun x => x.fid ≠ f.fid }

/-- Commit of a recirculation (R261-R264). -/
def commitRecirc (f : Frame) (s : State) : State :=
  let r := if bitAt f.action 30 then fld f.action 29 27 else f.region
  if f.pass + 1 ≥ f.maxPasses then commitDrop f (recircDrop 1 r s)
  else askHoist f.fid r (fld f.action 18 3 * 2 ^ 112 + f.info % 2 ^ 112) false s

/-- The commit of a Ready frame: its journal in order (R253, R287, R290). -/
def commitFrame (f : Frame) (s : State) : State :=
  let s := freeThread f (parserCounters f (sourceCount f.src 1 1 s))
  let (col, drops, dei) := colourFate s f
  let s := commitFlow f (commitCounters f s)
  let s := if bitAt f.action 57 then capture f false 0 s else s
  let tags := fld f.key 457 456
  let op := fld f.action 55 53
  let s := if op ≠ 0 ∧ (vlanEdit f.action tags f.data).isNone then s.bump Obj.VLAN_OP_FAILED else s
  let edited := (vlanEdit f.action tags f.data).getD f.data
  let done := (vlanEdit f.action tags f.data).isSome
  let tags' := if done then tagsAfter op tags else tags
  let edited := if dei then setDei tags' edited else edited
  let move := fun (o : Nat) => o + edited.length - f.data.length
  let g := { f with
    data := edited, colour := col, marked := f.marked || bitAt f.action 56
    ptp := f.ptp.map fun x => (move x.1, x.2.map move) }
  let s := s.modFrame f.fid fun _ => g
  if drops then commitDrop g s
  else match actDest f.action with
    | 1 => commitHost g s
    | 2 => commitUp g s
    | 3 => commitCpu g s
    | 4 => commitRecirc g s
    | _ => commitDrop g s

/-- R289: the oldest frame of a source commits when it is Ready. -/
def commitSource (src : Nat) (s : State) : State :=
  match sourceOldest s src with
  | some f => if f.stage = .ready then commitFrame f s else s
  | none => s

def execCommit (t : Nat) (src : Fin 80) (s : State) : Host.Outcome State Fault Refusal := done t s (commitSource src.val)

end Sys2Proof.Machine
end

