-- ==== Sys2Proof/Machine/Ports.lean ====
section
/-! DEFINITION. Host lanes and MACs: selection and egress, underrun and the start threshold, link states, preemption and lane test (R291, R333-R335, R359-R391, R444-R446). -/
namespace Sys2Proof.Machine

/-! ### Time stamps (R388, R429) -/

/-- The member lane that carries the start of a frame that begins now (R388). -/
def startLane (s : State) (p : Fin 8) : Fin 8 :=
  let w := portWidth s p
  if w ≤ 1 then p else Fin.ofNat 8 (p.val + (Config.txStart p.val s.now).1 % w)

/-- The instant of the egress stamp of a frame that begins now: its start of frame enters the transmit PCS, and the latency of
the lane that carries it refers that instant to the balls (R388, R429). -/
def egressStamp (s : State) (p : Fin 8) : Nat :=
  let k := startLane s p
  let ps := lanePs s k false (Config.txStart p.val s.now).2
  (((roundStamp (s.now + bytesTicks (portRate s p) 8) : Nat) : Int) + ps * (tickPs : Int)).toNat

/-! ### Selection (R333, R334, R350, R351, R375) -/

/-- The first frame of a class that was there at the start of the tick (R333). -/
def classHead (s : State) (p : Fin 8) (c : Nat) : Option QFrame :=
  s.sch.hq.find? fun q => q.queue == 2048 + 8 * p.val + c && decide (tickOf q.at0 < tickOf s.now)

/-- A class holds no frame at all (R335). -/
def classEmpty (s : State) (p : Fin 8) (c : Nat) : Bool := s.sch.hq.all fun q => q.queue != 2048 + 8 * p.val + c

/-- The shapers and the gate of a class let its head go; the guard band is left out. -/
def classOpen (s : State) (p : Fin 8) (c : Nat) : Bool :=
  shaperOpen s (2304 + 8 * p.val + c) && bitAt (gatesSeen s p) c

/-- Counts the heads that the guard band holds, once for each frame (R351). -/
def countHolds (p : Fin 8) (cs : List Nat) (s : State) : State :=
  if !shaperOpen s (2368 + p.val) then s
  else cs.foldl (fun s c =>
    match classHead s p c with
    | some q =>
      let k := 8 * p.val + c
      if classOpen s p c && !guardBand s p c (depthOf q) && stGet 0 s.sch.guardHeld k != q.fid + 1 then
        let s := { s with sch := { s.sch with guardHeld := stSet 0 s.sch.guardHeld k (q.fid + 1) } }
        s.bump Obj.GATE_GUARD_HOLDS (sub p)
      else s
    | none => s) s

/-- One selection over classes of a port (R333); `extra` is a cut-through candidate: class, length that the guard band
takes, and cost. -/
def selectClass (p : Fin 8) (express : Bool) (cs : List Nat) (extra : Option (Nat × Nat × Nat)) (s : State) : Option Nat × State :=
  let len := fun (c : Nat) => match extra with
    | some (e, n, m) => if e = c then some (n, m) else (classHead s p c).map fun q => (depthOf q, depthOf q)
    | none => (classHead s p c).map fun q => (depthOf q, depthOf q)
  if !shaperOpen s (2368 + p.val) then (none, s)
  else
    let base := 2048 + 8 * p.val
    let cost := fun (c : Nat) => match len c with
      | some (n, m) => if classOpen s p c && guardBand s p c n then some m else none
      | none => none
    let r := selectQueue (256 + 2 * p.val + b2n express) (cs.map fun c => base + c) (fun q => bitAt (classRow s p (q - base)) 63)
      (fun q => cost (q - base)) (fun q => fld (classRow s p (q - base)) 61 46) (fun q => (len (q - base)).isNone) s
    (r.1.map fun q => q - base, r.2)

/-- The classes of a selection (R334), in falling order. -/
def classSet (s : State) (p : Fin 8) (express : Bool) : List Nat :=
  [7, 6, 5, 4, 3, 2, 1, 0].filter fun c => classExpress s p c == express

/-- Takes the head of a class: it departs and its shapers are debited (R338, R354). -/
def takeHead (p : Fin 8) (c : Nat) (s : State) : Option QFrame × State :=
  match classHead s p c with
  | none => (none, s)
  | some q =>
    let s := { s with sch := { s.sch with hq := s.sch.hq.eraseP fun x => x.queue == q.queue } }
    let s := departed q (sojournNow s q) s
    (some q, shaperDebit (2368 + p.val) (depthOf q) (shaperDebit (2304 + 8 * p.val + c) (depthOf q) s))

/-- The size of a MAC's transmit buffer in bytes (R376). -/
def txBuffer : Nat := 32 * 1024

/-- The bytes of a frame of `len` bytes that are staged when it is selected: all of a committed frame, as far as the transmit
buffer holds it beside what the port has not finished; those that have arrived of another (R376, DESIGN CHOICE, log entry 189). -/
def stagedAt (s : State) (p : Fin 8) (len : Nat) (arrived : Option Nat) : Nat :=
  let o := s.ports[p]
  let used := (o.tx.toList ++ o.held.toList).foldl (fun n x => n + x.len) 0
  min (arrived.getD len) (txBuffer - used)

/-- The MAC may begin a frame of `len` bytes (R376). -/
def mayBegin (s : State) (p : Fin 8) (len staged : Nat) : Bool := decide (min len s.ports[p].ctStart ≤ staged)

/-- Egress of a frame begins once min(L, T) of its bytes are staged (R376); one in a Retired buffer is stomped (Table 16-6). -/
def startTx (p : Fin 8) (c len : Nat) (q : QFrame) (arrived : Option Nat) (s : State) : State :=
  let st := egressStamp s p
  let un := !s.lanes[startLane s p].locked
  let s := if q.ptpOff.isSome && tcApplies s p q then s.bump Obj.TIME_TC_CORRECTED (sub p) else s
  let s := tsComplete q.ts true (s.stampOf st) 0 (countUncal un s) un
  let x : Tx := { frame := q, cls := c, len := len, startedAt := s.now, stamp := st, uncal := un, cutThrough := arrived.isSome
                  committed := arrived.isNone, staged := stagedAt s p len arrived
                  stomp := if q.handles.any fun h => bufState s h == 3 then 2 else 0, stompAt := s.now, undoOf := none, sent := 0
                  overrun := false, closedAt := none }
  s.modPort p fun o => { o with tx := some x }

/-- Takes the head of a class and sends it. -/
def sendClass (p : Fin 8) (c : Nat) (s : State) : State :=
  match classHead s p c with
  | some q =>
    if mayBegin s p (depthOf q) (stagedAt s p (depthOf q) none) then
      match takeHead p c s with
      | (some q, s) => startTx p c (depthOf q) q none s
      | (none, s) => s
    else s
  | none => s

/-- The port is enabled. -/
def portOn (s : State) (p : Fin 8) : Bool := s.ports[p].st != .disabled

/-- A port that is not Up discards what it selects (R375). -/
def discardDown (p : Fin 8) (s : State) : State :=
  match selectClass p false [7, 6, 5, 4, 3, 2, 1, 0] none s with
  | (some c, s) =>
    match takeHead p c s with
    | (some q, s) => (loseQueued q s).bumpRow Obj.MAC_COUNTERS p.val 18 13
    | (none, s) => s
  | (none, s) => s

/-- The preempted frame goes on (R334). -/
def resumeHeld (p : Fin 8) (s : State) : State :=
  match s.ports[p].held with
  | some x =>
    if bitAt (gatesSeen s p) x.cls then
      s.modPort p fun o => { o with tx := some { x with startedAt := s.now, overrun := false, closedAt := none }, held := none }
    else s
  | none => s

/-- An express frame may go now (R334). -/
def expressMay (s : State) (p : Fin 8) : Bool :=
  match s.ports[p].tx with
  | none => true
  | some x => s.ports[p].held.isNone && canPreempt s p x

/-- R334 with preemption active: express first, preempting what it may; then the remainder; then the others. -/
def selectPreempt (p : Fin 8) (s : State) : State :=
  let r := if expressMay s p then selectClass p true (classSet s p true) none (countHolds p (classSet s p true) s) else (none, s)
  let s := r.2
  match r.1 with
  | some c =>
    let s := match s.ports[p].tx with
      | some x => endFragment p x (txSent s p x) s
      | none => s
    sendClass p c s
  | none =>
    if s.ports[p].tx.isSome then s
    else if s.ports[p].held.isSome then resumeHeld p s
    else
      let cs := classSet s p false
      match selectClass p false cs none (countHolds p cs s) with
      | (some c, s) => sendClass p c s
      | (none, s) => s

/-- R333-R335, R375: the next frame of a port. -/
def portSelect (p : Fin 8) (s : State) : State :=
  let s := settleRows s
  if !portOn s p then s
  else if s.ports[p].st ≠ .up then discardDown p s
  else if preemptActive s p then selectPreempt p s
  else if s.ports[p].tx.isSome then s
  else if s.ports[p].held.isSome then resumeHeld p s
  else
    let cs := [7, 6, 5, 4, 3, 2, 1, 0]
    match selectClass p false cs none (countHolds p cs s) with
    | (some c, s) => sendClass p c s
    | (none, s) => s

def execPortSelect (t : Nat) (p : Fin 8) (s : State) : Host.Outcome State Fault Refusal :=
  done t s fun s => if s.running then portSelect p s else s

/-! ### Cut-through (R291, R335) -/

/-- The frame meets the conditions of R291 on itself, its source and the bytes that have arrived. -/
def ctReady (s : State) (f : Frame) (arrived : Nat) : Bool :=
  let a := f.action
  let p : Fin 8 := ⟨actHost a / 8 % 8, Nat.mod_lt _ (by decide)⟩
  let first := f.pass == 0 && !f.l2 && (decide (f.src < 8) || (f.ponCh.isSome && !f.encrypted))
  let ended := f.stage == .awaiting || f.stage == .ready
  let act := actDest a == 1 && !bitAt a 87 && !bitAt a 35 && f.emRow.isNone && f.emWait.isNone && fld a 74 73 != 3
  let good := (failedCause f).isNone && !f.reentry
  let older := (s.frames.filter fun g => g.src == f.src && g.fid != f.fid).all fun g =>
    match g.order, f.order with
    | some x, some y => !orderLt x y || g.ct.isSome
    | _, _ => true
  let n := if f.complete then f.data.length else max arrived f.data.length
  let slow := match (fins 8).find? fun k => k.val == f.src with
    | some k => decide (portRate s k < portRate s p)
    | none => false
  f.ct.isNone && f.order.isSome && first && ended && act && good && older && bitAt (s.row Obj.CTX_SOURCE_TABLE f.src) 37 &&
    decide (n ≥ s.ports[p].ctStart) && !slow

/-- R291, R335: egress of an uncommitted frame begins. -/
def cutThrough (fid arrived : Nat) (s : State) : State :=
  let s := settleRows s
  match s.frame? fid with
  | none => s
  | some f =>
    let cls := actHost f.action
    let p : Fin 8 := ⟨cls / 8 % 8, Nat.mod_lt _ (by decide)⟩
    let c := cls % 8
    let pre := preemptActive s p
    let ex := pre && classExpress s p c
    let o := s.ports[p]
    let free := match o.tx with
      | none => true
      | some x => ex && o.held.isNone && canPreempt s p x
    let len := if f.complete then egressLen f.data.length else fld (classRow s p c) 45 32
    let come := if f.complete then f.data.length else max arrived f.data.length
    if !ctReady s f arrived || o.st != .up || !free || !classEmpty s p c || (o.held.isSome && !ex) then s
    else
      let cs := if pre then classSet s p ex else [7, 6, 5, 4, 3, 2, 1, 0]
      -- An express frame waiting goes before a preemptable candidate (R334).
      let first := if pre && !ex then (selectClass p true (classSet s p true) none s).1.isNone else true
      match selectClass p ex cs (some (c, fld (classRow s p c) 45 32, len)) s with
      | (some k, s') =>
        if k ≠ c ∨ first = false then s
        else
          let s := match s'.ports[p].tx with
            | some x => endFragment p x (txSent s' p x) s'
            | none => s'
          let q := queuedFrame f (2048 + cls) none s
          let s := sourceCount f.src 5 1 s
          let s := queueCount (2048 + cls) 1 len (queueCount (2048 + cls) 0 1 s)
          let s := departs (2048 + cls) len 0 s
          let s := shaperDebit (2368 + p.val) len (shaperDebit (2304 + cls) len s)
          let s := startTx p c len { q with handles := [] } (some come) s
          s.modFrame fid fun x => { x with ct := some cls }
      | (none, _) => s

def execCutThroughStart (t fid arrived : Nat) (s : State) : Host.Outcome State Fault Refusal :=
  done t s fun s => if s.running then cutThrough fid arrived s else s

/-! ### The end of a frame (R310, R374, R377-R379) -/

/-- The buffers of a frame that has left, freed by the class owner; those of an uncommitted frame stay with its context. -/
def freeTx (p : Fin 8) (x : Tx) (s : State) : State := releaseHandles (96 + 8 * p.val + x.cls) x.frame.handles s

/-- Sets the start threshold and logs it (R378, R379). -/
def setStart (p : Fin 8) (v cause : Nat) (s : State) : State :=
  let old := s.ports[p].ctStart
  (s.modPort p fun o => { o with ctStart := v }).ev (Ev.CT_THRESHOLD + p.val) [old, v, cause]

/-- R378: the adjustment at the end of a frame. -/
def adjustStart (p : Fin 8) (x : Tx) (s : State) : State :=
  let o := s.ports[p]
  if x.stomp = 1 then s
  else if x.stomp = 2 then
    let s := setStart p (min (o.ctStart + 512) (s.obj Obj.MAC_CT_START_MAX (sub p))) 1 s
    s.modPort p fun o => { o with clean := 0 }
  else if o.clean + 1 = 1048576 then
    let s := s.modPort p fun o => { o with clean := 0 }
    let lo := s.obj Obj.MAC_CT_START_MIN (sub p)
    if o.ctStart > lo then setStart p (max (o.ctStart - 512) lo) 2 s else s
  else s.modPort p fun o => { o with clean := o.clean + 1 }

/-- A stomped frame has ended with the complement of its FCS: an undo's is logged by the MAC (R377, Table 07-5). -/
def endStomp (p : Fin 8) (x : Tx) (s : State) : State :=
  let d := match s.frame? x.frame.fid with
    | some f => f.data
    | none => x.frame.data
  let out := stompedBytes x.frame.fid (sentAt s p x x.stompAt) (stamped s p { x.frame with data := d } x.stamp)
  let s := s.modPort p fun o => { o with lastSent := out }
  match x.undoOf with
  | some (src, cause) => s.evOnce Ev.CTX_STOMP src [src, p.val, cause]
  | none => s

/-- The counters and the last frame of an egress frame that has ended. -/
def countTx (p : Fin 8) (x : Tx) (s : State) : State :=
  let c := fun (w n : Nat) (s : State) => s.bumpRow Obj.MAC_COUNTERS p.val 18 w n
  if x.stomp = 1 then endStomp p x (c 12 1 s)
  else if x.stomp = 2 then tsComplete x.frame.ts false 0 0 (endStomp p x (c 11 1 s))
  else
    let s := c 10 x.len (c 9 1 s)
    let s := if x.len > s.obj Obj.MAC_MAX_FRAME (sub p) then c 14 1 s else s
    let s := if s.flag Obj.MAC_PREEMPT_ENABLE (sub p) && classExpress s p x.cls then c 16 1 s else s
    s.modPort p fun o => { o with lastSent := padFcs (stamped s p x.frame x.stamp) }

/-- R378: the frame on the line ends. The FCS of a cut-through frame waits for its commit (R292). -/
def frameTxEnd (p : Fin 8) (s : State) : State :=
  match s.ports[p].tx with
  | none => s
  | some x =>
    if x.cutThrough && !x.committed && x.stomp == 0 then s
    else
      let s := s.modPort p fun o => { o with tx := none }
      let s := match x.closedAt with
        | some t => logOverrun p x (s.now - t) s
        | none => s
      adjustStart p x (freeTx p x (countTx p x s))

def execFrameTxEnd (t : Nat) (p : Fin 8) (s : State) : Host.Outcome State Fault Refusal := done t s (frameTxEnd p)

/-- R377: the MAC stomps a frame that it cannot go on sending; it is counted at the frame's end. -/
def txUnderrun (p : Fin 8) (s : State) : State :=
  match s.ports[p].tx with
  | some x =>
    if x.stomp ≠ 0 then s
    else s.modPort p fun o => { o with tx := some { x with stomp := 2, stompAt := s.now } }
  | none => s

def execTxUnderrun (t : Nat) (p : Fin 8) (s : State) : Host.Outcome State Fault Refusal := done t s (txUnderrun p)

/-- The three values that R379 keeps in order. -/
def ctOrder (s : State) (lo ini hi : Nat) (f : State → State) : State :=
  if 64 ≤ lo ∧ lo ≤ ini ∧ ini ≤ hi ∧ hi ≤ 16000 then (f s).answer .ok else s.answer .range

/-- R379. -/
def ctInit (p : Fin 8) (v : Nat) (s : State) : State :=
  ctOrder s (s.obj Obj.MAC_CT_START_MIN (sub p)) v (s.obj Obj.MAC_CT_START_MAX (sub p)) fun s =>
    let s := s.setObj Obj.MAC_CT_START_INIT (sub p) v
    let s := if s.ports[p].ctStart = v then s else setStart p v 3 s
    s.modPort p fun o => { o with clean := 0 }

/-- Clamps T after a write of a bound (R379). -/
def ctClamp (p : Fin 8) (s : State) : State :=
  let lo := s.obj Obj.MAC_CT_START_MIN (sub p)
  let hi := s.obj Obj.MAC_CT_START_MAX (sub p)
  let v := max lo (min hi s.ports[p].ctStart)
  if s.ports[p].ctStart = v then s else setStart p v 3 s

/-- R379. -/
def ctMin (p : Fin 8) (v : Nat) (s : State) : State :=
  ctOrder s v (s.obj Obj.MAC_CT_START_INIT (sub p)) (s.obj Obj.MAC_CT_START_MAX (sub p)) fun s =>
    ctClamp p (s.setObj Obj.MAC_CT_START_MIN (sub p) v)

/-- R379. -/
def ctMax (p : Fin 8) (v : Nat) (s : State) : State :=
  ctOrder s (s.obj Obj.MAC_CT_START_MIN (sub p)) (s.obj Obj.MAC_CT_START_INIT (sub p)) v fun s =>
    ctClamp p (s.setObj Obj.MAC_CT_START_MAX (sub p) v)

def execMacCtStartInit (t : Nat) (p : Fin 8) (v : Nat) (s : State) : Host.Outcome State Fault Refusal :=
  done t s fun s => s.hostWrite (ctInit p v)
def execMacCtStartMin (t : Nat) (p : Fin 8) (v : Nat) (s : State) : Host.Outcome State Fault Refusal :=
  done t s fun s => s.hostWrite (ctMin p v)
def execMacCtStartMax (t : Nat) (p : Fin 8) (v : Nat) (s : State) : Host.Outcome State Fault Refusal :=
  done t s fun s => s.hostWrite (ctMax p v)

/-! ### Link states (R363-R371, R381) -/

/-- The codes of Table 10-4. -/
def portCode : PortState → Nat
  | .disabled => 0
  | .noSignal => 1
  | .aligning => 2
  | .up => 3
  | .remoteFault => 4
  | .test => 5

/-- Member lanes of a port (R363). -/
def memberLanes (s : State) (p : Fin 8) : List (Fin 8) :=
  (fins 8).filter fun k => decide (p.val ≤ k.val) && decide (k.val < p.val + portWidth s p)

/-- The enabled port of a lane. -/
def laneOwner (s : State) (k : Fin 8) : Option (Fin 8) :=
  (fins 8).find? fun p => portOn s p && (memberLanes s p).contains k

/-- A lane generates or checks a pattern, or is in far-end loopback (Table 10-5). -/
def laneTesting (s : State) (k : Fin 8) : Bool :=
  let v := s.row Obj.HL_PRBS_TABLE k.val
  bitAt v 63 || bitAt v 58 || s.obj Obj.HL_LOOPBACK (sub k) == 2

/-- The frames that were still arriving on a port are cut off (R372). -/
def cutArrivals (p : Fin 8) (s : State) : State :=
  let mine := s.frames.filter fun f => f.src == p.val && f.pass == 0 && !f.complete
  mine.foldl (fun s f =>
    cutFrame f.fid (s.modFrame f.fid fun x => { x with complete := true, ends := [] })) s

/-- A frame at the egress of a port that leaves Up is not sent (log entry 42); a stomped one counts as that. -/
def cutTx (p : Fin 8) (x : Tx) (s : State) : State :=
  let s := match x.closedAt with
    | some t => logOverrun p x (s.now - t) s
    | none => s
  if x.stomp ≠ 0 then freeTx p x (countTx p x s)
  else tsComplete x.frame.ts false 0 0 (freeTx p x (s.bumpRow Obj.MAC_COUNTERS p.val 18 13))

/-- The verify time of a port (R380). -/
def verifyTicks (s : State) (p : Fin 8) : Nat := s.obj Obj.MAC_VERIFY_TIME_MS (sub p) * tickMs

/-- The verify frames after the first that a verification under way has sent: one at each verify time, three in all (R380). -/
def verifyFrames (s : State) (p : Fin 8) : Nat :=
  if s.ports[p].preempt = 1 then min 2 ((s.now - s.ports[p].verifyAt) / verifyTicks s p) else 0

/-- Verification ends, its frames counted (R380). -/
def endVerify (p : Fin 8) (r : Nat) (s : State) : State :=
  (s.bumpRow Obj.MAC_COUNTERS p.val 18 17 (verifyFrames s p)).modPort p fun o => { o with preempt := r }

/-- Verification starts (R381). -/
def startVerify (p : Fin 8) (s : State) : State :=
  if !s.flag Obj.MAC_PREEMPT_ENABLE (sub p) then endVerify p 0 s
  else if s.flag Obj.MAC_VERIFY_DISABLE (sub p) then endVerify p 4 s
  else ((endVerify p 1 s).bumpRow Obj.MAC_COUNTERS p.val 18 17).modPort p fun o => { o with verifyAt := s.now }

/-- What ends with a port's Up. -/
def leaveUp (p : Fin 8) (reason dest : Nat) (s : State) : State :=
  let s := s.ev (Ev.LINK_DOWN + p.val) [reason, dest]
  let s := if s.ports[p].preempt = 1 then endVerify p 0 s else s
  let s := cutArrivals p (s.bumpRow Obj.PCS_COUNTERS p.val 10 8)
  let o := s.ports[p]
  let s := s.modPort p fun o => { o with tx := none, held := none }
  (o.tx.toList ++ o.held.toList).foldl (fun s x => cutTx p x s) s

/-- A port changes its state (R369, R371). -/
def portEnter (p : Fin 8) (st : PortState) (reason : Nat) (s : State) : State :=
  let old := s.ports[p].st
  if old = st then s
  else
    let s := s.modPort p fun o => { o with st := st, stAt := s.now }
    let s := if old = .up then leaveUp p reason (portCode st) s else s
    if st = .up then
      startVerify p (s.ev (Ev.LINK_UP + p.val) [s.obj Obj.MAC_PORT_TYPE (sub p), s.obj Obj.MAC_FEC_MODE (sub p)])
    else s

/-- Every member lane is locked. -/
def lanesLocked (s : State) (p : Fin 8) : Bool :=
  (memberLanes s p).all fun k => s.lanes[k].locked && s.flag Obj.HL_ENABLE (sub k)

/-- A command that waits in the queue brings a trigger of Table 10-5 above place `rank` on a port in the tick that is
running: 0 disable, 1 test, 4 loss of signal, 6 alignment timeout, 7 loss of alignment. -/
def outranks (s : State) (p : Fin 8) (rank : Nat) (c : Instr) : Bool :=
  let here := fun (t r : Nat) => tickOf t == tickOf s.now && decide (r < rank)
  match c with
  | .macEnable t q v => here t 0 && q == p && v == 0
  | .hlLoopback t k v => here t 1 && (memberLanes s p).contains k && v == 2
  | .laneSignalLoss t k => here t 4 && (memberLanes s p).contains k && s.obj Obj.HL_LOOPBACK (sub k) != 1
  | .alignmentTimeout t q => here t 6 && q == p && decide (t ≥ s.ports[p].stAt + s.obj Obj.MAC_ALIGN_TIMEOUT_MS (sub p) * tickMs)
  | .alignmentLost t q _ _ => here t 7 && q == p
  | _ => false

/-- A trigger of place `rank` changes a port's state, unless a higher one comes in the same tick (R369, log entry 190). -/
def portMove (p : Fin 8) (rank : Nat) (st : PortState) (reason : Nat) (s : State) : State :=
  if s.pending.any fun c => outranks s p rank c then s else portEnter p st reason s

/-- The level triggers of Table 10-5: test, its end, and locked lanes. -/
def portLevels (p : Fin 8) (s : State) : State :=
  let test := (memberLanes s p).any fun k => laneTesting s k
  if !portOn s p then s
  else if test then portMove p 1 .test 2 s
  else
    let s := if s.ports[p].st = .test then portMove p 2 .noSignal 2 s else s
    if s.ports[p].st = .noSignal ∧ lanesLocked s p then portMove p 5 .aligning 0 s else s

/-- The checks of R364. -/
def enableChecks (s : State) (p : Fin 8) : Bool :=
  match portType (s.obj Obj.MAC_PORT_TYPE (sub p)) with
  | none => false
  | some (w, mode, fecs, _) =>
    decide (p.val % w = 0) && (memberLanes s p).all (fun k => s.obj Obj.HL_MODE (sub k) == mode) &&
      ((fins 8).all fun r => r == p || !portOn s r || (memberLanes s r).all fun k => !(memberLanes s p).contains k) &&
      fecs.contains (s.obj Obj.MAC_FEC_MODE (sub p))

/-- R364: a write of `MAC_ENABLE`. -/
def macEnable (p : Fin 8) (v : Nat) (s : State) : State :=
  if v > 1 then s.answer .range
  else if v = 0 then (portEnter p .disabled 1 (s.setObj Obj.MAC_ENABLE (sub p) 0)).answer .ok
  else if !enableChecks s p then s.answer .range
  else if portOn s p then s.answer .ok
  else (portLevels p (portEnter p .noSignal 0 (s.setObj Obj.MAC_ENABLE (sub p) 1))).answer .ok

def execMacEnable (t : Nat) (p : Fin 8) (v : Nat) (s : State) : Host.Outcome State Fault Refusal :=
  done t s fun s => s.hostWrite (macEnable p v)

/-- Updates a lane. -/
def State.modLane (s : State) (k : Fin 8) (f : Lane → Lane) : State := { s with lanes := vmod s.lanes k f }

/-- The client of a lane has a defect in this second (Table 11-10). -/
def laneDefect (k : Fin 8) (s : State) : State :=
  (fins 8).foldl (fun s c => if s.cliOn c.val && fld (s.cliRow c.val) 60 58 == k.val then pmDefect (pmClient c) s else s) s

/-- A lane loses its signal or its CDR lock (R369, R389). -/
def laneLost (k : Fin 8) (s : State) : State :=
  let s := laneDefect k (s.modLane k fun l => { l with signal := false, locked := false, losClear := false, lostAt := s.now })
  match laneOwner s k with
  | some p => match s.ports[p].st with
    | .aligning | .up | .remoteFault => portMove p 4 .noSignal 3 s
    | _ => s
  | none => s

/-- Signal loss on HRX: in near-end loopback HRX is ignored (R387). -/
def signalLost (k : Fin 8) (s : State) : State := if s.obj Obj.HL_LOOPBACK (sub k) = 1 then s else laneLost k s

def execLaneSignalLoss (t : Nat) (k : Fin 8) (s : State) : Host.Outcome State Fault Refusal := done t s (signalLost k)

/-- The lane is enabled in a mode (R359). -/
def laneOn (s : State) (k : Fin 8) : Bool := s.flag Obj.HL_ENABLE (sub k) && s.obj Obj.HL_MODE (sub k) != 0

/-- A lane locks, with its gearbox phases measured (R369, R388). -/
def laneLocked (k : Fin 8) (calRx calTx : Nat) (s : State) : State :=
  if !laneOn s k then s
  else
    let s := s.modLane k fun l => { l with
      signal := true, locked := true, calRx := calRx, calTx := calTx, signalAt := if l.signal then l.signalAt else s.now }
    match laneOwner s k with
    | some p => portLevels p s
    | none => s

def execLaneLocked (t : Nat) (k : Fin 8) (calRx calTx : Nat) (s : State) : Host.Outcome State Fault Refusal :=
  doneIf (decide (calRx < 2 ^ 32) && decide (calTx < 2 ^ 32)) t s fun s => if s.running then laneLocked k calRx calTx s else s

/-- The PCS reports what it has received: FEC words only with a FEC (Table 10-10). -/
def pcsCount (p : Fin 8) (r : PcsReport) (s : State) : State :=
  let c := fun (w n : Nat) (s : State) => s.bumpRow Obj.PCS_COUNTERS p.val 10 w n
  let s := c 7 r.errorBlocks s
  if s.obj Obj.MAC_FEC_MODE (sub p) = 0 then s
  else c 3 r.symbols (c 2 r.uncorrectable (c 1 r.corrected (c 0 r.codewords s)))

/-- A report that a FEC can give: no codeword is both corrected and uncorrectable, and each that was corrected had a symbol to
correct, at most the 15 of RS(544,514). -/
def reportWf (r : PcsReport) : Bool :=
  decide (r.corrected + r.uncorrectable ≤ r.codewords) && decide (r.corrected ≤ r.symbols) && decide (r.symbols ≤ 15 * r.corrected)

/-- R369: the PCS aligns, or is aligned still. -/
def pcsAligned (p : Fin 8) (fault : Bool) (s : State) : State :=
  match s.ports[p].st with
  | .aligning => if fault then portMove p 9 .remoteFault 5 s else portMove p 8 .up 0 s
  | .remoteFault => if fault then s else portMove p 8 .up 0 s
  | .up => if fault then portMove p 9 .remoteFault 5 s else s
  | _ => s

def execPcsAligned (t : Nat) (p : Fin 8) (remoteFault : Bool) (report : PcsReport) (s : State) : Host.Outcome State Fault Refusal :=
  doneIf (reportWf report) t s fun s => if s.running && portOn s p then pcsAligned p remoteFault (pcsCount p report s) else s

/-- The word of `PCS_COUNTERS` that counts a loss: 0 block lock, 1 alignment markers, 3 high bit error rate; the loss of
FEC alignment, 2, has none (Table 10-10). -/
def lossWord (cause : Nat) : Option Nat := if cause = 0 then some 4 else if cause = 1 then some 5 else if cause = 3 then some 6 else none

/-- R369: block lock, marker lock or FEC alignment is lost, or the bit error rate is high. -/
def alignmentLost (p : Fin 8) (cause : Nat) (s : State) : State :=
  let s := match lossWord cause with
    | some w => s.bumpRow Obj.PCS_COUNTERS p.val 10 w
    | none => s
  match s.ports[p].st with
  | .up | .remoteFault => portMove p 7 .aligning 4 s
  | _ => s

def execAlignmentLost (t : Nat) (p : Fin 8) (cause : Nat) (report : PcsReport) (s : State) : Host.Outcome State Fault Refusal :=
  doneIf (decide (cause < 4) && reportWf report) t s fun s => if portOn s p then alignmentLost p cause (pcsCount p report s) else s

/-- R367, R369: Remote Fault is received on an aligned port. -/
def execRemoteFault (t : Nat) (p : Fin 8) (s : State) : Host.Outcome State Fault Refusal :=
  done t s fun s => if s.ports[p].st = .up then portMove p 9 .remoteFault 5 s else s

/-- R370: the lanes adapt anew, with their CDRs locked. -/
def alignmentTimeout (p : Fin 8) (s : State) : State :=
  if s.ports[p].st = .aligning ∧ s.now ≥ s.ports[p].stAt + s.obj Obj.MAC_ALIGN_TIMEOUT_MS (sub p) * tickMs ∧
      (s.pending.any fun c => outranks s p 6 c) = false then
    let s := portEnter p .noSignal 0 (s.bumpRow Obj.PCS_COUNTERS p.val 10 9)
    (memberLanes s p).foldl (fun s k => s.modLane k fun l => { l with locked := false }) s
  else s

def execAlignmentTimeout (t : Nat) (p : Fin 8) (s : State) : Host.Outcome State Fault Refusal := done t s (alignmentTimeout p)

/-- R381: the verify handshake ends; it fails a verify time after the third verify frame (R380). -/
def preemptVerify (p : Fin 8) (good : Bool) (s : State) : State :=
  if s.ports[p].preempt ≠ 1 ∨ s.ports[p].st ≠ .up then s
  else if good then (endVerify p 2 s).ev (Ev.PREEMPT_VERIFY + p.val) [2]
  else if s.now < s.ports[p].verifyAt + 3 * verifyTicks s p then s
  else (endVerify p 3 s).ev (Ev.PREEMPT_VERIFY + p.val) [3]

def execPreemptVerify (t : Nat) (p : Fin 8) (good : Bool) (s : State) : Host.Outcome State Fault Refusal :=
  done t s (preemptVerify p good)

/-- R381: a write of 1 starts verification anew. -/
def reverify (p : Fin 8) (v : Nat) (s : State) : State :=
  if v ≠ 1 then s.answer .range
  else (if s.ports[p].st = .up then startVerify p s else s).answer .ok

def execMacPreemptReverify (t : Nat) (p : Fin 8) (v : Nat) (s : State) : Host.Outcome State Fault Refusal :=
  done t s fun s => s.hostWrite (reverify p v)

/-! ### Lanes (R359-R362, R384-R389) -/

/-- The taps of Table 10-2 in range, and their sum within 64 (R362). -/
def tapsOk (v : Nat) : Bool :=
  let pre2 := toS 8 (fld v 31 24)
  let pre1 := toS 8 (fld v 23 16)
  let main := toS 8 (fld v 15 8)
  let post := toS 8 (fld v 7 0)
  let ok := fun (x lo hi : Int) => decide (lo ≤ x) && decide (x ≤ hi)
  ok pre2 (-16) 0 && ok pre1 (-32) 0 && ok main 16 64 && ok post (-32) 0 && decide (main - pre2 - pre1 - post ≤ 64)

/-- R362. -/
def txEq (k : Fin 8) (v : Nat) (s : State) : State :=
  if v < 2 ^ 32 ∧ tapsOk v then (s.setObj Obj.HL_TX_EQ (sub k) v).answer .ok else s.answer .range

def execHlTxEq (t : Nat) (k : Fin 8) (v : Nat) (s : State) : Host.Outcome State Fault Refusal :=
  done t s fun s => s.hostWrite (txEq k v)

/-- The port of a lane follows its test state. -/
def laneLevels (k : Fin 8) (s : State) : State :=
  match laneOwner s k with
  | some p => portLevels p s
  | none => s

/-- R387. -/
def loopback (k : Fin 8) (v : Nat) (s : State) : State :=
  if v > 2 then s.answer .range else (laneLevels k (s.setObj Obj.HL_LOOPBACK (sub k) v)).answer .ok

def execHlLoopback (t : Nat) (k : Fin 8) (v : Nat) (s : State) : Host.Outcome State Fault Refusal :=
  done t s fun s => s.hostWrite (loopback k v)

/-- An NRZ mode (Table 10-1). -/
def nrzMode (m : Nat) : Bool := m == 1 || m == 2 || (decide (16 ≤ m) && decide (m ≤ 21))

/-- A client mode (Table 10-1). -/
def clientMode (m : Nat) : Bool := decide (16 ≤ m) && decide (m ≤ 21)

/-- A mode code of Table 10-1. -/
def modeOk (m : Nat) : Bool := decide (m ≤ 4) || clientMode m

/-- A pattern row that a write may hold (R384, R385). -/
def prbsRowStatus (s : State) (r v : Nat) : Status :=
  let nrz := match (fins 8).find? fun k => k.val == r with
    | some k => nrzMode (s.obj Obj.HL_MODE (sub k))
    | none => false
  let bad := fun (c : Nat) => c == 6 || c == 7 || c == 15 || (nrz && decide (c ≥ 8))
  if bad (fld v 62 59) || bad (fld v 57 54) then .range
  else if decide (r ≥ 8) && (bitAt v 63 || bitAt v 58) &&
      (s.flag Obj.DS_RX_ENABLE (r - 7) || s.flag Obj.ACT_ENABLE (r - 7)) then .state
  else .ok

/-- A checker gains or loses its lock (R386). -/
def logChecker (r : Fin 12) (v : Bool) (s : State) : State := s.evOnce Ev.PRBS_LOCK r.val [r.val, b2n v]

/-- Updates a row's generator and checker. -/
def State.modPrbs (s : State) (r : Fin 12) (f : Prbs → Prbs) : State := { s with prbs := vmod s.prbs r f }

/-- A checker that is off or has a new pattern holds no lock and seeds itself anew. -/
def dropChecker (r : Fin 12) (s : State) : State :=
  let was := s.prbs[r].locked
  let s := s.modPrbs r fun x => { x with chk := 0, seeded := 0, run := 0, locked := false, errs := [] }
  if was then logChecker r false s else s

/-- The host lane of a row. -/
def rowLane (r : Fin 12) : Option (Fin 8) := (fins 8).find? fun k => k.val == r.val

/-- The generator of a row runs: a PON channel's only while its CDR is locked (R385). -/
def genRuns (s : State) (r : Fin 12) : Bool :=
  bitAt (s.row Obj.HL_PRBS_TABLE r.val) 63 && match rowLane r with
    | some k => laneOn s k
    | none => s.rx[Fin.ofNat 4 (r.val - 8)].cdr

/-- `INJECT` takes effect once the generator runs: its bits are the next to be inverted, and the field reads 0 (R384, log
entry 191). -/
def injectBits (r : Fin 12) (s : State) : State :=
  let v := s.row Obj.HL_PRBS_TABLE r.val
  let n := fld v 53 46
  if genRuns s r && decide (n > 0) then
    let s := (s.bumpRow Obj.HL_PRBS_COUNTERS r.val 4 3 n).setRow Obj.HL_PRBS_TABLE r.val (setFld v 53 46 0)
    s.modPrbs r fun x => { x with flip := x.flip + n }
  else s

/-- A write of a pattern row takes effect (R384-R386). -/
def writePrbs (r : Fin 12) (v : Nat) (s : State) : State :=
  let old := s.row Obj.HL_PRBS_TABLE r.val
  let s := s.setRow Obj.HL_PRBS_TABLE r.val (setFld v 45 0 0)
  let s := if bitAt v 63 && bitAt old 63 && fld v 62 59 == fld old 62 59 then s
    else s.modPrbs r fun x => { x with gen := prbsStart (fld v 62 59), made := 0, flip := 0, out := [] }
  let s := injectBits r s
  let s := if bitAt v 58 && bitAt old 58 && fld v 57 54 == fld old 57 54 then s else dropChecker r s
  match rowLane r with
  | some k => laneLevels k s
  | none => s

/-- The signalling of a row's lane (Table 10-1): PAM4 for the channels and the PAM4 modes. -/
def rowPam (s : State) (r : Fin 12) : Bool :=
  match rowLane r with
  | some k => !nrzMode (s.obj Obj.HL_MODE (sub k))
  | none => true

/-- The negation of received and of transmitted levels of a row's lane (R65, R155, R361). -/
def rowInverts (s : State) (r : Fin 12) : Bool × Bool :=
  match rowLane r with
  | some k => (s.flag Obj.HL_RX_INVERT (sub k), s.flag Obj.HL_TX_INVERT (sub k))
  | none => (s.flag Obj.DS_RX_INVERT (r.val - 7), s.flag Obj.US_TX_INVERT (r.val - 7))

/-- A row's checker receives: its lane is on, or its channel's CDR is locked (R385). -/
def chkRuns (s : State) (r : Fin 12) : Bool :=
  bitAt (s.row Obj.HL_PRBS_TABLE r.val) 58 && match rowLane r with
    | some k => laneOn s k
    | none => s.rx[Fin.ofNat 4 (r.val - 8)].cdr

/-- The generator sends `n` bits of its lane, with the levels negated where the lane says so. -/
def prbsSend (r : Fin 12) (n : Nat) (s : State) : State :=
  let pam := rowPam s r
  let code := fld (s.row Obj.HL_PRBS_TABLE r.val) 62 59
  if genRuns s r then
    let g := prbsBits code pam n s.prbs[r]
    (s.modPrbs r fun _ => { g.2 with out := bitLevels pam (rowInverts s r).2 g.1 })
  else s

/-- The bits that a row's receiver makes of what comes in, after the negation: in near-end loopback what its generator sends, HRX
being ignored (R361, R387). -/
def prbsSees (s : State) (r : Fin 12) (rx : Bytes) : List Bool :=
  let pam := rowPam s r
  let near := match rowLane r with
    | some k => s.obj Obj.HL_LOOPBACK (sub k) == 1
    | none => false
  let bits := if near && genRuns s r then levelBits pam s.prbs[r].out else byteBits rx
  if (rowInverts s r).1 then negateBits pam bits else bits

/-- R384-R386: a lane's generator and checker run over the next bits of the line. -/
def prbsLock (r : Fin 12) (rx : Bytes) (s : State) : State :=
  let s := prbsSend r (8 * rx.length) s
  if !chkRuns s r then s
  else
    let code := fld (s.row Obj.HL_PRBS_TABLE r.val) 57 54
    let c := checkBits code (rowPam s r) (prbsSees s r rx) { bits := 0, errors := 0, losses := 0, changes := [], x := s.prbs[r] }
    let n := fun (w k : Nat) (s : State) => s.bumpRow Obj.HL_PRBS_COUNTERS r.val 4 w k
    let s := n 2 c.losses (n 1 c.errors (n 0 c.bits (s.modPrbs r fun _ => c.x)))
    c.changes.reverse.foldl (fun s v => logChecker r v s) s

def execPrbsLock (t : Nat) (row : Fin 12) (rx : Bytes) (s : State) : Host.Outcome State Fault Refusal :=
  done t s (prbsLock row rx)

/-- R389: a client lane's loss of signal clears once signal and CDR lock have lasted 125 µs, so not sooner after a loss. -/
def execClientSignalClear (t : Nat) (k : Fin 8) (s : State) : Host.Outcome State Fault Refusal :=
  done t s fun s => if laneOn s k && clientMode (s.obj Obj.HL_MODE (sub k)) && decide (s.now ≥ s.lanes[k].lostAt + 125 * tickUs) then
      s.modLane k fun l => { l with signal := true, losClear := true, signalAt := if l.signal then l.signalAt else s.now }
    else s

/-- R389: block lock of a C10E or C25E lane. -/
def execBlockLock (t : Nat) (k : Fin 8) (gained : Bool) (s : State) : Host.Outcome State Fault Refusal :=
  done t s fun s =>
    let m := s.obj Obj.HL_MODE (sub k)
    if laneOn s k && (m == 20 || m == 21) then
      let s := s.modLane k fun l => { l with blockLock := gained, blockLostAt := if gained then l.blockLostAt else s.now }
      if gained then s else laneDefect k s
    else s

/-- `HL_STATE` (Table 10-10). -/
def hlState (s : State) (k : Fin 8) : Nat :=
  if !laneOn s k then 0
  else if laneTesting s k then 4
  else if s.lanes[k].locked then 3
  else if s.lanes[k].signal then 2
  else 1

/-- A lane that a write disables keeps its pairs in electrical idle (R359). -/
def laneOff (k : Fin 8) (s : State) : State :=
  (laneLost k s).modLane k fun l => { l with blockLock := false, blockLostAt := s.now }

/-- Every enabled port comes up blind (R371): at boot, with the checks of R364, and at the return to Run. -/
def portsUp (s : State) : State :=
  (fins 8).foldl (fun s p =>
    if !s.flag Obj.MAC_ENABLE (sub p) then s
    else
      let s := portEnter p .disabled 3 s
      if enableChecks s p then portLevels p (portEnter p .noSignal 0 s) else s.setObj Obj.MAC_ENABLE (sub p) 0) s

/-- The start threshold starts with no history (R379). -/
def ctFresh (s : State) : State :=
  (fins 8).foldl (fun s p => s.modPort p fun o => { o with ctStart := s.obj Obj.MAC_CT_START_INIT (sub p), clean := 0 }) s

/-- Ports and lanes go to electrical idle (Table 14-3): an enabled port reads No signal. -/
def portsIdle (s : State) : State :=
  let s := (fins 8).foldl (fun s p => if portOn s p then portEnter p .noSignal 3 s else s) s
  (fins 8).foldl (fun s k => s.modLane k fun l => { l with signal := false, locked := false, losClear := false, blockLock := false, lostAt := s.now, blockLostAt := s.now }) s

end Sys2Proof.Machine
end

