-- ==== Sys2Proof/Machine/Clients.lean ====
section
/-! DEFINITION. Constant-rate clients: mapper, de-mapper, all ones, performance bins and the forerunner block (R392-R424). -/
namespace Sys2Proof.Machine

/-- Updates a client. -/
def State.modCli (s : State) (c : Fin 8) (f : Cli → Cli) : State := { s with cli := vmod s.cli c f }

/-! ### Constants and rows (Tables 11-1 to 11-3) -/

/-- Block size B in bytes, and four times N_bits, of a client mode (Table 11-1). -/
def cliMode (m : Nat) : Nat × Nat :=
  match m with
  | 16 => (153600, 4 * 1228800)
  | 17 => (158400, 4 * 1267200)
  | 18 => (190080, 4 * 1520640)
  | 19 => (380160, 4 * 3041280)
  | 20 => (161136, 4 * 1289062 + 2)
  | 21 => (402832, 4 * 3222656 + 1)
  | _ => (0, 0)

/-- Bit rate of a client mode in b/s (Table 10-1). -/
def cliRate (m : Nat) : Nat :=
  match m with
  | 16 => 9830400000
  | 17 => 10137600000
  | 18 => 12165120000
  | 19 => 24330240000
  | 20 => 10312500000
  | 21 => 25781250000
  | _ => 0

/-- Host lane of a client. -/
def cliLane (s : State) (c : Fin 8) : Fin 8 := ⟨fld (s.cliRow c.val) 60 58 % 8, Nat.mod_lt _ (by decide)⟩
/-- Mode of a client's lane. -/
def cliLaneMode (s : State) (c : Fin 8) : Nat := s.obj Obj.HL_MODE (sub (cliLane s c))
/-- Members M. -/
def cliM (s : State) (c : Fin 8) : Nat := fld (s.cliRow c.val) 62 61 + 1
/-- Stuff unit S in bytes. -/
def cliS (s : State) (c : Fin 8) : Nat := 8 * fld (s.cliRow c.val) 57 50
/-- Block size B in bytes. -/
def cliB (s : State) (c : Fin 8) : Nat := (cliMode (cliLaneMode s c)).1
/-- Base share K_M in bits: N_bits / M to the nearest integer, a half up (R394). -/
def cliK (s : State) (c : Fin 8) : Nat :=
  let m := cliM s c
  ((cliMode (cliLaneMode s c)).2 + 2 * m) / (4 * m)
/-- Member row (Table 11-3). -/
def memberRow (s : State) (c : Fin 8) (m : Nat) : Nat := s.row Obj.CLI_MEMBER_TABLE (4 * c.val + m)
/-- Channel of a member. -/
def memberCh (s : State) (c : Fin 8) (m : Nat) : Fin 4 := ⟨fld (memberRow s c m) 62 61 % 4, Nat.mod_lt _ (by decide)⟩

/-- Loss of signal on the client lane (R389). -/
def cliLos (s : State) (c : Fin 8) : Bool := !s.lanes[cliLane s c].losClear
/-- Loss of block lock, in the modes that have it (R389, R416). -/
def cliBlk (s : State) (c : Fin 8) : Bool := decide (cliLaneMode s c ≥ 20) && !s.lanes[cliLane s c].blockLock

/-! ### All-ones runs (R417) -/

/-- A run of all-ones periods sent starts or ends. -/
def usAis (c : Fin 8) (cause : Nat) (s : State) : State :=
  let old := s.cli[c].usOnes
  if cause ≠ 0 ∧ old = 0 then (s.modCli c fun x => { x with usOnes := cause }).ev (Ev.CLI_US_AIS + c.val) [1, cause]
  else if cause = 0 ∧ old ≠ 0 then (s.modCli c fun x => { x with usOnes := 0 }).ev (Ev.CLI_US_AIS + c.val) [0, old]
  else s

/-- A run of all ones on HTX starts or ends. -/
def dsAis (c : Fin 8) (cause : Nat) (s : State) : State :=
  let old := s.cli[c].dsOnes
  let cause := if bitAt (s.cliRow c.val) 47 then 4 else cause
  if cause ≠ 0 ∧ old = 0 then (s.modCli c fun x => { x with dsOnes := cause }).ev (Ev.CLI_DS_AIS + c.val) [1, cause]
  else if cause = 0 ∧ old ≠ 0 then (s.modCli c fun x => { x with dsOnes := 0 }).ev (Ev.CLI_DS_AIS + c.val) [0, old]
  else s

/-! ### The flume queues (R402, R403) -/

/-- The number of a member's flume queue. -/
def flumeNo (c : Fin 8) (m : Nat) : Nat := 4 * c.val + m

/-- The containers that wait in a member's flume queue. -/
def flumeQueue (s : State) (n : Nat) : List QFrame := s.usq.filter fun q => q.flume == some n

/-- Takes back the buffer request of a container. -/
def dropContainerAsk (fid : Nat) (s : State) : State :=
  let keep := fun (q : HopReq) => match q.use with
    | .container _ _ x => x != fid
    | _ => true
  { s with hop := { s.hop with reqs := s.hop.reqs.map fun l => l.filter keep } }

/-- Frees containers out of the flume queues. -/
def freeContainers (drop : QFrame → Bool) (s : State) : State :=
  let gone := s.usq.filter fun q => q.flume.isSome && drop q
  let s := { s with usq := s.usq.filter fun q => !(q.flume.isSome && drop q) }
  gone.foldl (fun s q => releaseHandles (queueOwner q.queue) q.handles (dropContainerAsk q.fid s)) s

/-- Discards a member's period (R401-R403). -/
def dropPeriod (c : Fin 8) (m gfc : Nat) (s : State) : State :=
  (freeContainers (fun q => q.flume == some (flumeNo c m) && q.tag == gfc) s).bump Obj.CLI_US_PERIODS_DROPPED (sub c)

/-- The 16-byte header of Table 11-4. -/
def contHeader (gfc no : Nat) (last : Bool) (m mm1 : Nat) (ais : Bool) (jc : Int) (pointer : Nat) : Nat :=
  let j := ofS 12 jc
  let v := gfc * 2 ^ 112 + no * 2 ^ 106 + b2n last * 2 ^ 105 + m * 2 ^ 103 + mm1 * 2 ^ 101 + b2n ais * 2 ^ 100 +
    j * 2 ^ 88 + j * 2 ^ 76 + j * 2 ^ 64 + pointer * 2 ^ 48
  v + crc16Tlink v

/-- The containers of a member's period (R398, R400): `d` data bytes of value `v`. -/
def containers (d v gfc m mm1 : Nat) (ais : Bool) (jc : Int) (pointer : Nat) : List Bytes :=
  let n := (d + 15999) / 16000
  (List.range n).map fun i =>
    let len := if i + 1 = n then d - 16000 * i else 16000
    let x := v / 256 ^ (d - 16000 * i - len) % 256 ^ len
    beBytes 16 (contHeader gfc i (i + 1 == n) m mm1 ais jc pointer) ++ beBytes len x

/-- Queues one container and asks for its buffer (R402). -/
def queueContainer (c : Fin 8) (m gfc : Nat) (s : State) (bytes : Bytes) : State :=
  let row := fld (memberRow s c m) 44 37
  let q : QFrame :=
    { fid := s.nextCont, queue := 8 * row, data := bytes, total := bytes.length, flow := fld (memberRow s c m) 60 45,
      bond := none, hash := 0, seqValid := false, seq := 0, colour := 1, at0 := s.now, ts := none, tag := gfc, handles := [],
      chMask := 2 ^ (memberCh s c m).val, flume := some (flumeNo c m), ingress := s.now, ptpOff := none, udpOff := none,
      oneStep := 0, express := false, fromPort := false, src := 0 }
  hopAsk 4 { requester := c.val, owner := queueOwner q.queue, region := c.val, use := .container c.val m q.fid }
    { s with usq := s.usq ++ [q], nextCont := s.nextCont + 1 }

/-- The `GFC` values of the periods in a flume queue, oldest first. -/
def flumePeriods (s : State) (n : Nat) : List Nat := ((flumeQueue s n).map fun q => q.tag).eraseDups

/-- A member's period joins its flume queue (R401-R403). -/
def queuePeriod (c : Fin 8) (m gfc d v : Nat) (ais : Bool) (jc : Int) (pointer : Nat) (s : State) : State :=
  let timing := s.rx[memberCh s c 0].st == .sync
  if !timing || s.act[memberCh s c m].st != .operating then s.bump Obj.CLI_US_PERIODS_DROPPED (sub c)
  else
    let n := flumeNo c m
    let s := match flumePeriods s n with
      | g :: rest => if rest.length + 1 ≥ 4 then dropPeriod c m g s else s
      | [] => s
    let s := (containers d v gfc m (cliM s c - 1) ais jc pointer).foldl (queueContainer c m gfc) s
    s.bump Obj.CLI_PERIODS_SENT (sub c)

/-! ### What HTX sends (R410, R414-R416) -/

/-- Bits `n` of all ones. -/
def onesVal (n : Nat) : Nat := 2 ^ n - 1

/-- Client bits that leave in a time at the regenerated clock. -/
def playedBits (rate : Nat) (y : Int) (dt : Nat) : Nat :=
  (((dt * rate : Nat) : Int) * (1000000000 + y) / ((1000000000 * tickS : Nat) : Int)).toNat

/-- Takes played bits off the playout buffer: what is left, and the bits that leave after those of `o`, as number and value. -/
def drainPlay : List PlayFrame → Nat → Nat × Nat → List PlayFrame × (Nat × Nat)
  | [], _, o => ([], o)
  | f :: fs, n, o =>
    if n ≥ f.bits then drainPlay fs (n - f.bits) (o.1 + f.bits, o.2 * 2 ^ f.bits + f.val)
    else ({ f with bits := f.bits - n, val := f.val % 2 ^ (f.bits - n) } :: fs, (o.1 + n, o.2 * 2 ^ n + f.val / 2 ^ (f.bits - n)))

/-- Brings the playout buffer up to now. While output does not run, or `FORCE_AIS_DS` is set, HTX sends all ones (R416). -/
def settlePlay (s : State) (c : Fin 8) (x : Cli) : Cli :=
  let n := playedBits (cliRate (cliLaneMode s c)) x.y (s.now - x.playAt)
  if x.running then
    let r := drainPlay x.playout n x.out
    let out := if bitAt (s.cliRow c.val) 47 then (r.2.1, x.out.2 * 2 ^ (r.2.1 - x.out.1) + onesVal (r.2.1 - x.out.1)) else r.2
    { x with playout := r.1, playAt := s.now, out := out }
  else { x with playAt := s.now, out := (x.out.1 + n, x.out.2 * 2 ^ n + onesVal n) }

/-- The bits that a client's lane has sent since the last client period boundary, negated where `HL_TX_INVERT` is set (R361). -/
def htxSent (s : State) (c : Fin 8) : Nat × Nat :=
  let o := (settlePlay s c s.cli[c]).out
  (o.1, if s.flag Obj.HL_TX_INVERT (sub (cliLane s c)) then onesVal o.1 - o.2 else o.2)

/-- Client time in the playout buffer now, in ns: a period is 125 µs of the client (R393, R414). -/
def playFill (s : State) (c : Fin 8) : Nat :=
  (settlePlay s c s.cli[c]).playout.foldl (fun n f => n + 125000 * f.bits / max 1 f.total) 0

/-! ### The mapper (R401-R407, R416) -/

/-- The decision of R406 on `f` bytes: JC, the bytes sent, and whether the mapper slips. -/
def pointerDecide (b sU f : Nat) : Int × Nat × Bool :=
  let e : Int := (f : Int) - (b : Int) - (sU : Int)
  let jc : Int := if 2 * e > (sU : Int) then 1 else if 2 * e < -(sU : Int) then -1 else 0
  let d := ((b : Int) + jc * (sU : Int)).toNat
  if f < d ∨ f > 2 * b + 2 * sU then (0, b, true) else (jc, d, false)

/-- The decision of R407 on `f` bits: JC per member, how often it was clamped, and whether the mapper slips. -/
def groupDecide (m k f : Nat) : List Int × Nat × Bool :=
  let t0 : Int := (f : Int) - ((m * k : Nat) : Int) - 1024
  let lim : Int := ((2047 * m : Nat) : Int)
  let t := clampI (-lim) lim t0
  let q := t / (m : Int)
  let x := (t - q * (m : Int)).toNat
  let jc := (List.range m).map fun i => if i < x then q + 1 else q
  if (f : Int) < ((m * k : Nat) : Int) + t ∨ f > 2 * m * k + 2048 then
    (List.replicate m 0, b2n (t != t0), true)
  else (jc, b2n (t != t0), false)

/-- The oldest `n` bits of the mapper's buffer. -/
def bufTake (n : Nat) (x : Cli) : Nat × Cli :=
  (x.buf / 2 ^ (x.bufBits - n), { x with buf := x.buf % 2 ^ (x.bufBits - n), bufBits := x.bufBits - n })

/-- The parts of a period with their values, taken in member order from the buffer (R407). -/
def takeParts (k : Nat) : List Int → Cli → List (Int × Nat × Nat) × Cli
  | [], x => ([], x)
  | jc :: rest, x =>
    let n := ((k : Int) + jc).toNat
    let (v, x) := bufTake n x
    let (ps, x) := takeParts k rest x
    ((jc, n, v) :: ps, x)

/-- A period's data, all ones or from the buffer: for each member JC, bits, value; the cause of all ones; the client. -/
def mapPeriod (s : State) (c : Fin 8) (cause : Nat) (x : Cli) : List (Int × Nat × Nat) × Nat × Nat × Cli :=
  let m := cliM s c
  let b := cliB s c
  let k := cliK s c
  let empty : Cli := { x with buf := 0, bufBits := 0 }
  if m = 1 then
    let ones := [((0 : Int), 8 * b, onesVal (8 * b))]
    if cause ≠ 0 then (ones, cause, 0, empty)
    else
      let (jc, d, slip) := pointerDecide b (cliS s c) (x.bufBits / 8)
      if slip then (ones, 4, 0, empty)
      else
        let (v, x) := bufTake (8 * d) x
        ([(jc, 8 * d, v)], 0, 0, x)
  else
    let ones := List.replicate m ((0 : Int), k, onesVal k)
    if cause ≠ 0 then (ones, cause, 0, empty)
    else
      let (jcs, clamped, slip) := groupDecide m k x.bufBits
      if slip then (ones, 4, clamped, empty)
      else
        let (ps, x) := takeParts k jcs x
        (ps, 0, clamped, x)

/-- The client bits of the period that ends: in near-end loopback those that HTX has sent (R387); negated where
`HL_RX_INVERT` is set, which in NRZ inverts every bit (R361). -/
def clientBits (s : State) (c : Fin 8) (count v : Nat) : Nat × Nat :=
  let k := cliLane s c
  let out := htxSent s c
  let r := if s.obj Obj.HL_LOOPBACK (sub k) = 1 then out else (count, v)
  (r.1, if s.flag Obj.HL_RX_INVERT (sub k) then onesVal r.1 - r.2 else r.2)

/-- R401-R407, R416: a client period boundary. -/
def periodBoundary (c : Fin 8) (count : Nat) (data : Bytes) (s : State) : State :=
  let x := s.cli[c]
  let mark := fun (y : Cli) => { y with started := true, boundary := s.now, startLos := cliLos s c, startBlk := cliBlk s c }
  if !s.cliOn c.val then s
  else if !x.started then s.modCli c fun y => mark { y with buf := 0, bufBits := 0, out := (0, 0), playAt := s.now }
  else
    let lane := s.lanes[cliLane s c]
    let los := x.startLos || cliLos s c || decide (lane.lostAt > x.boundary)
    let blk := decide (cliLaneMode s c ≥ 20) && (x.startBlk || cliBlk s c || decide (lane.blockLostAt > x.boundary))
    let cause := if los then 1 else if blk then 2 else if bitAt (s.cliRow c.val) 48 then 3 else 0
    let (count, v) := clientBits s c count (beNat data / 2 ^ (8 * data.length - count))
    let x := { settlePlay s c x with out := (0, 0) }
    let x := { x with buf := x.buf * 2 ^ count + v, bufBits := x.bufBits + count }
    let (parts, ones, clamped, x) := mapPeriod s c cause x
    let m := cliM s c
    let b := cliB s c
    let pointer := if m = 1 then (b - x.r) % b / 8 else 0xFFFF
    let gfc := x.gfc
    let total := parts.foldl (fun t p => t + p.1) 0
    let stuff := if m = 1 then total != 0 else match x.prevJc with
      | some p => total != p
      | none => false
    let r := if m = 1 then (x.r + (parts.headD (0, 0, 0)).2.1 / 8) % b else 0
    let s := s.modCli c fun _ => mark { x with r := r, gfc := (gfc + 1) % 65536, lastSent := gfc, prevJc := some total }
    let s := s.bump Obj.CLI_JC_CLAMPED (sub c) clamped
    let s := if ones = 4 then s.bump Obj.CLI_US_SLIPS (sub c) else s
    let s := if ones ≠ 0 then pmWord (pmClient c) 5 1 (s.bump Obj.CLI_AIS_SENT (sub c)) else s
    let s := usAis c ones s
    let s := if stuff then pmWord (pmClient c) 0 1 s else s
    (parts.zipIdx).foldl (fun s p =>
      let ((jc, n, v), i) := p
      let d := (n + 7) / 8
      queuePeriod c i gfc d (v * 2 ^ (8 * d - n)) (ones != 0) jc pointer s) s

/-- The bytes of a period hold its client bits. -/
def execPeriodBoundary (t : Nat) (c : Fin 8) (count : Nat) (data : Bytes) (s : State) : Host.Outcome State Fault Refusal :=
  doneIf (decide (data.length = (count + 7) / 8)) t s fun s => if s.running then periodBoundary c count data s else s

/-! ### Playout (R410, R412, R414, R415) -/

/-- One step of the type-2 loop that holds the fill at `PLAYOUT_US`: the clock offset and the integral for an error in ns,
limited to 500 ppm (R415). -/
def steer (e integral : Int) : Int × Int :=
  let lim : Int := 500000
  let i := clampI (-lim * 65536) (lim * 65536) (integral + (Config.playLoop.2 : Int) * e)
  (clampI (-lim) lim (((Config.playLoop.1 : Int) * e + i) / 65536), i)

/-- The next frame of the stream goes to the playout buffer; while output runs, the loop takes a step for each (R415, log
entry 88). -/
def playOut (c : Fin 8) (f : PlayFrame) (cause : Nat) (s : State) : State :=
  let row := s.cliRow c.val
  let target := 1000 * fld row 38 31
  let s := s.modCli c fun x =>
    let x := settlePlay s c x
    { x with playout := x.playout ++ [f], lastPlayed := f.gfc }
  let fill := playFill s c
  let s := s.modCli c fun x =>
    if bitAt row 49 then { x with y := 0, integral := 0, running := x.running || decide (fill ≥ target), playAt := s.now }
    else if x.running then
      let r := steer ((fill : Int) - (target : Int)) x.integral
      { x with y := r.1, integral := r.2 }
    else { x with running := decide (fill ≥ target), playAt := s.now }
  dsAis c cause s

/-- Bits of a lost frame (R412). -/
def lostBits (s : State) (c : Fin 8) : Nat := if cliM s c = 1 then 8 * cliB s c else cliM s c * cliK s c

/-- A lost frame plays out as all ones. -/
def playLost (c : Fin 8) (gfc : Nat) (s : State) : State :=
  let n := lostBits s c
  playOut c { gfc := gfc, total := n, bits := n, ones := true, val := onesVal n } 2 s

/-! ### The de-mapper (R408-R413) -/

/-- The de-mapper goes to Seek with no history (R411). -/
def cliSeek (c : Fin 8) (trigger : Nat) (s : State) : State :=
  let old := s.cli[c].st
  let s := s.modCli c fun x => { x with
    st := 1, seekRun := 0, lostRun := 0, ptrRun := 0, lastGfc := none, refPtr := none, playout := [], running := false }
  let s := if old = 1 then s else s.ev (Ev.CLI_STATE_CHANGED + c.val) [old, 1, trigger]
  pmDefect (pmClient c) (dsAis c 1 s)

/-- A frame was lost in the present run of `GFC`, which wraps after 65,536 periods (R398, R409). -/
def lostNow (s : State) (c : Fin 8) (gfc : Nat) : Bool :=
  s.cli[c].lost.any fun e => e.1 == gfc && decide (s.now < e.2 + 32768 * 125 * tickUs)

/-- Counts a lost frame (R409, R419). -/
def countLost (c : Fin 8) (gfc : Nat) (s : State) : State :=
  let s := s.bump Obj.CLI_PERIODS_LOST (sub c)
  let s := compatCli c 0 (pmWord (pmClient c) 6 1 (pmErrored (pmClient c) 1 s))
  s.modCli c fun x => { x with
    lost := ((gfc, s.now) :: x.lost).take 16, lostRun := x.lostRun + 1, refPtr := none, seekRun := 0, lastGfc := none
    lastAis := false, lastSkew := false }

/-- A group frame is lost (R409, R411, R412). -/
def frameLost (c : Fin 8) (gfc : Nat) (s : State) : State :=
  let x := s.cli[c]
  if lostNow s c gfc then s
  else
    let s := s.modCli c fun x => { x with
      frames := x.frames.filter fun f => f.gfc ≠ gfc, parts := x.parts.filter fun p => p.gfc ≠ gfc }
    let s := countLost c gfc s
    if x.st ≠ 2 then s
    else
      let s := if gfc = x.expected then
          (playLost c gfc s).modCli c fun y => { y with expected := (gfc + 1) % 65536 }
        else s
      if s.cli[c].lostRun ≥ 3 then cliSeek c 5 s else s

/-- The `POINTER` rule of Table 11-7. -/
def pointerNext (s : State) (c : Fin 8) (p : Nat) (jc : Int) : Nat :=
  let n := cliB s c / 8
  (((p : Int) - jc * ((cliS s c / 8 : Nat) : Int)) % (n : Int)).toNat

/-- The client bits of a complete frame, in member order. -/
def frameBits (s : State) (c : Fin 8) (f : CliFrame) : Nat × Nat :=
  if cliM s c = 1 then
    let p := f.parts.headD { member := 0, gfc := 0, nextNo := 0, at0 := 0, data := 0, bytes := 0, full := true, jc := 0, ais := false, pointer := 0 }
    (8 * p.bytes, p.data)
  else
    (List.range (cliM s c)).foldl (fun acc m =>
      match f.parts.find? fun p => p.member == m with
      | some p =>
        let n := ((cliK s c : Int) + p.jc).toNat
        (acc.1 + n, acc.2 * 2 ^ n + p.data / 2 ^ (8 * p.bytes - n))
      | none => acc) (0, 0)

/-- Plays a good frame; one with `AIS` as all ones of its own length (R412). -/
def playGood (c : Fin 8) (f : CliFrame) (ais : Bool) (s : State) : State :=
  let (n, v) := frameBits s c f
  let s := playOut c { gfc := f.gfc, total := n, bits := n, ones := ais, val := if ais then onesVal n else v } (if ais then 3 else 0) s
  s.modCli c fun x => { x with expected := (f.gfc + 1) % 65536 }

/-- The frames before a good one are lost and played out as all ones (R412). -/
def fillLost (c : Fin 8) : Nat → State → State
  | 0, s => s
  | n + 1, s =>
    let e := s.cli[c].expected
    let s := if lostNow s c e then s else countLost c e s
    fillLost c n ((playLost c e s).modCli c fun x => { x with expected := (e + 1) % 65536 })

/-- Every member's part is complete: a good frame (R409-R413). -/
def frameGood (c : Fin 8) (f : CliFrame) (s : State) : State :=
  let one := decide (cliM s c = 1)
  let ais := f.parts.any fun p => p.ais
  let jc := f.parts.foldl (fun t p => t + p.jc) 0
  let ptr := (f.parts.headD { member := 0, gfc := 0, nextNo := 0, at0 := 0, data := 0, bytes := 0, full := true, jc := 0, ais := false, pointer := 0 }).pointer
  let x := s.cli[c]
  let e := pmClient c
  let s := s.bump Obj.CLI_PERIODS_RECEIVED (sub c)
  let s := if ais then compatCli c 3 (pmDefect e (pmWord e 4 1 (s.bump Obj.CLI_AIS_RECEIVED (sub c)))) else s
  let stuff := if one then jc != 0 else match x.dsPrevJc with
    | some p => jc != p
    | none => false
  let s := if stuff then compatCli c 2 (pmWord e 1 1 s) else s
  let s := if one && x.dsPrevJc.isSome && ptr != x.lastPtr then pmWord e 2 1 s else s
  let follows := match x.refPtr with
    | some (p, j) => ptr == pointerNext s c p j
    | none => true
  let consec := x.lastGfc == some ((f.gfc + 65535) % 65536)
  let s := s.modCli c fun y => { y with
    frames := y.frames.filter fun g => g.gfc ≠ f.gfc, lastPtr := if one then ptr else y.lastPtr, dsPrevJc := some jc, lastAis := ais
    lastSkew := false }
  let seen := fun (y : Cli) => { y with lastGfc := some f.gfc, refPtr := if one then some (ptr, jc) else none, lostRun := 0 }
  if x.st = 1 then
    let run := if consec && (follows || !one) then x.seekRun + 1 else 1
    let s := s.modCli c fun y => seen { y with seekRun := run }
    if run < 3 then s
    else
      let s := s.modCli c fun y => { y with st := 2, seekRun := 0, ptrRun := 0 }
      playGood c f ais (s.ev (Ev.CLI_STATE_CHANGED + c.val) [1, 2, 7])
  else if x.st = 2 then
    let d := (f.gfc + 65536 - x.expected) % 65536
    if d > 3 then s.bump Obj.CLI_LATE_CONTAINERS (sub c)
    else
      let s := fillLost c d s
      let gone := s.cli[c].lostRun
      let bad := one && d == 0 && !follows
      let s := if bad then pmErrored e 1 (pmWord e 3 1 (s.bump Obj.CLI_PTR_ERRORS (sub c))) else s
      let s := s.modCli c fun y => seen { y with ptrRun := if bad then y.ptrRun + 1 else 0 }
      let s := playGood c f ais s
      -- The third lost frame in a row takes the de-mapper to Seek, after the action of R412 (log entry 194).
      if d > 0 && decide (gone ≥ 3) then cliSeek c 5 s else if s.cli[c].ptrRun ≥ 8 then cliSeek c 6 s else s
  else s

/-- The majority of the three copies of JC (R399). -/
def majority (h : Nat) : Int :=
  let a := fld h 99 88
  let b := fld h 87 76
  let d := fld h 75 64
  toS 12 (Nat.lor (Nat.lor (Nat.land a b) (Nat.land a d)) (Nat.land b d))

/-- The lengths and the range of a part against its JC (R399, R400, R408). -/
def partLengths (s : State) (c : Fin 8) (p : CliPart) : Bool :=
  if cliM s c = 1 then
    decide (-1 ≤ p.jc) && decide (p.jc ≤ 1) && p.full &&
      decide ((p.bytes : Int) = (cliB s c : Int) + p.jc * (cliS s c : Int)) && decide (p.nextNo = (p.bytes + 15999) / 16000)
  else
    decide (-2047 ≤ p.jc) && decide (p.jc ≤ 2047) && p.full &&
      decide (p.bytes = (((cliK s c : Int) + p.jc).toNat + 7) / 8) && decide (p.nextNo = (p.bytes + 15999) / 16000)

/-- A member's part is complete (R409). -/
def partDone (c : Fin 8) (p : CliPart) (s : State) : State :=
  let old := s.cli[c].frames.find? fun f => f.gfc == p.gfc
  let p := { p with at0 := s.now }
  let f : CliFrame := match old with
    | some f => { f with parts := f.parts ++ [p] }
    | none => { gfc := p.gfc, parts := [p] }
  let s := s.modCli c fun x => { x with frames := (x.frames.filter fun g => g.gfc ≠ p.gfc) ++ [f] }
  if f.parts.length < cliM s c then s
  else
    let first := (f.parts.headD p).at0
    frameGood c f (s.modCli c fun x => { x with skewNs := (s.now - first) / tickNs })

/-- The part of a member in progress. -/
def curPart (s : State) (c : Fin 8) (m : Nat) : Option CliPart := s.cli[c].parts.find? fun p => p.member == m

/-- Takes away the part of a member in progress. -/
def dropPart (c : Fin 8) (m : Nat) (s : State) : State :=
  s.modCli c fun x => { x with parts := x.parts.filter fun p => p.member ≠ m }

/-- The part of a member fails: its group frame is lost (R408, R409). -/
def failPart (c : Fin 8) (m : Nat) (s : State) : State :=
  match curPart s c m with
  | some p => frameLost c p.gfc (dropPart c m s)
  | none => s

/-- `gfc` follows `g`. -/
def gfcLater (gfc g : Nat) : Bool := decide (0 < (gfc + 65536 - g) % 65536) && decide ((gfc + 65536 - g) % 65536 < 32768)

/-- A member's part of a period is complete or lost already. -/
def partSettled (s : State) (c : Fin 8) (m gfc : Nat) : Bool :=
  lostNow s c gfc || s.cli[c].frames.any fun f => f.gfc == gfc && f.parts.any fun p => p.member == m

/-- A sound container of a member has been heard. -/
def heardPart (c : Fin 8) (m gfc : Nat) (last : Bool) (s : State) : State :=
  s.modCli c fun x => { x with heard := (m, gfc, last) :: x.heard.filter fun e => e.1 ≠ m }

/-- A container whose `CRC` is bad fails the part that its member has in progress, or, where the last container heard ended a
period, the part of the next one: the container's own numbers are not to be trusted (R408). -/
def crcFails (c : Fin 8) (m : Nat) (s : State) : State :=
  match curPart s c m, s.cli[c].heard.find? fun e => e.1 == m with
  | some _, _ => failPart c m s
  | none, some (_, g, true) => frameLost c ((g + 1) % 65536) (heardPart c m ((g + 1) % 65536) false s)
  | none, _ => s

/-- A container joins its member's part (R408). -/
def joinPart (c : Fin 8) (m h : Nat) (data : Bytes) (s : State) : State :=
  let gfc := fld h 127 112
  let no := fld h 111 106
  let s := heardPart c m gfc (bitAt h 105) s
  let s := match curPart s c m with
    | some p => if gfcLater gfc p.gfc then failPart c m s else s
    | none => s
  let done := partSettled s c m gfc
  let start : CliPart := { member := m, gfc := gfc, nextNo := 0, at0 := s.now, data := 0, bytes := 0, full := true, jc := 0, ais := false, pointer := 0 }
  let cur := match curPart s c m with
    | some p => if p.gfc = gfc then some p else none
    | none => if done then none else some start
  match cur with
  | none => s
  | some p =>
    if no ≠ p.nextNo then frameLost c gfc (dropPart c m s)
    else
      let last := bitAt h 105
      let q := { p with
        nextNo := p.nextNo + 1, data := p.data * 256 ^ data.length + beNat data, bytes := p.bytes + data.length
        full := p.full && (last || decide (data.length = 16000)), jc := majority h, ais := bitAt h 100, pointer := fld h 63 48 }
      let s := dropPart c m s
      if !last then s.modCli c fun x => { x with parts := x.parts ++ [q] }
      else if partLengths s c q then partDone c q s
      else frameLost c gfc (s.bump Obj.CLI_JC_ERRORS (sub c))

/-- A container with `FEC_BAD`, a failed tag or a wrong `MEMBER` fails its part (R408). -/
def badPart (c : Fin 8) (m gfc : Nat) (s : State) : State :=
  let s := match curPart s c m with
    | some p => if p.gfc = gfc ∨ gfcLater gfc p.gfc then failPart c m s else s
    | none => s
  if partSettled s c m gfc || (curPart s c m).isSome then s else frameLost c gfc s

/-- The member whose channel is `ch`. -/
def memberOf (s : State) (c : Fin 8) (ch : Nat) : Option Nat :=
  (List.range (cliM s c)).find? fun m => (memberCh s c m).val == ch

/-- One container at the de-mapper (R408): its `CRC` first, then its `MEMBER`. -/
def demap (c : Fin 8) (f : FlumeIn) (s : State) : State :=
  let h := beAt f.data 0 16
  let k := fld h 104 103
  if f.data.length < 16 || crc16Tlink h != h % 2 ^ 16 then
    let s := compatCli c 1 (s.bump Obj.CLI_CONT_CRC_ERRORS (sub c))
    match memberOf s c f.ch with
    | some m => crcFails c m s
    | none => s
  else match memberOf s c f.ch with
    | some m =>
      if k ≠ m ∧ k < cliM s c then s.bump Obj.CLI_WRONG_CHANNEL (sub c)
      else if f.bad || k != m then badPart c m (fld h 127 112) (heardPart c m (fld h 127 112) (bitAt h 105) s)
      else joinPart c m h (f.data.drop 16) s
    | none => if k < cliM s c then s.bump Obj.CLI_WRONG_CHANNEL (sub c) else s

/-- The verdict of a container's tag is still out (R477). -/
def verdictOpen (s : State) (f : FlumeIn) : Bool :=
  s.rx.toList.any fun r => r.verdicts.any fun v => v.client.isSome && v.fid == f.fid

/-- R408: the next container of a client whose checks are decided. -/
def container (c : Fin 8) (s : State) : State :=
  match s.flumeIn.find? fun f => f.client == c.val && !verdictOpen s f with
  | none => s
  | some f =>
    let s := { s with flumeIn := s.flumeIn.filter fun g => g.fid ≠ f.fid }
    if s.cliOn c.val && s.cli[c].st != 0 then demap c f s else s

def execContainer (t : Nat) (c : Fin 8) (s : State) : Host.Outcome State Fault Refusal :=
  done t s fun s => if s.running then container c s else s

/-- R409, R417: the frames whose time is up are lost. -/
def skewExpire (c : Fin 8) (s : State) : State :=
  if cliM s c = 1 then
    let old := s.cli[c].parts.filter fun p => decide (s.now ≥ p.at0 + 250 * tickUs)
    old.foldl (fun s p => frameLost c p.gfc (dropPart c p.member s)) s
  else
    let lim := fld (s.cliRow c.val) 46 39 * tickUs
    let old := s.cli[c].frames.filter fun f => f.parts.any fun p => decide (s.now ≥ p.at0 + lim)
    old.foldl (fun s f =>
      let last := match f.parts.getLast? with
        | some p => p.member
        | none => 0
      let s := s.evOnce (Ev.CLI_SKEW_EXCEEDED + c.val) 0 [f.gfc, last]
      let s := frameLost c f.gfc (pmWord (pmClient c) 7 1 s)
      s.modCli c fun x => { x with lastSkew := true }) s

def execSkewLimit (t : Nat) (c : Fin 8) (s : State) : Host.Outcome State Fault Refusal :=
  done t s fun s => if s.running then skewExpire c s else s

/-- R414: the fill has reached 0 or its bound. -/
def playoutSlip (c : Fin 8) (s : State) : State :=
  let fill := playFill s c
  let lim := 1000 * (fld (s.cliRow c.val) 38 31 + 250)
  if s.cli[c].st = 2 ∧ s.cli[c].running ∧ (fill = 0 ∨ fill > lim) then
    cliSeek c 4 (s.bump Obj.CLI_PLAYOUT_SLIPS (sub c))
  else s

def execPlayoutSlip (t : Nat) (c : Fin 8) (s : State) : Host.Outcome State Fault Refusal := done t s (playoutSlip c)

/-! ### Enable, disable and power (R396, R411, R418) -/

/-- The mapper and the de-mapper start as at enable. -/
def cliRestart (c : Fin 8) (s : State) : State :=
  s.modCli c fun x => { Cli.init with st := 1, dsOnes := x.dsOnes, playAt := s.now, lastSent := x.lastSent, lastPlayed := x.lastPlayed, lastPtr := x.lastPtr }

/-- A client's containers are freed and its mapper stops. -/
def cliStopMapper (c : Fin 8) (s : State) : State :=
  let s := freeContainers (fun q => q.flume.any fun n => n / 4 == c.val) s
  let s := usAis c 0 s
  { s with flumeIn := s.flumeIn.filter fun f => f.client ≠ c.val }

/-- `ENABLE` written 1 (R396). -/
def cliStart (c : Fin 8) (s : State) : State :=
  let s := (cliRestart c s).ev (Ev.CLI_STATE_CHANGED + c.val) [0, 1, 2]
  pmSuspect (pmClient c) (dsAis c 1 s)

/-- `ENABLE` written 0 (R396). -/
def cliStop (c : Fin 8) (s : State) : State :=
  let old := s.cli[c].st
  let s := dsAis c 1 (cliStopMapper c s)
  let s := s.modCli c fun x => { Cli.init with dsOnes := x.dsOnes, playAt := s.now }
  let s := { s with pwr := { s.pwr with quietSince := s.now, idleSince := s.now } }
  pmSuspect (pmClient c) (s.ev (Ev.CLI_STATE_CHANGED + c.val) [old, 0, 1])

/-- A power state that stops the clients is entered (R411, R418). -/
def clientsStop (s : State) : State :=
  (fins 8).foldl (fun s c =>
    let s := cliStopMapper c s
    if s.cli[c].st = 0 then s
    else (cliSeek c 3 s).modCli c fun x => { x with parts := [], frames := [], lost := [], heard := [], started := false, buf := 0, bufBits := 0 }) s

/-- Every enabled client restarts at the return to Run (R418). -/
def clientsRestart (s : State) : State :=
  (fins 8).foldl (fun s c => if s.cliOn c.val then dsAis c 1 (cliRestart c s) else s) s

/-- Fields of a client row in range (Table 11-2). -/
def cliFieldsOk (v : Nat) : Bool :=
  let u := fld v 57 50
  let k := fld v 46 39
  decide (1 ≤ u) && decide (u ≤ 128) && decide (1 ≤ k) && decide (k ≤ 250) && decide (fld v 38 31 ≤ 250)

/-- The tests of R396 on a client row. -/
def cliEnableOk (s : State) (c : Fin 8) (v : Nat) : Bool :=
  let m := fld v 62 61 + 1
  let lane := fld v 60 58
  let row := fun (i : Nat) => memberRow s c i
  let ids := (List.range m).map fun i => fld (row i) 60 45
  let chs := (List.range m).map fun i => fld (row i) 62 61
  let others := (fins 8).filter fun d => d != c && s.cliOn d.val
  clientMode (s.obj Obj.HL_MODE (lane + 1)) && (others.all fun d => fld (s.cliRow d.val) 60 58 != lane) &&
    ((List.range 4).all fun i => bitAt (row i) 63 == decide (i < m)) && decide chs.Nodup && decide ids.Nodup &&
    ids.all fun i => i != 0xFFFF && others.all fun d => (List.range (cliM s d)).all fun j => fld (memberRow s d j) 60 45 != i

/-- A client row that a write may hold (R396, R608). -/
def cliRowStatus (s : State) (c : Fin 8) (v : Nat) : Status :=
  let old := s.cliRow c.val
  let keep := fun (x : Nat) => setFld (setFld x 63 63 0) 48 47 0
  if !cliFieldsOk v || (bitAt v 63 && !cliEnableOk s c v) then .range
  else if bitAt old 63 && keep old != keep v then .state
  else .ok

/-- A member row that a write may hold (R396). -/
def memberRowStatus (s : State) (r v : Nat) : Status :=
  if fld v 60 45 = 0xFFFF then .range else if s.cliOn (r / 4) then .state else .ok

/-- A write of a client row takes effect (R396, R416). -/
def writeCliRow (c : Fin 8) (v : Nat) (s : State) : State :=
  let on := s.cliOn c.val
  let s := s.setRow Obj.CLI_TABLE c.val v
  let s := if bitAt v 63 && !on then cliStart c (leaveIdle s) else if !bitAt v 63 && on then cliStop c s else s
  if s.cli[c].st = 2 then dsAis c (if s.cli[c].lastAis then 3 else 0) s else if s.cli[c].st = 1 then dsAis c 1 s else s

/-! ### Performance bins (R419-R421) -/

/-- The entity counts in this second (R419). -/
def pmCounts (s : State) (e : Fin 12) : Bool :=
  if e.val < 8 then s.cliOn e.val else s.flag Obj.DS_RX_ENABLE (e.val - 7)

/-- A defect is present now (Table 11-10). -/
def pmDefectNow (s : State) (e : Fin 12) : Bool :=
  match (fins 8).find? fun c => c.val == e.val with
  | some c => s.cli[c].st != 2 || cliLos s c || cliBlk s c
  | none => match (fins 4).find? fun ch => ch.val + 8 == e.val with
    | some ch => s.rx[ch].st != .sync
    | none => false

/-- Marks the newest `n` held seconds as available or not. -/
def markHeld (n : Nat) (u : Bool) (l : List PmSec) : List PmSec :=
  let k := l.length - n
  l.take k ++ (l.drop k).map fun p => { p with uas := u }

/-- Classifies the second that has ended for one entity (R419). -/
def pmClassify (second : Nat) (e : Fin 12) (s : State) : State :=
  let x := s.pm[e]
  let now := pmDefectNow s e
  let fresh := fun (s : State) => s.modPm e fun x => { x with acc := { PmAcc.init with defect := pmDefectNow s e } }
  if !pmCounts s e then fresh s
  else
    let lim := if e.val < 8 then 2400 else 1728000
    let def' := x.acc.defect || now
    let p : PmSec := { second := second, errored := x.acc.errored, es := def' || decide (x.acc.errored > 0)
                       ses := def' || decide (x.acc.errored ≥ lim), uas := x.unavail, words := x.acc.words }
    let held := x.held ++ [p]
    let last := held.drop (held.length - 10)
    let flips := decide (last.length = 10) && last.all fun q => q.ses != x.unavail
    let s := fresh (s.modPm e fun x => { x with
      held := if flips then markHeld 10 (!x.unavail) held else held, unavail := if flips then !x.unavail else x.unavail })
    if flips then s.ev Ev.CLI_UNAVAILABLE [e.val, b2n (!x.unavail)] else s

/-- R419: at each whole TAI second. A bin whose start finds the servo not locked is suspect (R420). -/
def pmSecond (s : State) : State :=
  let sec := taiSecond s
  let s := if s.time.doms[s.time.selected].state = .locked then s
    else
      let mk := fun (w : Nat) (b : PmBins) => if sec % w = 0 then markBins w sec b else b
      (fins 12).foldl (fun s e => s.modPm e fun x => { x with quarter := mk 900 x.quarter, day := mk 86400 x.day }) s
  (fins 12).foldl (fun s e => pmClassify (sec - 1) e s) s

def execPmSecond (t : Nat) (s : State) : Host.Outcome State Fault Refusal :=
  done t s fun s => match s.pwr.phase with
    | .up => pmSecond s
    | _ => s

/-- Adds a second to a bin. -/
def binAdd (p : PmSec) (b : PmBin) : PmBin :=
  let w := b.words
  let a := !p.uas
  let head := [b2n (a && p.es), b2n (a && p.ses), b2n p.uas, if a && !p.ses then p.errored else 0, p.errored, 1]
  { b with words := Vector.ofFn fun i => w[i] + (if i.val < 6 then head.getD i.val 0 else p.words.toList.getD (i.val - 6) 0) }

/-- Opens the bin from second `st`; the first bin of all is suspect, for its entity was not watched before (log entry 86). -/
def binOpen (w st : Nat) (b : PmBins) : PmBins :=
  let fresh := b.cur.isNone && b.recent.isEmpty
  { b with cur := some { start := st, suspect := b.marks.any (spanIn w st) || b.out.any (fun a => decide (a < st + w)) || fresh
                         words := Vector.replicate 14 0 }
           marks := b.marks.filter fun m => decide (st ≤ m.2) }

/-- Closes the current bin of one width, opens the one after it, and logs the closing (R420). -/
def binNext (e : Fin 12) (day : Bool) (s : State) : State :=
  let w := if day then 86400 else 900
  let step := fun (b : PmBins) => match b.cur with
    | some c => binOpen w (c.start + w) { b with recent := (c :: b.recent).take (if day then 7 else 96), cur := none }
    | none => b
  let b := if day then s.pm[e].day else s.pm[e].quarter
  let s := s.modPm e fun x => if day then { x with day := step x.day } else { x with quarter := step x.quarter }
  match b.cur with
  | some c => s.ev Ev.CLI_PM_BIN [e.val, if day then 2 else 1, c.start % 2 ^ 32, b2n c.suspect]
  | none => s

/-- The current bin of one width, if there is one. -/
def binCur (s : State) (e : Fin 12) (day : Bool) : Option PmBin := if day then s.pm[e].day.cur else s.pm[e].quarter.cur

/-- Closes the bins up to the one that holds a second, at most `n`: those that lie wholly outside Run and Idle among them. -/
def binsUpTo (e : Fin 12) (day : Bool) (sec : Nat) : Nat → State → State
  | 0, s => s
  | n + 1, s => match binCur s e day with
    | some c => if sec ≥ c.start + (if day then 86400 else 900) then binsUpTo e day sec n (binNext e day s) else s
    | none => s

/-- Bins of one width between the current one and a second. -/
def binsBehind (s : State) (e : Fin 12) (day : Bool) (sec : Nat) : Nat :=
  match binCur s e day with
  | some c => (sec - c.start) / (if day then 86400 else 900)
  | none => 0

/-- A second goes to its bin of one width: the current one, or a recent one where device time has stepped back. -/
def binTake (p : PmSec) (w : Nat) (b : PmBins) : PmBins :=
  let st := p.second / w * w
  let b := if b.cur.isNone then binOpen w st b else b
  let put := fun (c : PmBin) => if c.start = st then binAdd p c else c
  { b with cur := b.cur.map put, recent := b.recent.map put }

/-- One held second goes to its bins. -/
def pmTake (e : Fin 12) (s : State) (p : PmSec) : State :=
  let s := binsUpTo e false p.second (binsBehind s e false p.second) s
  let s := binsUpTo e true p.second (binsBehind s e true p.second) s
  s.modPm e fun x => { x with quarter := binTake p 900 x.quarter, day := binTake p 86400 x.day }

/-- Closes the bins that ended 10 s ago (R420). -/
def pmCloseDue (e : Fin 12) (s : State) : State :=
  let sec := taiSecond s - 10
  let s := binsUpTo e false sec (binsBehind s e false sec) s
  binsUpTo e true sec (binsBehind s e true sec) s

/-- R420: seconds held for 10 s go to their bins, and the bins that have ended close. -/
def pmBin (s : State) : State :=
  let sec := taiSecond s
  (fins 12).foldl (fun s e =>
    let x := s.pm[e]
    let n := (x.held.filter fun p => decide (sec ≥ p.second + 11) || decide (p.second > sec)).length
    let s := s.modPm e fun x => { x with held := x.held.drop n }
    pmCloseDue e ((x.held.take n).foldl (pmTake e) s)) s

def execCliPmBin (t : Nat) (s : State) : Host.Outcome State Fault Refusal :=
  done t s fun s => if s.running then pmBin s else s

/-- Clears every bin (R420). -/
def pmClear (s : State) : State :=
  { s with pm := s.pm.map fun x => { x with held := [], quarter := PmBins.init, day := PmBins.init } }

def execCliPmClear (t v : Nat) (s : State) : Host.Outcome State Fault Refusal :=
  done t s fun s => s.hostWrite fun s => if v = 1 then (pmClear s).answer .ok else s.answer .range

/-- A row of Table 11-11 as one number. -/
def binRow (b : Option PmBin) : Nat :=
  match b with
  | none => 0
  | some b => b.words.toList.foldl (fun n w => n * 2 ^ 64 + w) (b.start * 2 ^ 64 + 1 + 2 * b2n b.suspect)

/-- Row `r` of `CLI_PM_15MIN` or `CLI_PM_DAY` (R421). -/
def pmRow (s : State) (day : Bool) (r : Nat) : Nat :=
  let n := if day then 8 else 97
  match s.pm.toList[r / n]? with
  | none => 0
  | some x =>
    let b := if day then x.day else x.quarter
    binRow (if r % n = 0 then b.cur else b.recent[r % n - 1]?)

/-! ### The forerunner block (R422) -/

/-- R422: the latch at a whole TAI second, of every channel and client at once; 8,000 less the frames used are lost. -/
def compatLatch (s : State) : State :=
  let k := s.compat
  let s := s.setObj Obj.COMPAT_SECOND 0 ((taiSecond s - 1) % 2 ^ 32)
  { s with
    compat := Compat.init
    compatLast := { k with ch := k.ch.map fun v => v.set 3 (8000 - v[3]) }
    compatDown := (s.rx.map fun r => r.st != .sync, s.cli.map fun c => c.st != 2) }

def execCompatLatch (t : Nat) (s : State) : Host.Outcome State Fault Refusal :=
  done t s fun s => if s.running then compatLatch s else s

end Sys2Proof.Machine
end

