-- ==== Sys2Proof/Machine/Hopper.lean ====
section
/-! DEFINITION. The hopper's allocation ports, promotion, spill and the commands of its requesters (R297-R317). -/
namespace Sys2Proof.Machine

/-! ### Buffers by their frames -/

/-- Changes the handles that frames hold, wherever they stand. -/
def mapHandles (f : List Nat → List Nat) (s : State) : State :=
  let q := fun (x : QFrame) => { x with handles := f x.handles }
  let t := fun (x : Taken) => { x with frame := q x.frame }
  let k := fun (x : Chain) => { x with taken := x.taken.map t }
  let u := fun (x : Us) => { x with chains := x.chains.map k, burst := x.burst.map k, openFrags := x.openFrags.map fun e => (e.1, q e.2) }
  let m := fun (x : Tx) => { x with frame := q x.frame }
  let p := fun (x : Port) => { x with tx := x.tx.map m, held := x.held.map m }
  { s with
    frames := s.frames.map fun x => { x with handles := f x.handles }
    usq := s.usq.map q, sch := { s.sch with hq := s.sch.hq.map q }, us := s.us.map u, ports := s.ports.map p
    mailbox := s.mailbox.map fun x => (q x.1, x.2), accepted := s.accepted.map fun x => (q x.1, x.2) }

/-- Frames outside the engines, with their handles. -/
def queuedHandles (s : State) : List (Nat × List Nat) :=
  (s.usq ++ s.sch.hq ++ (s.ports.toList.flatMap fun p => (p.tx.toList ++ p.held.toList).map fun x => x.frame) ++
    (s.mailbox ++ s.accepted).map fun x => x.1).map fun q => (q.fid, q.handles)

/-! ### Outcomes of a request (R301-R304, R402) -/

/-- A granted buffer reaches its requester (R313). -/
def granted (h : Nat) (q : HopReq) (s : State) : State :=
  match q.use with
  | .first fid => match s.frame? fid with
    | some f =>
      let s := s.modFrame fid fun x => { x with handles := [h], asking := false }
      let s := if f.owner = q.owner then s else handOver h q.owner f.owner s
      if f.stage = .noBuffer then seekContext fid s else s
    | none => freeSelf h s
  | .promote fid => match s.frame? fid with
    | some f =>
      if f.handles.isEmpty then freeSelf h (s.modFrame fid fun x => { x with asking := false })
      else
        let s := s.modFrame fid fun x => { x with handles := x.handles ++ [h], asking := false }
        let s := if f.owner = q.owner then s else handOver h q.owner f.owner s
        settle fid (s.bump Obj.HOP_PROMOTIONS (poolOf h + 1))
    | none => freeSelf h s
  | .spill old =>
    let s := s.bump Obj.HOP_SPILLS
    { s with hop := { s.hop with spills := s.hop.spills ++ [{ old := old, new := h, owner := q.owner }] } }
  | .container c m seq =>
    if s.usq.any fun x => x.flume == some (4 * c + m) && x.fid == seq then
      { s with usq := s.usq.map fun x => if x.flume == some (4 * c + m) && x.fid == seq then { x with handles := [h] } else x }
    else freeSelf h s
  | .outside => { s with hop := { s.hop with given := s.hop.given ++ [(q.requester, q.owner, h)] } }

/-- A request receives no buffer (R279, R303, R304, R402). -/
def notGranted (q : HopReq) (s : State) : State :=
  match q.use with
  | .first fid => match s.frame? fid with
    | some f => waitDrop fid f.src 2 s
    | none => s
  | .promote fid => match s.frame? fid with
    | some f =>
      let s := (s.bump Obj.HOP_PROMOTE_FAILS).modFrame fid fun x => { x with asking := false }
      if holdsCtx f then truncateFrame fid s
      else if f.stage = .orphan then s
      else waitDrop fid f.src 2 s
    | none => s
  | .spill _ => s.bump Obj.HOP_SPILL_FAILS
  | .container c m seq =>
    match s.usq.find? fun x => x.flume == some (4 * c + m) && x.fid == seq with
    | some x => dropPeriod ⟨c % 8, Nat.mod_lt _ (by decide)⟩ m x.tag s
    | none => s
  | .outside => s

/-- A refusal: the request passes to the next pool, or ends (R314). -/
def refuse (p : Nat) (q : HopReq) (s : State) : State :=
  let s := hopRefuse q p s
  if hopFallsBack s q p then hopAsk (p + 1) q (s.bump Obj.HOP_FALLBACKS (p + 1)) else notGranted q s

/-! ### The allocation port (R313) -/

/-- The arbiter instance of a pool's port (Table 08-9). -/
def portArb (p : Fin 5) : Fin 23 := ⟨9 + p.val, by omega⟩

/-- Removes the first occurrence of a request. -/
def eraseReq (q : HopReq) (l : List HopReq) : List HopReq := l.erase q

/-- Takes a request off a port. -/
def unask (p : Fin 5) (q : HopReq) (s : State) : State :=
  { s with hop := { s.hop with reqs := vmod s.hop.reqs p (eraseReq q) } }

/-- Refuses every presented request that is not admissible. -/
def refuseAll (p : Fin 5) (s : State) : State :=
  let bad := s.hop.reqs[p].filter fun q => !admissible s q.owner p.val
  bad.foldl (fun s q => refuse p.val q (unask p q s)) s

/-- The requester number of a request at a port: its own, or 9 for one that no requester of the port carries. -/
def reqNo (p : Fin 5) (q : HopReq) : Nat := if arbPresent (portArb p) q.requester then q.requester else 9

/-- One cycle of a pool's port (R313, R319, R321); `ext` are the requests presented from outside in it. -/
def hopCycle (p : Fin 5) (ext : List (Nat × Nat)) (s : State) : State :=
  let s := ext.foldl (fun s e => hopAsk p.val { requester := e.1, owner := e.2, region := e.1 % 8, use := .outside } s) s
  let i := portArb p
  if s.arb[i].brakeAt.isSome then s
  else
    let s := refuseAll p s
    let reqs := s.hop.reqs[p]
    let cands := (List.range 16).filter fun r => reqs.any fun q => reqNo p q == r
    let win := arbPick s i cands
    let s := arbDecide i cands win s
    match win with
    | none => s
    | some (r, _) =>
      match reqs.find? fun q => reqNo p q == r with
      | none => s
      | some q =>
        let s := unask p q s
        match popPool p.val q.region s with
        | (none, s) => refuseAll p (refuse p.val q s)
        | (some h, s) =>
          let s := hopCheck p (setBuf h (ownerState q.owner) q.owner s)
          let s := s.bump Obj.HOP_ALLOCS (sub p)
          let s := (s.bumpRow Obj.ARB_COUNTERS (arbRow i r) 4 0).modArb i fun a => { a with lastGrant := s.now }
          refuseAll p (granted h q s)

/-- Requests from outside name a requester of the port and an owner that exists. -/
def execHopAllocation (t : Nat) (pool : Fin 5) (ext : List (Nat × Nat)) (s : State) : Host.Outcome State Fault Refusal :=
  doneIf (ext.all fun e => decide (e.1 < 10) && ownerUsed e.2) t s fun s => if s.running then hopCycle pool ext s else s

/-! ### The other commands -/

def execHopFree (t handle owner requester : Nat) (s : State) : Host.Outcome State Fault Refusal :=
  doneIf (decide (handle < 2 ^ 24) && decide (owner < 1024) && decide (requester < 16)) t s (hopFree handle owner requester)

def execHandOver (t handle cur new requester : Nat) (s : State) : Host.Outcome State Fault Refusal :=
  doneIf (decide (handle < 2 ^ 24) && decide (cur < 1024) && decide (new < 1024) && decide (requester < 16)) t s
    (handOver handle cur new)

/-- R304: the oldest spill's copy ends, and the old buffer is freed. -/
def spillDone (s : State) : State :=
  match s.hop.spills with
  | [] => s
  | x :: rest =>
    let s := { s with hop := { s.hop with spills := rest } }
    freeSelf x.old (mapHandles (fun l => l.map fun h => if h = x.old then x.new else h) s)

def execSpillCopyComplete (t : Nat) (s : State) : Host.Outcome State Fault Refusal := done t s spillDone

/-- The pool that a promotion asks for (R302). -/
def promotePool (f : Frame) (cur : Nat) : Option Nat :=
  if f.src < 8 then (match cur with
    | 0 => some 1
    | 1 | 2 => some 3
    | 3 => some 4
    | _ => none)
  else if f.known > poolSize cur then some (rungFor f.known) else none

/-- R302: a frame asks for a larger buffer. -/
def promote (fid : Nat) (s : State) : State :=
  match s.frame? fid with
  | some f => match f.handles with
    | [h] =>
      if f.asking || f.stage == .orphan || (decide (f.src < 8) && f.complete) then s
      else match promotePool f (poolOf h) with
        | some p =>
          (hopAsk p { requester := f.region % 8, owner := f.owner, region := f.region, use := .promote fid } s).modFrame fid
            fun x => { x with asking := true }
        | none => s
    | _ => s
  | none => s

def execPromotion (t fid : Nat) (s : State) : Host.Outcome State Fault Refusal :=
  done t s fun s => if s.running then promote fid s else s

/-- R302: a promotion's copy ends, and the old buffer is freed without owner check. -/
def promoteDone (fid : Nat) (s : State) : State :=
  let here := match s.frame? fid with
    | some f => [(fid, f.handles)]
    | none => []
  match (here ++ queuedHandles s).find? fun x => x.1 == fid && decide (x.2.length ≥ 2) with
  | some (_, l) =>
    match l with
    | old :: _ => freeSelf old (mapHandles (fun m => if m = l then m.drop 1 else m) s)
    | [] => s
  | none => s

def execPromotionCopyComplete (t fid : Nat) (s : State) : Host.Outcome State Fault Refusal := done t s (promoteDone fid)

def execHopListRebuilt (t : Nat) (list : Fin 19) (s : State) : Host.Outcome State Fault Refusal := done t s (rebuildList list)

/-! ### The owner table (R311, R312) -/

/-- An owner row that a write may hold: weirs within the counts, nothing for owners that do not exist, and no reserve
beyond what is shared (R312). -/
def ownerRowStatus (s : State) (o v : Nat) : Status :=
  let old := s.row Obj.HOP_OWNER_TABLE o
  let sum := fun (p : Nat) => (List.range 1024).foldl (fun n x => n + weir s x p) 0
  let beyond := (List.range 5).any fun p => decide (sum p + weirOf v p > poolCount s p + weirOf old p)
  let need := fun (p w : Nat) => w - heldBy s o p
  let busy := (List.range 5).any fun p => decide (((need p (weirOf v p) : Int) - (need p (weirOf old p) : Int)) > max 0 (poolShared s p)) &&
    decide (need p (weirOf v p) > need p (weirOf old p))
  if (!ownerUsed o && v != 0) || beyond then .range else if busy then .busy else .ok

/-- A requester row that a write may hold: absent requesters have none (Table 08-10). -/
def requesterRowStatus (r v : Nat) : Status :=
  if (arbDefault (r / 16) (r % 16)).isNone && fld v 63 40 != 0 then .range else .ok

end Sys2Proof.Machine
end

