-- ==== Sys2Proof/Machine/Downstream.lean ====
section
/-! DEFINITION. Chapter 02: receive states, candidates, frames in Sync, codewords, bandwidth maps, directives and the carrier walk (R63-R113). -/
namespace Sys2Proof.Machine

/-- Symbols of a frame (R63). -/
def frameSymbols : Nat := 6220800

/-- TC bytes of a frame (R72). -/
def tcBytes : Nat := 1382392

/-- The frame mark (R81). -/
def frameMark : Nat := 0xB4E62C197A53D08F

/-- The hard decisions of `n` bytes of the line as the slicer makes them: with `DS_RX_INVERT` 1 every level is negated first,
which changes the first bit of each pair and keeps the second (R65, Table 02-1). -/
def sliced (s : State) (ch : Fin 4) (n v : Nat) : Nat :=
  if s.flag Obj.DS_RX_INVERT (sub ch) then Nat.xor v (2 * (4 ^ (4 * n) / 3)) else v

/-- The mark matches within the tolerance (R81). -/
def markMatches (s : State) (ch : Fin 4) (bits : BitVec 64) : Bool :=
  decide (popCount 64 (Nat.xor (sliced s ch 8 bits.toNat) frameMark) ≤ s.obj Obj.DS_MARK_TOL (sub ch))

/-- The line byte of a TC byte (R72). -/
def lineByte (t : Nat) : Nat := 2160 * ((t + 8) / 1920) + (t + 8) % 1920

/-- A pattern test holds the channel's receiver (R385). -/
def prbsHolds (s : State) (ch : Fin 4) : Bool :=
  let v := s.row Obj.HL_PRBS_TABLE (8 + ch.val)
  bitAt v 63 || bitAt v 58

/-- The channel's receiver runs (R67, R69, R385). -/
def rxRuns (s : State) (ch : Fin 4) : Bool :=
  s.flag Obj.DS_RX_ENABLE (sub ch) && s.chanPowered ch && !prbsHolds s ch

/-! ### Leaving Sync (R70) -/

/-- The open fragments of a channel go to Discarding, and what they passed is marked truncated (R106). -/
def breakFragments (ch : Fin 4) (s : State) : State :=
  let opened := s.rx[ch].frags
  let s := s.modRx ch fun r => { r with frags := r.frags.map fun e => match e.2 with
    | .opened .. => (e.1, FragState.discarding)
    | _ => e }
  opened.foldl (fun s e => match e.2 with
    | .opened fid _ _ _ => cutFrame fid (s.bump Obj.DS_FRAGMENT_ERRORS (sub ch))
    | _ => s) s

/-- The last carriers of frames that are still arriving when delivery stops: those frames are cut short (R70). -/
def cutCarriers (ch : Fin 4) (s : State) : State :=
  s.rx[ch].rxq.foldl (fun s f => match f.cur with
    | some o => match o.fid with
      | some fid => if o.car.last then cutFrame fid s else s
      | none => s
    | none => s) s

/-- The channel leaves Sync toward a state: 1 three bad frames, 2 loss of signal, 3 CDR loss of lock, 4 disabled, 5
`DS_RESYNC` (R70, R112). The expected SFC that `SYNC_LOST` gives is that of the next expected mark (DESIGN CHOICE, log entry
168). Directives already passed to the control cores stay there for the evaluation that follows (DESIGN CHOICE, log entry
169). -/
def leaveSync (ch : Fin 4) (dest : RxState) (reason : Nat) (s : State) : State :=
  let s := s.bump Obj.DS_SYNC_LOSSES (sub ch)
  let s := pmDefect (pmChan ch) (pmWord (pmChan ch) 2 1 s)
  let s := s.ev (Ev.SYNC_LOST + ch.val) (reason :: p64 s.rx[ch].expSfc)
  let s := cutCarriers ch (breakFragments ch s)
  let s := s.modRx ch fun r => { r with
    st := dest, cands := [], window := false, rxq := [], badRun := 0, leftSyncAt := s.now
    late := (r.rxq.filter fun f => f.nextCw < 720).map fun f => (f.pos, f.nextCw) }
  let s := s.modAct ch fun a => { a with leftSync := true, prev := none, pEst := none }
  ponWake ch (skewRefs (upstreamLost ch s))

/-- The channel goes to a state from any other; candidates are discarded (R69, R70). -/
def rxGo (ch : Fin 4) (dest : RxState) (reason : Nat) (s : State) : State :=
  if s.rx[ch].st = .sync then leaveSync ch dest reason s
  else s.modRx ch fun r => { r with st := dest, cands := [], window := false }

/-- Applies the first and the third and fourth triggers of Table 02-3 after a change of what they depend on. -/
def rxRefresh (ch : Fin 4) (s : State) : State :=
  if rxRuns s ch then
    if s.rx[ch].st = .disabled then
      s.modRx ch fun r => { r with st := if r.psd && r.cdr then .hunt else .noSignal }
    else s
  else
    let s := if s.rx[ch].st = .disabled then s else rxGo ch .disabled 4 s
    if prbsHolds s ch && s.chanPowered ch then s
    else s.modRx ch fun r => { r with cdr := false, calibrated := false }

/-! ### Loss of signal, lock, enable and resync (R66-R69) -/

/-- Loss of signal (R67). -/
def signalLoss (ch : Fin 4) (reason : Nat) (s : State) : State :=
  let st := s.rx[ch].st
  if rxRuns s ch && (st == .hunt || st == .presync || st == .sync) then
    let code := if st = .hunt then 2 else if st = .presync then 3 else 4
    let s := (s.bump Obj.DS_LOS_COUNT (sub ch)).ev (Ev.SIGNAL_LOST + ch.val) [code]
    rxGo ch .noSignal reason s
  else s

/-- PSD low for 1 µs: loss of signal. -/
def psdLow (ch : Fin 4) (s : State) : State := signalLoss ch 2 (s.modRx ch fun r => { r with psd := false })

def execPsdLow (t : Nat) (ch : Fin 4) (s : State) : Host.Outcome State Fault Refusal := done t s (psdLow ch)

/-- CDR loss of lock: loss of signal at once. -/
def cdrLoss (ch : Fin 4) (s : State) : State :=
  signalLoss ch 3 (s.modRx ch fun r => { r with cdr := false, calibrated := false })

def execCdrLossOfLock (t : Nat) (ch : Fin 4) (s : State) : Host.Outcome State Fault Refusal := done t s (cdrLoss ch)

/-- The CDR locks with PSD high (R66, R430). -/
def cdrLock (ch : Fin 4) (s : State) : State :=
  let runs := rxRuns s ch || (prbsHolds s ch && s.chanPowered ch)
  if !runs then s
  else
    let s := injectBits (Fin.ofNat 12 (8 + ch.val)) (s.modRx ch fun r => { r with psd := true, cdr := true, calibrated := true })
    if rxRuns s ch ∧ s.rx[ch].st = .noSignal then s.modRx ch fun r => { r with st := .hunt } else s

def execCdrLock (t : Nat) (ch : Fin 4) (s : State) : Host.Outcome State Fault Refusal := done t s (cdrLock ch)

/-- A write of `DS_RX_ENABLE`. -/
def dsRxEnable (ch : Fin 4) (v : Nat) (s : State) : State :=
  if v > 1 then s.answer .range
  else
    let s := if s.obj Obj.DS_RX_ENABLE (sub ch) = v then s else pmSuspect (pmChan ch) s
    rxRefresh ch ((s.setObj Obj.DS_RX_ENABLE (sub ch) v).answer .ok)

def execDsRxEnable (t : Nat) (ch : Fin 4) (v : Nat) (s : State) : Host.Outcome State Fault Refusal :=
  done t s fun s => s.hostWrite (dsRxEnable ch v)

/-- A write of `DS_RESYNC` (R69). -/
def dsResync (ch : Fin 4) (v : Nat) (s : State) : State :=
  if v ≠ 1 then s.answer .range
  else
    let s := s.answer .ok
    if s.rx[ch].st = .presync ∨ s.rx[ch].st = .sync then rxGo ch .hunt 5 s else s

def execDsResync (t : Nat) (ch : Fin 4) (v : Nat) (s : State) : Host.Outcome State Fault Refusal :=
  done t s fun s => s.hostWrite (dsResync ch v)

/-! ### Candidates (R83-R88) -/

/-- Hunt or Presync, by the candidates (R68). -/
def rxSearch (ch : Fin 4) (s : State) : State :=
  let st := s.rx[ch].st
  if st = .hunt ∨ st = .presync then
    s.modRx ch fun r => { r with st := if r.cands.any fun c => c.presync then .presync else .hunt }
  else s

/-- Updates the candidate at a position. -/
def modCand (ch : Fin 4) (pos : Nat) (f : Cand → Cand) (s : State) : State :=
  s.modRx ch fun r => { r with cands := r.cands.map fun c => if c.pos = pos then f c else c }

/-- The offset of a position is barred now (R84). -/
def barredOff (s : State) (ch : Fin 4) (off : Nat) : Bool :=
  s.rx[ch].barred.any fun b => b.1 == off && decide (s.now < b.2 + 16 * tickFrame)

/-- The arrival instant of a mark that the receiver measured at an instant (R82, R425, R431). -/
def markInstant (s : State) (ch : Fin 4) (at0 : Nat) : Nat :=
  (((roundStamp at0 : Nat) : Int) - toS 32 (s.obj Obj.TIME_PON_RX_ADJ_PS (sub ch)) * (tickPs : Int)).toNat

/-- Sync is decided for the winner (R88, R91); the instants of marks that go missing run on from its last match (R82). -/
def enterSync (ch : Fin 4) (w : Cand) (s : State) : State :=
  let pos := w.pos + frameSymbols
  let sfc := (w.sfc + (pos - w.sfcPos) / frameSymbols) % 2 ^ 51
  let he := w.ids.2
  let cid := w.ids.1
  let old := s.rx[ch].latched
  let dt := time80 s.devTime
  let s := s.modRx ch fun r => { r with
    st := .sync, cands := [], window := false, expPos := pos, expSfc := sfc, latched := some (cid, he), chId := cid, heId := he
    badRun := 0, last8 := [], firstFrame := true, syncTime := dt, lastUsed := none, rxq := [], late := []
    lastArrival := markInstant s ch w.arrival }
  let s := s.bump Obj.DS_SYNC_ACQUIRED (sub ch)
  let s := match old with
    | some (oc, oh) =>
      let s := if oc = cid ∧ oh = he then s else s.ev (Ev.ID_CHANGED + ch.val) [oh, he, oc, cid]
      if oh = he then s
      else headEndChanged ch (s.modUs ch fun u => { u with profs := Us.init.profs, profq := [], profSeen := none })
    | none => s
  skewRefs (s.modAct ch fun a => { a with prev := none, pEst := none })

/-- The window closes once every member has qualified or been rejected (R87). -/
def closeWindow (ch : Fin 4) (s : State) : State :=
  let r := s.rx[ch]
  let ms := r.cands.filter fun c => c.member
  if !r.window || ms.any (fun c => c.qualified.isNone) then s
  else
    let better := fun (a b : Cand) => match a.qualified, b.qualified with
      | some (wa, ta), some (wb, tb) => decide (wa < wb) || (wa == wb && decide (ta < tb))
      | _, _ => false
    match ms with
    | [] => s.modRx ch fun r => { r with window := false }
    | m :: rest => enterSync ch (rest.foldl (fun b c => if better c b then c else b) m) s

/-- A candidate is rejected: 1 CRC, 2 SFC, 3 identifiers, 4 codeword 1, 5 mark missing in Presync (R84-R86). The bar
runs from the mark of the position that failed (Table 02-5). The syndrome weight of the event is that of the candidate's last
decoded codeword 1, and 0 where none was decoded: the spec gives no weight for those (DESIGN CHOICE, log entry 170). -/
def rejectCand (ch : Fin 4) (c : Cand) (test : Nat) (s : State) : State :=
  let off := c.pos % frameSymbols
  let from0 := if test = 5 then s.now else c.arrival
  let weight := match c.cw1 with
    | some (_, w) => w
    | none => 0
  let s := s.modRx ch fun r =>
    let kept := r.barred.filter fun b => b.1 ≠ off
    { r with cands := r.cands.filter fun x => x.pos ≠ c.pos
             barred := (if kept.length ≥ 4 then kept.drop 1 else kept) ++ [(off, from0)] }
  let s := (s.bump Obj.DS_CANDIDATES_REJECTED (sub ch)).evOnce (Ev.CANDIDATE_REJECTED + ch.val) 0 [off, test, weight]
  rxSearch ch (closeWindow ch s)

/-- A match of the mark in Hunt or Presync (R83, R85). -/
def searchMatch (ch : Fin 4) (pos : Nat) (s : State) : State :=
  let r := s.rx[ch]
  match r.cands.find? fun c => c.pos + frameSymbols == pos with
  | some c => rxSearch ch (modCand ch c.pos (fun c => { c with
      pos := pos, arrival := s.now, presync := true, hdr := none, cw1 := none }) s)
  | none =>
    if barredOff s ch (pos % frameSymbols) || decide (r.cands.length ≥ 4) || r.cands.any fun c => c.pos == pos then s
    else
      let c : Cand := { pos := pos, arrival := s.now, presync := false, sfc := 0, sfcPos := pos, ids := (0, 0), hdr := none,
                        cw1 := none, recorded := false, member := false, qualified := none }
      s.modRx ch fun r => { r with cands := r.cands ++ [c] }

/-- The expected position of a candidate passes without a match (R85, R86). -/
def searchMiss (ch : Fin 4) (pos : Nat) (s : State) : State :=
  match s.rx[ch].cands.find? fun c => c.pos + frameSymbols == pos with
  | some c =>
    if c.presync then rejectCand ch c 5 s
    else s.modRx ch fun r => { r with cands := r.cands.filter fun x => x.pos ≠ c.pos }
  | none => s

/-- A qualified candidate opens or joins the window (R87). -/
def qualifyCand (ch : Fin 4) (c : Cand) (h : Hdr) (weight : Nat) (s : State) : State :=
  let s := if s.rx[ch].window then s
    else s.modRx ch fun r => { r with window := true, cands := r.cands.map fun x => { x with member := x.presync } }
  let s := modCand ch c.pos (fun x => { x with
    sfc := h.sfc, sfcPos := x.pos
    qualified := if x.member && x.qualified.isNone then some (weight, x.arrival) else x.qualified }) s
  closeWindow ch s

/-- The decision instant of a Presync candidate (R86). -/
def qualification (ch : Fin 4) (pos : Nat) (s : State) : State :=
  match s.rx[ch].cands.find? fun c => c.pos == pos && c.presync && c.recorded with
  | none => s
  | some c => match c.hdr, c.cw1 with
    | some h, some (bad, w) =>
      if !h.crcOk then rejectCand ch c 1 s
      else if h.sfc ≠ (c.sfc + 1) % 2 ^ 51 then rejectCand ch c 2 s
      else if (h.chId, h.heId) ≠ c.ids then rejectCand ch c 3 s
      else if bad then rejectCand ch c 4 s
      else qualifyCand ch c h w s
    | _, _ => s

def execQualification (t : Nat) (ch : Fin 4) (pos : Nat) (s : State) : Host.Outcome State Fault Refusal :=
  done t s (qualification ch pos)

/-- R84: the bar of an offset is lifted after 16 frames. -/
def barExpiry (ch : Fin 4) (off : Nat) (s : State) : State :=
  s.modRx ch fun r => { r with barred := r.barred.filter fun b => !(b.1 = off && decide (s.now ≥ b.2 + 16 * tickFrame)) }

def execBarExpiry (t : Nat) (ch : Fin 4) (off : Nat) (s : State) : Host.Outcome State Fault Refusal := done t s (barExpiry ch off)

/-! ### A frame begins in Sync (R82, R89, R144, R147, R152) -/

/-- The upstream frame and the handovers that begin with the mark of frame `n` (R144, R152, R169). -/
def frameBegins (ch : Fin 4) (n arrival : Nat) (s : State) : State :=
  let s := s.modUs ch fun u =>
    let due := u.profq.filter fun c => sfcLe c.sfc n
    { u with
      curSfc := n, curStart := arrival
      profs := due.foldl (fun ps c => ps.set! c.idx c.prof) u.profs
      profq := u.profq.filter fun c => !sfcLe c.sfc n }
  -- a handover whose target has seen the handover frame: this mark is the target's first
  let s := match s.act[ch].incoming with
    | some (src, h, false) =>
      setEqd ch h.eqd 3 (s.modAct ch fun a => { a with incoming := some (src, h, true), tid := h.tid })
    | _ => s
  let s := applyEqd ch n s
  match s.act[ch].handover with
  | some h =>
    if sfcLe h.sfc n && !h.reached then
      let s := s.modAct ch fun a => { a with handover := some { h with reached := true } }
      s.modAct h.target fun a => { a with incoming := some (ch, h, false) }
    else s
  | none => s

/-- The mark of the expected position has arrived, or its instant has passed without it (R82, R89). -/
def syncMark (ch : Fin 4) (ok : Bool) (s : State) : State :=
  let r := s.rx[ch]
  let n := r.expSfc
  let period := (s.act[ch].pEst.getD (tickFrame : Int)).toNat
  let arrival := if ok then markInstant s ch s.now else r.lastArrival + period
  let s := if ok then countUncal (!r.calibrated) s else s.bump Obj.DS_MARK_MISSES (sub ch)
  let res := fantail ch n arrival ok s
  let jumped : Bool := res.1
  let f : RxFrame := { pos := r.expPos, arrival := arrival, measured := ok, markOk := ok, hdr := none, used := false, bad := false,
                       tc := [], ks := 0, nextCw := 0, badCws := [], mapDone := false, dirsDone := false, walk := 0,
                       walkEnded := false, cidx := 0, cur := none, jumped := jumped, todSeen := false }
  let s := (State.modRx (if jumped then skewJump ch res.2 else res.2) ch fun r => { r with
    rxq := r.rxq ++ [f], expPos := r.expPos + frameSymbols, expSfc := (r.expSfc + 1) % 2 ^ 51, lastArrival := arrival })
  frameBegins ch n arrival s

/-- The third bad frame in a row has ended (R89). -/
def endBadRun (ch : Fin 4) (s : State) : State :=
  if s.rx[ch].st = .sync ∧ s.rx[ch].badRun ≥ 3 then leaveSync ch .hunt 1 s else s

/-- The mark matches at a symbol position. -/
def markMatch (ch : Fin 4) (pos : Nat) (bits : BitVec 64) (s : State) : State :=
  if !markMatches s ch bits then s
  else
    let s := if pos = s.rx[ch].expPos then endBadRun ch s else s
    match s.rx[ch].st with
    | .hunt | .presync => searchMatch ch pos s
    | .sync => if pos = s.rx[ch].expPos then syncMark ch true s else s
    | _ => s

def execMarkMatch (t : Nat) (ch : Fin 4) (pos : Nat) (bits : BitVec 64) (s : State) : Host.Outcome State Fault Refusal :=
  done t s (markMatch ch pos bits)

/-- An expected position passes without a match. -/
def markMissing (ch : Fin 4) (pos : Nat) (s : State) : State :=
  let s := if pos = s.rx[ch].expPos then endBadRun ch s else s
  match s.rx[ch].st with
  | .hunt | .presync => searchMiss ch pos s
  | .sync => if pos = s.rx[ch].expPos then syncMark ch false s else s
  | _ => s

def execMarkMissing (t : Nat) (ch : Fin 4) (pos : Nat) (s : State) : Host.Outcome State Fault Refusal :=
  done t s (markMissing ch pos)

/-! ### Codewords (R76, R85, R90, R92-R96) -/

/-- The frame header block (Table 02-6). -/
def parseHdr (v : Nat) : Hdr :=
  { sfc := fld v 127 77, chId := fld v 76 75, heId := fld v 74 63, grants := fld v 62 52, directives := fld v 51 46
    tod := bitAt v 45, keySwitch := bitAt v 44, profChanged := bitAt v 43, crcOk := crc24 v == fld v 23 0 }

/-- Updates the frame at a position. -/
def modRxq (ch : Fin 4) (pos : Nat) (f : RxFrame → RxFrame) (s : State) : State :=
  s.modRx ch fun r => { r with rxq := r.rxq.map fun x => if x.pos = pos then f x else x }

/-- The codeword of a TC byte (R72). -/
def cwOf (t : Nat) : Nat := (t + 8) / 1920

/-! ### Carriers whose payload arrives (R51, R109, R280, R477) -/

/-- Some of `n` TC bytes from `t` on lie in an uncorrectable codeword. -/
def fecBad (f : RxFrame) (t n : Nat) : Bool :=
  n != 0 && f.badCws.any fun c => decide (cwOf t ≤ c) && decide (c ≤ cwOf (t + n - 1))

/-- The first `n` payload bytes of a carrier less its tag, decrypted, and the tag that the lane computes over them. -/
def openBytes (s : State) (ch : Fin 4) (f : RxFrame) (h : Hdr) (o : OpenCar) (n : Nat) : Bytes × Bytes :=
  let k := o.car
  let body := (f.tc.drop (k.at0 + 8)).take n
  if k.key = 0 then (body, [])
  else
    let iv := carrierIv h.sfc s.rx[ch].chId false k.flow k.cidx
    let r := gcmOpen (o.lineKey.getD (zeros 32)) iv ((f.tc.drop k.at0).take 8) (body.take (k.pli - 8))
    (r.1, r.2.take 8)

/-- Queues the verdict of an encrypted carrier that has come whole (R477). -/
def queueVerdict (ch : Fin 4) (f : RxFrame) (o : OpenCar) (fid : Nat) (client : Option Nat) (tag : Bytes) (s : State) : State :=
  let k := o.car
  if k.key = 0 then s
  else
    let good := o.lineKey.isSome && tag == (f.tc.drop (k.at0 + 8 + (k.pli - 8))).take (k.pli - (k.pli - 8))
    let v : Verdict := { fid := fid, flow := k.flow, keyIndex := k.key, good := good, noKey := o.lineKey.isNone, client := client,
                         part := 0 }
    s.modRx ch fun r => { r with verdicts := r.verdicts ++ [v] }

/-- A flume container has come whole (R107, R397). -/
def containerArrived (ch : Fin 4) (f : RxFrame) (o : OpenCar) (data tag : Bytes) (s : State) : State :=
  let fid := s.nextFid
  let x : FlumeIn := { fid := fid, client := o.client, ch := ch.val, data := data, bad := fecBad f (o.car.at0 + 8) o.car.pli,
                       at0 := s.now }
  queueVerdict ch f o fid (some o.client) tag { s with nextFid := fid + 1, flumeIn := s.flumeIn ++ [x] }

/-- Bytes of a carrier reach its frame; a byte in an uncorrectable codeword fails the frame's FEC check (R109, R282). -/
def frameBytes (fid : Nat) (new : Bytes) (bad : Bool) (s : State) : State :=
  match s.frame? fid with
  | none => s
  | some x =>
    if x.stage = .orphan then (if bad then recause fid 2 s else s)
    else
      let s := s.modFrame fid fun x => { x with data := x.data ++ new, fecBad := x.fecBad || bad }
      if bad && !x.fecBad then settle fid s else s

/-- A carrier of a frame has come whole: the end of its frame, or the reorder's decision on its first (R221). -/
def carrierWhole (fid : Nat) (k : Carrier) (first : Option (Fin 64)) (s : State) : State :=
  match s.frame? fid with
  | none => s
  | some x =>
    let s := if k.last then (if x.stage = .orphan then removeFrame fid s else frameComplete fid s) else s
    match first with
    | some g => bondArrive fid g k.seqValid k.seq s
    | none => s

/-- What has been decoded of the carrier in progress goes on (R51, R280). -/
def feedCarrier (ch : Fin 4) (pos : Nat) (s : State) : State :=
  match s.rx[ch].rxq.find? fun f => f.pos == pos with
  | none => s
  | some f => match f.cur, f.hdr with
    | some o, some h =>
      let k := o.car
      let n := min (f.tc.length - (k.at0 + 8)) k.pli
      let (plain, tag) := openBytes s ch f h o n
      let whole := n = k.pli
      let s := modRxq ch pos (fun x => { x with cur := if whole then none else some { o with done := plain.length } }) s
      match o.fid with
      | none => if whole then containerArrived ch f o plain tag s else s
      | some fid =>
        let s := frameBytes fid (plain.drop o.done) (fecBad f (k.at0 + 8) n) s
        if whole then carrierWhole fid k o.first (queueVerdict ch f o fid none tag s) else s
    | _, _ => s

/-- A codeword of a candidate's frame (R85, R86). -/
def candCodeword (ch : Fin 4) (pos c weight : Nat) (uncorr : Bool) (info : Bytes) (s : State) : State :=
  match s.rx[ch].cands.find? fun x => x.pos == pos && x.presync with
  | none => s
  | some x =>
    if c = 1 then modCand ch pos (fun x => { x with cw1 := some (uncorr, weight) }) s
    else if c ≠ 0 then s
    else
      let sfc := recoverSfc (bitsOf (info.take 7))
      let h := parseHdr (beNat (descramble sfc 0 0 (info.take 16)).1)
      if x.recorded then modCand ch pos (fun x => { x with hdr := some h }) s
      else if h.crcOk then modCand ch pos (fun x => { x with
        recorded := true, sfc := h.sfc, sfcPos := pos, ids := (h.chId, h.heId) }) s
      else rejectCand ch x 1 s

/-- A frame is not used: nothing of it is delivered (R90). -/
def frameUnused (ch : Fin 4) (s : State) : State :=
  breakFragments ch (pmWord (pmChan ch) 1 1 (s.bump Obj.DS_FRAMES_DISCARDED (sub ch)))

/-- A frame is used (R90, R94, R207, R474). `SYNC_ACQUIRED` is logged at the first frame used after the close: where the frame
at the winner's first mark position is not used, none of it is delivered (DESIGN CHOICE, log entry 171). -/
def frameUsed (ch : Fin 4) (f : RxFrame) (h : Hdr) (s : State) : State :=
  let s := compatCh ch 3 1 (s.bump Obj.DS_FRAMES_USED (sub ch))
  let s := if s.rx[ch].firstFrame then
      (s.ev (Ev.SYNC_ACQUIRED + ch.val) (p64 h.sfc ++ [s.rx[ch].heId, s.rx[ch].chId])).modRx ch fun r => { r with firstFrame := false }
    else s
  let s := s.modRx ch fun r => { r with sfc := h.sfc, lastUsed := some (h.sfc, f.arrival, f.measured) }
  keySwitchEdge ch h.sfc h.keySwitch (skewPair ch s)

/-- The header of a frame in Sync is judged (R89, R90). -/
def judgeFrame (ch : Fin 4) (f : RxFrame) (h : Hdr) (s : State) : State :=
  let r := s.rx[ch]
  -- the expected SFC of this frame counts back from that of the next mark
  let exp := (r.expSfc + 2 ^ 51 - (r.expPos - f.pos) / frameSymbols) % 2 ^ 51
  let sfcOk := h.sfc == exp
  let idOk := h.chId == r.chId && h.heId == r.heId
  let used := h.crcOk && sfcOk && idOk
  let bad := !f.markOk || !used
  let s := if h.crcOk then s else s.bump Obj.DS_FHB_CRC_ERRORS (sub ch)
  let s := if sfcOk then s else s.bump Obj.DS_SFC_ERRORS (sub ch)
  let s := if idOk then s else s.bump Obj.DS_ID_MISMATCHES (sub ch)
  let s := s.modRx ch fun r => { r with badRun := if bad then r.badRun + 1 else 0, last8 := ((!bad) :: r.last8).take 8 }
  let s := modRxq ch f.pos (fun x => { x with hdr := some h, used := used, bad := bad, walk := 16 + 8 * h.grants + 48 * h.directives }) s
  if used then frameUsed ch f h s else frameUnused ch s

/-- The bandwidth map, once every byte of it is decoded (R95). -/
def mapReady (ch : Fin 4) (f : RxFrame) (h : Hdr) (s : State) : State :=
  let n := h.grants
  if f.mapDone || decide (f.tc.length < 16 + 8 * n) then s
  else
    let words := (List.range n).map fun i => (beAt f.tc (16 + 8 * i) 8, fecBad f (16 + 8 * i) 8)
    let m : MapIn := { sfc := h.sfc, arrival := f.arrival, words := words, measured := f.measured, chId := s.rx[ch].chId }
    let s := modRxq ch f.pos (fun x => { x with mapDone := true }) s
    s.modUs ch fun u => { u with maps := u.maps ++ [m] }

/-- A directive of 48 bytes (Table 03-4): its `TYPE` and the rest. -/
def parseDir (v : Nat) : Nat × Directive :=
  (fld v 373 366, { tid := fld v 383 374, seq := fld v 365 358, rsv := fld v 357 352, content := fld v 351 64, code := fld v 63 0 })

/-- One directive of a used frame (R96): discarded, passed to the machine, or to Sleep's handling (R502). One in an
uncorrectable codeword counts in `DS_DIRECTIVES_DISCARDED` whatever `TERMINAL_ID` its bytes show (DESIGN CHOICE, log entry
172). -/
def passDirective (ch : Fin 4) (f : RxFrame) (h : Hdr) (s : State) (i : Nat) : State :=
  let t := 16 + 8 * h.grants + 48 * i
  let e := parseDir (beAt f.tc t 48)
  if fecBad f t 48 then s.bump Obj.DS_DIRECTIVES_DISCARDED (sub ch)
  else if !dirAddressed s ch e.2 then s
  else
    let seen := s.rx[ch].rxq.any fun x => x.pos == f.pos && x.todSeen
    let di : DirIn := { type := e.1, d := e.2, sfc := h.sfc, arrival := f.arrival, measured := f.measured, tod := h.tod,
                        firstTod := !seen, jumped := f.jumped }
    let s := if e.1 = 0x0B then modRxq ch f.pos (fun x => { x with todSeen := true }) s else s
    let s := (leaveIdle s).bump Obj.DS_DIRECTIVES_PASSED (sub ch)
    if s.inSleep then sleepDirective ch di s
    else s.modAct ch fun a => { a with dirq := a.dirq ++ [di] }

/-- `PROFILE_CHANGED` without a Profile directive that verifies in the frame marks every profile stale (R170). -/
def profilesStale (ch : Fin 4) (f : RxFrame) (h : Hdr) (s : State) : State :=
  let isProfile := fun (i : Nat) =>
    let t := 16 + 8 * h.grants + 48 * i
    let e := parseDir (beAt f.tc t 48)
    !fecBad f t 48 && e.1 == 0x01 && e.2.tid == 1023 &&
      (cmac64 (zeros 32) (dirBytes e.2.tid e.1 e.2.seq e.2.rsv e.2.content) == e.2.code)
  if !h.profChanged || (List.range h.directives).any isProfile then s
  else
    let s := s.modUs ch fun u => { u with
      profs := u.profs.map fun p => { p with stale := true }
      profq := u.profq.map fun c => { c with prof := { c.prof with stale := true } } }
    s.ev (Ev.PROFILES_STALE + ch.val) (p64 h.sfc)

/-- The directives, once every byte of them is decoded. -/
def dirsReady (ch : Fin 4) (f : RxFrame) (h : Hdr) (s : State) : State :=
  if f.dirsDone || decide (f.tc.length < 16 + 8 * h.grants + 48 * h.directives) then s
  else
    let s := modRxq ch f.pos (fun x => { x with dirsDone := true }) s
    let s := profilesStale ch f h s
    (List.range h.directives).foldl (passDirective ch f h) s

/-- Frames leave once their last codeword is decoded and their walk has ended (or they are not used). -/
def dropFinished (ch : Fin 4) (s : State) : State :=
  s.modRx ch fun r => { r with rxq := r.rxq.filter fun f => !(f.nextCw = 720 && (!f.used || f.walkEnded)) }

/-- The error counts of a codeword in Sync (R111, R419). -/
def countCodeword (ch : Fin 4) (weight : Nat) (uncorr : Bool) (corrected : Nat) (s : State) : State :=
  let s := s.bump Obj.DS_CW_TOTAL (sub ch)
  if uncorr then
    compatCh ch 0 1 (pmErrored (pmChan ch) 1 (s.bump Obj.DS_CW_UNCORRECTABLE (sub ch)))
  else if weight ≠ 0 then
    let s := (s.bump Obj.DS_CW_CORRECTED (sub ch)).bump Obj.DS_BITS_CORRECTED (sub ch) corrected
    pmWord (pmChan ch) 0 1 (compatCh ch 2 corrected (compatCh ch 1 1 s))
  else s

/-! ### Codewords of a frame in Sync -/

/-- The codewords of a frame that had arrived in Sync still count when the decoder puts them out after the exit (R77,
R111): 1.6 µs after the last bit of the line. -/
def lateCodeword (ch : Fin 4) (pos c : Nat) (d : Decoded) (s : State) : State :=
  if s.rx[ch].late.contains (pos, c) && decide (s.now ≤ s.rx[ch].leftSyncAt + 1600 * tickNs) then
    let s := s.modRx ch fun r => { r with late := r.late.map fun e => if e = (pos, c) then (pos, c + 1) else e }
    countCodeword ch d.weight d.uncorr d.changed s
  else s

/-- A codeword of a frame in Sync. -/
def syncCodeword (ch : Fin 4) (pos c : Nat) (d : Decoded) (info : Bytes) (s : State) : State :=
  match s.rx[ch].rxq.find? fun f => f.pos == pos && f.nextCw == c with
  | none => s
  | some f =>
    let s := countCodeword ch d.weight d.uncorr d.changed s
    let start := f.tc.length
    let sfc := if c = 0 then recoverSfc (bitsOf (info.take 7)) else match f.hdr with
      | some h => h.sfc
      | none => 0
    let clear := descramble sfc start f.ks info
    let s := modRxq ch pos (fun x => { x with
      tc := x.tc ++ clear.1, ks := clear.2, nextCw := c + 1, badCws := if d.uncorr then x.badCws ++ [c] else x.badCws }) s
    let s := if c = 0 then judgeFrame ch f (parseHdr (beNat (clear.1.take 16))) s else s
    let s := match s.rx[ch].rxq.find? fun x => x.pos == pos with
      | some x => match x.used, x.hdr with
        | true, some h => dirsReady ch x h (mapReady ch x h s)
        | _, _ => s
      | none => s
    let s := dropFinished ch (feedCarrier ch pos s)
    if c = 719 then endBadRun ch s else s

/-- The decoding of the line bytes of codeword `c` (R65, R75, R76): codeword 0 has its 64 shortened bits before the bytes of
the line, as known zeros of maximum reliability. -/
def decodeLine (s : State) (ch : Fin 4) (c : Nat) (rx : Bytes) (rel : Nat) : Decoded :=
  let hard := sliced s ch rx.length (beNat rx)
  let known := if c = 0 then 64 else 0
  let rel := (32 ^ known - 1) * 32 ^ (17280 - known) + rel
  ldpcDecode (fun i => Config.ldpcIteration i hard rel % 2 ^ (17280 - known)) (s.obj Obj.DS_LDPC_MAX_ITER (sub ch)) hard

/-- The information bytes that the decoder puts out: the shortened bytes never (R77). -/
def decodedInfo (c : Nat) (d : Decoded) : Bytes :=
  let info := beBytes 1920 (d.word / 2 ^ 1920)
  if c = 0 then info.drop 8 else info

/-- The decoder has finished a codeword. -/
def codewordDecoded (ch : Fin 4) (pos c : Nat) (rx : Bytes) (rel : Nat) (s : State) : State :=
  let d := decodeLine s ch c rx rel
  match s.rx[ch].st with
  | .presync => candCodeword ch pos c d.weight d.uncorr (decodedInfo c d) s
  | .sync => syncCodeword ch pos c d (decodedInfo c d) s
  | _ => lateCodeword ch pos c d s

/-- The codeword's line bytes and reliabilities fit R66 and R71. -/
def codewordWf (c : Nat) (rx : Bytes) (rel : Nat) : Bool :=
  let n := if c = 0 then 2152 else 2160
  decide (c < 720) && rx.length == n && decide (rel < 32 ^ (8 * n))

def execCodewordDecoded (t : Nat) (ch : Fin 4) (pos c : Nat) (rx : Bytes) (rel : Nat) (s : State) :
    Host.Outcome State Fault Refusal :=
  doneIf (codewordWf c rx rel) t s (codewordDecoded ch pos c rx rel)

/-! ### The carrier walk (R97-R109) -/

/-- Reads a carrier header. -/
def parseCarrier (at0 cidx v : Nat) : Carrier :=
  { at0 := at0, pli := fld v 63 50, key := fld v 49 48, flow := fld v 47 32, last := bitAt v 31, seqValid := bitAt v 30,
    seq := fld v 29 18, cidx := cidx }

/-- The valid row of a flow, as it stands for a frame (R101, R104). -/
def flowRow (s : State) (at0 flow : Nat) : Option Nat :=
  (List.range 4096).find? fun r =>
    let v := s.rowFor Obj.DS_FLOW_TABLE r at0
    bitAt v 63 && fld v 47 32 == flow

/-- The fragment state of a flow on a channel (R105). -/
def fragOf (s : State) (ch : Fin 4) (flow : Nat) : FragState :=
  match s.rx[ch].frags.find? fun e => e.1 == flow with
  | some e => e.2
  | none => .closed

/-- Sets the fragment state. -/
def setFragState (ch : Fin 4) (flow : Nat) (st : FragState) (s : State) : State :=
  s.modRx ch fun r => { r with frags := (r.frags.filter fun e => e.1 ≠ flow) ++ (if st = .closed then [] else [(flow, st)]) }

/-- A carrier that R105 or R106 discards. -/
def fragDiscard (ch : Fin 4) (k : Carrier) (s : State) : State :=
  setFragState ch k.flow (if k.last then .closed else .discarding) (s.bump Obj.DS_FRAGMENT_ERRORS (sub ch))

/-- A carrier whose frame the engines take: its check stays open until its verdict, and the last one gives the frame its
place in order (R276). -/
def joinFrame (k : Carrier) (fid : Nat) (s : State) : State :=
  let s := s.modFrame fid fun x => { x with
    known := x.known + (k.pli - (if k.key = 0 then 0 else 8)), encrypted := x.encrypted || decide (k.key ≠ 0), tagsOpen := if k.key = 0 then x.tagsOpen else x.tagsOpen + 1 }
  match s.frame? fid with
  | some x => if k.last && decide (x.src < 12) then setOrder fid s.now s else s
  | none => s

/-- A passed carrier begins: what has come of it goes on at once, the rest as it is decoded. -/
def openCarrier (ch : Fin 4) (pos : Nat) (k : Carrier) (fid : Option Nat) (client : Nat) (first : Option (Fin 64)) (s : State) :
    State :=
  let o : OpenCar := { car := k, fid := fid, client := client, first := first,
                       lineKey := (validSlot s k.flow k.key).map fun i => slotKey s i, done := 0 }
  feedCarrier ch pos (modRxq ch pos (fun x => { x with cur := some o }) s)

/-- The first carrier of a frame (R109, R216, R221, R222, R301, R431). -/
def newFrame (ch : Fin 4) (f : RxFrame) (k : Carrier) (row : Nat) (s : State) : State :=
  let bonded := bitAt row 56
  let g : Fin 64 := ⟨fld row 55 50 % 64, Nat.mod_lt _ (by decide)⟩
  let rr := bonded && s.bond.groups[g].mode == 1
  let pass := if bonded then bondCarrier g ch k.seqValid s else (true, s)
  if !pass.1 then pass.2
  else
    let s := pass.2
    let fid := s.nextFid
    let body := k.pli - (if k.key = 0 then 0 else 8)
    let x := { Frame.blank fid (if rr then 16 + g.val else 8 + ch.val) (8 + ch.val) with
      stamp := f.arrival + lineByte k.at0 * 625000, uncal := !s.rx[ch].calibrated, flow := k.flow, flowTag := fld row 15 0
      ponCh := some ch, bonded := bonded, owner := 8 + ch.val, ready := !rr }
    let s := askFirst x (rungFor body) ch.val { s with nextFid := fid + 1, frames := s.frames ++ [x] }
    let s := if rr && !k.seqValid then passUnsequenced g fid s else s
    openCarrier ch f.pos k (some fid) 0 (if rr && k.seqValid then some g else none) (joinFrame k fid s)

/-- A later carrier of a frame (R221, R222, R283). One that the bonding step discards leaves its frame short, which cuts the
frame (DESIGN CHOICE, log entry 173). -/
def laterCarrier (ch : Fin 4) (f : RxFrame) (k : Carrier) (row fid : Nat) (s : State) : State :=
  let g : Fin 64 := ⟨fld row 55 50 % 64, Nat.mod_lt _ (by decide)⟩
  let pass := if bitAt row 56 then bondCarrier g ch k.seqValid s else (true, s)
  if !pass.1 then cutFrame fid pass.2
  else
    let s := pass.2
    match s.frame? fid with
    | none => s
    | some x =>
      if x.stage = .orphan then
        let s := if x.undone then s.bump Obj.CTX_ORPHAN_FRAGMENTS else s
        if k.last then removeFrame fid s else s
      else openCarrier ch f.pos k (some fid) 0 none (joinFrame k fid s)

/-- A packet carrier that the filter has passed (R105, R106). -/
def packetCarrier (ch : Fin 4) (f : RxFrame) (k : Carrier) (row : Nat) (s : State) : State :=
  let n := k.pli - (if k.key = 0 then 0 else 8)
  match fragOf s ch k.flow with
  | .closed =>
    if n > 16000 then fragDiscard ch k s
    else newFrame ch f k row (setFragState ch k.flow
      (if k.last then .closed else .opened s.nextFid n k.seqValid k.seq) s)
  | .discarding => fragDiscard ch k s
  | .opened fid len v q =>
    if len + n > 16000 ∨ v ≠ k.seqValid ∨ q ≠ k.seq then
      fragDiscard ch k (cutFrame fid (setFragState ch k.flow .discarding (s.bump Obj.DS_FRAGMENT_ERRORS (sub ch))))
    else laterCarrier ch f k row fid (setFragState ch k.flow (if k.last then .closed else .opened fid (len + n) v q) s)

/-- A flume carrier: one container on its way to the de-mapper (R107, R397). -/
def flumeCarrier (ch : Fin 4) (f : RxFrame) (k : Carrier) (row : Nat) (s : State) : State :=
  let c := fld row 26 24
  if !s.cliOn c then s.bump Obj.CLI_DS_NO_CLIENT else openCarrier ch f.pos k none c none s

/-- The flow filter on a non-idle carrier (R101). -/
def filterCarrier (ch : Fin 4) (f : RxFrame) (k : Carrier) (s : State) : State :=
  match flowRow s f.arrival k.flow with
  | none => s.bump Obj.DS_CARRIERS_UNKNOWN (sub ch)
  | some r =>
    let row := s.rowFor Obj.DS_FLOW_TABLE r f.arrival
    if !bitAt row (59 + ch.val) then s.bump Obj.DS_CARRIERS_UNKNOWN (sub ch)
    else if k.key = 3 ∨ k.pli = 0 then s.bump Obj.DS_CARRIER_FORMAT_ERRORS (sub ch)
    else
      let s := s.bump Obj.DS_CARRIERS_PASSED (sub ch)
      let s := (s.bumpRow Obj.DS_FLOW_COUNTERS r 2 0).bumpRow Obj.DS_FLOW_COUNTERS r 2 1 k.pli
      if fld row 58 57 = 1 then flumeCarrier ch f k row s else packetCarrier ch f k row s

/-- The walk ends early: delineation is lost (R99). -/
def delineationLost (ch : Fin 4) (f : RxFrame) (s : State) : State :=
  breakFragments ch ((modRxq ch f.pos (fun x => { x with walkEnded := true }) s).bump Obj.DS_DELINEATION_LOST (sub ch))

/-- One step of the walk of a frame: the first case of R99 that applies. -/
def walkStep (ch : Fin 4) (f : RxFrame) (s : State) : State :=
  let w := f.walk
  if w + 8 > tcBytes then modRxq ch f.pos (fun x => { x with walkEnded := true }) s
  else if f.tc.length < w + 8 then s
  else
    let v := beAt f.tc w 8
    let pli := fld v 63 50
    if hec14 v ≠ fld v 13 0 ∨ fecBad f w 8 then delineationLost ch f (compatCh ch 4 1 (s.bump Obj.DS_HEC_ERRORS (sub ch)))
    else if w + 8 + pli > tcBytes then delineationLost ch f (s.bump Obj.DS_CARRIER_FORMAT_ERRORS (sub ch))
    else if fld v 47 32 = 0xFFFF then
      (modRxq ch f.pos (fun x => { x with walk := w + 8 + pli }) s).bump Obj.DS_IDLE_BYTES (sub ch) (8 + pli)
    else
      let s := modRxq ch f.pos (fun x => { x with walk := w + 8 + pli, cidx := x.cidx + 1 }) s
      if f.cidx ≥ 65536 then s.bump Obj.DS_CARRIER_FORMAT_ERRORS (sub ch)
      else filterCarrier ch f (parseCarrier w f.cidx v) s

/-- The walk of the oldest used frame reaches its next header. -/
def carrierHeader (ch : Fin 4) (s : State) : State :=
  if s.rx[ch].st ≠ .sync then s
  else match s.rx[ch].rxq.find? fun f => f.used && !f.walkEnded with
    | some f => if f.cur.isSome then s else dropFinished ch (walkStep ch f s)
    | none => s

def execCarrierHeader (t : Nat) (ch : Fin 4) (s : State) : Host.Outcome State Fault Refusal := done t s (carrierHeader ch)

/-! ### Host writes of the flow filter table (R103) -/

/-- A row that a write may hold (R103, R202, Table 02-8). -/
def flowRowStatus (s : State) (r v : Nat) : Status :=
  let g : Fin 64 := ⟨fld v 55 50 % 64, Nat.mod_lt _ (by decide)⟩
  let gr := s.bond.groups[g]
  if bitAt v 63 && (fld v 47 32 == 0xFFFF || decide (fld v 58 57 ≥ 2) || (List.range 4096).any fun o =>
      let w := s.row Obj.DS_FLOW_TABLE o
      o != r && bitAt w 63 && fld w 47 32 == fld v 47 32) then .range
  else if bitAt v 56 && (fld v 58 57 == 1 || !gr.valid || fld v 62 59 != gr.members) then .range
  else .ok

end Sys2Proof.Machine
end

