-- ==== Sys2Proof/Machine/InnerLink.lean ====
section
/-! DEFINITION. The inner link (R29-R36), its bring-up and lane repair, loss of the root PLL and the calibration of the always-on oscillator. -/
namespace Sys2Proof.Machine

/-- Updates one direction: 0 from the engine die to the line die, 1 back. -/
def State.modIl (s : State) (d : Fin 2) (f : IlDir → IlDir) : State := { s with il := { s.il with dirs := vmod s.il.dirs d f } }

/-- The bring-up is under way: in step 3 of the boot, or in step 4 of an exit (Tables 14-4 and 14-6). -/
def ilBringUp (s : State) : Bool :=
  match s.pwr.phase with
  | .boot n => n ≤ 3
  | .exit n => n = 4
  | _ => false

/-- R33: inner-link reset is released on both dies. -/
def ilRelease (s : State) : State :=
  if ilBringUp s ∧ s.il.st = 0 then
    { s with il := { s.il with st := 1, relAt := s.now, checked := false, dirs := Vector.replicate 2 IlDir.init } }
  else s

def execInnerLinkResetRelease (t : Nat) (s : State) : Host.Outcome State Fault Refusal := done t s ilRelease

/-- The inner link has failed before it was up: a failed start (R33, R34). -/
def ilStartFailed (s : State) : State := failStart 3 s

/-- The lanes of a 40-bit set. -/
def laneSet (v : BitVec 40) : List Nat := (List.range 40).filter fun k => v.getLsbD k

/-- Bring-up of one direction: the 38 lowest good lanes are active, the other good ones spares (Table 01-3). -/
def ilCheckDir (d : Fin 2) (bad : BitVec 40) (s : State) : State :=
  let good := (List.range 40).filter fun k => !bad.getLsbD k
  let s := s.modIl d fun _ => { IlDir.init with active := good.take 38, spares := good.drop 38, failed := bad.toNat }
  (laneSet bad).foldl (fun s k => s.ev Ev.IL_LANE_FAILED [sub d, k, 3]) s

/-- R33, R34: the per-lane PRBS check ends. More than 2 failed lanes in a direction fail the link. -/
def prbsCheckEnd (bad0 bad1 : BitVec 40) (s : State) : State :=
  if s.il.st ≠ 1 ∨ s.il.checked then s
  else
    let s := ilCheckDir 1 bad1 (ilCheckDir 0 bad0 s)
    let s := { s with il := { s.il with checked := true } }
    let beyond := fun (b : BitVec 40) => decide ((laneSet b).length > 2)
    if beyond bad0 then ilStartFailed (s.evHeld Ev.IL_FAILED (1 :: p64 bad0.toNat))
    else if beyond bad1 then ilStartFailed (s.evHeld Ev.IL_FAILED (2 :: p64 bad1.toNat))
    else s

def execPrbsCheckEnd (t : Nat) (bad0 bad1 : BitVec 40) (s : State) : Host.Outcome State Fault Refusal :=
  done t s (prbsCheckEnd bad0 bad1)

/-- R33: the third marker completes lock and deskew, and the lane maps are exchanged. The markers carried the counts 0, 1
and 2 (log entry 160). -/
def markerLock (s : State) : State :=
  if s.il.st = 1 ∧ s.il.checked then
    { s with il := { s.il with st := 2, dirs := s.il.dirs.map fun d => { d with markNo := 3, missed := [] } } }
  else s

def execMarkerLock (t : Nat) (s : State) : Host.Outcome State Fault Refusal := done t s markerLock

/-- R33: the 1 ms limit. -/
def ilTimeout (s : State) : State :=
  if s.il.st = 1 ∧ s.now ≥ s.il.relAt + tickMs then ilStartFailed s else s

def execInnerLinkBringupTimeout (t : Nat) (s : State) : Host.Outcome State Fault Refusal := done t s ilTimeout

/-! ### Flits (R31, R32) -/

/-- A flit: its payload and the CRC-32 in its last 4 bytes (R31). The generator is PRESUMED (log entry 160). -/
def flitOf (payload : Bytes) : Bytes := payload ++ beBytes 4 (crc32Eth payload)

/-- What the lanes make of a flit; `err` marks the bits that they change, and bytes beyond it arrive as sent. -/
def flitArrives (flit err : Bytes) : Bytes := xorBytes flit (err ++ zeros (flit.length - err.length))

/-- The CRC-32 of a received flit holds (R31). -/
def flitGood (flit : Bytes) : Bool := flit == flitOf (flit.take (flit.length - 4))

/-- A flit with payload for 36, 37 or 38 active lanes of 32 bytes each (R31, R35). -/
def flitWf (payload err : Bytes) : Bool :=
  (payload.length == 1148 || payload.length == 1180 || payload.length == 1212) && decide (err.length ≤ payload.length + 4)

/-- R32: a flit arrives. The sender keeps its last 256; a flit whose CRC fails is counted, and the sender replays from it
on until the receiver has it, so that no data is lost. -/
def flitReceived (d : Fin 2) (payload err : Bytes) (s : State) : State :=
  if s.il.st < 2 then s
  else
    let x := s.il.dirs[d]
    let kept := if x.replay = 0 then (payload :: x.kept).take 256 else x.kept
    let due := max 1 x.replay
    let flit := flitArrives (flitOf (kept.getD (due - 1) [])) err
    if flitGood flit then
      s.modIl d fun x => { x with kept := kept, replay := due - 1, got := flit.take (flit.length - 4) }
    else
      let s := s.modIl d fun x => { x with kept := kept, replay := due }
      (s.bump Obj.IL_FLIT_CRC_ERRORS (sub d)).bump Obj.IL_REPLAYS (sub d)

def execFlitReceived (t : Nat) (dir : Fin 2) (payload err : Bytes) (s : State) : Host.Outcome State Fault Refusal :=
  doneIf (flitWf payload err) t s (flitReceived dir payload err)

/-! ### Alignment markers and lane repair (R30, R35, R36) -/

/-- CRC-8 of a marker over its lane number and count; the generator is PRESUMED (log entry 160). -/
def markerCrc (lane count : Nat) : Nat := crcBits 8 0x07 0 (bitsOfNat 6 lane ++ bitsOfNat 8 count)

/-- The alignment marker of a lane (R30): lane number, count and CRC-8, which stand first among the 256 payload bits of its
block (log entry 160). -/
def markerFields (lane count : Nat) : Nat := lane * 2 ^ 16 + count * 2 ^ 8 + markerCrc lane count

/-- A block of 257 bits, its header bit above its 256 payload bits, holds the marker that this lane owes (R30). -/
def markerGood (lane count : Nat) (block : BitVec 257) : Bool := fld block.toNat 255 234 == markerFields lane count

/-- An active lane fails in operation (R35, R36): it leaves the stripe and the lowest unused spare trains; with none left
PTXDIS is asserted and the package restarts. What the receiver has not accepted is replayed on the other lanes. -/
def laneFails (d : Fin 2) (k cause : Nat) (s : State) : State :=
  let s := s.modIl d fun x => { x with active := x.active.erase k, failed := setBit x.failed k true }
  let s := s.ev Ev.IL_LANE_FAILED [sub d, k, cause]
  match s.il.dirs[d].spares with
  | [] => restart 6 (assertPtxdisAll (s.evHeld Ev.IL_FAILED (sub d :: p64 s.il.dirs[d].failed)))
  | n :: rest =>
    let s := s.modIl d fun x => { x with spares := rest, repairs := x.repairs ++ [(k, n, 0)] }
    { s with il := { s.il with st := 3 } }

/-- R35: a marker boundary of a direction. A lane fails by 2 consecutive markers missed or corrupted, or by more than 64
header-bit errors in the interval. -/
def alignmentMarker (d : Fin 2) (blocks : List (BitVec 257)) (errs : List Nat) (s : State) : State :=
  if s.il.st < 2 then s
  else
    let x := s.il.dirs[d]
    let bad := x.active.filter fun k => !markerGood k x.markNo (blocks.getD k 0)
    let s := s.modIl d fun x => { x with
      repairs := x.repairs.map fun r => (r.1, r.2.1, r.2.2 + 1), markNo := (x.markNo + 1) % 256, missed := bad }
    x.active.foldl (fun s k =>
      if s.il.st < 2 then s
      else if bad.contains k && x.missed.contains k then laneFails d k 1 s
      else if errs.getD k 0 > 64 then laneFails d k 2 s
      else s) s

def execAlignmentMarker (t : Nat) (dir : Fin 2) (blocks : List (BitVec 257)) (hdrErrs : List Nat) (s : State) :
    Host.Outcome State Fault Refusal :=
  doneIf (blocks.length = 40 ∧ hdrErrs.length = 40) t s (alignmentMarker dir blocks hdrErrs)

/-- R35: the spare joins the stripe at the fourth marker boundary after the failure. -/
def laneRepaired (d : Fin 2) (s : State) : State :=
  match s.il.dirs[d].repairs with
  | [] => s
  | (k, n, m) :: rest =>
    if s.il.st ≠ 3 ∨ m < 4 then s
    else
      let s := s.modIl d fun x =>
        { x with active := x.active.filter (fun l => decide (l < n)) ++ n :: x.active.filter (fun l => decide (n < l)), repairs := rest }
      let s := (s.bump Obj.IL_REPAIRS (sub d)).ev Ev.IL_LANE_REPAIRED [sub d, k, n]
      if (s.il.dirs.toList.all fun x => x.repairs.isEmpty) then { s with il := { s.il with st := 2 } } else s

def execIlLaneRepaired (t : Nat) (dir : Fin 2) (s : State) : Host.Outcome State Fault Refusal := done t s (laneRepaired dir)

/-- The package is in Run or Idle, with no transition or in one (R49, R592). -/
def inRun (s : State) : Bool :=
  match s.pwr.phase with
  | .up | .entry _ => true
  | _ => false

/-- R49: a root PLL loses lock in Run. -/
def pllUnlock (die : Fin 2) (s : State) : State :=
  if inRun s then restart 5 (assertPtxdisAll (s.evHeld Ev.ROOT_PLL_UNLOCK [sub die])) else s

def execRootPllUnlock (t : Nat) (die : Fin 2) (s : State) : Host.Outcome State Fault Refusal := done t s (pllUnlock die)

/-- The error in ppm, at most 100 either way, that a calibration leaves; free (R48, log entry 161). -/
def oscResidue (s : State) : Int := ((Config.freeValue s.draws % 201 : Nat) : Int) - 100

/-- R48: while REFCLK runs, the RC oscillator is calibrated against it once per second. The calibration allows for the
spread of REFCLK, so that what it leaves is within 100 ppm whatever the spread. -/
def oscCalibrate (s : State) : State :=
  let due := match s.island.oscCalAt with
    | some c => decide (s.now ≥ c + tickS)
    | none => true
  if s.island.oscEn && due then
    { s with island := { s.island with oscCalAt := some s.now, oscErr := oscResidue s }, draws := s.draws + 1 }
  else s

def execOscillatorCalibration (t : Nat) (s : State) : Host.Outcome State Fault Refusal := done t s oscCalibrate

end Sys2Proof.Machine
end

