-- ==== Sys2Proof/Machine/Upstream.lean ====
section
/-! DEFINITION. Chapter 04: grants, chains, seals, the fill, bursts and the emission guard (R155-R198). -/
namespace Sys2Proof.Machine

/-! ### The line (R155, R156) -/

/-- Ticks of `n` slots of a recovered clock (R142, R156). -/
def slotTicks (period n : Nat) : Nat := bitTicks period (128 * n)

/-- A grant word (Table 04-1) with its `FEC_BAD` bit. -/
def parseGrant (e : Nat × Bool) : Grant :=
  let v := e.1
  { allocId := fld v 63 50, report := bitAt v 49, directiveSlot := bitAt v 48, ranging := bitAt v 47, forcedWake := bitAt v 46,
    start := fld v 45 29, size := fld v 28 13, profile := fld v 12 11, hecOk := hec10 v == fld v 9 0, fecBad := e.2 }

/-- An announce grant (R160). -/
def isAnnounce (g : Grant) : Bool := g.allocId == 0x3FFF && g.ranging

/-- The allocation row that a grant addresses: none where it is not this terminal's (R160, R161, R164). -/
def grantRow (s : State) (ch : Fin 4) (at0 : Nat) (g : Grant) : Option Nat :=
  if s.act[ch].tid ≠ 1023 ∧ g.allocId = s.act[ch].tid then some (s.obj Obj.US_DEFAULT_ROW (sub ch))
  else allocRow s ch at0 g.allocId

/-- The grant is to the default allocation. -/
def isDefault (s : State) (ch : Fin 4) (g : Grant) : Bool := s.act[ch].tid != 1023 && g.allocId == s.act[ch].tid

/-- The state that decides what frame `n` executes: a handover counts from its frame on (R152). -/
def grantState (s : State) (ch : Fin 4) (n : Nat) : ActState :=
  let a := s.act[ch]
  match a.handover, a.incoming with
  | some h, _ => if sfcLe h.sfc n ∧ a.st = .operating then .standby else a.st
  | none, some (_, _, true) => if a.st = .standby then .operating else a.st
  | none, _ => a.st

/-- A rejected grant (R167). -/
def rejectGrant (ch : Fin 4) (sfc : Nat) (counter test : Nat) (g : Grant) (s : State) : State :=
  (s.bump counter (sub ch)).evOnce (Ev.GRANT_REJECTED + ch.val) 0 (p64 sfc ++ [g.allocId, test])

/-- Test 4 (Table 04-4). -/
def grantInRange (g : Grant) : Bool := decide (g.start ≤ 97199) && decide (g.start + g.size ≤ 97200)

/-- A profile in force. -/
def profileAt (s : State) (ch : Fin 4) (i : Nat) : BurstProfile := (s.us[ch].profs.toList[i % 4]?).getD BurstProfile.init

/-- Test 5. -/
def profileOk (p : BurstProfile) : Bool := p.valid && !p.stale

/-! ### The guard's windows (R192) -/

/-- Instant of start(N) for an EqD: Tresp and EqD are counted in line bits of the recovered clock (R142). -/
def startOf (period arrival eqd : Nat) : Nat := arrival + bitTicks period (tresp + eqd)

/-- Opens a guard window of a grant. -/
def openGuard (ch : Fin 4) (period frameStart shift p : Nat) (g : Grant) (s : State) : State :=
  let z := frameStart + bitTicks period shift
  let o := z + slotTicks period g.start
  let c := z + slotTicks period (g.start + (if g.size = 0 then 16 else g.size) + 4)
  s.modUs ch fun u => { u with windows := u.windows ++ [(o - slotTicks period (p + 1), c)] }

/-- The windows that a map opens. -/
def guardWindows (ch : Fin 4) (m : MapIn) (gs : List Grant) (s : State) : State :=
  let per := linePeriod s ch
  let fs := startOf per m.arrival s.act[ch].eqd
  let ok := gs.filter fun g => g.hecOk && !g.fecBad && grantInRange g
  let s := s.modUs ch fun u => { u with windows := u.windows.filter fun w => decide (s.now ≤ w.2) }
  let s := ok.foldl (fun s g =>
    if isAnnounce g then s
    else if (grantRow s ch m.arrival g).isSome then openGuard ch per fs 0 (profileAt s ch g.profile).p g s else s) s
  match s.act[ch].announce, ok.find? isAnnounce with
  | some a, some g => if a.sfc = m.sfc then openGuard ch per fs a.preEqd (profileAt s ch a.profile).p g s else s
  | _, _ => s

/-! ### Grants to chains (R166-R172) -/

/-- What a grant that has passed tests 1-5 asks for. -/
structure Asked where
  kind : ChainKind
  grant : Grant
  row : Nat
  idx : Nat
  deriving DecidableEq, Repr

/-- What the state lets a grant of a row do (Table 04-3, R189): none where it is not executed. -/
def grantKind (s : State) (ch : Fin 4) (st : ActState) (g : Grant) : Option ChainKind :=
  if st = .operating then
    if asleepUp s then some .forcedWake
    else if g.ranging && isDefault s ch g then some .ranging
    else some (if g.size = 0 then .reportOnly else .data)
  else if st = .ranging ∧ g.ranging ∧ isDefault s ch g then some .ranging
  else none

/-- Tests 1-5 on one grant; what passes is added to the list. -/
def checkGrant (ch : Fin 4) (m : MapIn) (chosen : Option Nat) (acc : List Asked × State) (e : Grant × Nat) :
    List Asked × State :=
  let s := acc.2
  let g := e.1
  let st := grantState s ch m.sfc
  if !g.hecOk then (acc.1, rejectGrant ch m.sfc Obj.US_GRANT_HEC_ERRORS 1 g s)
  else if isAnnounce g then
    let s := s.bump Obj.US_GRANTS_SEEN (sub ch)
    match s.act[ch].announce with
    | some a =>
      if chosen ≠ some e.2 then (acc.1, s)
      else if !profileOk (profileAt s ch a.profile) then (acc.1, rejectGrant ch m.sfc Obj.US_GRANTS_PROFILE 5 g s)
      else (acc.1 ++ [{ kind := .announce, grant := g, row := 0, idx := e.2 }], s)
    | none => (acc.1, s)
  else match grantRow s ch m.arrival g with
    | none => (acc.1, s)
    | some row =>
      let s := (leaveIdle s).bump Obj.US_GRANTS_SEEN (sub ch)
      if g.fecBad then (acc.1, rejectGrant ch m.sfc Obj.US_GRANT_FEC_BAD 2 g s)
      else if asleepUp s && !(s.pwr.watch == some ch && g.forcedWake) then (acc.1, s.bump Obj.US_GRANTS_ASLEEP (sub ch))
      else match grantKind s ch st g with
        | none => (acc.1, rejectGrant ch m.sfc Obj.US_GRANTS_STATE 3 g s)
        | some k =>
          if !grantInRange g then (acc.1, rejectGrant ch m.sfc Obj.US_GRANTS_RANGE 4 g s)
          else if !profileOk (profileAt s ch g.profile) then (acc.1, rejectGrant ch m.sfc Obj.US_GRANTS_PROFILE 5 g s)
          else (acc.1 ++ [{ kind := k, grant := g, row := row, idx := e.2 }], s)

/-- The announce grant that the armed frame serves: the first that passes tests 1, 2 and 4 (R136). -/
def chosenAnnounce (s : State) (ch : Fin 4) (m : MapIn) (gs : List (Grant × Nat)) : Option Nat :=
  let st := s.act[ch].st
  match s.act[ch].announce with
  | some a =>
    if a.sfc = m.sfc ∧ (st = .standby ∨ (st = .announced ∧ a.all)) ∧ !asleepUp s then
      (gs.find? fun e => isAnnounce e.1 && e.1.hecOk && !e.1.fecBad && grantInRange e.1).map Prod.snd
    else none
  | none => none

/-- A chain before tests 6-8: kind, header slot, length in slots, its grants, and the place of its first grant. -/
structure Draft where
  kind : ChainKind
  start : Nat
  slots : Nat
  grants : List (Grant × Nat)
  idx : Nat
  deriving DecidableEq, Repr

/-- Data grants in `START` order join the chain before them where they continue it (R171). -/
def joinData : List Asked → List Draft → List Draft
  | [], ds => ds
  | a :: as, ds =>
    match ds.getLast? with
    | some d =>
      if d.start + d.slots = a.grant.start then
        joinData as (ds.dropLast ++ [{ d with slots := d.slots + a.grant.size, grants := d.grants ++ [(a.grant, a.row)] }])
      else joinData as (ds ++ [{ kind := .data, start := a.grant.start, slots := a.grant.size, grants := [(a.grant, a.row)], idx := a.idx }])
    | none => joinData as [{ kind := .data, start := a.grant.start, slots := a.grant.size, grants := [(a.grant, a.row)], idx := a.idx }]

/-- A report-only grant joins a chain or forms a burst of its own (R172). -/
def joinReport (ds : List Draft) (a : Asked) : List Draft :=
  let fits := fun (d : Draft) => d.kind == .data &&
    (d.start + d.slots == a.grant.start || d.grants.any fun g => g.1.size != 0 && g.1.start == a.grant.start)
  match ds.find? fits with
  | some d => ds.map fun x => if x.idx = d.idx then { x with grants := x.grants ++ [(a.grant, a.row)] } else x
  | none => ds ++ [{ kind := .reportOnly, start := a.grant.start, slots := 16, grants := [(a.grant, a.row)], idx := a.idx }]

/-- The drafts of a map in the order of test 8 (R167). -/
def draftChains (delay : Nat) (as : List Asked) : List Draft :=
  let byStart := fun (a b : Asked) => decide (a.grant.start ≤ b.grant.start)
  let data := (as.filter fun a => a.kind == .data).mergeSort byStart
  let rep := as.filter fun a => a.kind == .reportOnly
  let one := fun (a : Asked) (st n : Nat) => { kind := a.kind, start := st, slots := n, grants := [(a.grant, a.row)], idx := a.idx : Draft }
  let rest := as.filterMap fun a => match a.kind with
    | .ranging => some (one a a.grant.start 19)
    | .announce => some (one a (a.grant.start + delay) 19)
    | .forcedWake => some (one a a.grant.start (if a.grant.size = 0 then 16 else a.grant.size))
    | _ => none
  let all := rep.foldl joinReport (joinData data []) ++ rest
  all.mergeSort fun a b => decide (a.start < b.start) || (a.start == b.start && decide (a.idx ≤ b.idx))

/-- A failing chain drops all of its grants. -/
def rejectChain (ch : Fin 4) (sfc counter test : Nat) (d : Draft) (s : State) : State :=
  d.grants.foldl (fun s g => rejectGrant ch sfc counter test g.1 s) s

/-- A ranging or Serial Number burst fits its grant, and a data chain is long enough (test 7). -/
def draftFits (delay : Nat) (d : Draft) : Bool :=
  let size := match d.grants.head? with
    | some g => g.1.size
    | none => 0
  match d.kind with
  | .ranging => decide (19 ≤ size)
  | .announce => decide (delay + 19 ≤ size)
  | _ => decide (16 ≤ d.slots)

/-- Tests 6-8 on one draft; an accepted chain joins the channel's list (R145, R190). -/
def acceptChain (ch : Fin 4) (m : MapIn) (a : Option Announce) (s : State) (d : Draft) : State :=
  let pno := match d.kind, a, d.grants.head? with
    | .announce, some a, _ => a.profile
    | _, _, some g => g.1.profile
    | _, _, none => 0
  let pr := profileAt s ch pno
  let delay := match d.kind, a with
    | .announce, some a => a.delay
    | _, _ => 0
  let eqd := match d.kind, a with
    | .announce, some a => a.preEqd
    | _, _ => s.act[ch].eqd
  let per := linePeriod s ch
  let fs := startOf per m.arrival eqd
  let rise := fs + slotTicks per d.start - slotTicks per (pr.p + 1)
  if d.start < pr.p + 1 ∨ d.start + d.slots > 97200 then rejectChain ch m.sfc Obj.US_GRANTS_RANGE 6 d s
  else if !draftFits delay d then rejectChain ch m.sfc Obj.US_GRANTS_TOO_SMALL 7 d s
  else if rise < s.us[ch].lastEnd then
    let u := s.us[ch]
    let byEqd := (u.lastSfc + 1) % 2 ^ 51 == m.sfc && decide (eqd < u.lastEqd) &&
      decide (rise + bitTicks per (u.lastEqd - eqd) ≥ u.lastEnd)
    rejectChain ch m.sfc (if byEqd then Obj.ACT_EQD_OVERLAP_DROPS else Obj.US_GRANTS_OVERLAP) 8 d s
  else
    let tid := if d.kind = .announce then 1023 else s.act[ch].tid
    let stop := fs + slotTicks per (d.start + d.slots)
    let k : Chain :=
      { kind := d.kind, tid := tid, sfc := m.sfc, chId := m.chId, grants := d.grants, startSlot := d.start, slots := d.slots, p := pr.p,
        guardSlots := pr.guardSlots, pattern := pr.pattern, delimiter := pr.delimiter, frameStart := fs, measured := m.measured,
        period := per, all := (match d.kind, a with
          | .announce, some a => a.all
          | _, _ => false)
        riseAt := rise, endAt := stop, delay := delay, sealedAt := none, dsOk := false, emergency := false, directive := none,
        dirBytes := [], bonds := [], filled := false, content := [],
        taken := [], reports := 0, carriers := 0, payload := 0, idle := 0, fragments := 0 }
    let s := s.modUs ch fun u => { u with
      chains := u.chains ++ [k], lastEnd := stop + slotTicks per pr.guardSlots, lastSfc := m.sfc, lastEqd := eqd }
    if d.kind = .forcedWake then
      let id := match d.grants.head? with
        | some g => g.1.allocId
        | none => 0
      ponWake ch ((s.bump Obj.US_FORCED_WAKES (sub ch)).ev (Ev.FORCED_WAKE + ch.val) (p64 m.sfc ++ [id]))
    else s

/-- R167: the oldest map handed over. -/
def bandwidthMap (ch : Fin 4) (s : State) : State :=
  match s.us[ch].maps with
  | [] => s
  | m :: rest =>
    let s := s.modUs ch fun u => { u with maps := rest }
    let gs := m.words.map parseGrant
    let s := guardWindows ch m gs s
    let chosen := chosenAnnounce s ch m gs.zipIdx
    let r := gs.zipIdx.foldl (checkGrant ch m chosen) ([], s)
    let armed := match s.act[ch].announce with
      | some a => if a.sfc = m.sfc then some a else none
      | none => none
    let delay := match armed with
      | some a => a.delay
      | none => 0
    let s := (draftChains delay r.1).foldl (acceptChain ch m armed) r.2
    if armed.isSome then s.modAct ch fun a => { a with announce := none } else s

def execBandwidthMap (t : Nat) (ch : Fin 4) (s : State) : Host.Outcome State Fault Refusal := done t s (bandwidthMap ch)

/-! ### Seals (R180, R191) -/

/-- Ticks of a 375 MHz cycle. -/
def tick375 : Nat := 4 * tickCore

/-- The clock edge at which a seal takes effect (R180). -/
def sealEdge (k : Chain) : Nat := (k.riseAt - 6 * tickUs + tick375 - 1) / tick375 * tick375

/-- `EMERGENCY` (Table 04-5). -/
def emergency (s : State) : Bool :=
  let deep := fun (p : PwrState) => p == .deepSleep || p == .off
  let pend := match s.pwr.pending with
    | some p => deep p
    | none => false
  s.mon.alarm || pend || (match s.pwr.phase with
    | .entry _ => deep s.pwr.target && s.pwr.cause == 1
    | _ => false)

/-- Removes the head of the upstream directive queue. -/
def popDirective (ch : Fin 4) (s : State) : State := s.modAct ch fun a => { a with upq := a.upq.drop 1 }

/-- A prefix of `pre` bytes leaves the first data segment its 8 bytes, or fits a chain without one (R177). -/
def chainRoom (k : Chain) (pre : Nat) : Bool :=
  let cap := infoBytes (16 * k.slots)
  match k.grants.filter fun g => g.1.size != 0 with
  | [] => decide (pre ≤ cap)
  | [_] => decide (pre + 8 ≤ cap)
  | _ :: g :: _ => decide (pre + 8 ≤ infoAt (16 * k.slots) (16 * (g.1.start - k.startSlot)))

/-- The directive of a chain at its seal (R136, R139, R185): the head of the queue, or a new Serial Number in a ranging or
Serial Number burst. -/
def sealDirective (ch : Fin 4) (k : Chain) (s : State) : Chain × State :=
  let a := s.act[ch]
  let take := fun (u : UpDir) => ({ k with directive := some u, dirBytes := upBytes s ch k.tid u }, popDirective ch s)
  let new := fun (_ : Unit) =>
    let u : UpDir := { type := 0x81, seq := a.upSeq, content := serialContent s ch k.delay, sends := 0, sentAt := 0 }
    ({ k with directive := some u, dirBytes := upBytes s ch k.tid u }, s.modAct ch fun a => { a with upSeq := (a.upSeq + 1) % 256 })
  match k.kind, a.upq with
  | .data, u :: _ | .reportOnly, u :: _ =>
    if (k.grants.any fun g => g.1.directiveSlot) && chainRoom k 56 then take u else (k, s)
  | .ranging, u :: _ => take u
  | .ranging, [] | .announce, _ => new ()
  | _, _ => (k, s)

/-- Everything of a chain that the seal fixes besides its frames, which the fill takes as they stood at the seal (R180,
R214). -/
def sealContent (ch : Fin 4) (kind : ChainKind) (k : Chain) (s : State) : Chain × State :=
  sealDirective ch { k with
    kind := kind, slots := if kind = .ranging ∨ kind = .announce then 19 else k.slots, sealedAt := some (sealEdge k)
    dsOk := s.rx[ch].last8.all id, emergency := emergency s
    bonds := s.bond.groups.toList.map fun g => (chans g.up, g.map) } s

/-- What a forced-wake grant is once its seal falls after Run: an ordinary grant of its kind (R191). -/
def wokenKind (s : State) (ch : Fin 4) (k : Chain) : ChainKind :=
  match k.grants.head? with
  | some g => if g.1.ranging && isDefault s ch g.1 then .ranging else if g.1.size = 0 then .reportOnly else .data
  | none => .reportOnly

/-- R180: the next chain of a channel is sealed at its seal instant. One that the package's sleep stops leaves the list; so
does a woken ranging grant that its burst does not fit (test 7). -/
def sealChain (ch : Fin 4) (s : State) : State :=
  match s.us[ch].chains.find? fun k => k.sealedAt.isNone with
  | none => s
  | some k =>
    if s.now + 6 * tickUs < k.riseAt then s
    else
      let same := fun (x : Chain) => x.riseAt == k.riseAt && x.startSlot == k.startSlot
      let without := fun (s : State) => s.modUs ch fun u => { u with chains := u.chains.filter fun x => !same x }
      if asleepUp s && k.kind != .forcedWake then (without s).bump Obj.US_GRANTS_ASLEEP (sub ch) k.grants.length
      else
        let kind := if k.kind = .forcedWake ∧ !asleepUp s then wokenKind s ch k else k.kind
        if k.kind = .forcedWake ∧ kind = .ranging ∧ k.slots < 19 then
          k.grants.foldl (fun s g => rejectGrant ch k.sfc Obj.US_GRANTS_TOO_SMALL 7 g.1 s) (without s)
        else
          let r := sealContent ch kind k s
          r.2.modUs ch fun u => { u with chains := u.chains.map fun x => if same x then r.1 else x }

def execSeal (t : Nat) (ch : Fin 4) (s : State) : Host.Outcome State Fault Refusal := done t s (sealChain ch)

/-! ### The bytes of a chain (R176-R179) -/

/-- Bytes of 0x4E (R176). -/
def fill4E (n : Nat) : Bytes := List.replicate n 0x4E

/-- Encodes the information bytes of a chain and adds the tail fill (R74, R176); `n` bounds the codewords. -/
def encodeChain : Nat → Bytes → Bytes
  | 0, _ => []
  | n + 1, info =>
    if info.isEmpty then []
    else info.take 1920 ++ ldpcParityBytes (info.take 1920) ++ encodeChain n (info.drop 1920)

/-- The line bytes of a chain of B bytes. -/
def chainLine (b : Nat) (info : Bytes) : Bytes :=
  let enc := encodeChain (b / 2160 + 1) info
  enc ++ fill4E (b - enc.length)

/-- A carrier header (Table 02-7) with its `HEC`. -/
def carrierHdr (pli key flow : Nat) (last seqValid : Bool) (seq : Nat) : Nat :=
  let v := pli * 2 ^ 50 + key * 2 ^ 48 + flow * 2 ^ 32 + b2n last * 2 ^ 31 + b2n seqValid * 2 ^ 30 + seq * 2 ^ 18
  v + hec14 v

/-- An allocation header (Table 04-6). -/
def allocHdr (id report : Nat) (only stale : Bool) : Nat :=
  let v := id * 2 ^ 50 + report * 2 ^ 24 + b2n only * 2 ^ 23 + b2n stale * 2 ^ 22
  v + hec16 v

/-- Idle carriers and padding for `n` bytes (R179): the bytes and how many. -/
def idleFill : Nat → Nat → Bytes
  | 0, n => fill4E n
  | fuel + 1, n =>
    if n < 8 then fill4E n
    else
      let p := min (n - 8) 16383
      beBytes 8 (carrierHdr p 0 0xFFFF false false 0) ++ fill4E p ++ idleFill fuel (n - 8 - p)

/-! ### The fill (R181-R184, R332, R403) -/

/-- A segment being filled: the state, its bytes, the bytes left, its information offset, and what it has taken. -/
structure FillSt where
  s : State
  out : Bytes
  left : Nat
  off : Nat
  cidx : Nat
  taken : List Taken
  payload : Nat
  fragments : Nat
  carriers : Nat
  deriving DecidableEq, Repr

/-- The tag length of a flow on a channel in an upstream frame (R183, R478). -/
def tagLen (s : State) (flow : Nat) (ch : Fin 4) (sfc : Nat) : Nat := if (txSlot s flow ch.val sfc).isSome then 8 else 0

/-- Emits one carrier with the first `n` bytes of a frame's rest (R179, R183, R476). -/
def emitCarrier (ch : Fin 4) (sfc chId row : Nat) (q : QFrame) (n : Nat) (wasOpen : Bool) (x : FillSt) : FillSt :=
  let last := n == q.data.length
  let slot := txSlot x.s q.flow ch.val sfc
  let t := if slot.isSome then 8 else 0
  let key := match slot with
    | some i => x.s.ciph.slots[i].index
    | none => 0
  let retired := q.handles.any fun b => bufState x.s b == 3
  let hdr := carrierHdr (n + t) key q.flow last q.seqValid q.seq
  let h := beBytes 8 (if retired then Nat.xor hdr 0x3FFF else hdr)
  let body := match slot with
    | some i =>
      let r := gcmSeal (slotKey x.s i) (carrierIv sfc chId true q.flow x.cidx) h (q.data.take n)
      r.1 ++ r.2.take 8
    | none => q.data.take n
  let e := x.off + 8 + n + t
  let tk : Taken := { frame := q, row := row, bytes := n + t, whole := last, wasOpen := wasOpen, lineEnd := lineAt (e - 1) + 1, lineAt := lineAt x.off }
  let lost := retired && last && q.seqValid
  let s1 := match q.bond with
    | some g => if lost then x.s.bumpRow Obj.BOND_GROUP_COUNTERS g 8 7 else x.s
    | none => x.s
  let s1 := if slot.isSome then s1.bump Obj.CIPH_US_ENCRYPTED (sub ch) else s1
  { x with
    s := s1, out := x.out ++ h ++ body, left := x.left - (8 + n + t), off := e, cidx := x.cidx + 1, taken := x.taken ++ [tk]
    payload := x.payload + n + t, fragments := x.fragments + b2n (!last), carriers := x.carriers + 1 }

/-- The debits of an upstream carrier (R338). -/
def debitCarrier (q : QFrame) (cost : Nat) (s : State) : State :=
  shaperDebit (2048 + q.queue / 8) cost (shaperDebit q.queue cost s)

/-- Removes a frame from the upstream queues. -/
def takeQueued (q : QFrame) (s : State) : State :=
  { s with usq := s.usq.filter fun x => !(x.fid = q.fid && x.flume = q.flume) }

/-- One frame or open fragment in the segment: whole, as a fragment, or not at all; and whether the segment goes on
(R183). A row that has an open fragment already opens no second one. -/
def placeFrame (ch : Fin 4) (sfc chId row : Nat) (q : QFrame) (wasOpen : Bool) (x : FillSt) : Bool × FillSt :=
  let t := tagLen x.s q.flow ch sfc
  let sent := fun (n : Nat) (x : FillSt) =>
    let s := debitCarrier q (8 + n + t) x.s
    let s := if wasOpen then s else departed q (sojournNow s q) s
    { x with s := s }
  if 8 + q.data.length + t ≤ x.left then
    let y := sent q.data.length (emitCarrier ch sfc chId row q q.data.length wasOpen x)
    (true, { y with s := if wasOpen then setFrag ch row none y.s else takeQueued q y.s })
  else if (wasOpen ∨ (openFrag x.s ch row).isNone) ∧ x.left ≥ 8 + t ∧ x.left - 8 - t ≥ x.s.obj Obj.US_MIN_FRAGMENT then
    let n := x.left - 8 - t
    let y := sent n (emitCarrier ch sfc chId row q n wasOpen x)
    let rest := { q with data := q.data.drop n }
    (false, { y with s := setFrag ch row (some rest) (if wasOpen then y.s else takeQueued q y.s) })
  else (false, x)

/-- The channels a queued frame may use at a fill, by the bonding maps that the chain's seal fixed (R182, R214). -/
def sealedSet (bonds : List (List Nat × List Nat)) (q : QFrame) : List Nat :=
  match q.bond with
  | none => chans q.chMask
  | some g => match bonds[g]? with
    | some gr => channelSet gr.1 gr.2 q
    | none => []

/-- The frame that a queue offers to a channel (R332): the first of its first 32 that may go, committed before the seal. -/
def takeable (s : State) (ch : Fin 4) (bonds : List (List Nat × List Nat)) (sfc at0 k : Nat) : Option QFrame :=
  ((s.usq.filter fun q => q.queue == k && q.flume.isNone && decide (q.at0 < at0)).take 32).find? fun q =>
    (sealedSet bonds q).contains ch.val && !flowHeld s q.flow ch.val sfc

/-- Frames of a queue that the fill passes over because their flow may not be sent in the clear (R472). -/
def heldSkips (s : State) (ch : Fin 4) (bonds : List (List Nat × List Nat)) (sfc at0 k : Nat) : Nat :=
  (((s.usq.filter fun q => q.queue == k && q.flume.isNone && decide (q.at0 < at0)).take 32).takeWhile fun q =>
    !((sealedSet bonds q).contains ch.val && !flowHeld s q.flow ch.val sfc)).countP fun q =>
      (sealedSet bonds q).contains ch.val && flowHeld s q.flow ch.val sfc

/-- The scheduler's choice for an allocation (R332). -/
def nextFrame (s : State) (ch : Fin 4) (bonds : List (List Nat × List Nat)) (sfc at0 row : Nat) : Option QFrame × State :=
  if !shaperOpen s (2048 + row) then (none, s)
  else
    let qs := (List.range 8).reverse.map fun i => 8 * row + i
    let may := fun (k : Nat) => if shaperOpen s k then takeable s ch bonds sfc at0 k else none
    let r := selectQueue row qs (fun k => bitAt (s.row Obj.SCH_QUEUE_TABLE k) 63)
      (fun k => (may k).map fun q => 8 + q.data.length + tagLen s q.flow ch sfc)
      (fun k => fld (s.row Obj.SCH_QUEUE_TABLE k) 62 47)
      (fun k => !(s.usq.any fun q => q.queue == k && q.flume.isNone && decide (q.at0 < at0))) s
    let n := ((qs.filter fun k => shaperOpen s k).map fun k => heldSkips s ch bonds sfc at0 k).foldl (· + ·) 0
    (r.1.bind may, if n = 0 then r.2 else r.2.bump Obj.CIPH_US_HELD (sub ch) n)

/-- Takes frames while the segment goes on; `n` bounds them. -/
def fillFrames (ch : Fin 4) (k : Chain) (at0 row : Nat) : Nat → FillSt → FillSt
  | 0, x => x
  | n + 1, x =>
    let r := nextFrame x.s ch k.bonds k.sfc at0 row
    match r.1 with
    | none => { x with s := r.2 }
    | some q =>
      let p := placeFrame ch k.sfc k.chId row q false { x with s := r.2 }
      if p.1 then fillFrames ch k at0 row n p.2 else p.2

/-- The next container of the members of an allocation on a channel: oldest first, ready 2 µs after its period's end
(R402-R404). -/
def nextContainer (s : State) (ch : Fin 4) (sfc at0 row : Nat) : Option QFrame :=
  s.usq.find? fun q => match q.flume with
    | some n =>
      q.queue == 8 * row && bitAt q.chMask ch.val && !flowHeld s q.flow ch.val sfc && decide (q.at0 + 2 * tickUs ≤ at0) &&
        (s.usq.all fun x => !(x.flume == some n && x.tag == q.tag) || !x.handles.isEmpty)
    | none => false

/-- Takes whole containers while the next one fits (R403). -/
def fillFlume (ch : Fin 4) (sfc chId at0 row : Nat) : Nat → FillSt → FillSt
  | 0, x => x
  | n + 1, x =>
    match nextContainer x.s ch sfc at0 row with
    | none => x
    | some q =>
      if 8 + q.data.length + tagLen x.s q.flow ch sfc ≤ x.left then
        let y := emitCarrier ch sfc chId row q q.data.length false x
        fillFlume ch sfc chId at0 row n { y with s := takeQueued q y.s }
      else x

/-- Fills one data segment of `len` bytes at an information offset; the allocation header is left out (R182-R184). An open
fragment whose flow may not go in the clear is skipped and keeps its place (R472). -/
def fillSegment (ch : Fin 4) (k : Chain) (at0 row off len : Nat) (x : FillSt) : FillSt :=
  if len < 8 then { x with out := fill4E len, left := 0, off := off + len }
  else
    let x := { x with out := [], left := len - 8, off := off + 8 }
    let r := match openFrag x.s ch row with
      | some q =>
        if flowHeld x.s q.flow ch.val k.sfc then (true, { x with s := x.s.bump Obj.CIPH_US_HELD (sub ch) })
        else placeFrame ch k.sfc k.chId row q true x
      | none => (true, x)
    if r.1 then
      let y := fillFlume ch k.sfc k.chId at0 row (r.2.s.usq.length + 1) r.2
      fillFrames ch k at0 row (y.s.usq.length + 1) y
    else r.2

/-- `REPORT` of an allocation (R184). -/
def reportOf (s : State) (sfc at0 row : Nat) : Nat :=
  let cost := fun (ch : Nat) (q : QFrame) => q.data.length + 8 + (match q.flume with
    | some _ => if (txSlot s q.flow ch sfc).isSome then 8 else 0
    | none => 0)
  let queued := (s.usq.filter fun q => q.queue / 8 == row && decide (q.at0 < at0)).foldl (fun n q => n + cost ((chans q.chMask).headD 0) q) 0
  let frags := (s.us.toList.flatMap fun u => u.openFrags).foldl (fun n e => if e.1 = row then n + e.2.data.length + 8 else n) 0
  min 0x3FFFFFF ((queued + frags + 255) / 256)

/-- The fill of a data or report-only chain (R177-R185): its information bytes after the burst header. -/
def fillData (ch : Fin 4) (k : Chain) (at0 : Nat) (s : State) : Chain × State :=
  let b := 16 * k.slots
  let cap := infoBytes b
  let data := k.grants.filter fun g => g.1.size != 0
  let only := k.grants.filter fun g => g.1.size == 0
  let p0 := 8 + k.dirBytes.length
  let fit := (List.range (only.length + 1)).foldl (fun n i => if chainRoom k (p0 + 8 * i) then i else n) 0
  let s := s.bump Obj.US_REPORTS_OMITTED (sub ch) (only.length - fit)
  let heads := only.take fit
  let pre := p0 + 8 * fit
  let cidx := if s.us[ch].cidx.1 = k.sfc then s.us[ch].cidx.2 else 0
  let x0 : FillSt := { s := s, out := [], left := 0, off := pre, cidx := cidx, taken := [], payload := 0, fragments := 0, carriers := 0 }
  let r := (segmentsOf b pre k.startSlot data).foldl (fun (acc : List (Grant × Nat × Nat × Bytes) × FillSt) g =>
    let y := fillSegment ch k at0 g.2.1 g.2.2.1 g.2.2.2 acc.2
    (acc.1 ++ [(g.1, g.2.1, g.2.2.2, y.out)], y)) ([], x0)
  let y := r.2
  let rep := fun (row : Nat) => reportOf y.s k.sfc at0 row
  let headB := heads.flatMap fun g => beBytes 8 (allocHdr g.1.allocId (rep g.2) true false)
  let idle := r.1.foldl (fun n g => if g.2.2.1 < 8 then n + g.2.2.1 else n + (g.2.2.1 - 8 - g.2.2.2.length)) 0
  let segB := r.1.flatMap fun g =>
    if g.2.2.1 < 8 then g.2.2.2
    else beBytes 8 (allocHdr g.1.allocId (rep g.2.1) false false) ++ g.2.2.2 ++
      idleFill (g.2.2.1 / 8 + 1) (g.2.2.1 - 8 - g.2.2.2.length)
  let body := k.dirBytes ++ headB ++ segB
  let reports := heads.length + (r.1.filter fun g => decide (g.2.2.1 ≥ 8)).length
  let k := { k with
    filled := true, grants := data ++ heads, content := body ++ fill4E (cap - 8 - body.length), taken := y.taken, reports := reports
    carriers := y.carriers, payload := y.payload, idle := idle, fragments := y.fragments }
  (k, y.s.modUs ch fun u => { u with cidx := (k.sfc, y.cidx) })

/-- A ranging or Serial Number burst: one directive in 64 information bytes (R186). -/
def fillShort (k : Chain) : Chain := { k with filled := true, content := k.dirBytes ++ fill4E 8 }

/-- A forced-wake burst (R190). Before step 3 of an entry has latched the reports of this Sleep, the burst carries what the
latch holds from before: the rule names no other value, and this is the model's choice (log entry 182). -/
def fillWake (k : Chain) (s : State) : Chain :=
  let cap := infoBytes (16 * k.slots)
  match k.grants.head? with
  | some g =>
    let hdr := beBytes 8 (allocHdr g.1.allocId (stGet 0 s.latchedReports g.2) true true)
    { k with filled := true, content := hdr ++ idleFill (cap / 8 + 1) (cap - 16), reports := 1, idle := cap - 16 }
  | none => { k with filled := true, content := fill4E (cap - 8) }

/-- The seal that the fill arbiter serves next (R181). -/
def nextSeal (s : State) : Option (Fin 4 × Chain × Nat) :=
  (fins 4).foldl (fun best ch =>
    match s.us[ch].chains.find? fun k => k.sealedAt.isSome && !k.filled with
    | some k =>
      let t := k.sealedAt.getD 0
      match best with
      | some (_, _, bt) => if t < bt then some (ch, k, t) else best
      | none => some (ch, k, t)
    | none => best) none

/-- R181: serves one seal, at its seal instant. -/
def fillNext (s : State) : State :=
  match nextSeal s with
  | none => s
  | some (ch, k, at0) =>
    let now := s.now
    let s0 := { s with now := min now at0 }
    let r := match k.kind with
      | .data | .reportOnly => fillData ch k at0 s0
      | .ranging | .announce => (fillShort k, s0)
      | .forcedWake => (fillWake k s0, s0)
    let s := { r.2 with now := now }
    s.modUs ch fun u => { u with chains := u.chains.map fun x => if x.riseAt = k.riseAt ∧ x.startSlot = k.startSlot then r.1 else x }

def execFill (t : Nat) (s : State) : Host.Outcome State Fault Refusal := done t s fillNext

/-! ### Bursts (R173-R175, R187, R193) -/

/-- The channel's state still allows a chain at its rise (R187, R191). The source of a handover still sends the bursts of the
frames before `HANDOVER_SFC` (R121, R152). -/
def chainAllowed (s : State) (ch : Fin 4) (k : Chain) : Bool :=
  let st := grantState s ch k.sfc
  let a := s.act[ch]
  let handed := match a.handedOff with
    | some (x, tid) => k.tid == tid && sfcLe (k.sfc + 1) x
    | none => false
  let byState : Bool := match k.kind with
    | .data | .reportOnly => (handed || (st == .operating && a.tid == k.tid)) && !asleepUp s && s.running
    | .ranging => (handed || ((st == .operating || st == .ranging) && a.tid == k.tid)) && !asleepUp s && s.running
    | .announce => (st == .standby || (st == .announced && k.all)) && !asleepUp s && s.running
    | .forcedWake => st == .operating && a.tid == k.tid
  byState && !a.suppressed.contains k.sfc && s.us[ch].abandoned != some k.sfc && s.rx[ch].st == .sync

/-- The chain and every sealed one after it of the same frame are not sent (R187). -/
def abandonFrame (ch : Fin 4) (k : Chain) (s : State) : State :=
  let gone := fun (x : Chain) => x.sfc == k.sfc && x.sealedAt.isSome
  let ks := s.us[ch].chains.filter gone
  let s := ks.foldr (abandonChain ch) s
  s.modUs ch fun u => { u with chains := u.chains.filter fun x => !gone x, abandoned := some k.sfc }

/-- The burst header (Table 04-5). -/
def burstHdr (k : Chain) (seq : Nat) : Nat :=
  let v := k.tid * 2 ^ 54 + b2n k.directive.isSome * 2 ^ 53 + b2n k.dsOk * 2 ^ 52 +
    b2n (k.kind == .forcedWake) * 2 ^ 51 + b2n k.emergency * 2 ^ 50 + seq * 2 ^ 40
  v + hec16 v

/-- The preamble and delimiter before the header (R173). -/
def preamble (k : Chain) : Bytes :=
  (List.replicate (2 * k.p + 1) (beBytes 8 k.pattern)).flatten ++ beBytes 8 k.delimiter

/-- What a sent burst adds to counters and records (R131, R136, R434, R449). -/
def countBurst (ch : Fin 4) (k : Chain) (s : State) : State :=
  let s := compatCh ch 5 1 (s.bump Obj.US_BURSTS_SENT (sub ch))
  let s := s.bump Obj.US_GRANTS_EXECUTED (sub ch) k.grants.length
  let s := if k.kind = .announce then s else k.grants.foldl (fun s g => s.bumpRow Obj.US_ALLOC_COUNTERS g.2 2 0) s
  let s := s.bump Obj.US_REPORTS_SENT (sub ch) k.reports
  let s := match k.directive with
    | some u => upSent ch u s
    | none => s
  -- the stamp of the burst header (R429, R434)
  let adj := toS 32 (s.obj Obj.TIME_PON_TX_ADJ_PS (sub ch)) * (tickPs : Int)
  let hdr := ((roundStamp (s.now + slotTicks k.period (k.p + 1)) : Nat) : Int) + adj
  let ideal := k.frameStart + slotTicks k.period k.startSlot
  let s := if k.measured then addEps ch ((hdr - (ideal : Int)) * (2 ^ 40 : Nat) / (tickNs : Int)) s else s
  let s := countUncal (!s.rx[ch].calibrated) s
  let s := k.taken.foldl (fun s t => if t.wasOpen then s else tsComplete t.frame.ts true (s.stampOf hdr.toNat) t.lineAt s (!s.rx[ch].calibrated)) s
  if k.kind = .announce then
    let s := s.bump Obj.ACT_ANNOUNCES_SENT (sub ch)
    s.modAct ch fun a => { a with
      announced := a.announced || a.st == .standby
      tAnnounce := if a.st = .announced then some (deadline s Obj.ACT_T_ANNOUNCE ch) else a.tAnnounce }
  else s

/-- R193: PBEN rises for the next chain, or the chain is not sent. -/
def burstStart (ch : Fin 4) (s : State) : State :=
  match s.us[ch].burst, s.us[ch].chains with
  | none, k :: rest =>
    if !k.filled || decide (s.now < k.riseAt) then s
    else if !chainAllowed s ch k then abandonFrame ch k s
    else
      let seq := (s.us[ch].burstSeq + 1) % 256
      let info := beBytes 8 (burstHdr k seq) ++ k.content
      let line := preamble k ++ chainLine (16 * k.slots) info
      let out : BurstOut :=
        { sfc := k.sfc, seq := seq, startSlot := k.startSlot, slots := k.slots, riseAt := s.now, line := line
          levels := lineLevels (s.flag Obj.US_TX_INVERT (sub ch)) line }
      let fall := k.frameStart + slotTicks k.period (k.startSlot + k.slots + s.obj Obj.US_PBEN_TAIL (sub ch))
      countBurst ch k (s.modUs ch fun u => { u with
        chains := rest, burst := some k, burstSeq := seq, last := some out, pben := true, fallAt := fall })
  | _, _ => s

def execBurstStart (t : Nat) (ch : Fin 4) (s : State) : Host.Outcome State Fault Refusal := done t s (burstStart ch)

/-- R193: PBEN falls after the tail, the buffers of what was sent are freed, and its carriers are counted. -/
def burstEnd (ch : Fin 4) (s : State) : State :=
  match s.us[ch].burst with
  | some k =>
    if s.now < s.us[ch].fallAt then s
    else countCarriers ch k (16 * k.slots) k.idle (freeSent k (16 * k.slots) (s.modUs ch fun u => { u with burst := none, pben := false }))
  | none => s

def execBurstEnd (t : Nat) (ch : Fin 4) (s : State) : Host.Outcome State Fault Refusal := done t s (burstEnd ch)

/-! ### The emission guard (R194-R196) -/

/-- The upstream frame in progress: its SFC and start(N), where there is timing. -/
def upFrameNow (s : State) (ch : Fin 4) : Option (Nat × Nat) :=
  if s.rx[ch].st ≠ .sync ∨ s.us[ch].curStart = 0 then none
  else
    let st := startOf (linePeriod s ch) s.us[ch].curStart s.act[ch].eqd
    let n := s.us[ch].curSfc
    if s.now ≥ st then some (n, st)
    else
      let back := (st - s.now + tickFrame - 1) / tickFrame
      some ((n + 2 ^ 51 - back % 2 ^ 51) % 2 ^ 51, st - back * tickFrame)

/-- The sample before this one showed PBEN high outside every window too (R194). -/
def outsideBefore (s : State) (ch : Fin 4) : Bool :=
  match s.us[ch].outside with
  | some t => decide (s.now ≤ t + 16 * tickBit) && decide (t < s.now)
  | none => false

/-- A trip now is the second within 60 s (Table 03-2). -/
def secondTrip (s : State) (ch : Fin 4) : Bool :=
  match s.island.lastTrip[ch] with
  | some t => decide (s.now ≤ t + 60 * tickS)
  | none => false

/-- A trip latches PTXDIS, is counted and logged, and is signalled to activation. -/
def tripGuard (ch : Fin 4) (s : State) : State :=
  let second := secondTrip s ch
  let s := { s with island := { s.island with lastTrip := vmod s.island.lastTrip ch fun _ => some s.now } }
  let s := s.modUs ch fun u => { u with latched := some s.now }
  let s := s.bump Obj.US_GUARD_TRIPS (sub ch)
  let f := (upFrameNow s ch).getD (s.us[ch].curSfc, s.now)
  let off : Int := ((s.now : Int) - (f.2 : Int)) * 97200 / (linePeriod s ch : Int)
  let s := s.ev (Ev.GUARD_TRIP + ch.val) (p64 f.1 ++ [pI32 off, 1 + b2n second])
  s.modAct ch fun a => { a with trip := some (second || a.trip == some true), lastTripTime := time80 s.devTime }

/-- R194: a sample shows PBEN high outside every window. -/
def guardTrip (ch : Fin 4) (s : State) : State :=
  if s.us[ch].windows.any fun w => decide (w.1 ≤ s.now) && decide (s.now ≤ w.2) then s
  else
    let again := outsideBefore s ch
    let s := s.modUs ch fun u => { u with outside := some s.now }
    if again then s else tripGuard ch s

def execGuardTrip (t : Nat) (ch : Fin 4) (s : State) : Host.Outcome State Fault Refusal := done t s (guardTrip ch)

/-- R195: at a frame boundary, 1 s after the trip and with the silence record clear. -/
def guardReleased (ch : Fin 4) (s : State) : State :=
  match s.us[ch].latched with
  | some t =>
    if s.now ≥ t + tickS ∧ s.island.silence[ch] = false then
      let reason := if s.us[ch].silenceHeld then 2 else 1
      (s.modUs ch fun u => { u with latched := none, silenceHeld := false }).ev (Ev.GUARD_RELEASED + ch.val) [reason]
    else s
  | none => s

def execGuardReleased (t : Nat) (ch : Fin 4) (s : State) : Host.Outcome State Fault Refusal := done t s (guardReleased ch)

/-- `US_GUARD_STATE` (Table 04-8). EXTEST with the PTXDIS cell at 1 is a fail-safe path of R194. Where a trip latch and a
fail-safe assertion hold at once the table gives no precedence, and the latch is shown (log entry 165). -/
def guardState (s : State) (ch : Fin 4) : Nat :=
  if s.us[ch].latched.isSome then (if s.island.silence[ch] then 2 else 1)
  else if s.us[ch].failSafe || (tapIn s .extest && ptxdisCell s ch) then 3 else 0

/-! ### Host writes of the binding table (R162, R163) -/

/-- A row that a write may hold (R162). -/
def allocRowStatus (s : State) (r v : Nat) : Status :=
  let clash := (fins 4).any fun ch => match allocEntry v ch with
    | some id => id == 0x3FFF || (List.range 256).any fun o => o != r && allocEntry (s.row Obj.US_ALLOC_TABLE o) ch == some id
    | none => false
  if clash then .range else .ok

/-- An accepted write of a row. -/
def writeAllocRow (r v : Nat) (s : State) : State :=
  (fins 4).foldl (fun s ch => allocConflicts ch s) (s.setRowLater Obj.US_ALLOC_TABLE r v)

end Sys2Proof.Machine
end

