-- ==== Sys2Proof/Machine/Power.lean ====
section
/-! DEFINITION. Power states: requests, entry, wakes, the wake order, Idle and what a return to Run restores (R485-R505). -/
namespace Sys2Proof.Machine

/-! ### The held events and the log (R517, R573) -/

/-- Writes the held events to the log and counts those that found retention full (R517, R573). -/
def flushHeld (s : State) : State :=
  let rs := s.island.held
  let n := s.island.heldLost
  let s := { s with island := { s.island with held := [], heldLost := 0 } }
  let s := rs.foldl State.writeRec s
  if n = 0 then s else (s.bump Obj.EVT_RETAINED_LOST 0 n).ev Ev.EVT_RETAINED_LOST [n]

/-! ### Requests (R489-R491, R504) -/

/-- The lowest-numbered channel in Operating. -/
def lowestOperating (s : State) : Option (Fin 4) := (fins 4).find? fun c => s.act[c].st == .operating

/-- The watch channel of a host request for Sleep (R504). -/
def hostWatch (s : State) : Option (Fin 4) :=
  let v := s.obj Obj.PWR_WATCH_CHANNEL
  if v = 4 then lowestOperating s else (fins 4).find? fun c => c.val == v

/-- A host request begins an entry (R489, R504). -/
def hostEntry (st : PwrState) (s : State) : State :=
  let s := leaveIdle s
  beginEntry st 1 { s with pwr := { s.pwr with heSleep := none, heWait := none, watch := hostWatch s } }

/-- R489, R491: a write of `PWR_REQUEST`. -/
def pwrRequest (v : Nat) (s : State) : State :=
  match pwrOfCode v with
  | none | some .idle => s.answer .range
  | some st =>
    match s.pwr.phase with
    | .up => if st = .run then (leaveIdle s).answer .ok else (hostEntry st s).answer .ok
    | .entry _ =>
      let slot := if st = s.pwr.target then none else some st
      State.answer { s with pwr := { s.pwr with pending := slot } } .ok
    | _ => s.answer .state

def execPwrRequest (t v : Nat) (s : State) : Host.Outcome State Fault Refusal := done t s fun s => s.hostWrite (pwrRequest v)

/-! ### Entry (R488, R497, Table 14-3) -/

/-- Latches the report of every allocation at Sleep entry (R189). -/
def latchReports (s : State) : State :=
  { s with latchedReports := (List.range 256).foldl (fun m r => stSet 0 m r (reportOf s s.us[(0 : Fin 4)].curSfc s.now r)) [] }

/-- Discards every queued frame (R488). -/
def discardQueued (s : State) : State :=
  let hoist := (s.frames.filter fun f => f.stage == .hoist || f.stage == .hoistAsk).map fun f => f.fid
  let held := s.bond.groups.toList.flatMap fun g => g.held.map fun h => h.fid
  let qs := s.usq ++ s.sch.hq
  let n := hoist.length + held.length + qs.length
  let s := (hoist ++ held).foldl (fun s fid => removeFrame fid s) s
  let s := { s with bond := { s.bond with groups := s.bond.groups.map fun g => { g with held := [] } } }
  let s := freeContainers (fun _ => true) s
  let s := { s with usq := [], sch := { s.sch with hq := [] } }
  let s := (qs.filter fun q => q.flume.isNone).foldl (fun s q => loseQueued q s) s
  s.bump Obj.PWR_FRAMES_DISCARDED 0 n

/-- Every receiver follows the power state (Table 14-3). -/
def rxRefreshAll (s : State) : State := (fins 4).foldl (fun s c => rxRefresh c s) s

/-- Flushes the receive state of every group, with cause Sleep (R231). -/
def flushForSleep (s : State) : State :=
  (fins 64).foldl (fun s g => if s.bond.groups[g].valid then flushGroup g 5 s else s) s

/-- What step 3 does (Table 14-3), and the start of step 4. -/
def entryStops (s : State) : State :=
  let sleep := s.pwr.target == .sleep
  let s := if sleep then flushForSleep (latchReports s)
    else
      let s := discardQueued s
      assertPtxdisAll ((fins 4).foldl (fun s c => actEnter c .initial 20 s) s)
  let s := clientsStop s
  let s := { s with pwr := { s.pwr with phase := .entry 4, phaseAt := s.now, frozenAt := s.now } }
  let s := portsIdle (rxRefreshAll s)
  pmAsleep s

/-- What has gathered since the last update goes into the life record (R604). -/
def lifeStore (s : State) : State :=
  let s := s.writeRecord fun f => { f with
    lifeMs := Vector.ofFn fun (b : Fin 4) => f.lifeMs[b] + s.mon.lifeMs[b]
    lifeTjSum := f.lifeTjSum + s.mon.lifeTj
    lifeSamples := f.lifeSamples + s.mon.lifeN }
  { s with
    mon := { s.mon with lifeMs := Vector.replicate 4 0, lifeTj := 0, lifeN := 0, lifeAt := s.now } }

/-- The regulator groups and the oscillator that stay on in a state (Tables 14-1 and 14-3). -/
def entrySupplies (st : PwrState) (s : State) : State :=
  match st with
  | .deepSleep | .off =>
    let on : Vector Bool 4 := if st = .off then Vector.replicate 4 false else #v[true, false, true, false]
    { s with pwr := { s.pwr with pwrGood := Vector.ofFn fun (g : Fin 4) => s.pwr.pwrGood[g] && on[g] }
             island := { s.island with pwrEn := on, oscEn := false, wasManager := s.bus.manager, lastTime := s.eventTime
                                       staggerMs := s.obj Obj.ARR_STAGGER_MS } }
  | _ => s

/-- Entry is complete: the state is reached and its event held; then latched wakes act, then the pending request (R491). -/
def entryDone (s : State) : State :=
  let old := s.pwr.state
  let st := s.pwr.target
  let s := if st = .off then lifeStore s else s
  let s := entrySupplies st s
  let s := { s with pwr := { s.pwr with state := st, phase := .asleep, phaseAt := s.now } }
  let s := s.bump Obj.PWR_STATE_ENTRIES (pwrCode st + 1)
  let s := s.ev Ev.PWR_STATE_CHANGED [pwrCode old, pwrCode st, s.pwr.cause]
  let w := s.island.wakeLatch
  if w ≠ 0 then beginExit (w + 128) (s.bump Obj.PWR_WAKES_DURING_ENTRY)
  else match s.pwr.pending with
    | none => s
    | some p =>
      if p = st ∨ p = .run then { s with pwr := { s.pwr with pending := none } }
      else
        let s := beginExit 0 s
        { s with pwr := { s.pwr with cause := 1 } }

/-- R497: a step of Table 14-3 completes. A thermal shutdown goes from step 3 to step 5 (R515). -/
def entryStep (s : State) : State :=
  let next := fun (n : Nat) (s : State) => { s with pwr := { s.pwr with phase := .entry n, phaseAt := s.now } }
  match s.pwr.phase with
  | .entry 1 => if s.now ≥ s.pwr.phaseAt + s.obj Obj.PWR_ANNOUNCE_MS * tickMs then next 2 s else s
  | .entry 2 => if s.frames.any holdsCtx then s else next 3 (announceSelf false true s.pwr.target s)
  | .entry 3 => if s.pwr.thermal then next 5 (entryStops s) else entryStops s
  | .entry 4 => next 5 s
  | .entry 5 => if suppliesDown s then entryDone s else s
  | _ => s

def execEntryStepComplete (t : Nat) (s : State) : Host.Outcome State Fault Refusal := done t s entryStep

/-- Commits what is Ready in every source, oldest first. -/
def commitReady : Nat → State → State
  | 0, s => s
  | n + 1, s =>
    if s.frames.any fun f => f.stage == .ready then
      commitReady n ((List.range 80).foldl (fun s r => commitSource r s) s)
    else s

/-- R497: the drain limit. Passes still open are undone with cause 7, and the Ready ones behind them commit. -/
def drainLimit (s : State) : State :=
  if s.pwr.phase = .entry 2 ∧ s.now ≥ s.pwr.phaseAt + 200 * tickUs then
    let opened := (s.frames.filter fun f => holdsCtx f && f.stage != .ready).map fun f => f.fid
    let s := opened.foldl (fun s fid => undo fid 7 s) s
    let s := commitReady s.frames.length s
    let s := announceSelf false true s.pwr.target s
    { s with pwr := { s.pwr with phase := .entry 3, phaseAt := s.now } }
  else s

def execDrainLimit (t : Nat) (s : State) : Host.Outcome State Fault Refusal := done t s drainLimit

/-! ### Wakes (R492-R496, R502, R503) -/

def execWakeN (t : Nat) (s : State) : Host.Outcome State Fault Refusal := done t s (wakeSource 0)

def execFieldBusCarrier (t : Nat) (s : State) : Host.Outcome State Fault Refusal := done t s (wakeSource 1)

/-- A time in ms may have passed since an instant on the always-on oscillator: it runs with the error that its last
calibration left and may have drifted 1 % from there (R48). -/
def islandMs (s : State) (since ms : Nat) : Bool :=
  decide (((s.now - since : Nat) : Int) * (1010000 + s.island.oscErr) ≥ ((ms * tickMs * 1000000 : Nat) : Int))

/-- R494, R503: the wake timer, and the head end's limit whatever the timer holds. -/
def alwaysOnTimer (s : State) : State :=
  let ms := s.obj Obj.PWR_WAKE_TIMER_MS
  match s.pwr.heSleep with
  | some lim =>
    if islandMs s s.pwr.entryAt lim then wakeFires 2 s
    else if ms ≠ 0 && islandMs s s.pwr.entryAt ms then wakeSource 2 s else s
  | none => if ms ≠ 0 && islandMs s s.pwr.entryAt ms then wakeSource 2 s else s

def execAlwaysOnTimer (t : Nat) (s : State) : Host.Outcome State Fault Refusal := done t s alwaysOnTimer

/-- R493: signal returns on a lane that had none. -/
def laneDetect (k : Fin 8) (s : State) : State :=
  let sleeping := match s.pwr.phase with
    | .entry _ => s.pwr.target == .sleep
    | .asleep => s.pwr.state == .sleep
    | _ => false
  if !sleeping || s.lanes[k].signal then s
  else
    let s := s.modLane k fun l => { l with signal := true, signalAt := s.now }
    if bitAt (s.obj Obj.PWR_LANE_WAKE_MASK) k.val then wakeSource 3 s else s

def execHostLaneSignalDetect (t : Nat) (k : Fin 8) (s : State) : Host.Outcome State Fault Refusal := done t s (laneDetect k)

/-- R547: the wait of the slot ends and step 1 of the wake order begins; the exit time counts from here (R499, R500). -/
def staggerDone (s : State) : State :=
  let slot := staggerSlot s.bus.addr s.island.lastManager
  if s.pwr.phase = .stagger ∧ islandMs s s.pwr.phaseAt (slot * s.island.staggerMs) then
    exitStep (.exit 1) { s with pwr := { s.pwr with exitAt := s.now } }
  else s

def execStaggerSlot (t : Nat) (s : State) : Host.Outcome State Fault Refusal := done t s staggerDone

/-- No frame waits, no client is enabled and nothing is requested (R502, R505). -/
def quietNow (s : State) : Bool :=
  s.usq.isEmpty && s.sch.hq.isEmpty && !s.clientEnabled && s.pwr.pending.isNone && s.pwr.phase == .up

/-- R502: the quiet period under an allowance ends and a Sleep Request is sent. -/
def heQuiet (s : State) : State :=
  let q := s.now ≥ s.pwr.quietSince + s.obj Obj.PWR_HE_QUIET_MS * tickMs
  match (fins 4).find? fun c => s.pwr.allow[c].isSome && s.act[c].st == .operating with
  | some ch =>
    if q ∧ quietNow s ∧ s.pwr.heWait = none ∧ !s.frames.any ctxWaits then
      let s := (upNew ch 0x84 (2 ^ 284) s).2
      { s with pwr := { s.pwr with heWait := some ch } }
    else s
  | none => s

def execHeQuiet (t : Nat) (s : State) : Host.Outcome State Fault Refusal := done t s heQuiet

/-- The cipher's job lane is idle: no job, unwrap or derivation is on it or waits for it (R480, R505). -/
def jobLaneIdle (s : State) : Bool := s.ciph.lane.isNone && (nextJob s).isNone && !keyEngineBusy s

/-- R505: the governor enters Idle. -/
def idleEntry (s : State) : State :=
  if s.pwr.state = .run ∧ quietNow s ∧ s.now ≥ s.pwr.idleSince + s.obj Obj.PWR_IDLE_ENTRY_US * tickUs ∧
      !(s.frames.any fun f => holdsCtx f || ctxWaits f) ∧ contextsUsed s = 0 ∧ jobLaneIdle s then
    State.bump { s with pwr := { s.pwr with state := .idle, target := .idle } } Obj.PWR_STATE_ENTRIES 2
  else s

def execPwrIdleEntry (t : Nat) (s : State) : Host.Outcome State Fault Refusal := done t s idleEntry

/-! ### Exit (R499, R500, Table 14-4) -/

/-- Run is reached: held events are logged, then the change and the wake (R491, R500, R517). -/
def reachRun (s : State) : State :=
  let old := s.pwr.state
  let us := (s.now - s.pwr.exitAt) / tickUs
  let s := { s with pwr := { s.pwr with
    state := .run, target := .run, phase := .up, phaseAt := s.now, lastExitUs := us, quietSince := s.now, idleSince := s.now } }
  let s := (flushHeld s).bump Obj.PWR_STATE_ENTRIES 1
  let s := s.ev Ev.PWR_STATE_CHANGED [pwrCode old, 0, s.pwr.cause]
  announceSelf true false .run (s.ev Ev.PWR_WAKE [s.pwr.wakeCause, us])

/-- The pending request acts on the completion of an exit (R491). -/
def actPending (s : State) : State :=
  match s.pwr.pending with
  | none => s
  | some p =>
    let s := { s with pwr := { s.pwr with pending := none } }
    if p = .run then s else hostEntry p s

/-- Activation ran no timer in Sleep: every deadline moves by the time frozen (R124). -/
def thawAct (ch : Fin 4) (gap : Nat) (s : State) : State :=
  let sh := fun (d : Option Nat) => d.map fun x => x + gap
  s.modAct ch fun a => { a with
    tAnnounce := sh a.tAnnounce, tRange := sh a.tRange, tLost := sh a.tLost, renewAt := sh a.renewAt }

/-- The directives held in Sleep are accepted as of the first frame after the exit (R502), and the newest Time of Day as
of its own frame if it is recent enough (R428). -/
def heldDirectives (s : State) : State :=
  let ds := s.island.heldDirs
  let s := match s.island.keptTod with
    | some (ch, d) =>
      if (fins 2).any fun x => todTimely s x ch d then s.modAct ch fun a => { a with dirq := a.dirq ++ [d] } else s
    | none => s
  let s := { s with island := { s.island with heldDirs := [], keptTod := none } }
  ds.foldl (fun s e => s.modAct e.1 fun a => { a with dirq := a.dirq ++ [{ e.2 with sfc := s.rx[e.1].expSfc }] }) s

/-- The return from Sleep (R124, R231, R418, R428, R487, R503). -/
def sleepReturn (s : State) : State :=
  let gap := s.now - s.pwr.frozenAt
  let watch := s.pwr.watch
  let he := s.pwr.heSleep
  let s := reachRun s
  let s := { s with pwr := { s.pwr with heSleep := none }, mon := { s.mon with lifeAt := s.mon.lifeAt + gap }, latchedReports := [] }
  let s := (fins 4).foldl (fun s c =>
    let s := thawAct c gap s
    if some c ≠ watch ∧ s.act[c].st = .operating then actEnter c .intermittent 3 s else s) s
  let s := heldDirectives s
  let s := clientsRestart (portsUp (rxRefreshAll s))
  let s := bondRefresh 1 (pmAwake s)
  let s := match he, watch with
    | some _, some ch => (upNew ch 0x84 (2 * 2 ^ 284) s).2
    | _, _ => s
  actPending s

/-- The clusters of a fresh start: the lowest MAX of each region (R507). -/
def freshClusters (s : State) : State :=
  { s with pwr := { s.pwr with
    clusters := Vector.ofFn fun (c : Fin 64) =>
      if c.val % 8 < s.obj Obj.GOV_MAX (c.val / 8 + 1) then ClusterState.active else ClusterState.gated
    regions := Vector.replicate 8 Region.init, govActing := false, groupFrames := [], freshAt := s.now, msAt := s.now } }

/-- Unpinned flow groups return to hash-even (R508). -/
def freshPlacement (s : State) : State :=
  (List.range 256).foldl (fun s g =>
    if bitAt (s.row Obj.GOV_PLACEMENT g) 7 then s else s.setRow Obj.GOV_PLACEMENT g (g % 8)) s

/-- Sampled latencies and depths start empty (R62). -/
def freshLatency (s : State) : State :=
  let gone := fun (k : Nat) => k / 2 ^ 24 == Obj.LAT_HISTOGRAMS - 0x6000 || k / 2 ^ 24 == Obj.LAT_STATE - 0x6000
  { s with tab := s.tab.filter fun e => !gone e.1 }

/-- Blobs unwrapped, a new context key drawn and the image key loaded (R463, R465). -/
def loadKeys (s : State) : State := (fins 3).foldl (fun s w => unwrapBlob w s) (loadFixedKeys s)

/-- Host-owned rows of another time are configured again and start in Held (R201). -/
def freshGroups (gs : Vector Group 64) (s : State) : State :=
  (fins 64).foldl (fun s g =>
    let x := gs[g]
    if x.valid && !x.headOwned then configureGroup g false x.mode x.members x.timeout none s else s) s

/-- A restored port with `GATE_ENABLE` 1 commits its shadow list (R347). -/
def restoredGates (s : State) : State :=
  let st := s.status
  let s := (fins 8).foldl (fun s p => if s.flag Obj.GATE_ENABLE (sub p) then gclCommit p 1 s else s) s
  { s with status := st }

/-- Every algorithm starts with no history, on the configuration in force (R62, R379, R418, R428, R507, R508). -/
def freshStart (s : State) : State :=
  let s := freshLatency (freshPlacement (freshClusters s))
  let s := quotaCheck (clientsRestart (ctFresh s))
  restoredGates (portsUp (rxRefreshAll s))

/-- Channels that the stop and silence records hold start there (R116, R118). -/
def startChannels (s : State) : State :=
  (fins 4).foldl (fun s c =>
    let st : ActState := if s.island.silence[c] then .silenced else if stopSet s c then .emergencyStop else .initial
    let s := if st = .silenced then
        let (d, s) := s.draw 65535
        s.modAct c fun a => { a with token := d + 1 }
      else s
    s.modAct c fun a => { a with st := st, evalAt := s.now }) s

/-- The hopper after Deep sleep: every frame is gone, so every buffer is Free but for the Retired ones, which stay out of
service until the next boot, and errors found in Free buffers are still to be met (R305, R308). -/
def hopKept (h : Hop) : Hop :=
  { Hop.init with
    counts := h.counts, lists := Hop.listsOf h.counts, bad := h.bad
    state := (h.state.filter fun e => e.2 / 1024 == 3).map fun e => (e.1, 3 * 1024 + 1023) }

/-- The return from Deep sleep: DRAM and the retention SRAM kept their content, everything else starts anew (R62, R118,
R463, R500). -/
def deepReturn (s : State) : State :=
  let r := State.reset
  let guard := fun (u : Us) => { r.us[(0 : Fin 4)] with latched := u.latched, silenceHeld := u.silenceHeld }
  let old := s
  let s := ruleDrained { r with
    pending := s.pending, now := s.now, draws := s.draws, status := s.status, value := s.value, dict := s.dict, tab := s.tab
    il := s.il, time := s.time, nextFid := s.nextFid, nextOrd := s.nextOrd, nextCont := s.nextCont, jtag := s.jtag
    island := s.island, flash := s.flash, log := s.log, cap := s.cap, mon := s.mon, pm := s.pm, rules := s.rules
    us := s.us.map guard, hop := hopKept s.hop
    arb := r.arb.zipWith (fun a b => { a with brakeAt := b.brakeAt, drained := b.drained }) s.arb
    bus := { r.bus with addr := s.bus.addr, mgrCapable := s.bus.mgrCapable, bootSel := s.bus.bootSel, term := s.bus.term
                        tracked := s.bus.tracked, heardAt := s.now, txLow := s.bus.txLow }
    pwr := { s.pwr with allow := r.pwr.allow, heSleep := none, heWait := none, watch := none, initWdAt := none } }
  let s := reachRun s
  let s := startChannels (freshGroups old.bond.groups (loadKeys s))
  actPending (pmAwake (freshStart s))

/-- The boot at the end of step 2 of the wake order: exit from Off, the first rise of VAON, RESET_N (R509, R586, R587). -/
def bootAfterPower (s : State) : State :=
  let p := s.pwr
  let cause := if p.state ≠ .off then s.island.resetCause else if p.thermal then 9 else 3
  let s := restart cause s
  { s with pwr := { s.pwr with state := p.state, exitAt := p.exitAt, wakeCause := p.wakeCause, cause := p.cause,
                                pending := p.pending } }

/-- PWR_GOOD of the group that ramps rises: the next group follows 100 µs later, and after the last one OSC_EN (R584). -/
def groupReady (s : State) : State :=
  let s := match ramping s with
    | some g => { s with pwr := { s.pwr with pwrGood := vmod s.pwr.pwrGood g fun _ => true } }
    | none => s
  let s := exitStep (if s.island.pwrEn.toList.all fun b => b then .exit 2 else .exit 1) s
  { s with pwr := { s.pwr with phaseAt := s.now + 100 * tickUs } }

/-- The ready signal of a step of the wake order, once the step has begun (R499, Table 14-4). -/
def wakeReady (s : State) : State :=
  if s.now < s.pwr.phaseAt then s
  else match s.pwr.phase with
  | .exit 1 => groupReady s
  | .exit 2 => if s.pwr.state = .sleep ∨ s.pwr.state = .deepSleep then exitStep (.exit 3) s else bootAfterPower s
  | .exit 3 =>
    let clk : Clock := { at0 := s.now, val := 0, rate := 0 }
    let s := if s.pwr.state = .deepSleep then
        holdFromZero s.eventTime s.eventTime { s with
          il := { s.il with st := 0, checked := false }
          time := { TimeSt.init with doms := TimeSt.init.doms.map fun d => { d with clk := clk } } }
      else s
    exitStep (.exit 4) s
  | .exit 4 =>
    if s.pwr.state = .sleep then sleepReturn s
    else if s.il.st < 2 then s
    else deepReturn s
  | _ => s

def execWakeOrderReady (t : Nat) (s : State) : Host.Outcome State Fault Refusal := done t s wakeReady

/-- The least time in which a ready signal can miss its limit in a step (Table 14-4). -/
def readyLimit (st : PwrState) (n : Nat) : Nat :=
  if n = 1 then 8 * tickMs
  else if n = 2 then 200 * tickUs
  else if n = 3 then (if st = .sleep then 10 * tickUs else 100 * tickUs)
  else if st = .sleep then 1700 * tickUs else 12 * tickMs

/-- R499, R584: a ready signal misses its limit. At the rise of VAON the start fails with reason 6. Groups that are still
off are enabled before the boot (log entry 106). -/
def readyTimeout (s : State) : State :=
  match s.pwr.phase with
  | .exit n =>
    if s.now < s.pwr.phaseAt + readyLimit s.pwr.state n then s
    else if s.pwr.state = .run then powerUp (failStart 6 s)
    else powerUp (restart 11 (assertPtxdisAll s))
  | _ => s

def execReadyTimeout (t : Nat) (s : State) : Host.Outcome State Fault Refusal := done t s readyTimeout

/-! ### Supply and clock faults, thermal shutdown (R515, R585, R592) -/

/-- R585: PWR_GOOD of an enabled group falls. In a start it fails the start (reason 6). -/
def pwrGoodLost (g : Fin 4) (s : State) : State :=
  if !(pwrEnPin s g && s.pwr.pwrGood[g]) then s
  else
    let s := assertPtxdisAll s
    let fault := restart 11 (s.evHeld Ev.PWR_GOOD_LOST [g.val])
    match s.pwr.phase with
    | .boot _ => failStart 6 (s.evHeld Ev.PWR_GOOD_LOST [g.val])
    | .up | .safeMode | .entry _ | .exit _ => fault
    | .asleep => if s.pwr.state = .sleep then fault else s
    | _ => s

def execPwrGoodLost (t : Nat) (g : Fin 4) (s : State) : Host.Outcome State Fault Refusal := done t s (pwrGoodLost g)

/-- R592: ETHREF shows no edge for 100 ns in Run. -/
def clockLost (s : State) : State := if inRun s then restart 11 (assertPtxdisAll (s.evHeld Ev.CLOCK_LOST [2])) else s

def execClockLost (t : Nat) (s : State) : Host.Outcome State Fault Refusal := done t s clockLost

/-- R515: thermal shutdown. -/
def thermalShutdown (tj : Int) (s : State) : State :=
  let s := (assertPtxdisAll s).evHeld Ev.PWR_THERMAL_SHUTDOWN [pI32 (tj / 8)]
  let s := if s.serverUp then announceSelf false true .off s else s
  { s with
    pwr := { s.pwr with pending := none, target := .off, cause := 4, thermal := true, phase := .entry 3, phaseAt := s.now,
                        entryAt := s.now, heSleep := none, heWait := none }
    island := { s.island with wakeLatch := 0 } }

/-! ### Restarts by the host and the watchdog (R513, R514) -/

/-- R514. -/
def bootRestart (v : Nat) (s : State) : State := if v = 1 then restart 8 (assertPtxdisAll (s.answer .ok)) else s.answer .range

def execBootRestart (t v : Nat) (s : State) : Host.Outcome State Fault Refusal := done t s fun s => s.hostWrite (bootRestart v)

/-- R513. -/
def bootRetry (v : Nat) (s : State) : State :=
  if v = 1 then restart 10 { s with island := { s.island with attempts := 0 } } else s.answer .range

def execBootRetry (t v : Nat) (s : State) : Host.Outcome State Fault Refusal := done t s fun s => s.hostWrite (bootRetry v)

/-- The run watchdog may have expired: `PWR_WDT_MS` have passed since Run was reached, the earliest instant at which the control
cores can have served it for the last time (R514, log entry 209). -/
def watchdogDue (s : State) : Bool := match s.pwr.phase with
  | .up => decide (s.pwr.phaseAt + s.obj Obj.PWR_WDT_MS * tickMs ≤ s.now)
  | .entry _ => true
  | _ => false

/-- R514: the run watchdog expires. -/
def runWatchdog (s : State) : State := if watchdogDue s then restart 4 (assertPtxdisAll s) else s

def execRunWatchdog (t : Nat) (s : State) : Host.Outcome State Fault Refusal := done t s runWatchdog

end Sys2Proof.Machine
end

