-- ==== Sys2Proof/Machine/Governor.lean ====
section
/-! DEFINITION. The governor: cluster gating by load and placement of flow groups (R20, R506-R508). -/
namespace Sys2Proof.Machine

/-- Updates a cluster. -/
def State.modCluster (s : State) (c : Fin 64) (v : ClusterState) : State :=
  { s with pwr := { s.pwr with clusters := vmod s.pwr.clusters c fun _ => v } }

/-- Updates a region. -/
def State.modRegion (s : State) (g : Fin 8) (f : Region → Region) : State :=
  { s with pwr := { s.pwr with regions := vmod s.pwr.regions g f } }

/-- The clusters of a region, in rising order. -/
def regionClusters (g : Fin 8) : List (Fin 64) := (fins 64).filter fun c => c.val / 8 == g.val

/-- Clusters of a region in a state. -/
def clustersIn (s : State) (g : Fin 8) (st : ClusterState) : List (Fin 64) :=
  (regionClusters g).filter fun c => s.pwr.clusters[c] == st

/-- Active clusters of a region, those that reload included: `GOV_ACTIVE` (R506, R507). -/
def activeCount (s : State) (g : Fin 8) : Nat := (clustersIn s g .active).length + (clustersIn s g .loading).length

/-- The bounds of a region (R506). -/
def govMinOf (s : State) (g : Fin 8) : Nat := s.obj Obj.GOV_MIN (sub g)
/-- The upper bound of a region (R506). -/
def govMaxOf (s : State) (g : Fin 8) : Nat := s.obj Obj.GOV_MAX (sub g)

/-- Ungates one cluster: the lowest gated one reloads; with none gated, one that is stopping takes frames again. -/
def ungateOne (g : Fin 8) (s : State) : State :=
  match clustersIn s g .gated, clustersIn s g .stopping with
  | c :: _, _ => s.modCluster c .loading
  | [], c :: _ => quotaCheck (s.modCluster c .active)
  | [], [] => s

/-- Dispatch stops to the highest-numbered active cluster, which is gated by R20. One that still reloads has taken no
frame: it is gated at once, and reloads from the start when it is ungated again. -/
def gateOne (g : Fin 8) (s : State) : State :=
  match ((regionClusters g).filter fun c => s.pwr.clusters[c] == .active || s.pwr.clusters[c] == .loading).getLast? with
  | some c =>
    if s.pwr.clusters[c] = .loading then (s.modCluster c .gated).bump Obj.GOV_GATES (c.val / 8 + 1)
    else quotaCheck (s.modCluster c .stopping)
  | none => s

/-- Software bounds win over load, at once (R506). -/
def applyBounds (g : Fin 8) : Nat → State → State
  | 0, s => s
  | n + 1, s =>
    if activeCount s g > govMaxOf s g then applyBounds g n (gateOne g s)
    else if activeCount s g < govMinOf s g then applyBounds g n (ungateOne g s)
    else s

/-- R507: a frozen region runs MAX clusters. -/
def freezeRegion (g : Fin 8) : Nat → State → State
  | 0, s => s
  | n + 1, s =>
    if activeCount s g > govMaxOf s g then freezeRegion g n (gateOne g s)
    else if activeCount s g < govMaxOf s g then freezeRegion g n (ungateOne g s)
    else s

/-- Counts the 375 MHz cycles for which `GOV_POLICY_LIMITED` of a region was 1, up to now (R507). -/
def settleLimited (g : Fin 8) (s : State) : State :=
  let r := s.pwr.regions[g]
  if r.limited then
    (s.bump Obj.GOV_LIMITED_CYCLES (sub g) (tickOf s.now - tickOf r.limitedSince)).modRegion g fun r => { r with limitedSince := s.now }
  else s

/-- Sets or clears `GOV_POLICY_LIMITED`; a rise is logged (R507). -/
def setLimited (g : Fin 8) (v : Bool) (s : State) : State :=
  let s := settleLimited g s
  let old := s.pwr.regions[g].limited
  let s := s.modRegion g fun r => { r with limited := v, limitedSince := s.now, msLimited := r.msLimited && v }
  if v && !old then s.ev Ev.GOV_LIMITED [g.val, activeCount s g] else s

/-- The busy fraction of a region is above `p` percent: `busy` thread-cycles in 10 µs of `a` clusters (R507). -/
def busyOver (busy a p : Nat) : Bool := decide (busy * 100 > p * (a * 64 * 15000))

/-- R507: one region at the end of a window. -/
def govRegion (g : Fin 8) (busy : Nat) (s : State) : State :=
  let a := (clustersIn s g .active).length
  let act := activeCount s g
  let up := busyOver busy a (s.obj Obj.GOV_UP_PCT) || s.frames.any fun f => ctxWaits f && f.region == g.val
  let down := s.obj Obj.GOV_DOWN_PCT
  let low := decide (busy * 100 < down * (a * 64 * 15000))
  let room := decide (act > govMinOf s g) && decide (busy * 100 * act < down * (a * 64 * 15000) * (act - 1))
  let run := s.pwr.regions[g].lowRun
  let s := s.modRegion g fun r => { r with
    busy := busy, busyActive := a, msLow := r.msLow && low, msBusy := r.msBusy + busy * 840 / max a 1, msWindows := r.msWindows + 1 }
  let setRun := fun (n : Nat) (s : State) => s.modRegion g fun r => { r with lowRun := n }
  let s :=
    if govMinOf s g = govMaxOf s g then freezeRegion g 8 s
    else if up ∧ act < govMaxOf s g then setRun 0 (ungateOne g s)
    else if up then setRun 0 (setLimited g true s)
    else if room then (if run + 1 = 10 then setRun 0 (gateOne g s) else setRun (run + 1) s)
    else setRun 0 s
  if up then s else setLimited g false s

/-- R507: the end of a 10 µs window. -/
def governorWindow (busy : List Nat) (s : State) : State :=
  if s.pwr.govActing && s.running then (fins 8).foldl (fun s g => govRegion g (busy.getD g.val 0) s) s else s

def execGovernorWindow (t : Nat) (busy : List Nat) (s : State) : Host.Outcome State Fault Refusal :=
  doneIf (busy.length = 8 ∧ busy.all fun b => decide (b ≤ 8 * 64 * 15000)) t s (governorWindow busy)

/-- R507: the first second ends. -/
def governorHoldEnd (s : State) : State :=
  if s.running ∧ s.now ≥ s.pwr.freshAt + tickS then { s with pwr := { s.pwr with govActing := true } } else s

def execGovernorHoldEnd (t : Nat) (s : State) : Host.Outcome State Fault Refusal := done t s governorHoldEnd

/-- R507: an ungated cluster has reloaded. -/
def clusterReady (c : Fin 64) (s : State) : State :=
  if s.pwr.clusters[c] = .loading then quotaCheck (s.modCluster c .active) else s

def execClusterReady (t : Nat) (c : Fin 64) (s : State) : Host.Outcome State Fault Refusal := done t s (clusterReady c)

/-- R20: a stopping cluster whose last context is free is gated. -/
def clusterGated (c : Fin 64) (s : State) : State :=
  if s.pwr.clusters[c] = .stopping ∧ clusterUse s c.val = 0 then
    quotaCheck ((s.modCluster c .gated).bump Obj.GOV_GATES (c.val / 8 + 1))
  else s

def execClusterGated (t : Nat) (c : Fin 64) (s : State) : Host.Outcome State Fault Refusal := done t s (clusterGated c)

/-- The unpinned flow group of a region with the most frames in the present ms (R508). -/
def busiestGroup (s : State) (g : Fin 8) : Option Nat :=
  let mine := (List.range 256).filter fun n =>
    let v := s.row Obj.GOV_PLACEMENT n
    !bitAt v 7 && v % 8 == g.val
  argMax (fun n => stGet 0 s.pwr.groupFrames n) mine

/-- A region the loop may move between: its bounds differ (R508). -/
def movable (s : State) (g : Fin 8) : Bool := govMinOf s g != govMaxOf s g

/-- The target of a source: another region, lightly loaded in every window of the ms, with the lowest mean u, then the
lowest number (R508). -/
def moveTarget (s : State) (src : Fin 8) : Option (Fin 8) :=
  let ok := (fins 8).filter fun g => g != src && movable s g && s.pwr.regions[g].msLow && decide (s.pwr.regions[g].msWindows > 0)
  ok.foldl (fun best g => match best with
    | some b => if s.pwr.regions[g].msBusy < s.pwr.regions[b].msBusy then some g else best
    | none => some g) none

/-- The source: a region limited throughout the ms that has a group to move and a target for it (R508). -/
def moveSource (s : State) : Option (Fin 8) :=
  (fins 8).find? fun g => movable s g && s.pwr.regions[g].limited && s.pwr.regions[g].msLimited &&
    (busiestGroup s g).isSome && (moveTarget s g).isSome

/-- R508: at the end of a ms, at most one flow group moves. -/
def govMoved (s : State) : State :=
  if !s.pwr.govActing || !s.running || decide (s.now < s.pwr.msAt + tickMs) then s
  else
    let s1 := match moveSource s with
      | some g => match moveTarget s g, busiestGroup s g with
        | some tgt, some n =>
          let s := (s.setRow Obj.GOV_PLACEMENT n tgt.val).bump Obj.GOV_MOVES
          s.evOnce Ev.GOV_MOVED 0 [n, g.val, tgt.val]
        | _, _ => s
      | none => s
    { s1 with pwr := { s1.pwr with
      msAt := s.now, groupFrames := []
      regions := s1.pwr.regions.map fun r => { r with msLow := true, msLimited := r.limited, msBusy := 0, msWindows := 0 } } }

def execGovMoved (t : Nat) (s : State) : Host.Outcome State Fault Refusal := done t s govMoved

/-- A change of the bounds takes effect at once; in the first second of R507 the region runs MAX clusters. -/
def boundsChanged (g : Fin 8) (s : State) : State := if s.pwr.govActing then applyBounds g 8 s else freezeRegion g 8 s

/-- R506. -/
def govMin (g : Fin 8) (v : Nat) (s : State) : State :=
  if v < 1 ∨ v > govMaxOf s g then s.answer .range
  else (boundsChanged g (s.setObj Obj.GOV_MIN (sub g) v)).answer .ok

def execGovMin (t : Nat) (g : Fin 8) (v : Nat) (s : State) : Host.Outcome State Fault Refusal :=
  done t s fun s => s.hostWrite (govMin g v)

/-- R506. -/
def govMax (g : Fin 8) (v : Nat) (s : State) : State :=
  if v > 8 ∨ v < govMinOf s g then s.answer .range
  else (boundsChanged g (s.setObj Obj.GOV_MAX (sub g) v)).answer .ok

def execGovMax (t : Nat) (g : Fin 8) (v : Nat) (s : State) : Host.Outcome State Fault Refusal :=
  done t s fun s => s.hostWrite (govMax g v)

end Sys2Proof.Machine
end

