-- ==== Sys2Proof/Machine/Monitors.lean ====
section
/-! DEFINITION. Temperature and rail monitors, the life record, the JTAG port and memory errors (R566, R597-R604). -/
namespace Sys2Proof.Machine

/-- The dies and their monitors are powered: not in Deep sleep or Off, nor before the groups are up. -/
def sensing (s : State) : Bool :=
  match s.pwr.phase with
  | .asleep => s.pwr.state == .sleep
  | .stagger | .vaonWait => false
  | .exit n => s.pwr.state == .sleep || n ≥ 2
  | _ => true

/-- Temperature is read in Deep sleep as well, where the alarm is a wake source (Table 14-2). -/
def tempSensing (s : State) : Bool := sensing s || s.pwr.state == .deepSleep

/-- The highest of the readings, and its sensor from 1 (R598). -/
def hottest (v : Vector Int 13) : Int × Nat :=
  (fins 13).foldl (fun best i => if v[i] > best.1 then (v[i], i.val + 1) else best) (v[0], 1)

/-- Tj in 0.125 °C (R598). -/
def junction (s : State) : Int := (hottest s.mon.temps).1

/-- The band of R604: up to 85, 100 and 110 °C, and above. -/
def lifeBand (tj : Int) : Fin 4 := if tj ≤ 680 then 0 else if tj ≤ 800 then 1 else if tj ≤ 880 then 2 else 3

/-- One millisecond of Run goes to its band; the first hour above 110 °C is logged (R604). -/
def lifeSample (tj : Int) (s : State) : State :=
  let b := lifeBand tj
  let s := { s with mon := { s.mon with lifeMs := vmod s.mon.lifeMs b fun n => n + 1, lifeTj := s.mon.lifeTj + tj, lifeN := s.mon.lifeN + 1 } }
  if b = 3 ∧ s.mon.lifeMs[(3 : Fin 4)] + s.flash.lifeMs[(3 : Fin 4)] = 3600000 then s.ev Ev.LIFE_LIMIT [pI32 tj] else s

/-- R598: the sensors are read: the alarm, the shutdown and the life record follow. -/
def tempSample (rs : List Int) (s : State) : State :=
  if !tempSensing s then s
  else
    let temps : Vector Int 13 := Vector.ofFn fun i => rs.getD i.val 0
    let s := { s with mon := { s.mon with
      temps := temps, tempMax := Vector.ofFn fun (i : Fin 13) => max s.mon.tempMax[i] temps[i] } }
    let (tj, n) := hottest temps
    let lim : Int := (8 * s.obj Obj.MON_TEMP_ALARM_C : Nat)
    let s := match s.pwr.phase with
      | .up => lifeSample tj s
      | _ => s
    let s := if !s.mon.alarm && decide (tj > lim) then
        let s := State.bump { s with mon := { s.mon with alarm := true } } Obj.MON_ALARM_ENTRIES
        wakeSource 5 (s.ev Ev.TEMP_ALARM [1, n, pI32 tj])
      else if s.mon.alarm && decide (tj ≤ lim - 40) then
        State.ev { s with mon := { s.mon with alarm := false } } Ev.TEMP_ALARM [0, n, pI32 tj]
      else s
    if tj ≥ 1000 ∧ s.pwr.thermal = false then thermalShutdown tj s else s

def execTempSample (t : Nat) (readings : List Int) (s : State) : Host.Outcome State Fault Refusal :=
  doneIf (readings.length = 13 ∧ readings.all fun r => decide (-32768 ≤ r) && decide (r < 32768)) t s (tempSample readings)

/-- Lowest and highest reading of a rail in 0.1 mV, and its group, 4 for VAON (Table 17-3). -/
def railRange (r : Nat) : Nat × Nat × Nat :=
  match r with
  | 0 => (7275, 7725, 3)
  | 1 => (7760, 8240, 1)
  | 2 => (8730, 9270, 1)
  | 3 => (11640, 12360, 1)
  | 4 => (10670, 11330, 2)
  | 5 => (17100, 18900, 2)
  | 6 => (17100, 18900, 0)
  | _ => (17100, 18900, 4)

/-- R599: one rail is measured. -/
def railOne (mv : List Nat) (s : State) (r : Fin 8) : State :=
  let v := mv.getD r.val 0
  let (lo, hi, g) := railRange r.val
  let on := match (fins 4).find? fun x => x.val == g with
    | some x => pwrEnPin s x
    | none => true
  let out := decide (10 * v < lo) || decide (10 * v > hi)
  let code := if 10 * v < lo then 2 else 3
  let st := s.mon.railState[r]
  let run := if out && on then s.mon.railOut[r] + 1 else 0
  let set := fun (x : Nat) (s : State) =>
    { s with mon := { s.mon with railMv := vmod s.mon.railMv r fun _ => v, railOut := vmod s.mon.railOut r fun _ => min run 2,
                                 railState := vmod s.mon.railState r fun _ => x } }
  if !on then set 0 s
  else if !out then
    let s := set 1 s
    if st ≥ 2 then s.evOnce Ev.RAIL_EXCURSION r.val [r.val + 1, 0, v] else s
  else if run ≥ 2 then
    let s := set code s
    if st ≥ 2 then s
    else (s.bump Obj.MON_RAIL_EXCURSIONS (sub r)).evOnce Ev.RAIL_EXCURSION r.val [r.val + 1, code - 1, v]
  else set st s

def execRailSample (t : Nat) (mv : List Nat) (s : State) : Host.Outcome State Fault Refusal :=
  doneIf (mv.length = 8 ∧ mv.all fun v => decide (v < 65536)) t s fun s =>
    if sensing s then (fins 8).foldl (railOne mv) s else s

/-- R604: every 4 h of Run. -/
def lifeUpdate (s : State) : State :=
  if s.running ∧ s.now ≥ s.mon.lifeAt + 4 * 3600 * tickS then lifeStore s else s

def execLifeUpdate (t : Nat) (s : State) : Host.Outcome State Fault Refusal := done t s lifeUpdate

/-! ### JTAG (R597) -/

/-- Takes an instruction. When EXTEST ends, the guard holds PTXDIS until the next entry to Standby (R196). -/
def jtagTo (held : Bool) (i : JtagInstr) (s : State) : State :=
  let was := !s.jtag.held && s.jtag.instr == .extest
  let s := { s with jtag := { s.jtag with held := held, instr := i } }
  if was && (held || i != .extest) then assertPtxdisAll s else s

/-- An instruction is loaded unless TRST_N holds the TAP. -/
def jtagLoad (i : JtagInstr) (s : State) : State := if s.jtag.held then s else jtagTo false i s

/-- What the selected data register shifts out first. -/
def jtagShift (v n : Nat) (s : State) : State :=
  if s.jtag.held then s else { s with jtag := { s.jtag with shift := v }, value := beBytes n v }

def execTrstN (t : Nat) (low : Bool) (s : State) : Host.Outcome State Fault Refusal :=
  doneTap t s fun s => if low then jtagTo true .idcode s else { s with jtag := { s.jtag with held := false } }

def execBypass (t : Nat) (s : State) : Host.Outcome State Fault Refusal := doneTap t s fun s => jtagShift 0 1 (jtagLoad .bypass s)

def execIdcode (t : Nat) (s : State) : Host.Outcome State Fault Refusal :=
  doneTap t s fun s => jtagShift 0x1422074F 4 (jtagLoad .idcode s)

def execSamplePreload (t : Nat) (pins preload : BitVec 60) (s : State) : Host.Outcome State Fault Refusal :=
  doneTap t s fun s =>
    let s := jtagShift pins.toNat 8 (jtagLoad .samplePreload s)
    if s.jtag.held then s else { s with jtag := { s.jtag with boundary := preload } }

def execExtest (t : Nat) (s : State) : Host.Outcome State Fault Refusal := doneTap t s (jtagLoad .extest)

def execClamp (t : Nat) (s : State) : Host.Outcome State Fault Refusal := doneTap t s fun s => jtagShift 0 1 (jtagLoad .clamp s)

def execHighz (t : Nat) (s : State) : Host.Outcome State Fault Refusal := doneTap t s fun s => jtagShift 0 1 (jtagLoad .highz s)

/-! ### Memory errors (R566, Table 16-6) -/

/-- The row of Table 16-6 of a content. -/
def contentRow : MemContent → Nat
  | .hopperBuffer _ => 1
  | .flowEntry _ => 2
  | .eventRecord _ => 3
  | .captureRecord _ => 3
  | .pmBin _ _ => 4
  | .latencyRow _ => 4
  | .essential => 5

/-- `MEM_LAST_ERROR` (Table 16-7). -/
def memLast (mem addr kind : Nat) (s : State) : State :=
  s.setObj Obj.MEM_LAST_ERROR 0 (mem * 2 ^ 120 + addr * 2 ^ 32 + kind * 2 ^ 24)

/-- A pass or a MAC reads a buffer that has just been retired (R282, R377). -/
def bufferLost (h : Nat) (s : State) : State :=
  let fids := (s.frames.filter fun f => f.handles.contains h).map fun f => f.fid
  let s := fids.foldl (fun s fid => truncateFrame fid s) s
  (fins 8).foldl (fun s p => match s.ports[p].tx with
    | some x =>
      if x.frame.handles.contains h && x.stomp == 0 then
        s.modPort p fun o => { o with tx := some { x with stomp := 2, stompAt := s.now } }
      else s
    | none => s) s

/-- A bin of a width is marked suspect and zeroed. -/
def zeroBin (day : Bool) (r : Nat) (s : State) : State :=
  let n := if day then 8 else 97
  let z := fun (b : PmBin) => { b with suspect := true, words := Vector.replicate 14 0 }
  let upd := fun (b : PmBins) =>
    if r % n = 0 then { b with cur := b.cur.map z }
    else { b with recent := b.recent.zipIdx.map fun e => if e.2 + 1 = r % n then z e.1 else e.1 }
  match (fins 12).find? fun e => e.val == r / n with
  | some e => s.modPm e fun x => if day then { x with day := upd x.day } else { x with quarter := upd x.quarter }
  | none => s

/-- The consequence of Table 16-6. -/
def memLost (c : MemContent) (s : State) : State :=
  match c with
  | .hopperBuffer h => bufferLost h (retireBuf h s)
  | .flowEntry r => s.setRow Obj.EM_TABLE r (setBit (s.row Obj.EM_TABLE r) 63 false)
  | .eventRecord q => { s with log := { s.log with zeroed := q :: s.log.zeroed.erase q } }
  | .captureRecord n =>
    { s with cap := { s.cap with ring := s.cap.ring.map fun r => if r.recNo = n then { r with bytes := zeros r.bytes.length } else r } }
  | .pmBin fifteen r => zeroBin (!fifteen) r s
  | .latencyRow o => (s.setRow Obj.LAT_HISTOGRAMS o 0).setRow Obj.LAT_STATE o 0
  | .essential => restart 12 (assertPtxdisAll s)

/-- The content exists (Table 16-6). -/
def contentWf (c : MemContent) : Bool :=
  match c with
  | .hopperBuffer h => decide (h < 5 * 2 ^ 21)
  | .flowEntry r => decide (r < 1048576)
  | .eventRecord q => decide (q < 2 ^ 32)
  | .captureRecord _ => true
  | .pmBin fifteen r => decide (r < if fifteen then 1164 else 96)
  | .latencyRow o => decide (o < 2112)
  | .essential => true

/-- R566: an uncorrectable error. -/
def memUncorrectable (mem addr : Nat) (c : MemContent) (s : State) : State :=
  if !sensing s then s
  else
    let s := memLast mem addr 2 (s.bump Obj.MEM_UNCORRECTABLE)
    memLost c (s.ev Ev.MEM_ECC_UNCORRECTABLE ([mem] ++ p64 addr ++ [contentRow c]))

def execMemEccUncorrectable (t mem addr : Nat) (content : MemContent) (s : State) : Host.Outcome State Fault Refusal :=
  doneIf (decide (mem ≤ 8) && decide (addr < 2 ^ 64) && contentWf content) t s (memUncorrectable mem addr content)

/-- R566: a single-bit error is corrected and written back. -/
def memCorrected (mem addr : Nat) (s : State) : State :=
  if !sensing s then s
  else
    let s := memLast mem addr 1 (s.bump Obj.MEM_CORRECTED)
    s.evOnce Ev.MEM_ECC_CORRECTED 0 ([mem] ++ p64 addr)

def execMemEccCorrected (t mem addr : Nat) (s : State) : Host.Outcome State Fault Refusal :=
  doneIf (decide (mem ≤ 8) && decide (addr < 2 ^ 64)) t s (memCorrected mem addr)

end Sys2Proof.Machine
end

