-- ==== Sys2Proof/Machine/Views.lean ====
section
/-! DEFINITION. What the dictionary shows of the machine's own state: the values of objects and table rows that no store holds (Tables 02-9 to 17-7, 16-7). -/
namespace Sys2Proof.Machine

/-- The index of a subindex from 1 (R552). -/
def subIx (n : Nat) [NeZero n] (sub : Nat) : Fin n := Fin.ofNat n (sub - 1)

/-- The codes of Table 02-2. -/
def rxCode : RxState → Nat
  | .disabled => 0
  | .noSignal => 1
  | .hunt => 2
  | .presync => 3
  | .sync => 4

/-- Rows of a table whose stored value meets a test; the test must fail on the reset value of absent rows. -/
def countRows (s : State) (tbl : Nat) (p : Nat → Bool) : Nat := ((tabRows s tbl).filter fun e => p e.2).length

/-- The newest valid stored copy (R510). -/
def newestCopy (s : State) : Option StoredCopy :=
  match s.flash.copies[(0 : Fin 2)], s.flash.copies[(1 : Fin 2)] with
  | some a, some b => if a.seq ≥ b.seq then some a else some b
  | some a, none => some a
  | none, b => b

/-- The bytes of a firmware image by its code of `BOOT_IMAGE`: A or B of the flash, or the one that the loader put into the DRAM
(R511); none in safe mode. -/
def imageBytes (s : State) : Nat → Bytes
  | 0 => s.flash.images[(0 : Fin 2)]
  | 1 => s.flash.images[(1 : Fin 2)]
  | 2 => s.pwr.loaded.getD []
  | _ => []

/-- The firmware image that runs. -/
def runningImage (s : State) : Bytes := imageBytes s s.pwr.image

/-- `ENG_IMAGES_AVAILABLE`: the feature images of the running firmware image (R16). Each carries image 1, which stands first
(log entry 163). -/
def featureImage (s : State) (sub : Nat) : Nat := if sub = 1 then 1 else Config.featureImages (runningImage s) sub % 2 ^ 32

/-- `DEV_STATUS` (Table 16-7). -/
def devStatus (s : State) : Nat :=
  b2n (s.pwr.phase == .safeMode) + b2n (s.time.doms[s.time.selected].state != .locked) * 2 +
    b2n ((fins 4).any fun c => s.flag Obj.ACT_ENABLE (sub c) && s.act[c].st != .operating) * 4 +
    b2n ((fins 8).any fun p => s.flag Obj.MAC_ENABLE (sub p) && s.ports[p].st != .up) * 8 + b2n (s.il.st == 3) * 16 +
    b2n (s.obj Obj.MEM_LAST_ERROR != 0) * 32 + b2n (s.island.alertCause != 0xFFFF) * 64

/-- Objects of chapter 16. -/
def view10 (s : State) (idx sub : Nat) : Option Nat :=
  match idx with
  | 0x1003 => some serialNumber
  | 0x1004 => some s.pwr.imageVersion
  | 0x1005 => some s.pwr.dictLayout
  | 0x1006 => some (Config.objectCount % 2 ^ 16)
  | 0x1007 => some ((s.now - s.pwr.bootAt) / tickS % 2 ^ 32)
  | 0x1008 => some (devStatus s)
  | 0x100A => some s.island.alertCause
  | 0x100C => some ((newestCopy s).elim 0 fun c => c.seq)
  | 0x1011 => some ((s.log.ring.head?).elim 0 fun r => r.seq)
  | 0x1012 => some ((s.log.ring.getLast?).elim 0 fun r => r.seq)
  | 0x101A => some ((s.cap.ring.getLast?).elim (2 ^ 64 - 1) fun r => r.recNo)
  | 0x1020 => some s.il.st
  | 0x1021 => some s.il.dirs[subIx 2 sub].active.length
  | 0x1022 => some s.il.dirs[subIx 2 sub].spares.length
  | 0x1023 => some s.il.dirs[subIx 2 sub].failed
  | _ => none

/-- The Present rows other than the manager's own (R539). -/
def workersPresent (s : State) : Nat :=
  if s.bus.manager then ((fins 64).filter fun a => a.val != s.bus.addr && s.bus.members[a].st == .present).length else 0

/-- Objects of chapter 15. -/
def view11 (s : State) (idx : Nat) : Option Nat :=
  match idx with
  | 0x1100 => some s.bus.addr
  | 0x1101 => some (b2n s.bus.mgrCapable)
  | 0x1102 => some (b2n s.bus.manager)
  | 0x1103 => some (s.bus.tracked.getD 0xFF)
  | 0x1105 => some (b2n s.bus.term)
  | 0x1110 => some (workersPresent s)
  | 0x1111 => some (txCounter s)
  | 0x1112 => some s.bus.subs.length
  | _ => none

/-- Objects of chapter 14. -/
def view12 (s : State) (idx sub : Nat) : Option Nat :=
  match idx with
  | 0x1200 => some (pwrCode s.pwr.state)
  | 0x1202 => some (pwrCode s.pwr.target)
  | 0x1203 => some (setBit (s.obj Obj.PWR_WAKE_ENABLE) 0 true)
  | 0x1204 => some s.pwr.wakeCause
  | 0x1205 => some (s.pwr.pending.elim 0xFF pwrCode)
  | 0x120B => some (s.pwr.lastExitUs % 2 ^ 32)
  | 0x1210 => some s.island.resetCause
  | 0x1211 => some s.island.attempts
  | 0x1212 => some s.island.bootReason
  | 0x1213 => some s.pwr.image
  | 0x1214 => some (b2n (s.pwr.phase == .safeMode))
  | 0x1217 => some (if sub = 1 then s.pwr.imageSeqs.1 else s.pwr.imageSeqs.2)
  | 0x1218 => some (b2n Config.customerKeyFused)
  | 0x1222 => some (activeCount s (subIx 8 sub))
  | 0x1223 => some (b2n s.pwr.regions[subIx 8 sub].limited)
  | _ => none

/-- Objects of chapter 17. -/
def view13 (s : State) (idx sub : Nat) : Option Nat :=
  match idx with
  | 0x1300 => some (ofS 16 s.mon.temps[subIx 13 sub])
  | 0x1301 => some (ofS 16 (junction s))
  | 0x1303 => some (b2n s.mon.alarm)
  | 0x1304 => some (s.mon.railMv[subIx 8 sub] % 2 ^ 16)
  | 0x1305 => some s.mon.railState[subIx 8 sub]
  | 0x1310 => some (ofS 16 s.mon.tempMax[subIx 13 sub])
  | 0x1320 => some (s.flash.lifeMs[subIx 4 sub] / 3600000 % 2 ^ 32)
  | 0x1321 => some (if s.flash.lifeSamples = 0 then 0 else ofS 16 (s.flash.lifeTjSum / (s.flash.lifeSamples : Int)))
  | 0x1322 => some (s.flash.vaonRises % 2 ^ 32)
  | _ => none

/-- Objects of chapter 02. -/
def view20 (s : State) (idx sub : Nat) : Option Nat :=
  let r := s.rx[subIx 4 sub]
  match idx with
  | 0x2004 => some (rxCode r.st)
  | 0x2005 => some r.sfc
  | 0x2006 => some (r.latched.elim 0 Prod.snd)
  | 0x2007 => some (r.latched.elim 0 Prod.fst)
  | 0x2008 => some r.cands.length
  | 0x200A => some r.syncTime
  | 0x2030 => some (countRows s Obj.DS_FLOW_TABLE fun v => bitAt v 63)
  | _ => none

/-- Objects of chapter 03. -/
def view21 (s : State) (idx sub : Nat) : Option Nat :=
  let ch := subIx 4 sub
  let a := s.act[ch]
  match idx with
  | 0x2101 => some serialNumber
  | 0x2102 => some (actCode a.st)
  | 0x2103 => some a.tid
  | 0x2105 => some (a.eqd % 2 ^ 32)
  | 0x2106 => some (a.rtd % 2 ^ 32)
  | 0x2107 => some (sessionCode a.session)
  | 0x210C => some (b2n (stopSet s ch))
  | 0x210D => some (if a.st = .silenced then a.token else 0)
  | 0x210F => some (b2n a.rtdValid)
  | 0x2111 => some a.powerLevel
  | 0x2112 => some (ofS 32 (freqOffset s ch))
  | 0x2113 => some a.deactReason
  | 0x2114 => some a.lastTripTime
  | _ => none

/-- Objects of chapter 04. -/
def view22 (s : State) (idx sub : Nat) : Option Nat :=
  let ch := subIx 4 sub
  let u := s.us[ch]
  match idx with
  | 0x2204 => some ((fins 4).foldl (fun n p => n + b2n u.profs[p].valid * 2 ^ p.val + b2n u.profs[p].stale * 2 ^ (4 + p.val)) 0)
  | 0x2205 => some (guardState s ch)
  | 0x2206 => some u.openFrags.length
  | 0x2207 => some u.burstSeq
  | _ => none

/-- Objects of chapter 05. -/
def view23 (s : State) (idx sub : Nat) : Option Nat :=
  let k := s.bond.skew[subIx 4 sub]
  match idx with
  | 0x2301 => some ((fins 64).filter fun g => s.bond.groups[g].valid).length
  | 0x2302 => some ((fins 64).foldl (fun n g => n + s.bond.groups[g].held.length) 0)
  | 0x2304 => some (ofS 32 (skewNs k.value))
  | 0x2305 => some (b2n k.valid)
  | 0x2306 => some (b2n k.isRef)
  | _ => none

/-- Objects of chapter 06. -/
def view30 (s : State) (idx : Nat) : Option Nat :=
  match idx with
  | 0x3004 => some s.rules.active
  | 0x3005 => some (b2n s.rules.draining)
  | 0x3007 => some (if s.rules.draining then drainCount s else 0)
  | 0x3008 => some (countRows s Obj.RULE_TABLE fun v => rowMember v s.rules.active)
  | 0x3009 => some (16384 - countRows s Obj.RULE_TABLE fun v => rowMember v 0 || rowMember v 1)
  | 0x300B => some (countRows s Obj.EM_TABLE fun v => bitAt v 63)
  | 0x300C => some (s.frames.filter fun f => f.stage == .hoist).length
  | _ => none

/-- Objects of chapter 07. -/
def view31 (s : State) (idx sub : Nat) : Option Nat :=
  match idx with
  | 0x3100 => some (64 * (activeClusters s).length)
  | 0x3101 => some (allInUse s)
  | 0x3102 => some (sharedFree s)
  | 0x3103 => some (b2n s.quotaShort)
  | 0x3108 => some (beNat s.lastUndo)
  | 0x3109 => some (featureImage s sub)
  | _ => none

/-- Objects of chapter 08. -/
def view32 (s : State) (idx sub : Nat) : Option Nat :=
  let p := sub - 1
  match idx with
  | 0x3200 => some (poolCount s p)
  | 0x3201 => some (poolFree s p)
  | 0x3202 => some (poolReserve s p % 2 ^ 32)
  | 0x3203 => some (ofS 32 (poolShared s p))
  | 0x3204 => some (poolRetired s p)
  | 0x3205 => some (b2n s.hop.overCommit[subIx 5 sub])
  | 0x3207 => some (b2n s.hop.lists[subIx 19 sub].rebuilding)
  | _ => none

/-- A value of device time in ns as a TIME80. -/
def nsTime80 (ns : Int) : Nat := ns.toNat / 1000000000 * 2 ^ 32 + ns.toNat % 1000000000

/-- Objects of chapter 09. -/
def view33 (s : State) (idx sub : Nat) : Option Nat :=
  let g := s.sch.gates[subIx 8 sub]
  match idx with
  | 0x3305 => some (if g.pending.isSome then 2 else if g.active.isSome then 1 else 0)
  | 0x3306 => some (nsTime80 g.changeAt)
  | 0x3307 => some (g.active.elim 0 fun l => l.cycle)
  | 0x3308 => some g.gates
  | 0x3316 => some (((s.us.toList.flatMap fun u => u.openFrags.map Prod.snd) ++ s.usq).foldl (fun n q => if q.flume.isNone then n + q.data.length else n) 0)
  | _ => none

/-- Objects of chapter 10. -/
def view40 (s : State) (idx sub : Nat) : Option Nat :=
  let k := subIx 8 sub
  let l := s.lanes[k]
  let o := s.ports[k]
  match idx with
  | 0x4005 => some (hlState s (subIx 8 sub))
  | 0x4007 => some (if laneOn s k && clientMode (s.obj Obj.HL_MODE sub) then b2n (!l.losClear) + 2 * b2n l.blockLock else 0)
  | 0x4008 => some (l.calRx % 2 ^ 32)
  | 0x4009 => some (l.calTx % 2 ^ 32)
  | 0x4013 => some (portCode o.st)
  | 0x4016 => some o.ctStart
  | 0x401B => some (if s.flag Obj.MAC_PREEMPT_ENABLE sub then o.preempt else 0)
  | _ => none

/-- HTX of a client's lane sends all ones: a run of them, or a disabled client whose lane is in a client mode and serves no
other client (Tables 11-6 and 11-8). -/
def htxOnes (s : State) (c : Fin 8) : Bool :=
  if s.cli[c].st = 0 then
    laneOn s (cliLane s c) && clientMode (cliLaneMode s c) &&
      (fins 8).all fun d => !s.cliOn d.val || cliLane s d != cliLane s c
  else s.cli[c].dsOnes != 0

/-- Objects of chapter 11. -/
def view41 (s : State) (idx sub : Nat) : Option Nat :=
  let c := subIx 8 sub
  let x := s.cli[c]
  let ch := memberCh s c 0
  match idx with
  | 0x4100 => some ((List.range 8).filter fun c => s.cliOn c).length
  | 0x4101 => some x.st
  | 0x4102 => some (if s.cliOn c.val then
      b2n (cliLos s c) + 2 * b2n (cliBlk s c) + 4 * b2n (x.usOnes != 0) + 8 * b2n (s.rx[ch].st != .sync) else 0)
  | 0x4103 => some (b2n (htxOnes s c) + 2 * b2n x.lastAis + 4 * b2n x.lastSkew)
  | 0x4104 => some x.lastPtr
  | 0x4105 => some (ofS 32 x.y)
  | 0x4106 => some (min x.skewNs (2 ^ 32 - 1))
  | 0x4107 => some (min (playFill s c) (2 ^ 32 - 1))
  | 0x4108 => some x.lastSent
  | 0x4109 => some x.lastPlayed
  | _ => none

/-- Objects of chapter 12. -/
def view50 (s : State) (idx sub : Nat) : Option Nat :=
  let x := subIx 2 sub
  let d := s.time.doms[x]
  let ch := subIx 4 sub
  match idx with
  | 0x5000 => some (time80 s.devTime)
  | 0x5002 => some s.time.selected.val
  | 0x5003 => some (ofS 64 (toPs (s.deltaAtTime s.now)))
  | 0x5009 => some (domCode d.state)
  | 0x500A => some (ofS 64 (toPs d.theta))
  | 0x500B => some (ofS 64 d.clk.rate)
  | 0x500C => some (lockedSeconds s x % 2 ^ 32)
  | 0x5012 => some (time80 (clockAt d.clk s.now))
  | 0x5018 => some (ofS 32 (toPs (epsMean s ch)))
  | 0x501B => some (ofS 64 s.time.dd[ch])
  | 0x5021 => some s.time.tsq.length
  | 0x502E => some (ofS 64 s.time.ppsInOffset)
  | 0x5032 => some (tlinkState s)
  | 0x5038 => some (s.eventTime % 2 ^ 64)
  | _ => none

/-- Objects of chapter 13. -/
def view51 (s : State) (idx sub : Nat) : Option Nat :=
  match idx with
  | 0x5100 => some (beNat s.flash.blobs[(0 : Fin 3)])
  | 0x5102 => some (beNat s.flash.blobs[(1 : Fin 3)])
  | 0x5103 => some (beNat s.flash.blobs[(2 : Fin 3)])
  | 0x5104 => some s.ciph.blobState[subIx 3 sub]
  | 0x5106 => some (s.flash.epoch % 2 ^ 32)
  | 0x5107 => some (dataSlots.filter fun i => s.ciph.slots[i].st == .free).length
  | 0x5108 => some (64 - contextsUsed s)
  | _ => none

/-- The channel shown at a position of the compatibility block, if it is enabled (R422). -/
def compatChan (s : State) (i : Nat) : Option (Fin 4) :=
  let ch : Fin 4 := ⟨s.obj Obj.COMPAT_CH_MAP / 4 ^ i % 4, Nat.mod_lt _ (by decide)⟩
  if s.flag Obj.DS_RX_ENABLE (sub ch) then some ch else none

/-- The client shown at a position, if it is enabled. -/
def compatClient (s : State) (i : Nat) : Option (Fin 8) :=
  let n := s.obj Obj.COMPAT_CLI_MAP / 16 ^ i % 16
  (fins 8).find? fun c => c.val == n && s.cliOn n

/-- The compatibility block (R422): the latch by the maps, 0 where a position shows nothing, saturating. -/
def view70 (s : State) (idx sub : Nat) : Option Nat :=
  let i := sub - 1
  let chan := fun (j : Fin 6) => (compatChan s i).elim 0 fun c => min s.compatLast.ch[c][j] 0xFFFFFFFF
  let client := fun (j : Fin 4) => (compatClient s i).elim 0 fun c => min s.compatLast.cli[c][j] 0xFFFFFFFF
  match idx with
  | 0x7010 => some (chan 0)
  | 0x7011 => some (chan 1)
  | 0x7012 => some (chan 2)
  | 0x7013 => some (chan 3)
  | 0x7014 => some (chan 4)
  | 0x7015 => some (chan 5)
  | 0x7020 => some (client 0)
  | 0x7021 => some (client 1)
  | 0x7022 => some (client 2)
  | 0x7023 => some (client 3)
  | 0x7030 =>
    let ch := (List.range 2).foldl (fun n i => n + (compatChan s i).elim 0 fun c => b2n s.compatDown.1[c] * 2 ^ i) 0
    let cl := (List.range 4).foldl (fun n i => n + (compatClient s i).elim 0 fun c => b2n s.compatDown.2[c] * 4 * 2 ^ i) 0
    some (ch + cl)
  | _ => none

/-- What the machine shows at an index, where no store holds it. -/
def objView (s : State) (idx sub : Nat) : Option Nat :=
  match idx / 256 with
  | 0x10 => view10 s idx sub
  | 0x11 => view11 s idx
  | 0x12 => view12 s idx sub
  | 0x13 => view13 s idx sub
  | 0x20 => view20 s idx sub
  | 0x21 => view21 s idx sub
  | 0x22 => view22 s idx sub
  | 0x23 => view23 s idx sub
  | 0x30 => view30 s idx
  | 0x31 => view31 s idx sub
  | 0x32 => view32 s idx sub
  | 0x33 => view33 s idx sub
  | 0x40 => view40 s idx sub
  | 0x41 => view41 s idx sub
  | 0x50 => view50 s idx sub
  | 0x51 => view51 s idx sub
  | 0x70 => view70 s idx sub
  | _ => none

/-- The value of an object now, as an unsigned pattern of its type. -/
def objValue (s : State) (idx sub : Nat) : Nat := (objView s idx sub).getD (s.obj idx sub)

/-! ### Table rows -/

/-- The states of Table 15-7. -/
def memberCode : MemberState → Nat
  | .absent => 0
  | .present => 1
  | .asleep => 2
  | .conflict => 3

/-- The bits of a membership row (Table 15-7). -/
def memberBits (m : Member) : Nat :=
  memberCode m.st * 2 ^ 254 + b2n m.mgrCapable * 2 ^ 253 + b2n m.safeMode * 2 ^ 252 + m.pwrState * 2 ^ 249 + m.misses * 2 ^ 247 +
    m.siliconRev * 2 ^ 232 + m.serial * 2 ^ 168 + m.imageSeq * 2 ^ 136 + m.lastSeen * 2 ^ 88 + m.attempts * 2 ^ 80

/-- The manager's own row, always Present (R539). -/
def ownMember (s : State) : Member :=
  { st := .present, mgrCapable := s.bus.mgrCapable, safeMode := s.pwr.phase == .safeMode, pwrState := pwrCode s.pwr.state, misses := 0,
    siliconRev := 0xB0, serial := serialNumber, imageSeq := s.pwr.imageSeqRun, lastSeen := s.devTime / secU, attempts := s.island.attempts,
    answered := true }

/-- A row of `ARR_MEMBER_TABLE`: every row Absent in a worker (R549). -/
def memberView (s : State) (r : Nat) : Nat :=
  if !s.bus.manager then 0
  else if r = s.bus.addr then memberBits (ownMember s)
  else memberBits s.bus.members[Fin.ofNat 64 r]

/-- The words of a burst profile (R168). -/
def profileView (p : BurstProfile) : Nat :=
  (b2n p.valid * 2 ^ 63 + b2n p.stale * 2 ^ 62 + p.p * 2 ^ 54 + p.guardSlots * 2 ^ 46) * 2 ^ 128 + p.pattern * 2 ^ 64 + p.delimiter

/-- An active list's row (Table 09-7). -/
def gclView (s : State) (r : Nat) : Nat :=
  match s.sch.gates[Fin.ofNat 8 (r / 256)].active with
  | some l => (l.entries[r % 256]?).elim (0xFF * 2 ^ 56) fun e => e.1 * 2 ^ 56 + e.2
  | none => 0xFF * 2 ^ 56

/-- The credit and wait counters of a requester (Table 08-10). -/
def arbView (s : State) (r : Nat) : Nat :=
  let a := s.arb[Fin.ofNat 23 (r / 16)]
  setFld (setFld (s.row Obj.ARB_REQUESTERS r) 31 24 a.credit[Fin.ofNat 16 (r % 16)]) 23 8 a.wait[Fin.ofNat 16 (r % 16)]

/-- A row of `LAT_STATE` (R356): the depths are live. -/
def latView (s : State) (q : Nat) : Nat :=
  let v := s.row Obj.LAT_STATE q
  setFld (setFld v 319 256 (queueDepth s q)) 255 192 (obsFrames s q).length

/-- The buckets of a policer in whole bytes (R344). -/
def polView (s : State) (p : Nat) : Nat := (policerNow s p).1 / 2 ^ 32 * 2 ^ 64 + (policerNow s p).2 / 2 ^ 32

/-- A row of a table now. -/
def rowValue (s : State) (tbl r : Nat) : Nat :=
  match tbl with
  | 0x6024 => profileView s.us[Fin.ofNat 4 (r / 4)].profs[Fin.ofNat 4 (r % 4)]
  | 0x6025 => groupRow s (Fin.ofNat 64 r)
  | 0x6038 => setFld (setFld (s.row tbl r) 36 25 (inUse s r)) 24 11 (waitingOf s r)
  | 0x6041 => (List.range 5).foldl (fun v p => v * 2 ^ 64 + heldBy s r p) 0
  | 0x6042 => arbView s r
  | 0x6044 => bufState s r * 2 ^ 10 + bufOwner s r
  | 0x604A => setFld (s.row tbl r) 31 0 (ofS 32 (shaperTokens s r / ((2 ^ 32 : Nat) : Int)))
  | 0x604C => polView s r
  | 0x604F => gclView s r
  | 0x6052 => latView s r
  | 0x6058 => setFld (s.row tbl r) 45 45 (b2n s.prbs[Fin.ofNat 12 r].locked)
  | 0x6062 => pmRow s false r
  | 0x6063 => pmRow s true r
  | 0x6068 => slotRow s.ciph.slots[Fin.ofNat 256 r]
  | 0x6078 => memberView s r
  | _ => s.row tbl r

end Sys2Proof.Machine
end

