-- ==== Sys2Proof/Machine/Dictionary.lean ====
section
/-! DEFINITION. The dictionary: reading and writing objects and table rows, STORE and RESTORE (R8, R552-R565, R608). -/
namespace Sys2Proof.Machine

/-! ### Values (R553, Table 16-1) -/

/-- Size of a type in bytes. -/
def tySize : OType → Nat
  | .bool | .u8 => 1
  | .u16 | .i16 => 2
  | .u32 | .i32 => 4
  | .u64 | .i64 => 8
  | .time80 => 10
  | .oct n | .str n => n
  | .domain | .table => 0

/-- A type reached by its own services only (R552). -/
def bulkType : OType → Bool
  | .domain | .table => true
  | _ => false

/-- What the type itself refuses on write (Table 16-1). -/
def tyRefuses (ty : OType) (bs : Bytes) : Bool :=
  match ty with
  | .bool => decide (beNat bs > 1)
  | .time80 => decide (beNat bs % 2 ^ 32 > 999999999)
  | .str _ => bs.any fun b => decide (b.toNat > 0x7E)
  | _ => false

/-- A value as the number its type means. -/
def tyInt (ty : OType) (v : Nat) : Int :=
  match ty with
  | .i16 => toS 16 v
  | .i32 => toS 32 v
  | .i64 => toS 64 v
  | _ => v

/-- The value lies outside the object's stated range (R553). -/
def outOfRange (r : ObjRow) (v : Nat) : Bool :=
  match r.range with
  | some (lo, hi) => decide (tyInt r.ty v < lo) || decide (tyInt r.ty v > hi)
  | none => false

/-! ### Finding an object (R552, R557) -/

/-- What stands at an index and subindex. -/
inductive Found
  | refused (st : Status)
  /-- Subindex 0 of an array: its element count. -/
  | count (n : Nat)
  | value (r : ObjRow)
  /-- A vendor diagnostic object (R558). -/
  | diag
  deriving DecidableEq, Repr

/-- Looks an object up. -/
def findObj (idx sub : Nat) : Found :=
  if 0x8000 ≤ idx ∧ idx ≤ 0x8FFF then
    if Config.diagExists idx sub then .diag else if Config.diagExists idx 0 then .refused .noSub else .refused .noObject
  else match objRow? idx with
    | none => .refused .noObject
    | some r =>
      if r.ty = .table then (if sub = 0 then .value r else .refused .noSub)
      else if r.count = 0 then (if sub = 0 then .value r else .refused .noSub)
      else if sub = 0 then .count r.count
      else if sub ≤ r.count then .value r else .refused .noSub

/-! ### Reads (R554, R555) -/

/-- Brings values that accrue with time up to now. -/
def settleObj (idx sub : Nat) (s : State) : State :=
  if idx = Obj.GOV_LIMITED_CYCLES then settleLimited (subIx 8 sub) s
  else if idx = Obj.CTX_QUOTA_SHORT_CYCLES then quotaSettle s
  else if idx = Obj.FB_FRAMES_TX then busSettle s
  else s

/-- The status of a read (R608). -/
def readStatus (idx sub : Nat) : Status :=
  match findObj idx sub with
  | .refused st => st
  | .count _ | .diag => .ok
  | .value r => if r.acc = .wo ∨ r.acc = .cmd then .writeOnly else if bulkType r.ty then .typeMismatch else .ok

/-- The bytes a read returns. -/
def readBytes (s : State) (idx sub : Nat) : Bytes :=
  match findObj idx sub with
  | .refused _ => []
  | .count n => beBytes 1 n
  | .diag => Config.diagValue idx sub
  | .value r =>
    if idx = Obj.TS_POP then (tsPop s).value else beBytes (tySize r.ty) (objValue s idx sub)

/-- The clearing of an RC object by its read (Table 16-2). -/
def readClears (idx sub : Nat) (s : State) : State :=
  match findObj idx sub with
  | .value r =>
    if r.acc ≠ .rc then s
    else if idx = Obj.TS_POP then { tsPop s with value := s.value, status := s.status }
    else if idx = Obj.DEV_ALERT_CAUSE then { s with island := { s.island with alertCause := 0xFFFF } }
    else if idx = Obj.WAKE_CAUSE then { s with pwr := { s.pwr with wakeCause := 0 } }
    else if idx = Obj.MON_TEMP_MAX then
      { s with mon := { s.mon with tempMax := vmod s.mon.tempMax (subIx 13 sub) fun _ => -32768 } }
    else if idx = Obj.HOP_POOL_MIN_FREE then s.setObj idx sub (poolFree s (sub - 1))
    else if idx = Obj.CTX_MAX_IN_USE then s.setObj idx sub (allInUse s)
    else s.setObj idx sub 0
  | _ => s

/-- READ: status, bytes and the state after it. -/
def readObj (idx sub : Nat) (s : State) : Status × Bytes × State :=
  match readStatus idx sub with
  | .ok =>
    let s := settleObj idx sub s
    (.ok, readBytes s idx sub, readClears idx sub s)
  | st => (st, [], s)

/-- READ_MULTI: every value is taken, and then every RC item cleared, at one instant (R555). -/
def readMany (items : List (Nat × Nat)) (s : State) : Bytes × State :=
  let s := items.foldl (fun s i => settleObj i.1 i.2 s) s
  let one := fun (i : Nat × Nat) =>
    let st := readStatus i.1 i.2
    let v := if st = .ok then readBytes s i.1 i.2 else []
    beBytes 1 (statusCode st) ++ zeros 1 ++ beBytes 2 v.length ++ v
  (items.flatMap one, items.eraseDups.foldl (fun s i => if readStatus i.1 i.2 = .ok then readClears i.1 i.2 s else s) s)

/-! ### Writes (R554, R556, R608) -/

/-- The object that enables the block of an RWD object (Table 16-3). -/
def enablingObj (idx : Nat) : Nat :=
  if idx / 256 = 0x20 then Obj.DS_RX_ENABLE else if idx / 256 = 0x22 then Obj.ACT_ENABLE
  else if idx < 0x4010 then Obj.HL_ENABLE else Obj.MAC_ENABLE

/-- A feature image that the running firmware image carries (R16). -/
def imageCarried (s : State) (n : Nat) : Bool := n != 0 && (List.range 16).any fun i => featureImage s (i + 1) == n

/-- What the owning chapter refuses as RANGE beside the stated range. -/
def chapterRefuses (s : State) (idx v : Nat) : Bool :=
  if idx = Obj.FB_ETHERTYPE then decide (v ≤ 0x5FF) || v == 0x800 || v == 0x86DD || v == 0x8100
  else if idx = Obj.PWR_WAKE_ENABLE then decide (v ≥ 64)
  else if idx = Obj.GOV_UP_PCT then decide (v < s.obj Obj.GOV_DOWN_PCT + 10)
  else if idx = Obj.GOV_DOWN_PCT then decide (s.obj Obj.GOV_UP_PCT < v + 10)
  else if idx = Obj.ENG_IMAGE_SELECT then !imageCarried s v
  else if idx = Obj.HL_MODE then !modeOk v
  else if idx = Obj.MAC_PORT_TYPE then decide (v > 10)
  else if idx = Obj.MAC_FEC_MODE then decide (v > 3)
  else if idx = Obj.COMPAT_CH_MAP then decide (v ≥ 16)
  else if idx = Obj.COMPAT_CLI_MAP then (List.range 4).any fun i => decide (8 ≤ v / 16 ^ i % 16) && decide (v / 16 ^ i % 16 ≤ 14)
  else false

/-- R545: the mode needs an installed array key. -/
def authMode (v : Nat) (s : State) : State :=
  if v > 1 then s.answer .range
  else if v = 1 ∧ s.ciph.blobState[(1 : Fin 3)] ≠ 1 then s.answer .state
  else (s.setObj Obj.FB_AUTH_MODE 0 v).answer .ok

/-- A stored value with nothing else to do. -/
def storeObj (idx sub v : Nat) (s : State) : State := (s.setObj idx sub v).answer .ok

/-- Writes of chapters 02 to 09. -/
def applyLow (idx sub v : Nat) (s : State) : State :=
  let ch := subIx 4 sub
  if idx = Obj.DS_RX_ENABLE then dsRxEnable ch v s
  else if idx = Obj.DS_RESYNC then dsResync ch v s
  else if idx = Obj.ACT_ENABLE then actEnable1 ch v s
  else if idx = Obj.ACT_SILENCE_ACK then silenceAck ch v s
  else if idx = Obj.BOND_ENABLE then bondEnable v s
  else if idx = Obj.BOND_SKEW_LIMIT then skewLimitSet (storeObj idx sub v s)
  else if idx = Obj.RULE_SWAP then ruleSwap v s
  else if idx = Obj.ARB_BRAKE then arbBrake (subIx 23 sub) v s
  else if idx = Obj.GATE_ENABLE then gateEntry (subIx 8 sub) (storeObj idx sub v s)
  else if idx = Obj.GCL_COMMIT then gclCommit (subIx 8 sub) v s
  else storeObj idx sub v s

/-- Writes of chapters 10 and 11. -/
def applyHost (idx sub v : Nat) (s : State) : State :=
  let k := subIx 8 sub
  if idx = Obj.HL_ENABLE then
    let s := storeObj idx sub v s
    laneLevels k (if v = 0 then laneOff k s else injectBits (Fin.ofNat 12 k.val) s)
  else if idx = Obj.HL_TX_EQ then txEq k v s
  else if idx = Obj.HL_LOOPBACK then loopback k v s
  else if idx = Obj.MAC_ENABLE then macEnable k v s
  else if idx = Obj.MAC_PREEMPT_REVERIFY then reverify k v s
  else if idx = Obj.MAC_CT_START_INIT then ctInit k v s
  else if idx = Obj.MAC_CT_START_MIN then ctMin k v s
  else if idx = Obj.MAC_CT_START_MAX then ctMax k v s
  else if idx = Obj.CLI_PM_CLEAR then (if v = 1 then (pmClear s).answer .ok else s.answer .range)
  else storeObj idx sub v s

/-- Writes of chapters 12 and 13. -/
def applyTime (idx sub v : Nat) (bs : Bytes) (s : State) : State :=
  if idx = Obj.TIME_SELECT then timeSelect v s
  else if idx = Obj.TIME_SLEW_NS_PER_S then
    storeObj idx sub v { s with time := { s.time with delta := s.deltaAtTime s.now, deltaAt := s.now } }
  else if idx = Obj.TIME_SET then timeSet (v / 2 ^ 32) (v % 2 ^ 32) s
  else if idx = Obj.TIME_DOM_SOURCE then timeDomSource (subIx 2 sub) v s
  else if idx = Obj.CIPH_SECRET_BLOB then writeBlob 0 bs s
  else if idx = Obj.CIPH_ARRAY_KEY_BLOB then writeBlob 1 bs s
  else if idx = Obj.CIPH_CAPTURE_BLOB then writeBlob 2 bs s
  else if idx = Obj.CIPH_SECRET_SEAL then secretSeal bs s
  else if idx = Obj.CIPH_UNLOCK_FLOW then unlockFlow v s
  else storeObj idx sub v s

/-- Writes of chapters 14 to 16. -/
def applyDev (idx sub v : Nat) (s : State) : State :=
  if idx = Obj.PWR_REQUEST then pwrRequest v s
  else if idx = Obj.PWR_WAKE_ENABLE then storeObj idx sub (setBit v 0 true) s
  else if idx = Obj.BOOT_RETRY then bootRetry v s
  else if idx = Obj.BOOT_RESTART then bootRestart v s
  else if idx = Obj.GOV_MIN then govMin (subIx 8 sub) v s
  else if idx = Obj.GOV_MAX then govMax (subIx 8 sub) v s
  else if idx = Obj.FB_AUTH_MODE then authMode v s
  else if idx = Obj.CAP_CLEAR then capClear v s
  else if idx = Obj.CAP_READ_FROM then (capReadFrom v s).answer .ok
  else storeObj idx sub v s

/-- The effect of a write whose value is of the right size and in range; the status is left in the state. -/
def applyObj (idx sub v : Nat) (bs : Bytes) (s : State) : State :=
  if idx / 4096 = 1 then applyDev idx sub v s
  else if idx / 4096 ≤ 3 then applyLow idx sub v s
  else if idx / 4096 = 4 then applyHost idx sub v s
  else applyTime idx sub v bs s

/-- WRITE: the first refusal in the order of R608, or the effect. -/
def writeObj (idx sub : Nat) (bs : Bytes) (s : State) : State :=
  match findObj idx sub with
  | .refused st => s.answer st
  | .count _ | .diag => s.answer .readOnly
  | .value r =>
    let v := beNat bs
    if r.acc = .ro ∨ r.acc = .rc then s.answer .readOnly
    else if bulkType r.ty ∨ bs.length ≠ tySize r.ty then s.answer .typeMismatch
    else if tyRefuses r.ty bs || outOfRange r v || chapterRefuses s idx v then s.answer .range
    else if r.acc = .rwd ∧ s.flag (enablingObj idx) sub then s.answer .state
    else applyObj idx sub v bs s

/-! ### Table rows (R559) -/

/-- Rows of a table. -/
def tableRows (r : ObjRow) : Nat := r.count

/-- A row that exists: a buffer's handle must name one (Table 08-3). -/
def rowExists (s : State) (r : ObjRow) (n : Nat) : Bool :=
  if r.index = Obj.HOP_BUFFER_STATE then bufExists s n else decide (n < tableRows r)

/-- Every row of a range exists. -/
def rangeExists (s : State) (r : ObjRow) (first count : Nat) : Bool :=
  (List.range count).all fun i => rowExists s r (first + i)

/-- The bytes of a row. -/
def rowBytes (s : State) (r : ObjRow) (n : Nat) : Bytes := beBytes (8 * r.words) (rowValue s r.index n)

/-- Rows in order, each RC row cleared as it is taken (R555). -/
def readRows (r : ObjRow) (first : Nat) : Nat → State → Bytes × State
  | 0, s => ([], s)
  | n + 1, s =>
    let b := rowBytes s r first
    let s := if r.acc = .rc then s.setRow r.index first 0 else s
    let (bs, s) := readRows r (first + 1) n s
    (b ++ bs, s)

/-- The sum of quotas after a write of one row (R278). -/
def quotaSumWith (s : State) (r v : Nat) : Nat := (List.range 80).foldl (fun n x => n + (if x = r then fld v 63 52 else quota s x)) 0

/-- R278, R294. -/
def sourceRowStatus (s : State) (r v : Nat) : Status :=
  if !sourceUsed r || (bitAt v 37 && (r == 12 || r == 13)) || decide (fld v 51 38 < 16) || decide (quotaSumWith s r v > 3584) then .range
  else .ok

/-- A write that a status decides. -/
def rowIf (st : Status) (f : State → State) (s : State) : State := if st = .ok then (f s).answer .ok else s.answer st

/-- A write of a pattern row; the receiver of a channel stops or starts with it (R385). -/
def writePattern (r : Fin 12) (v : Nat) (s : State) : State :=
  let s := writePrbs r v s
  match (fins 4).find? fun k => 8 + k.val == r.val with
  | some ch => rxRefresh ch s
  | none => s

/-- The reserved fields of a table's rows, each its highest and lowest bit (Tables 02-8, 04-2, 06-6 to 06-8, 07-6, 08-6,
08-10, 09-2 to 09-7, 10-8, 11-2, 11-3 and 14-5, R571); the action record of Table 06-7 ends in three. -/
def rowReserved (tbl : Nat) : List (Nat × Nat) :=
  match tbl with
  | 0x6000 => [(60, 0)]
  | 0x6020 => [(49, 48), (31, 27), (23, 16)]
  | 0x6022 => [(3, 0)]
  | 0x6025 => [(24, 24)]
  | 0x6030 => [(1453, 1408), (2, 0)]
  | 0x6032 => [(2, 0)]
  | 0x6034 => [(66, 64), (58, 32)]
  | 0x6038 => [(10, 0)]
  | 0x6040 => [(125, 110)]
  | 0x6042 => [(39, 34), (32, 32), (7, 0)]
  | 0x6048 => [(2, 0)]
  | 0x604A => [(125, 120), (87, 64)]
  | 0x604B => [(121, 120)]
  | 0x604E => [(55, 32)]
  | 0x6051 => [(63, 5)]
  | 0x6058 => [(44, 0)]
  | 0x6060 => [(30, 0)]
  | 0x6061 => [(36, 0)]
  | 0x6070 => [(63, 8), (6, 3)]
  | _ => []

/-- What a row takes of a written value: every reserved bit is 0 whatever is received (R7). -/
def rowTaken (tbl v : Nat) : Nat := (rowReserved tbl).foldl (fun v f => setFld v f.1 f.2 0) v

/-- A host-written flow-table entry is none that a learn has made: its `LEARNED` is 0, so it never ages (R260, log entry
184). -/
def hostFlowEntry (v : Nat) : Nat := setBit v 62 false

/-- Writes one row; the status is left in the state. -/
def writeRow (tbl r w : Nat) (s : State) : State :=
  let v := rowTaken tbl w
  match tbl with
  | 0x6000 => rowIf (if sourceListed r then .ok else .range) (fun s => s.setRow tbl r v) s
  | 0x6020 => rowIf (flowRowStatus s r v) (fun s => s.setRowLater tbl r v) s
  | 0x6022 => rowIf (allocRowStatus s r v) (writeAllocRow r v) s
  | 0x6025 => let x := writeGroupRow (Fin.ofNat 64 r) v s; x.2.answer x.1
  | 0x6030 => rowIf (ruleRowStatus s r v) (fun s => s.setRow tbl r (ruleStored v)) s
  | 0x6032 => rowIf (if actBad v then .range else .ok) (fun s => s.setRow tbl r v) s
  | 0x6033 => rowIf (emProfileStatus v) (fun s => s.setRow tbl r v) s
  | 0x6034 => rowIf (emRowStatus r v) (fun s => s.setRow tbl r (hostFlowEntry v)) s
  | 0x6038 => rowIf (sourceRowStatus s r v) (fun s => quotaCheck (s.setRow tbl r (setFld v 36 0 0))) s
  | 0x6040 => rowIf (ownerRowStatus s r v) (fun s => hopCheckAll (s.setRow tbl r v)) s
  | 0x6042 => rowIf (requesterRowStatus r v) (fun s => s.setRow tbl r (setFld v 39 0 (fld (requesterDefault r) 39 0))) s
  | 0x6048 => rowIf (queueRowStatus v) (queueRowWrite r v) s
  | 0x6049 => rowIf (classRowStatus v) (classRowWrite r v) s
  | 0x604A => rowIf (shaperRowStatus v) (shaperWrite r v) s
  | 0x604B => rowIf (policerRowStatus v) (policerWrite r v) s
  | 0x6051 => rowIf (if fld v 4 0 > 16 then .range else .ok) (fun s => s.setRow tbl r v) s
  | 0x6058 => rowIf (prbsRowStatus s r v) (writePattern (Fin.ofNat 12 r) v) s
  | 0x6060 => rowIf (cliRowStatus s (Fin.ofNat 8 r) v) (writeCliRow (Fin.ofNat 8 r) v) s
  | 0x6061 => rowIf (memberRowStatus s r v) (fun s => s.setRow tbl r v) s
  | 0x6070 => rowIf .ok (fun s => s.setRow tbl r v) s
  | _ => rowIf .ok (fun s => s.setRow tbl r v) s

/-- Writes rows in order until one is refused: rows written, and the state with the last status. -/
def writeRows (r : ObjRow) (first : Nat) : Nat → Bytes → State → Nat × State
  | 0, _, s => (0, s.answer .ok)
  | n + 1, bs, s =>
    let s := writeRow r.index first (beAt bs 0 (8 * r.words)) s
    if s.status ≠ .ok then (0, s)
    else
      let (k, s) := writeRows r (first + 1) n (bs.drop (8 * r.words)) s
      (k + 1, s)

/-- What a table service meets before it acts on a row: `room` bytes may be carried (R559). -/
def tableStatus (s : State) (idx first count room : Nat) : Status :=
  match objRow? idx with
  | none => .noObject
  | some r =>
    if r.ty ≠ .table then .typeMismatch
    else if count * 8 * r.words > room then .tooLong
    else if !rangeExists s r first count || (count == 0 && !rowExists s r first) then .noSub
    else if count = 0 then .range else .ok

/-- The row of a table's object. -/
def tableOf (idx : Nat) : ObjRow :=
  (objRow? idx).getD { index := idx, count := 0, words := 0, ty := .table, acc := .ro, dflt := 0, range := none }

/-! ### STORE and RESTORE (R562-R564) -/

/-- The access code of an index. -/
def accOf (idx : Nat) : Access := (objRow? idx).elim .ro fun r => r.acc

/-- A table row that STORE keeps (R201, R270, R562). -/
def rowStored (s : State) (k : Nat) (v : Nat) : Bool :=
  let tbl := 0x6000 + k / 2 ^ 24
  accOf tbl == .rws && (tbl != Obj.RULE_TABLE || rowMember v s.rules.active)

/-- The host-owned rows of the group table as stored rows. -/
def storedGroups (s : State) (m : Store) : Store :=
  (fins 64).foldl (fun m g =>
    let x := s.bond.groups[g]
    if x.valid && !x.headOwned then stIns m (tabKey Obj.BOND_GROUP_TABLE g.val) (groupRow s g) else m) m

/-- The snapshot of R562, with the layout revision and its sequence number. -/
def snapshot (s : State) : StoredCopy :=
  let d := s.dict.filter fun e => accOf (e.1 / 256) == .rws || accOf (e.1 / 256) == .rwd
  let t := storedGroups s (s.tab.filter fun e => rowStored s e.1 e.2)
  { layout := s.pwr.dictLayout, seq := (newestCopy s).elim 1 fun c => c.seq + 1, dict := d, tab := t, bytes := Config.snapshotBytes d t }

/-- The older of the two slots. -/
def olderSlot (s : State) : Fin 2 :=
  match s.flash.copies[(0 : Fin 2)], s.flash.copies[(1 : Fin 2)] with
  | some a, some b => if a.seq ≥ b.seq then 1 else 0
  | some _, none => 1
  | none, _ => 0

/-- R562. -/
def storeDict (s : State) : Status × State :=
  let c := snapshot s
  if c.bytes > 261120 then (.range, s)
  else if s.flash.writing.isSome then (.busy, s)
  else
    let i := olderSlot s
    let s := { s with flash := { s.flash with writing := some (i, c), copies := vmod s.flash.copies i fun _ => none } }
    let s := s.qspi (qspiWrite (storedAddr i) (1024 + c.bytes))
    (.ok, s.setObj Obj.DICT_STORE_STATE 0 1)

/-- The flash write ends: verified, or failed (R562). -/
def storeWritten (good : Bool) (s : State) : State :=
  match s.flash.writing with
  | none => s
  | some (i, c) =>
    let s := { s with flash := { s.flash with
      writing := none, copies := if good then vmod s.flash.copies i fun _ => some c else s.flash.copies } }
    let s := s.qspi [qspiRead (storedAddr i) (1024 + c.bytes)]
    (s.setObj Obj.DICT_STORE_STATE 0 (if good then 2 else 3)).ev Ev.DICT_STORED [if good then 1 else 2, c.seq, c.bytes]

def execStoreWriteComplete (t : Nat) (good : Bool) (s : State) : Host.Outcome State Fault Refusal := done t s (storeWritten good)

/-- R564. -/
def restoreDict (mode : Nat) (s : State) : Status × State :=
  if mode = 0 then (.ok, { s with island := { s.island with defaultsOnce := true } })
  else if mode = 1 then (.ok, { s with island := { s.island with defaultsOnce := false } })
  else if mode = 2 then
    (.ok, State.qspi { s with flash := { s.flash with copies := Vector.replicate 2 none } }
      [qspiErase (storedAddr 0) 0x40000, qspiErase (storedAddr 1) 0x40000])
  else (.range, s)

/-! ### Objects with a command of their own -/

def execFbAuthMode (t v : Nat) (s : State) : Host.Outcome State Fault Refusal := done t s fun s => s.hostWrite (authMode v)

/-- R572: the read returns the latched cause and releases ALERT_N. -/
def alertRead (s : State) : State :=
  let (st, bs, s) := readObj Obj.DEV_ALERT_CAUSE 0 s
  { s with status := st, value := bs }

def execDevAlertCause (t : Nat) (s : State) : Host.Outcome State Fault Refusal := done t s fun s => s.hostWrite alertRead

end Sys2Proof.Machine
end

