-- ==== Sys2Proof/Machine/Services.lean ====
section
/-! DEFINITION. VDP services: requests, their checks and answers, segmented transfers, subscriptions, membership and forwarding (R526-R546, R560, R561). -/
namespace Sys2Proof.Machine

/-- A service with the body of its request (Table 15-4). -/
inductive Svc
  | read (idx sub : Nat)
  | write (idx sub : Nat) (value : Bytes)
  | readMulti (items : List (Nat × Nat))
  | tableRead (idx first count : Nat)
  | tableWrite (idx first count : Nat) (rows : Bytes)
  | segBegin (idx sub dir total : Nat)
  | segData (handle seg : Nat) (data : Bytes)
  | segEnd (handle crc : Nat)
  | subscribe (first last action : Nat)
  | event (records : List Bytes)
  | store
  | restore (mode : Nat)
  | discover (kind time : Nat)
  | forward (target : Nat) (inner : Bytes)
  deriving DecidableEq, Repr

/-- Service codes (Table 15-4). -/
def svcCode : Svc → Nat
  | .read .. => 0x01
  | .write .. => 0x02
  | .readMulti .. => 0x03
  | .tableRead .. => 0x04
  | .tableWrite .. => 0x05
  | .segBegin .. => 0x06
  | .segData .. => 0x07
  | .segEnd .. => 0x08
  | .subscribe .. => 0x09
  | .event .. => 0x0A
  | .store => 0x0B
  | .restore .. => 0x0C
  | .discover .. => 0x0D
  | .forward .. => 0x0E

/-- Request bodies (Table 15-4). -/
def svcBody : Svc → Bytes
  | .read i x => beBytes 2 i ++ beBytes 1 x ++ zeros 1
  | .write i x v => beBytes 2 i ++ beBytes 1 x ++ zeros 1 ++ v
  | .readMulti l => beBytes 1 l.length ++ zeros 1 ++ l.flatMap fun e => beBytes 2 e.1 ++ beBytes 1 e.2 ++ zeros 1
  | .tableRead i f n => beBytes 2 i ++ zeros 2 ++ beBytes 4 f ++ beBytes 2 n
  | .tableWrite i f n r => beBytes 2 i ++ zeros 2 ++ beBytes 4 f ++ beBytes 2 n ++ r
  | .segBegin i x d n => beBytes 2 i ++ beBytes 1 x ++ beBytes 1 d ++ beBytes 4 n
  | .segData h g d => beBytes 2 h ++ zeros 2 ++ beBytes 4 g ++ d
  | .segEnd h c => beBytes 2 h ++ zeros 2 ++ beBytes 4 c
  | .subscribe a b k => beBytes 2 a ++ beBytes 2 b ++ beBytes 1 k ++ zeros 3
  | .event rs => beBytes 1 rs.length ++ zeros 3 ++ rs.flatten
  | .store => []
  | .restore m => beBytes 1 m
  | .discover k t => beBytes 1 k ++ zeros 3 ++ beBytes 10 t
  | .forward a m => beBytes 1 a ++ zeros 3 ++ m

/-- `n` groups of `w` bytes. -/
def groupsOf (w : Nat) : Nat → Bytes → List Bytes
  | 0, _ => []
  | n + 1, bs => bs.take w :: groupsOf w n (bs.drop w)

/-- A request body of a service; none where its length does not fit the service. -/
def parseSvc (code : Nat) (b : Bytes) : Option Svc :=
  let n := b.length
  let u := fun (o w : Nat) => beAt b o w
  match code with
  | 0x01 => if n = 4 then some (.read (u 0 2) (u 2 1)) else none
  | 0x02 => if n ≥ 4 then some (.write (u 0 2) (u 2 1) (b.drop 4)) else none
  | 0x03 =>
    if n ≥ 2 ∧ n = 2 + 4 * u 0 1 then
      some (.readMulti ((groupsOf 4 (u 0 1) (b.drop 2)).map fun g => (beAt g 0 2, beAt g 2 1)))
    else none
  | 0x04 => if n = 10 then some (.tableRead (u 0 2) (u 4 4) (u 8 2)) else none
  | 0x05 => if n ≥ 10 then some (.tableWrite (u 0 2) (u 4 4) (u 8 2) (b.drop 10)) else none
  | 0x06 => if n = 8 then some (.segBegin (u 0 2) (u 2 1) (u 3 1) (u 4 4)) else none
  | 0x07 => if n ≥ 8 then some (.segData (u 0 2) (u 4 4) (b.drop 8)) else none
  | 0x08 => if n = 8 then some (.segEnd (u 0 2) (u 4 4)) else none
  | 0x09 => if n = 8 then some (.subscribe (u 0 2) (u 2 2) (u 4 1)) else none
  | 0x0A => if n ≥ 4 ∧ n = 4 + 32 * u 0 1 then some (.event (groupsOf 32 (u 0 1) (b.drop 4))) else none
  | 0x0B => if n = 0 then some .store else none
  | 0x0C => if n = 1 then some (.restore (u 0 1)) else none
  | 0x0D => if n = 14 then some (.discover (u 0 1) (u 4 10)) else none
  | 0x0E => if n ≥ 4 then some (.forward (u 0 1) (b.drop 4)) else none
  | _ => none

/-- The header of a request or response with the fields of `rq`. -/
def reqHdr (rq : Req) (resp : Bool) (code len : Nat) : Vdp :=
  { resp := resp, auth := rq.auth, svc := code, length := len, dst := rq.dst, src := rq.src, status := 0, txn := rq.txn,
    counter := rq.counter }

/-- The header and body of a message, over which its code is computed (R544). -/
def signedPart (rq : Req) (resp : Bool) (code : Nat) (body : Bytes) : Bytes :=
  vdpBytes (reqHdr rq resp code (20 + body.length + (if rq.auth then 8 else 0))) ++ body

/-- A request's fields lie in their ranges. -/
def reqWf (rq : Req) : Bool :=
  decide (rq.src ≤ 126) && decide (rq.dst ≤ 127) && decide (rq.txn < 65536) && decide (rq.counter < 2 ^ 64) &&
    rq.code.length == (if rq.auth then 8 else 0)

/-! ### Authentication (R543-R545) -/

/-- A checked message that fails is discarded and counted (R544). -/
def authFail (src kind : Nat) (s : State) : State :=
  (s.bump (if kind = 2 then Obj.FB_REPLAYS else Obj.FB_AUTH_FAILS)).evOnce Ev.FB_AUTH_FAILED 0 [src, kind]

/-- Checks a message with `AUTH` 1 and updates the record of its source (R543, R544). -/
def authCheck (rq : Req) (msg : Bytes) (s : State) : Bool × State :=
  if !rq.auth then (true, s)
  else if !arrayKeyIn s then (false, authFail rq.src 3 s)
  else if vdpMac s msg ≠ rq.code then (false, authFail rq.src 1 s)
  else if rq.counter + 1 ≤ stGet 0 s.island.replay rq.src then (false, authFail rq.src 2 s)
  else (true, { s with island := { s.island with replay := stSet 0 s.island.replay rq.src (rq.counter + 1) } })

/-- A request that R545 accepts without a code while no key is installed. -/
def bootstraps : Option Svc → Bool
  | some (.read ..) => true
  | some (.write i ..) => i == Obj.CIPH_ARRAY_KEY_BLOB || i == Obj.FB_AUTH_MODE
  | _ => false

/-- A request without a code is answered with AUTH (R544, R545). -/
def authMissing (s : State) (rq : Req) (svc : Option Svc) : Bool :=
  !rq.auth && s.obj Obj.FB_AUTH_MODE == 1 && !(!arrayKeyIn s && bootstraps svc)

/-! ### Answers (R529-R531) -/

/-- Keeps an answer for 1 s, at most 16 for a source (R529). -/
def keepAnswer (a : Answered) (s : State) : State :=
  s.modBus fun b =>
    let mine := (b.answered.filter fun x => x.src == a.src).take 15
    { b with answered := a :: mine ++ b.answered.filter fun x => x.src != a.src }

/-- Answers a request (R531), not before an instant. -/
def reply (route : Option Bytes) (rq : Req) (code : Nat) (st : Status) (body : Bytes) (s : State) (from0 : Nat := 0) : State :=
  let h : Vdp := { resp := true, auth := rq.auth, svc := code, length := 0, dst := rq.src, src := s.bus.addr, status := statusCode st,
                   txn := rq.txn, counter := 0 }
  let (m, s) := mkMsg h body s
  let s := keepAnswer { src := rq.src, txn := rq.txn, reply := m, status := st, route := route, at0 := s.now } s
  let s := pushMsg route true rq.src m s from0
  { s with status := st, value := body }

/-- Answers, transfers and subscriptions whose time is over (R529, R533, R534). -/
def busPurge (s : State) : State :=
  s.modBus fun b => { b with
    subs := b.subs.filter fun x => decide (s.now < x.lastHeard + 60 * tickS)
    answered := b.answered.filter fun a => decide (s.now < a.at0 + tickS)
    transfers := b.transfers.filter fun x => decide (s.now < x.lastAt + 5 * tickS) }

/-- The source has sent something (R534). -/
def heardFrom (src : Nat) (s : State) : State :=
  s.modBus fun b => { b with subs := b.subs.map fun x => if x.src = src then { x with lastHeard := s.now } else x }

/-! ### Segmented transfers (R533, R560, R561, R570, R578) -/

/-- The records a read of the event log returns: from the cursor, or from the oldest if that is later (R570). -/
def evtPlan (s : State) (total : Nat) : List (Nat × Nat) :=
  let rs := s.log.ring.reverse.filter fun r => decide (r.seq ≥ s.obj Obj.EVT_READ_SEQ)
  (rs.take (total / 32)).map fun r => (r.seq, 32)

/-- Whole records that fit (R578). -/
def fitPlan : Nat → List (Nat × Nat) → List (Nat × Nat)
  | _, [] => []
  | room, (n, l) :: rest => if l ≤ room then (n, l) :: fitPlan (room - l) rest else []

/-- The records a read of the capture ring returns (R578). -/
def capPlan (s : State) (total : Nat) : List (Nat × Nat) :=
  fitPlan total ((s.cap.ring.filter fun r => decide (r.recNo ≥ s.obj Obj.CAP_READ_FROM)).map fun r => (r.recNo, r.bytes.length))

/-- The bytes of a record as a transfer serves it now: a record overwritten since is marked (R570, R578, Table 16-6). -/
def recordNow (s : State) (idx : Nat) (e : Nat × Nat) : Bytes :=
  if idx = Obj.EVT_LOG_DOMAIN then
    if s.log.zeroed.contains e.1 then zeros 32
    else match s.log.ring.find? fun r => r.seq == e.1 with
      | some r => evBytes r
      | none => beBytes 32 (0xFFFF * 2 ^ 176 + e.1 * 2 ^ 128)
  else match s.cap.ring.find? fun r => r.recNo == e.1 with
    | some r => r.bytes
    | none => zeros e.2

/-- The loader of BOOT_SEL 10 awaits an image (R511, R512). -/
def loaderWaits (s : State) : Bool := s.pwr.phase == .boot 4 && s.pwr.loaderAt.isSome

/-- A domain may be opened in a direction now (R513, R560); direction 1 writes. -/
def domainOpens (s : State) (idx sub dir : Nat) : Bool :=
  if idx = Obj.BOOT_IMAGE_DOMAIN then
    dir == 1 && (if sub = 3 then loaderWaits s else s.pwr.phase == .safeMode)
  else dir == 0

/-- A total length that a domain refuses (R561, Table 14-7). -/
def totalRefused (idx sub total : Nat) : Bool :=
  (idx == Obj.EVT_LOG_DOMAIN && total % 32 != 0) || (idx == Obj.CAP_DOMAIN && total % 64 != 0) ||
    (idx == Obj.BOOT_IMAGE_DOMAIN && sub ≤ 2 && decide (total > 15 * 2 ^ 20))

/-- SEG_BEGIN. The limit of four transfers is decided before the object is looked at (R533, R608). -/
def segBegin (rq : Req) (idx sub dir total : Nat) (s : State) : Status × Bytes × State :=
  if s.bus.transfers.length ≥ 4 then (.busy, [], s)
  else match findObj idx sub with
  | .refused st => (st, [], s)
  | .count _ | .diag => (.typeMismatch, [], s)
  | .value r =>
    if r.ty ≠ .domain then (.typeMismatch, [], s)
    else if dir > 1 || totalRefused idx sub total then (.range, [], s)
    else if !domainOpens s idx sub dir then (.state, [], s)
    else
      let size := if rq.inband then 8956 else 1456
      let plan := if dir = 1 then [] else if idx = Obj.EVT_LOG_DOMAIN then evtPlan s total else capPlan s total
      let h := s.bus.nextHandle
      let x : Transfer := { handle := h, src := rq.src, index := idx, sub := sub, write := dir == 1, total := total, seg := 0,
                            segSize := size, data := [], plan := plan, lastAt := s.now }
      (.ok, beBytes 2 h ++ beBytes 2 size,
        s.modBus fun b => { b with transfers := b.transfers ++ [x], nextHandle := (h + 1) % 65536 })

/-- Updates an open transfer. -/
def modTransfer (h : Nat) (f : Transfer → Transfer) (s : State) : State :=
  s.modBus fun b => { b with transfers := b.transfers.map fun x => if x.handle = h then f x else x }

/-- Closes a transfer. -/
def closeTransfer (h : Nat) (s : State) : State :=
  s.modBus fun b => { b with transfers := b.transfers.filter fun x => x.handle != h }

/-- SEG_DATA. -/
def segData (h seg : Nat) (data : Bytes) (s : State) : Status × Bytes × State :=
  match s.bus.transfers.find? fun x => x.handle == h with
  | none => (.state, [], s)
  | some x =>
    let s := modTransfer h (fun x => { x with lastAt := s.now }) s
    let off := seg * x.segSize
    let n := min x.segSize (x.total - off)
    if seg ≠ x.seg ∨ n = 0 ∨ data.length ≠ (if x.write then n else 0) then (.range, [], s)
    else
      let out := if x.write then [] else
        let all := x.plan.flatMap (recordNow s x.index)
        ((all ++ zeros (x.total - all.length)).drop off).take n
      let got := if x.write then data else out
      (.ok, out, modTransfer h (fun x => { x with data := x.data ++ got, seg := x.seg + 1 }) s)

/-- The number after the last record of a plan whose bytes were all sent. -/
def cursorAfter : Nat → List (Nat × Nat) → Option Nat
  | _, [] => none
  | room, (n, l) :: rest => if l ≤ room then some ((cursorAfter (room - l) rest).getD (n + 1)) else none

/-- A written domain goes to its owner (R511, R513). -/
def domainWritten (sub : Nat) (data : Bytes) (s : State) : Status × State :=
  if !domainOpens s Obj.BOOT_IMAGE_DOMAIN sub 1 then (.state, s)
  else if sub = 3 then
    (.ok, { s with pwr := { s.pwr with loaded := some data, loaderAt := none, initWdAt := some s.now, phase := .boot 5, phaseAt := s.now } })
  else
    let s := { s with flash := { s.flash with images := vmod s.flash.images (subIx 2 sub) fun _ => data } }
    (.ok, s.qspi (qspiWrite (imageAddr (subIx 2 sub)) data.length))

/-- SEG_END. -/
def segEnd (h crc : Nat) (s : State) : Status × Bytes × State :=
  match s.bus.transfers.find? fun x => x.handle == h with
  | none => (.state, [], s)
  | some x =>
    let s := closeTransfer h s
    if crc32c x.data ≠ crc ∨ (x.write ∧ x.data.length ≠ x.total) then (.range, [], s)
    else if x.write then
      let (st, s) := domainWritten x.sub x.data s
      (st, [], s)
    else match cursorAfter x.data.length x.plan with
      | none => (.ok, [], s)
      | some n =>
        if x.index = Obj.EVT_LOG_DOMAIN then (.ok, [], s.setObj Obj.EVT_READ_SEQ 0 (n % 2 ^ 32))
        else (.ok, [], capReadFrom (n % 2 ^ 64) s)

/-! ### Subscriptions (R534, R542) -/

/-- The manager subscribes itself at a package for the part of a range that lies in it (R542). -/
def subscribeAt (a : Nat) (s : State) (x : Subscription) : State :=
  if x.last < 1024 * a ∨ x.first > 1024 * a + 1023 ∨ a = s.bus.addr then s
  else
    let body := beBytes 2 (max x.first (1024 * a)) ++ beBytes 2 (min x.last (1024 * a + 1023)) ++ beBytes 1 1 ++ zeros 3
    sendOwn none x.auth 0x09 a body s

/-- SUBSCRIBE. -/
def subscribe (route : Option Bytes) (rq : Req) (first last action : Nat) (s : State) : Status × Bytes × State :=
  let same := fun (x : Subscription) => x.src == rq.src && x.first == first && x.last == last
  if action > 1 ∨ first > last then (.range, [], s)
  else
    let rest := s.bus.subs.filter fun x => !same x
    if action = 0 then (.ok, [], s.modBus fun b => { b with subs := rest })
    else if rest.length ≥ 8 then (.busy, [], s)
    else
      let x : Subscription := { src := rq.src, first := first, last := last, auth := rq.auth, route := route, lastHeard := s.now }
      let s := s.modBus fun b => { b with subs := rest ++ [x] }
      let s := if s.bus.manager then
          (fins 64).foldl (fun s a => if s.bus.members[a].st = .present then subscribeAt a.val s x else s) s
        else s
      (.ok, [], s)

/-- An EVENT message at the manager: its records wait for merging, or go out at once when they come late (R542). -/
def eventIn (records : List Bytes) (s : State) : State :=
  if !s.bus.manager then s
  else records.foldl (fun s b =>
    let r := evOfBytes b
    if evKey r / 2 ^ 32 < s.bus.mergedTo then eventsOut [r] (s.bump Obj.FB_EVENTS_LATE)
    else s.modBus fun x => { x with merge := x.merge ++ [(r, s.now)] }) s

/-! ### DISCOVER (R535, R538-R540) -/

/-- A heartbeat reaches a node. -/
def heartbeatIn (src : Nat) (s : State) : Option (Status × Bytes) × State :=
  let body := fun (s : State) => discoverBytes (ownDiscover s false false s.pwr.state)
  if s.bus.manager then
    if src < s.bus.addr then
      let s := yieldRole src s
      (some (.ok, body s), s)
    else (none, s)
  else if src ≥ 64 then (some (.notManager, []), s)
  else
    let s := match s.bus.tracked with
      | some m => if src ≤ m then track src s else s
      | none => track src s
    if s.bus.tracked = some src then (some (.ok, body s), s) else (some (.notManager, []), s)

/-- A DISCOVER request. -/
def discoverReq (src kind : Nat) (s : State) : Option (Status × Bytes) × State :=
  if kind = 0 then heartbeatIn src s
  else if kind > 1 then (some (.range, []), s)
  else if s.bus.manager then (some (.ok, discoverBytes (ownDiscover s false false s.pwr.state)), s)
  else (some (.notManager, []), s)

/-- What a response says, as a membership row. -/
def memberOfBody (s : State) (old : Member) : DiscoverBody → Member
  | .response serial rev pwr capable _ safe _ _ attempts seq _ =>
    { old with mgrCapable := capable, safeMode := safe, pwrState := pwr, misses := 0, siliconRev := rev, serial := serial, imageSeq := seq,
               lastSeen := s.devTime / secU, attempts := attempts, answered := true }
  | .request .. => old

/-- Updates a membership row. -/
def modMember (a : Fin 64) (f : Member → Member) (s : State) : State := s.modBus fun b => { b with members := vmod b.members a f }

/-- A DISCOVER response from address `a` (R526, R539). -/
def discoverIn (a : Nat) (body : DiscoverBody) (s : State) : State :=
  match body with
  | .request .. => s
  | .response serial _ _ _ _ _ join leaving _ _ _ =>
    if a = s.bus.addr then s.ev Ev.ADDR_CONFLICT ([a] ++ p64 serialNumber ++ p64 serial)
    else if !s.bus.manager ∨ a ≥ 64 then s
    else
      let i := Fin.ofNat 64 a
      let row := s.bus.members[i]
      let new := memberOfBody s row body
      if row.st = .conflict then modMember i (fun r => { r with misses := 0, answered := true, lastSeen := new.lastSeen }) s
      else if row.st ≠ .absent ∧ row.serial ≠ serial then
        let s := modMember i (fun r => { r with st := .conflict, misses := 0, answered := true }) s
        s.ev Ev.ADDR_CONFLICT ([a] ++ p64 row.serial ++ p64 serial)
      else if leaving then (modMember i (fun _ => { new with st := .asleep }) s).ev Ev.WORKER_LEFT [a, 2]
      else
        let s := modMember i (fun _ => { new with st := .present }) s
        let s := if row.st = .present then s else s.ev Ev.WORKER_JOINED ([a] ++ p64 serial)
        if row.st ≠ .present ∨ join then s.bus.subs.foldl (subscribeAt a) s else s

/-! ### Performing a service -/

/-- The response fits its message (R528, R531). -/
def fits (rq : Req) (n : Nat) : Bool := decide (20 + n + (if rq.auth then 8 else 0) ≤ vdpLimit rq.inband)

/-- TABLE_WRITE: its answer carries the rows written, whatever the status of the refused row (Table 15-4). -/
def tableWrite (rq : Req) (idx first count : Nat) (rows : Bytes) (s : State) : Status × Bytes × State :=
  let st := tableStatus s idx first count (vdpLimit rq.inband)
  let r := tableOf idx
  if st ≠ .ok ∧ st ≠ .range then (st, [], s)
  else if r.acc = .ro ∨ r.acc = .rc then (.readOnly, [], s)
  else if rows.length ≠ count * 8 * r.words then (.typeMismatch, [], s)
  else if st = .range then (.range, [], s)
  else
    let (n, s) := writeRows r first count rows s
    (s.status, beBytes 4 n, s)

/-- TABLE_READ. -/
def tableRead (rq : Req) (idx first count : Nat) (s : State) : Status × Bytes × State :=
  match tableStatus s idx first count (vdpLimit rq.inband - 20 - (if rq.auth then 8 else 0)) with
  | .ok =>
    let (b, s) := readRows (tableOf idx) first count s
    (.ok, b, s)
  | st => (st, [], s)

/-- READ. -/
def readSvc (rq : Req) (idx sub : Nat) (s : State) : Status × Bytes × State :=
  if readStatus idx sub = .ok ∧ !fits rq (readBytes s idx sub).length then (.tooLong, [], s) else readObj idx sub s

/-- READ_MULTI. -/
def readMultiSvc (rq : Req) (items : List (Nat × Nat)) (s : State) : Status × Bytes × State :=
  if items.length = 0 ∨ items.length > 32 then (.range, [], s)
  else
    let (b, s') := readMany items s
    if fits rq b.length then (.ok, b, s') else (.tooLong, [], s)

/-- The services that the package itself performs; none where no answer is due. -/
def performOwn (route : Option Bytes) (rq : Req) (v : Svc) (s : State) : Option (Status × Bytes) × State :=
  let ans := fun (x : Status × Bytes × State) => (some (x.1, x.2.1), x.2.2)
  match v with
  | .read i x => ans (readSvc rq i x s)
  | .write i x b => let s := writeObj i x b s; (some (s.status, []), s)
  | .readMulti l => ans (readMultiSvc rq l s)
  | .tableRead i f n => ans (tableRead rq i f n s)
  | .tableWrite i f n r => ans (tableWrite rq i f n r s)
  | .segBegin i x d n => ans (segBegin rq i x d n s)
  | .segData h g d => ans (segData h g d s)
  | .segEnd h c => ans (segEnd h c s)
  | .subscribe a b k => ans (subscribe route rq a b k s)
  | .event rs => (none, eventIn rs s)
  | .store => let x := storeDict s; (some (x.1, []), x.2)
  | .restore m => let x := restoreDict m s; (some (x.1, []), x.2)
  | .discover k _ => discoverReq rq.src k s
  | .forward .. => (some (.range, []), s)

/-! ### Forwarding (R541) -/

/-- Forwards to one worker. -/
def forwardsTo (s : State) (a : Nat) : Nat := (s.bus.forwards.filter fun f => f.target == a).length

/-- Sends an inner message to a worker under the manager's own source, `TXN_ID` and code. -/
def sendInner (a : Nat) (inner : Bytes) (txn : Nat) (s : State) : State :=
  match vdpHeader inner with
  | none => s
  | some h =>
    let (m, s) := mkMsg (ownHdr s false h.auth h.svc a txn) (vdpBody h inner) s
    pushBus false a m s

/-- The inner response as the host sees it: its `DST` and `TXN_ID` restored, its code computed anew (R541). -/
def restoreInner (inner : Bytes) (src status : Nat) (body : Bytes) (s : State) : Bytes × State :=
  match vdpHeader inner with
  | none => ([], s)
  | some h => mkMsg { resp := true, auth := h.auth, svc := h.svc, length := 0, dst := h.src, src := src, status := status, txn := h.txn, counter := 0 } body s

/-- A FORWARD to the manager itself is served locally (R541). -/
def forwardLocal (rq : Req) (h : Vdp) (inner : Bytes) (s : State) : Option (Status × Bytes) × State :=
  let irq : Req := { src := h.src, dst := s.bus.addr, txn := h.txn, inband := rq.inband, auth := h.auth, counter := h.counter, code := [], waiting := 0 }
  let x := match parseSvc h.svc (vdpBody h inner) with
    | some (.discover 0 _) | none => (some (Status.range, []), s)
    | some v => performOwn none irq v s
  match x.1 with
  | none => (none, x.2)
  | some (st, body) =>
    let (m, s) := restoreInner inner x.2.bus.addr (statusCode st) body x.2
    if fits rq m.length then (some (.ok, m), s) else (some (.tooLong, []), s)

/-- FORWARD. -/
def forward (route : Option Bytes) (rq : Req) (a : Nat) (inner : Bytes) (s : State) : Option (Status × Bytes) × State :=
  let no := fun (st : Status) => (some (st, ([] : Bytes)), s)
  match vdpHeader inner with
  | none => no .range
  | some h =>
    if a ≥ 127 || h.svc == 0x0E || h.resp then no .range
    else if a = s.bus.addr then forwardLocal rq h inner s
    else
      let st := if a < 64 then s.bus.members[Fin.ofNat 64 a].st else MemberState.absent
      if st = .absent then no .unreachable
      else if st = .conflict then no .state
      else if h.length > 1500 then no .tooLong
      else if forwardsTo s a ≥ 16 ∨ s.bus.forwards.length ≥ 64 then no .busy
      else
        let (txn, s) := nextTxn s
        let f : Forward := { req := rq, route := route, target := a, innerTxn := txn, inner := inner, sentAt := s.now, waking := st == .asleep }
        (none, sendInner a inner txn (s.modBus fun b => { b with forwards := b.forwards ++ [f] }))

/-- The array functions that only the manager serves (R536), and the rest. -/
def perform (route : Option Bytes) (rq : Req) (v : Svc) (s : State) : Option (Status × Bytes) × State :=
  match v with
  | .forward a inner => if s.bus.manager then forward route rq a inner s else (some (.notManager, []), s)
  | v => performOwn route rq v s

/-! ### The checks of a received request (R528, R530, R537) -/

/-- A worker acts only for the manager it tracks, or, tracking none, for hosts and adapters (R537). -/
def workerRefuses (s : State) (src : Nat) (svc : Option Svc) : Bool :=
  !s.bus.manager && (match svc with
    | some (.discover 0 _) => false
    | _ => match s.bus.tracked with
      | some m => src != m
      | none => decide (src < 64))

/-- Sends a kept answer again (R529). -/
def answerAgain (a : Answered) (s : State) : State :=
  let s := pushMsg a.route true a.src a.reply (s.bump Obj.VDP_DUPLICATES)
  { s with status := a.status }

/-- When an answer may go: a worker answers a heartbeat 10 µs × its address later (R538). -/
def answerFrom (s : State) (v : Svc) (st : Status) : Nat :=
  match v with
  | .discover 0 _ => if st = .ok then s.now + 10 * tickUs * s.bus.addr else 0
  | _ => 0

/-- Steps 5-9 of R528. `len` is the length of the message. -/
def serveChecked (route : Option Bytes) (rq : Req) (code : Nat) (svc : Option Svc) (len : Nat) (s : State) : State :=
  match s.bus.answered.find? fun a => a.src == rq.src && a.txn == rq.txn with
  | some a => answerAgain a s
  | none =>
    if workerRefuses s rq.src svc then reply route rq code .notManager [] s
    else if rq.waiting ≥ 16 then reply route rq code .busy [] s
    else if len > vdpLimit rq.inband then reply route rq code .tooLong [] s
    else match svc with
      | none => reply route rq code .range [] s
      | some v =>
        let boot := s.pwr.bootAt
        let (a, s) := perform route rq v s
        match a with
        | none => s
        | some (st, body) => if s.pwr.bootAt ≠ boot then { s with status := st } else reply route rq code st body s (answerFrom s v st)

/-- The fields of a request that a header carries, with the message's code. -/
def reqOf (h : Vdp) (msg : Bytes) (waiting : Nat) : Req :=
  { src := h.src, dst := h.dst, txn := h.txn, inband := false, auth := h.auth, counter := h.counter,
    code := if h.auth then vdpCode h msg else [], waiting := waiting }

/-- The bytes that a message's code covers (R544). -/
def codedPart (h : Vdp) (msg : Bytes) : Bytes := (msg.take h.length).take (h.length - 8)

/-- Steps 2-9 of R528 on a request whose code covers `msg`. -/
def serveReq (route : Option Bytes) (rq : Req) (code : Nat) (svc : Option Svc) (msg : Bytes) (s : State) : State :=
  if rq.dst ≠ s.bus.addr ∧ rq.dst ≠ 127 then s
  else if rq.dst = 127 ∧ code ≠ 0x0D then s
  else
    let (ok, s) := authCheck rq msg s
    if !ok then s
    else
      let s := heardFrom rq.src s
      match svc with
      | some (.event rs) => eventIn rs s
      | _ =>
        if authMissing s rq svc then reply route rq code .auth [] s
        else serveChecked route rq code svc (msg.length + rq.code.length) s

/-- What precedes any message: the frame on the bus ends, waiting events go to their subscribers, old answers lapse. -/
def busReady (s : State) : State := busPurge (drainEvents (busSettle s))

/-- A frame is taken from the bus; one with the terminal's own source address shows a conflict (R525, R526). -/
def frameTaken (src dst : Nat) (s : State) : State :=
  let s := s.modBus fun b => { b with freeAt := s.now }
  if dst ≠ s.bus.addr ∧ dst ≠ 127 then s
  else
    let s := s.bump Obj.FB_FRAMES_RX
    if src = s.bus.addr then s.ev Ev.ADDR_CONFLICT [src] else s

/-- The Ethernet header back to the sender of an in-band frame: its address, this package's, the same tag and type (R546). -/
def inbandBack (s : State) (d : Bytes) : Bytes :=
  (d.drop 6).take 6 ++ nodeMac s.bus.addr ++ (d.drop 12).take 4 ++ beBytes 2 (s.obj Obj.FB_ETHERTYPE)

/-- The VDP message that an in-band frame carries (R527, R546). -/
def inbandMsg (d : Bytes) : Bytes := d.drop 18

/-- A message carries a request: every field that is not reserved says what the request says (R7, R527). -/
def carries (rq : Req) (v : Svc) (msg : Bytes) : Bool :=
  match vdpHeader msg with
  | none => false
  | some h =>
    !h.resp && h.svc == svcCode v && { reqOf h msg rq.waiting with inband := rq.inband } == rq && parseSvc h.svc (vdpBody h msg) == some v

/-- The bytes of a received request that its code covers, as they came (R7, R544). -/
def codedOf (msg : Bytes) : Bytes :=
  match vdpHeader msg with
  | none => []
  | some h => if h.auth then codedPart h msg else msg.take h.length

/-- A frame in the control cores that the dictionary server takes as an in-band request (R546). -/
def inbandTakes (s : State) (rq : Req) (v : Svc) (x : QFrame × Nat × Nat) : Bool :=
  let d := x.1.data
  let tag := beAt d 12 2
  x.2.1 == s.obj Obj.FB_INBAND_REASON && x.1.fromPort && x.1.src == s.obj Obj.FB_INBAND_PORT &&
    (tag == 0x8100 || tag == 0x88A8 || tag == s.obj Obj.PARSE_TPID_ALT) && beAt d 14 2 % 4096 == s.obj Obj.FB_INBAND_VID &&
    beAt d 16 2 == s.obj Obj.FB_ETHERTYPE && carries rq v (inbandMsg d)

/-- A request reaches the dictionary server: by the bus, or in the in-band frame that carries it (R528, R530, R546). -/
def serve (rq : Req) (v : Svc) (s : State) : State :=
  if !s.serverUp then s
  else
    let s := busReady s
    if rq.inband then
      if !s.bus.manager || !s.flag Obj.FB_INBAND_ENABLE || rq.dst ≠ s.bus.addr then s
      else match s.accepted.find? (inbandTakes s rq v) with
        | none => s
        | some x =>
          let s := releaseHandles 90 x.1.handles { s with accepted := s.accepted.erase x }
          serveReq (some (inbandBack s x.1.data)) rq (svcCode v) (some v) (codedOf (inbandMsg x.1.data)) s
    else serveReq none rq (svcCode v) (some v) (signedPart rq false (svcCode v) (svcBody v)) (frameTaken rq.src rq.dst s)

/-- A DISCOVER response reaches the dictionary server; a worker discards it after the check of R526 (R528, R544). -/
def serveDiscover (rq : Req) (b : DiscoverBody) (s : State) : State :=
  if !s.serverUp || rq.inband || (rq.dst ≠ s.bus.addr ∧ rq.dst ≠ 127) then s
  else
    let s := busReady s
    let s := if rq.src = s.bus.addr then s.bump Obj.FB_FRAMES_RX else frameTaken rq.src rq.dst s
    if !s.bus.manager then discoverIn rq.src b s
    else
      let s := if rq.src = s.bus.addr then discoverIn rq.src b s else s
      let (ok, s) := authCheck rq (signedPart rq true 0x0D (discoverBytes b)) s
      if !ok ∨ rq.src = s.bus.addr then s else discoverIn rq.src b (heardFrom rq.src s)

/-! ### The commands -/

def execRead (t : Nat) (rq : Req) (idx sub : Nat) (s : State) : Host.Outcome State Fault Refusal :=
  doneIf (reqWf rq && decide (idx < 65536) && decide (sub < 256)) t s (serve rq (.read idx sub))

def execWrite (t : Nat) (rq : Req) (idx sub : Nat) (value : Bytes) (s : State) : Host.Outcome State Fault Refusal :=
  doneIf (reqWf rq && decide (idx < 65536) && decide (sub < 256) && decide (value.length ≤ 9000)) t s (serve rq (.write idx sub value))

def execReadMulti (t : Nat) (rq : Req) (items : List (Nat × Nat)) (s : State) : Host.Outcome State Fault Refusal :=
  doneIf (reqWf rq && decide (items.length < 256) && items.all fun i => decide (i.1 < 65536) && decide (i.2 < 256)) t s
    (serve rq (.readMulti items))

def execTableRead (t : Nat) (rq : Req) (idx first count : Nat) (s : State) : Host.Outcome State Fault Refusal :=
  doneIf (reqWf rq && decide (idx < 65536) && decide (first < 2 ^ 32) && decide (count < 65536)) t s (serve rq (.tableRead idx first count))

def execTableWrite (t : Nat) (rq : Req) (idx first count : Nat) (rows : Bytes) (s : State) : Host.Outcome State Fault Refusal :=
  doneIf (reqWf rq && decide (idx < 65536) && decide (first < 2 ^ 32) && decide (count < 65536) && decide (rows.length ≤ 9000)) t s
    (serve rq (.tableWrite idx first count rows))

def execSegBegin (t : Nat) (rq : Req) (idx sub dir total : Nat) (s : State) : Host.Outcome State Fault Refusal :=
  doneIf (reqWf rq && decide (idx < 65536) && decide (sub < 256) && decide (dir < 256) && decide (total < 2 ^ 32)) t s
    (serve rq (.segBegin idx sub dir total))

def execSegData (t : Nat) (rq : Req) (handle seg : Nat) (data : Bytes) (s : State) : Host.Outcome State Fault Refusal :=
  doneIf (reqWf rq && decide (handle < 65536) && decide (seg < 2 ^ 32) && decide (data.length ≤ 9000)) t s (serve rq (.segData handle seg data))

def execSegEnd (t : Nat) (rq : Req) (handle crc : Nat) (s : State) : Host.Outcome State Fault Refusal :=
  doneIf (reqWf rq && decide (handle < 65536) && decide (crc < 2 ^ 32)) t s (serve rq (.segEnd handle crc))

/-- R533: a transfer with no request for 5 s is closed. -/
def execTransferClose (t : Nat) (s : State) : Host.Outcome State Fault Refusal := done t s busPurge

def execSubscribe (t : Nat) (rq : Req) (first last action : Nat) (s : State) : Host.Outcome State Fault Refusal :=
  doneIf (reqWf rq && decide (first < 65536) && decide (last < 65536) && decide (action < 256)) t s (serve rq (.subscribe first last action))

/-- R534: a subscriber silent for 60 s loses its subscriptions. -/
def subscriptionLapse (s : State) : State :=
  s.modBus fun b => { b with subs := b.subs.filter fun x => decide (s.now < x.lastHeard + 60 * tickS) }

def execSubscriptionLapse (t : Nat) (s : State) : Host.Outcome State Fault Refusal := done t s subscriptionLapse

def execEvent (t : Nat) (rq : Req) (records : List Bytes) (s : State) : Host.Outcome State Fault Refusal :=
  doneIf (reqWf rq && decide (records.length < 256) && records.all fun r => r.length == 32) t s (serve rq (.event records))

def execStore (t : Nat) (rq : Req) (s : State) : Host.Outcome State Fault Refusal := doneIf (reqWf rq) t s (serve rq .store)

def execRestore (t : Nat) (rq : Req) (mode : Nat) (s : State) : Host.Outcome State Fault Refusal :=
  doneIf (reqWf rq && decide (mode < 256)) t s (serve rq (.restore mode))

def execDiscover (t : Nat) (rq : Req) (body : DiscoverBody) (s : State) : Host.Outcome State Fault Refusal :=
  doneIf (reqWf rq) t s fun s => match body with
    | .request kind time => serve rq (.discover kind time) s
    | b => serveDiscover rq b s

def execForward (t : Nat) (rq : Req) (target : Nat) (inner : Bytes) (s : State) : Host.Outcome State Fault Refusal :=
  doneIf (reqWf rq && decide (target < 256) && decide (inner.length ≤ 9000)) t s (serve rq (.forward target inner))

end Sys2Proof.Machine
end

