-- ==== Sys2Proof/Machine/Boot.lean ====
section
/-! DEFINITION. Boot: RESET_N and VAON, the steps of the cold boot, the restored dictionary, safe mode and failed starts (R509-R514, R565, R573, R586, R587). -/
namespace Sys2Proof.Machine

/-! ### The log of a new boot (R573) -/

/-- Order of rewritten records: `TIME`, then `SOURCE`. -/
def recBefore (a b : EvRec) : Bool := decide (a.time * 65536 + a.source < b.time * 65536 + b.source)

/-- Puts a record after every one that does not follow it. -/
def recInsert (r : EvRec) : List EvRec → List EvRec
  | [] => [r]
  | x :: xs => if recBefore r x then r :: x :: xs else x :: recInsert r xs

/-- The kept and the held records, merged. -/
def rewritten (i : Island) : List EvRec :=
  (i.kept.reverse ++ i.held).foldl (fun l r => recInsert { r with retained := true } l) []

/-- Writes what an earlier time left, before any event of the new boot; later in the same boot only what has been held. -/
def bootLog (s : State) : State :=
  let s := if s.log.ring.isEmpty then { s with island := { s.island with held := rewritten s.island, kept := [] } } else s
  flushHeld s

/-! ### Straps and boot instants (R509, R586, R587) -/

/-- The straps sampled at a boot instant. -/
def takeStraps (addr : Fin 64) (mgrN : Bool) (bootSel : Fin 4) (s : State) : State :=
  s.modBus fun b => { b with addr := addr.val, mgrCapable := !mgrN, bootSel := bootSel.val }

/-- The deglitch filter of RESET_N in ns, between 1 µs and 10 µs (R587); a low as long as it, or longer, resets. -/
def resetFilterNs : Nat := 1000 + Config.resetFilter % 9001

/-- R587: RESET_N is released. Groups that are off are enabled before the cold boot. -/
def resetN (addr : Fin 64) (mgrN : Bool) (bootSel : Fin 4) (s : State) : State :=
  if s.pwr.phase = .vaonWait then s
  else powerUp (takeStraps addr mgrN bootSel (restart 2 s))

def execResetN (t low : Nat) (addr : Fin 64) (mgrN : Bool) (bootSel : Fin 4) (s : State) : Host.Outcome State Fault Refusal :=
  done t s fun s => if low ≥ resetFilterNs then resetN addr mgrN bootSel s else s

/-- The loss of VAON clears the silence records, and the channels held in Silenced leave it by trigger 19 (R116, R154). The
records of it are held for the log that the next boot begins (log entry 183). -/
def silenceLost (before s : State) : State :=
  (fins 4).foldl (fun s ch =>
    if before.island.silence[ch] then
      let st : ActState := if before.flash.stop[ch] then .emergencyStop else .initial
      (s.evHeld (Ev.ACT_STATE_CHANGED + ch.val) [actCode .silenced, actCode st, 19]).evHeld (Ev.SILENCE_CHANGED + ch.val) [2]
    else s) s

/-- Without VAON only the boot flash keeps anything (R512, R543, R573); what the loss itself logs is held. -/
def unpowered (s : State) : State :=
  let r := State.reset
  let clk : Clock := { at0 := s.now, val := 0, rate := 0 }
  let kept := if s.pwr.phase = .vaonWait then s.island.held else []
  silenceLost s { r with
    pending := s.pending, now := s.now, draws := s.draws, nextFid := s.nextFid, flash := { s.flash with writing := none }
    island := { r.island with resetCause := 1, pwrEn := Vector.replicate 4 false, oscEn := false, held := kept }
    time := { r.time with doms := r.time.doms.map fun d => { d with clk := clk } }
    pwr := { r.pwr with phase := .vaonWait, phaseAt := s.now, initWdAt := none, pwrGood := Vector.replicate 4 false } }

/-- R117: VAON falls; the silence and stop records of the island are lost with it. -/
def execVaonLoss (t : Nat) (s : State) : Host.Outcome State Fault Refusal := doneTap t s unpowered

/-- R586: the boot instant after the first rise of VAON. A package that is strapped as a worker waits for its slot with no
manager tracked; then the supplies come up as for an exit from Off. -/
def vaonRise (addr : Fin 64) (mgrN : Bool) (bootSel : Fin 4) (s : State) : State :=
  let s := takeStraps addr mgrN bootSel (unpowered s)
  let s := s.writeRecord fun f => { f with vaonRises := f.vaonRises + 1 }
  let s := { s with pwr := { s.pwr with exitAt := s.now } }
  exitStep (if mgrN then .stagger else .exit 1) s

def execVaonRise (t : Nat) (addr : Fin 64) (mgrN : Bool) (bootSel : Fin 4) (s : State) : Host.Outcome State Fault Refusal :=
  doneTap t s (vaonRise addr mgrN bootSel)

/-! ### The stored dictionary (R299, R564, R565) -/

/-- An enabling object of the second pass. -/
def secondPass (idx : Nat) : Bool :=
  idx == Obj.DS_RX_ENABLE || idx == Obj.ACT_ENABLE || idx == Obj.HL_ENABLE || idx == Obj.MAC_ENABLE || idx == Obj.GATE_ENABLE

/-- An item of a stored copy: an object's value or a table row. -/
inductive Item
  | obj (idx sub v : Nat)
  | row (tbl r v : Nat)
  deriving DecidableEq, Repr

/-- The items of a copy, objects and then rows, each in ascending index. -/
def itemsOf (c : StoredCopy) : List Item :=
  (c.dict.map fun e => Item.obj (e.1 / 256) (e.1 % 256) e.2) ++
    c.tab.map fun e => Item.row (0x6000 + e.1 / 2 ^ 24) (e.1 % 2 ^ 24) e.2

/-- The image knows the object (R565). -/
def itemKnown : Item → Bool
  | .obj i _ _ => (objRow? i).isSome
  | .row t _ _ => (objRow? t).isSome

/-- What an item is in the first pass: clients come without `ENABLE`, enabling objects not at all. -/
def firstPass : Item → Option Item
  | .obj i x v => if secondPass i then none else some (.obj i x v)
  | .row t r v => some (.row t r (if t = Obj.CLI_TABLE then setFld v 63 63 0 else v))

/-- What an item is in the second pass. -/
def secondItem : Item → Option Item
  | .obj i x v => if secondPass i then some (.obj i x v) else none
  | .row t r v => if t = Obj.CLI_TABLE ∧ bitAt v 63 then some (.row t r v) else none

/-- A stored rule row becomes a row of generation 0 with both member bits (R270); owners are tested by the carving
(R299), the rest by their chapters. -/
def restoreRow (tbl r v : Nat) (s : State) : State :=
  if tbl = Obj.RULE_TABLE then
    let v := setFld v 1471 1470 3
    if actBad (v % 2 ^ 128) then s.answer .range else (s.setRow tbl r v).answer .ok
  else if tbl = Obj.HOP_OWNER_TABLE then (if ownerUsed r then (s.setRow tbl r v).answer .ok else s.answer .range)
  else writeRow tbl r v s

/-- Applies one item; the status is left in the state. -/
def restoreItem (s : State) : Item → State
  | .obj i x v => writeObj i x (beBytes (tySize ((objRow? i).elim .u8 fun r => r.ty)) v) s
  | .row t r v => restoreRow t r v s

/-- Applies items in order and keeps those that were refused, with their status. -/
def restoreRound (is : List Item) (s : State) : List (Item × Status) × State :=
  is.foldl (fun acc i =>
    let s := restoreItem acc.2 i
    if s.status = .ok then (acc.1, s) else (acc.1 ++ [(i, s.status)], s)) ([], s)

/-- A pass: an item that another one of the pass would make acceptable is tried again after it. -/
def restorePass (is : List Item) (s : State) : List (Item × Status) × State :=
  let x := restoreRound is s
  restoreRound (x.1.map fun e => e.1) x.2

/-- A refused item keeps its Default (R565). -/
def itemRefused (s : State) (x : Item × Status) : State :=
  let ps := match x.1 with
    | .obj i b _ => [i, b]
    | .row t r _ => [t, r]
  (s.bump Obj.DICT_RESTORE_REFUSED).evOnce Ev.RESTORE_ITEM_REFUSED 0 (ps ++ [statusCode x.2])

/-- Applies a copy in the two passes of R565. -/
def restoreCopy (c : StoredCopy) (s : State) : State :=
  let is := (itemsOf c).filter itemKnown
  let a := restorePass (is.filterMap firstPass) s
  let b := restorePass (is.filterMap secondItem) a.2
  let bad := a.1 ++ b.1
  (bad.foldl itemRefused b.2).ev Ev.DICT_RESTORED [c.seq, bad.length]

/-- Step 7 of Table 14-6: blobs and fixed keys, the stored dictionary unless the mode of R564 holds, the carving, and a
new capture epoch (R482). -/
def restoreStep (s : State) : State :=
  let st := s.status
  let v := s.value
  let s := s.qspi ([qspiRead (storedAddr 0) 0x40000, qspiRead (storedAddr 1) 0x40000, qspiRead (recordAddr 0) 8192] ++
    (fins 3).map fun w => qspiRead (blobAddr w) 40)
  let s := loadKeys s
  let s := if s.island.defaultsOnce then { s with island := { s.island with defaultsOnce := false } }
    else (newestCopy s).elim s fun c => restoreCopy c s
  let s := carve s
  State.writeRecord { s with status := st, value := v, bus := { s.bus with txLow := 0 } } fun f => { f with epoch := f.epoch + 1 }

/-! ### The steps of the cold boot (R509, R511-R513, Table 14-6) -/

/-- The next step begins. -/
def bootStep (n : Nat) (s : State) : State := { s with pwr := { s.pwr with phase := .boot n, phaseAt := s.now } }

/-- Safe mode (R513): PTXDIS stays asserted and the lanes idle. -/
def enterSafeMode (reason : Nat) (s : State) : State :=
  let s := { s with island := { s.island with bootReason := reason, servedSafe := true }
                    pwr := { s.pwr with phase := .safeMode, phaseAt := s.now, initWdAt := none, loaderAt := none, image := 3 } }
  (bootLog (assertPtxdisAll s)).ev Ev.BOOT_SAFE_MODE [reason]

/-- Step 1: the failed start before this one is logged, and the start counts (R512). -/
def bootOne (s : State) : State :=
  let s := match s.island.failedStart with
    | some (r, n) =>
      State.ev ({ s with island := { s.island with failedStart := none } }.bump Obj.BOOT_FAILED_STARTS) Ev.BOOT_FAILED [r, n]
    | none => s
  if s.island.attempts ≥ 3 ∧ !s.island.servedSafe then enterSafeMode s.island.bootReason s
  else bootStep 2 { s with island := { s.island with attempts := min 3 (s.island.attempts + 1), servedSafe := false } }

/-- Step 2: the straps apply (R511, R512). -/
def bootTwo (s : State) : State :=
  if s.bus.bootSel = 3 then enterSafeMode 7 s
  else if junction s > (8 * s.obj Obj.MON_TEMP_ALARM_C : Nat) then failStart 5 s
  else bootStep 3 s

/-- The header of an image opens with "LYTF" (R511). -/
def imageMagic (bs : Bytes) : Bool := bs.take 4 == [0x4C, 0x59, 0x54, 0x46]

/-- The sequence number in the header of an image, after the magic; 0 where there is no header (R511, log entry 208). -/
def headerSeq (bs : Bytes) : Nat := if imageMagic bs then beAt bs 4 4 else 0

/-- The images that BOOT_SEL lets the terminal try, in their order: with 00 the one with the higher sequence number first
(R511). -/
def imageTries (s : State) : List Nat :=
  if s.bus.bootSel = 0 then
    (if headerSeq (imageBytes s 0) < headerSeq (imageBytes s 1) then [1, 0] else [0, 1])
  else if s.bus.bootSel = 1 then [0] else [2]

/-- An image is valid: its magic, and the tests of key hash, signature and GCM tag (R511). -/
def imageOk (bs : Bytes) : Bool := imageMagic bs && Config.imageValid bs

/-- The image that starts: the first one tried that is valid (R511). -/
def imageChosen (s : State) : Option Nat := (imageTries s).find? fun i => imageOk (imageBytes s i)

/-- This is the image that starts, with its sequence number; a customer key counts only where one is fused (R511). -/
def imageFits (s : State) (img seq : Nat) (customer : Bool) : Bool :=
  imageChosen s == some img && seq == headerSeq (imageBytes s img) && (!customer || Config.customerKeyFused)

/-- `BOOT_IMAGE_SEQ` once an image of the flash starts: one tried before it is invalid, and reads 0 (Table 14-10). -/
def seqsAfter (s : State) (img : Nat) : Nat × Nat :=
  let tried := (imageTries s).takeWhile fun i => i != img
  (if tried.contains 0 then 0 else s.pwr.imageSeqs.1, if tried.contains 1 then 0 else s.pwr.imageSeqs.2)

/-- Step 4: the sequence numbers of the headers, read from the boot flash (R595); under BOOT_SEL 10 the loader starts and the init watchdog rests. -/
def bootFour (a b : Nat) (s : State) : State :=
  if !(a == headerSeq (imageBytes s 0) && b == headerSeq (imageBytes s 1)) then s else
  let s := { s with pwr := { s.pwr with imageSeqs := (a, b) } }
  if s.bus.bootSel = 2 then
    if s.pwr.loaderAt.isSome then s
    else bootLog { s with pwr := { s.pwr with loaderAt := some s.now, initWdAt := none } }
  else bootStep 5 (s.qspi [qspiRead (imageAddr 0) 512, qspiRead (imageAddr 1) 512])

/-- Step 5: an image has passed its checks. One that was tried before it is shown as invalid. -/
def bootFive (img seq version layout : Nat) (customer : Bool) (s : State) : State :=
  if !imageFits s img seq customer then s
  else
    let s := { s with pwr := { s.pwr with
      image := img, imageSeqRun := seq, imageVersion := version, dictLayout := layout, imageSeqs := seqsAfter s img } }
    let s := match (fins 2).find? fun i => i.val == img with
      | some i => s.qspi [qspiRead (imageAddr i) s.flash.images[i].length]
      | none => s
    (bootStep 6 s).ev Ev.BOOT_IMAGE_SELECTED [img, seq, if customer then 2 else 1]

/-- R509, R511, R512: a step of Table 14-6 ends with an outcome that it can have. -/
def bootStepDone (o : BootOutcome) (s : State) : State :=
  match s.pwr.phase, o with
  | .boot 1, .ok => bootOne s
  | .boot 2, .ok => bootTwo s
  | .boot 3, .ok => if s.il.st ≥ 2 then bootStep 4 s else s
  | .boot 3, .failed => failStart 3 s
  | .boot 4, .headers a b => bootFour a b s
  | .boot 5, .image img seq version layout customer => bootFive img seq version layout customer s
  | .boot 5, .noImage => if (imageChosen s).isSome then s else failStart 1 s
  | .boot 6, .ok => bootStep 7 s
  | .boot 6, .failed => failStart 2 s
  | .boot 7, .ok => bootStep 8 (restoreStep s)
  | _, _ => s

/-- The values of an outcome fit their fields (Tables 16-7 and 14-10). -/
def outcomeWf : BootOutcome → Bool
  | .headers a b => decide (a < 2 ^ 32) && decide (b < 2 ^ 32)
  | .image img seq version layout _ => decide (img ≤ 2) && decide (seq < 2 ^ 32) && decide (version < 2 ^ 32) && decide (layout < 2 ^ 16)
  | _ => true

def execBootStepComplete (t : Nat) (outcome : BootOutcome) (s : State) : Host.Outcome State Fault Refusal :=
  doneIf (outcomeWf outcome) t s (bootStepDone outcome)

/-! ### The end of a start (R512) -/

/-- Run after a boot that no exit from Off began (R538). -/
def runFromBoot (s : State) : State :=
  let s := { s with pwr := { s.pwr with phase := .up, phaseAt := s.now, quietSince := s.now, idleSince := s.now } }
  announceSelf true false .run (s.bump Obj.PWR_STATE_ENTRIES 1)

/-- R512: control core 0 marks the start complete. -/
def startComplete (s : State) : State :=
  if s.pwr.phase ≠ .boot 8 then s
  else
    let s := s.setObj Obj.ENG_IMAGE_RUNNING 0 (s.obj Obj.ENG_IMAGE_SELECT)
    let s := { s with island := { s.island with attempts := 0 }, pwr := { s.pwr with initWdAt := none, thermal := false }
                      mon := { s.mon with lifeAt := s.now } }
    let off := s.pwr.state != .run
    let s := bootLog s
    let s := if off then reachRun s else runFromBoot s
    actPending (freshStart (startChannels s))

def execStartComplete (t : Nat) (s : State) : Host.Outcome State Fault Refusal := done t s startComplete

/-- A boot is under way. -/
def booting (s : State) : Bool :=
  match s.pwr.phase with
  | .boot _ => true
  | _ => false

/-- R512: the init watchdog of 4 s. -/
def initWatchdog (s : State) : State :=
  match s.pwr.initWdAt with
  | some w => if booting s && decide (s.now ≥ w + 4 * tickS) then failStart 4 s else s
  | none => s

def execInitWatchdog (t : Nat) (s : State) : Host.Outcome State Fault Refusal := done t s initWatchdog

/-- R512: the loader's own limit of 600 s. -/
def loaderTimeout (s : State) : State :=
  match s.pwr.loaderAt with
  | some l => if s.now ≥ l + 600 * tickS then failStart 1 s else s
  | none => s

def execLoaderTimeout (t : Nat) (s : State) : Host.Outcome State Fault Refusal := done t s loaderTimeout

end Sys2Proof.Machine
end

