-- ==== Sys2Proof/Machine/FieldBus.lean ====
section
/-! DEFINITION. The field bus as a medium, frames received from it, merged events, forwards under way, heartbeats and roles over time (R519-R526, R535-R542). -/
namespace Sys2Proof.Machine

/-! ### Transmission (R521, R523, R524) -/

/-- The field-bus MAC runs: the package is not powered down and its boot has loaded the server (R511, R513). -/
def busOn (s : State) : Bool :=
  s.serverUp || match s.pwr.phase with
    | .entry _ => true
    | _ => false

/-- The frame whose turn it is: the one that is being retried, or the next of the queue (R523, R524). -/
def dueFrame (now : Nat) (b : Bus) : Option BusFrame :=
  match b.sending with
  | some f => some f
  | none => nextBusFrame now b.txq

/-- R523: with the bus free for the inter-frame gap, the frame whose turn it is starts. -/
def fbTransmit (s : State) : State :=
  let s := if s.serverUp then busReady s else busSettle s
  if !busOn s || s.bus.sendAt.isSome || s.bus.backoffUntil.isSome || decide (s.now < s.bus.freeAt + busGap) then s
  else match dueFrame s.now s.bus with
    | none => s
    | some f => s.modBus fun b =>
      { b with sending := some f, sendAt := some s.now, txq := if b.sending.isNone then b.txq.erase f else b.txq }

def execFbTransmit (t : Nat) (s : State) : Host.Outcome State Fault Refusal := done t s fbTransmit

/-- The 16th collision drops the frame (R523). -/
def dropBusFrame (f : BusFrame) (s : State) : State :=
  let s := s.modBus fun b => { b with sending := none, sendAt := none, collisions := 0, freeAt := s.now + busJam }
  (s.bump Obj.FB_EXCESS_COLLISIONS).evOnce Ev.FB_EXCESS_COLLISIONS 0 [f.dst]

/-- A slot time: 512 bit times of 10 ns (Table 15-1). -/
def busSlot : Nat := 5120 * tickNs

/-- A collision can be seen at a half-cell of 5 ns of the frame: this package drives it high, since opposing drivers read as 0,
and it ended at most 20 ns ago (R521). -/
def collides (s : State) (f : BusFrame) (at0 half : Nat) : Bool :=
  (busLevels (busFrame s f.dst f.msg)).getD half false &&
    decide (at0 + (half + 1) * 5 * tickNs ≤ s.now) && decide (s.now ≤ at0 + ((half + 1) * 5 + 20) * tickNs)

/-- R521, R523: a collision of the frame on the bus at a half-cell; it is late after 512 bits. -/
def fbCollision (half : Nat) (s : State) : State :=
  match s.bus.sending, s.bus.sendAt with
  | some f, some at0 =>
    if !collides s f at0 half then busSettle s else
    let s := s.bump Obj.FB_COLLISIONS
    let s := if half ≥ 1024 then s.bump Obj.FB_LATE_COLLISIONS else s
    let n := s.bus.collisions + 1
    if n ≥ 16 then dropBusFrame f s
    else
      let (r, s) := s.draw (2 ^ min n 10)
      s.modBus fun b => { b with
        collisions := n, sendAt := none, freeAt := s.now + busJam, backoffUntil := some (s.now + busJam + r * busSlot) }
  | _, _ => s

def execFbCollision (t half : Nat) (s : State) : Host.Outcome State Fault Refusal := done t s (fbCollision half)

/-- R523: the back-off is over and the frame defers again. -/
def fbBackoff (s : State) : State :=
  match s.bus.backoffUntil with
  | some u => if s.now ≥ u then s.modBus fun b => { b with backoffUntil := none } else s
  | none => s

def execFbBackoff (t : Nat) (s : State) : Host.Outcome State Fault Refusal := done t s fbBackoff

/-! ### Merged events (R542) -/

/-- The largest key of the records whose merge time is over. -/
def mergeDue (s : State) : Option Nat :=
  let due := s.bus.merge.filter fun x => decide (x.2 + s.obj Obj.FB_EVENT_MERGE_MS * tickMs ≤ s.now)
  (due.map fun x => evKey x.1).max?

/-- R542: records whose merge time is over are sent, with those that precede them. -/
def eventMerge (s : State) : State :=
  if !s.serverUp then s
  else
    let s := drainEvents s
    match mergeDue s with
    | none => s
    | some k =>
      let out := s.bus.merge.filter fun x => decide (evKey x.1 ≤ k)
      let s := s.modBus fun b => { b with
        merge := b.merge.filter fun x => decide (evKey x.1 > k)
        mergedTo := max b.mergedTo (k / 2 ^ 32) }
      eventsOut (out.map fun x => x.1) s

def execEventMerge (t : Nat) (s : State) : Host.Outcome State Fault Refusal := done t s eventMerge

/-! ### Forwards under way (R541) -/

/-- Ends a forward with a status of the manager's own. -/
def endForward (st : Status) (s : State) (f : Forward) : State := reply f.route f.req 0x0E st [] s

/-- R541: forwards without an inner response in time end with TIMEOUT. -/
def fbFwdTimeout (s : State) : State :=
  if !s.serverUp then s
  else
    let s := busReady s
    let due := fun (f : Forward) => !f.waking && decide (s.now ≥ f.sentAt + s.obj Obj.FB_FWD_TIMEOUT_MS * tickMs)
    let out := s.bus.forwards.filter due
    let s := s.modBus fun b => { b with forwards := b.forwards.filter fun f => !due f }
    out.foldl (fun s f => endForward .timeout (s.bump Obj.FB_FWD_TIMEOUTS) f) s

def execFbFwdTimeout (t : Nat) (s : State) : Host.Outcome State Fault Refusal := done t s fbFwdTimeout

/-- The row of a forward's target. -/
def targetState (s : State) (f : Forward) : MemberState := s.bus.members[Fin.ofNat 64 f.target].st

/-- One waking forward: sent again once its target is Present, ended when the wait is over. -/
def wakeStep (s : State) (f : Forward) : State :=
  if targetState s f = .present then
    let s := s.modBus fun b => { b with forwards := b.forwards.map fun g => if g = f then { f with waking := false, sentAt := s.now } else g }
    sendInner f.target f.inner f.innerTxn s
  else if s.now ≥ f.sentAt + s.obj Obj.FB_WAKE_WAIT_MS * tickMs then
    endForward .unreachable (s.modBus fun b => { b with forwards := b.forwards.filter fun g => g != f }) f
  else s

/-- R541: forwards to workers that were Asleep. -/
def fbWakeWait (s : State) : State :=
  if !s.serverUp then s
  else
    let s := busReady s
    (s.bus.forwards.filter fun f => f.waking).foldl wakeStep s

def execFbWakeWait (t : Nat) (s : State) : Host.Outcome State Fault Refusal := done t s fbWakeWait

/-- R541: an inner response is relayed to the source of its FORWARD; a late one is discarded. -/
def relayInner (h : Vdp) (body : Bytes) (s : State) : State :=
  match s.bus.forwards.find? fun f => f.target == h.src && f.innerTxn == h.txn with
  | none => s
  | some f =>
    let s := s.modBus fun b => { b with forwards := b.forwards.filter fun g => g != f }
    let (m, s) := restoreInner f.inner h.src h.status body s
    if fits f.req m.length then reply f.route f.req 0x0E .ok m s else reply f.route f.req 0x0E .tooLong [] s

/-- A response other than DISCOVER reaches the manager. -/
def responseIn (h : Vdp) (msg : Bytes) (s : State) : State :=
  if h.dst ≠ s.bus.addr then s
  else
    let (ok, s) := authCheck (reqOf h msg 0) (codedPart h msg) s
    if ok && s.bus.manager then relayInner h (vdpBody h msg) (heardFrom h.src s) else s

/-- INNER_RESPONSE: the message must be a response whose header says what the operand says. -/
def innerWf (rq : Req) (msg : Bytes) : Bool :=
  match vdpHeader msg with
  | none => false
  | some h => h.resp && h.svc != 0x0D && !rq.inband && reqOf h msg rq.waiting == rq && decide (msg.length ≤ 1500)

/-- R541. -/
def innerResponse (msg : Bytes) (s : State) : State :=
  match vdpHeader msg with
  | none => s
  | some h => if s.serverUp then responseIn h msg (frameTaken h.src h.dst (busReady s)) else s

def execInnerResponse (t : Nat) (rq : Req) (msg : Bytes) (s : State) : Host.Outcome State Fault Refusal :=
  doneIf (innerWf rq msg) t s (innerResponse msg)

/-! ### Heartbeats and roles over time (R535, R538-R540) -/

/-- One row 1 s after a heartbeat: a Present worker that has not answered has missed it, and a third miss in a row makes
it Absent; a row in Conflict leaves it the same way (R526, R539). -/
def missRow (s : State) (a : Fin 64) : State :=
  let r := s.bus.members[a]
  if r.answered ∨ (r.st ≠ .present ∧ r.st ≠ .conflict) then s
  else if r.misses + 1 ≥ 3 then
    (modMember a (fun r => { r with st := .absent, misses := 3, answered := true }) s).ev Ev.WORKER_LEFT [a.val, 1]
  else modMember a (fun r => { r with misses := r.misses + 1, answered := true }) s

/-- R539: 1 s after the heartbeat. -/
def heartbeatMiss (s : State) : State :=
  match s.bus.heartbeatAt with
  | none => s
  | some h =>
    if s.serverUp ∧ s.bus.manager ∧ s.now ≥ h + tickS then
      (fins 64).foldl missRow (s.modBus fun b => { b with heartbeatAt := none })
    else s

def execHeartbeatMiss (t : Nat) (s : State) : Host.Outcome State Fault Refusal := done t s heartbeatMiss

/-- R538: the manager's heartbeat, at a whole second of device time. Answers to the one before it are due by now. -/
def heartbeat (s : State) : State :=
  if !s.serverUp || !s.bus.manager || !wholeSecond s then s
  else
    let s := heartbeatMiss (busReady s)
    let s := s.modBus fun b => { b with
      heartbeatAt := some s.now
      members := b.members.map fun r => if r.st = .present ∨ r.st = .conflict then { r with answered := false } else r }
    sendOwn none (s.obj Obj.FB_AUTH_MODE == 1) 0x0D 127 (discoverBytes (.request 0 (time80 s.devTime))) s

def execHeartbeat (t : Nat) (s : State) : Host.Outcome State Fault Refusal := done t s heartbeat

/-- R540: 3 s without a heartbeat from the tracked manager. -/
def managerLost (s : State) : State :=
  match s.bus.tracked with
  | none => s
  | some m =>
    if !s.serverUp ∨ s.bus.manager ∨ s.now < s.bus.heardAt + 3 * tickS then s
    else
      let s := (busReady s).ev Ev.MANAGER_LOST [m]
      let s := s.modBus fun b => { b with tracked := none }
      if s.bus.mgrCapable then takeRole 3 s else s

def execManagerLost (t : Nat) (s : State) : Host.Outcome State Fault Refusal := done t s managerLost

/-- A lower-addressed manager has been heard since the boot (R535). -/
def lowerHeard (b : Bus) : Bool :=
  match b.tracked with
  | some m => decide (m < b.addr)
  | none => false

/-- R535: 3 s after the boot. -/
def managerRoleTimeout (s : State) : State :=
  if s.serverUp && s.bus.mgrCapable && !s.bus.manager && !lowerHeard s.bus && decide (s.now ≥ s.pwr.freshAt + 3 * tickS) then
    takeRole 1 (busReady s)
  else s

def execManagerRoleTimeout (t : Nat) (s : State) : Host.Outcome State Fault Refusal := done t s managerRoleTimeout

/-! ### Frames received (R522, R525, R526, R528) -/

/-- The body of a DISCOVER response (Table 15-5). -/
def parseDiscover (b : Bytes) : Option DiscoverBody :=
  let v := beAt b 0 32
  if b.length ≠ 32 then none
  else some (.response (fld v 255 192) (fld v 191 184) (fld v 183 181) (bitAt v 180) (bitAt v 179) (bitAt v 178)
    (bitAt v 177) (bitAt v 176) (fld v 175 168) (fld v 167 136) (fld v 135 128))

/-- The FCS of a frame agrees (R522). -/
def fcsGood (f : Bytes) : Bool :=
  let d := f.take (f.length - 4)
  f.drop (f.length - 4) == (beBytes 4 (crc32Eth d)).reverse

/-- A DISCOVER response, by R528 and R539. -/
def discoverRespIn (h : Vdp) (msg : Bytes) (s : State) : State :=
  let own := fun (s : State) => match parseDiscover (vdpBody h msg) with
    | none => s
    | some b => discoverIn h.src b s
  if !s.bus.manager then own s
  else
    let s := if h.src = s.bus.addr then own s else s
    let (ok, s) := authCheck (reqOf h msg 0) (codedPart h msg) s
    if !ok ∨ h.src = s.bus.addr then s else own (heardFrom h.src s)

/-- A message taken from the bus. -/
def messageIn (msg : Bytes) (s : State) : State :=
  match vdpHeader msg with
  | none => s.bump Obj.VDP_FORMAT_ERRORS
  | some h =>
    if h.dst ≠ s.bus.addr ∧ (h.dst ≠ 127 ∨ h.svc ≠ 0x0D) then s
    else if h.resp then (if h.svc = 0x0D then discoverRespIn h msg s else responseIn h msg s)
    else serveFrame h msg s
where
  /-- A request, whose code covers the message as received. -/
  serveFrame (h : Vdp) (msg : Bytes) (s : State) : State :=
    let rq := reqOf h msg 0
    let svc := parseSvc h.svc (vdpBody h msg)
    let (ok, s) := authCheck rq (codedPart h msg) s
    if !ok then s
    else
      let s := heardFrom rq.src s
      match svc with
      | some (.event rs) => eventIn rs s
      | _ =>
        if authMissing s rq svc then reply none rq h.svc .auth [] s
        else serveChecked none rq h.svc svc h.length s

/-- A DISCOVER response under this package's address: `discoverIn` logs the conflict with both serial numbers (R526). -/
def showsSerial (s : State) (msg : Bytes) : Bool :=
  match vdpHeader msg with
  | none => false
  | some h => h.resp && h.svc == 0x0D && h.src == s.bus.addr && (parseDiscover (vdpBody h msg)).isSome

/-- R522: a frame received whole. -/
def frameReceived (f : Bytes) (s : State) : State :=
  let s := s.modBus fun b => { b with freeAt := s.now }
  if f.length < 64 ∨ f.length > 1518 then s
  else if !fcsGood f then s.bump Obj.FB_FCS_ERRORS
  else if beAt f 12 2 ≠ s.obj Obj.FB_ETHERTYPE then s
  else
    let dst := f.take 6
    if dst ≠ nodeMac s.bus.addr ∧ dst ≠ busMac 127 then s
    else
      let s := s.bump Obj.FB_FRAMES_RX
      let msg := (f.take (f.length - 4)).drop 14
      let s := if (f.drop 6).take 6 = nodeMac s.bus.addr ∧ !showsSerial s msg then s.ev Ev.ADDR_CONFLICT [s.bus.addr] else s
      messageIn msg s

def execFbFrameReceived (t : Nat) (frame : Bytes) (s : State) : Host.Outcome State Fault Refusal :=
  doneIf (decide (frame.length ≤ 16384)) t s fun s => if s.serverUp then frameReceived frame (busReady s) else s

end Sys2Proof.Machine
end

