-- ==== Sys2Proof/Machine/Dispatch.lean ====
section
/-! DEFINITION. The dispatcher: each command goes to its own meaning. -/
namespace Sys2Proof.Machine

/-- The effect of a command on everything but the queue. -/
def exec (i : Instr) (s : State) : Host.Outcome State Fault Refusal :=
  match i with
  | .innerLinkResetRelease t => Sys2Proof.Machine.execInnerLinkResetRelease t s
  | .prbsCheckEnd t bad0 bad1 => Sys2Proof.Machine.execPrbsCheckEnd t bad0 bad1 s
  | .markerLock t => Sys2Proof.Machine.execMarkerLock t s
  | .innerLinkBringupTimeout t => Sys2Proof.Machine.execInnerLinkBringupTimeout t s
  | .flitReceived t dir payload err => Sys2Proof.Machine.execFlitReceived t dir payload err s
  | .alignmentMarker t dir blocks hdrErrs => Sys2Proof.Machine.execAlignmentMarker t dir blocks hdrErrs s
  | .ilLaneRepaired t dir => Sys2Proof.Machine.execIlLaneRepaired t dir s
  | .rootPllUnlock t die => Sys2Proof.Machine.execRootPllUnlock t die s
  | .oscillatorCalibration t => Sys2Proof.Machine.execOscillatorCalibration t s
  | .psdLow t ch => Sys2Proof.Machine.execPsdLow t ch s
  | .cdrLossOfLock t ch => Sys2Proof.Machine.execCdrLossOfLock t ch s
  | .cdrLock t ch => Sys2Proof.Machine.execCdrLock t ch s
  | .dsRxEnable t ch v => Sys2Proof.Machine.execDsRxEnable t ch v s
  | .dsResync t ch v => Sys2Proof.Machine.execDsResync t ch v s
  | .markMatch t ch pos bits => Sys2Proof.Machine.execMarkMatch t ch pos bits s
  | .markMissing t ch pos => Sys2Proof.Machine.execMarkMissing t ch pos s
  | .qualification t ch pos => Sys2Proof.Machine.execQualification t ch pos s
  | .barExpiry t ch off => Sys2Proof.Machine.execBarExpiry t ch off s
  | .codewordDecoded t ch pos c rx rel => Sys2Proof.Machine.execCodewordDecoded t ch pos c rx rel s
  | .carrierHeader t ch => Sys2Proof.Machine.execCarrierHeader t ch s
  | .actEvaluation t ch => Sys2Proof.Machine.execActEvaluation t ch s
  | .actEnable t ch v => Sys2Proof.Machine.execActEnable t ch v s
  | .profile t ch d => Sys2Proof.Machine.execProfile t ch d s
  | .announceWindow t ch d => Sys2Proof.Machine.execAnnounceWindow t ch d s
  | .assignTerminalId t ch d => Sys2Proof.Machine.execAssignTerminalId t ch d s
  | .rangingTime t ch d => Sys2Proof.Machine.execRangingTime t ch d s
  | .registrationNonce t ch d => Sys2Proof.Machine.execRegistrationNonce t ch d s
  | .derivationComplete t ch => Sys2Proof.Machine.execDerivationComplete t ch s
  | .keyControl t ch d => Sys2Proof.Machine.execKeyControl t ch d s
  | .unwrapComplete t => Sys2Proof.Machine.execUnwrapComplete t s
  | .stagedPartTimeout t ch => Sys2Proof.Machine.execStagedPartTimeout t ch s
  | .disable t ch d => Sys2Proof.Machine.execDisable t ch d s
  | .enable t ch d => Sys2Proof.Machine.execEnable t ch d s
  | .deactivate t ch d => Sys2Proof.Machine.execDeactivate t ch d s
  | .sleepAllow t ch d => Sys2Proof.Machine.execSleepAllow t ch d s
  | .timeOfDay t ch d => Sys2Proof.Machine.execTimeOfDay t ch d s
  | .adjustTransmit t ch d => Sys2Proof.Machine.execAdjustTransmit t ch d s
  | .optWriteComplete t ch sdaLow acked => Sys2Proof.Machine.execOptWriteComplete t ch sdaLow acked s
  | .eqdApply t ch => Sys2Proof.Machine.execEqdApply t ch s
  | .channelHandover t ch d => Sys2Proof.Machine.execChannelHandover t ch d s
  | .handoverFrame t ch => Sys2Proof.Machine.execHandoverFrame t ch s
  | .bondingControl t ch d => Sys2Proof.Machine.execBondingControl t ch d s
  | .acknowledge t ch d => Sys2Proof.Machine.execAcknowledge t ch d s
  | .tAnnounce t ch => Sys2Proof.Machine.execTAnnounce t ch s
  | .tRange t ch => Sys2Proof.Machine.execTRange t ch s
  | .tLost t ch => Sys2Proof.Machine.execTLost t ch s
  | .upstreamResend t ch => Sys2Proof.Machine.execUpstreamResend t ch s
  | .duplicateWindow t ch => Sys2Proof.Machine.execDuplicateWindow t ch s
  | .renewalTimeout t ch => Sys2Proof.Machine.execRenewalTimeout t ch s
  | .actSilenceAck t ch v => Sys2Proof.Machine.execActSilenceAck t ch v s
  | .bandwidthMap t ch => Sys2Proof.Machine.execBandwidthMap t ch s
  | .seal t ch => Sys2Proof.Machine.execSeal t ch s
  | .fill t => Sys2Proof.Machine.execFill t s
  | .burstStart t ch => Sys2Proof.Machine.execBurstStart t ch s
  | .burstEnd t ch => Sys2Proof.Machine.execBurstEnd t ch s
  | .guardTrip t ch => Sys2Proof.Machine.execGuardTrip t ch s
  | .guardReleased t ch => Sys2Proof.Machine.execGuardReleased t ch s
  | .bondEnable t v => Sys2Proof.Machine.execBondEnable t v s
  | .bucketMapRebuild t g => Sys2Proof.Machine.execBucketMapRebuild t g s
  | .presentFrame t => Sys2Proof.Machine.execPresentFrame t s
  | .reorderTimeout t => Sys2Proof.Machine.execReorderTimeout t s
  | .modeChange t g => Sys2Proof.Machine.execModeChange t g s
  | .windowComplete t a => Sys2Proof.Machine.execWindowComplete t a s
  | .contextAssign t region => Sys2Proof.Machine.execContextAssign t region s
  | .ternaryResult t fid => Sys2Proof.Machine.execTernaryResult t fid s
  | .emLookupResult t fid => Sys2Proof.Machine.execEmLookupResult t fid s
  | .programEnd t fid info => Sys2Proof.Machine.execProgramEnd t fid info s
  | .lastByte t fid rest asmOk => Sys2Proof.Machine.execLastByte t fid rest asmOk s
  | .oversize t fid rest => Sys2Proof.Machine.execOversize t fid rest s
  | .fcsVerdict t fid good => Sys2Proof.Machine.execFcsVerdict t fid good s
  | .tagVerdict t ch => Sys2Proof.Machine.execTagVerdict t ch s
  | .ctxTimeout t fid => Sys2Proof.Machine.execCtxTimeout t fid s
  | .ctxProgramLimit t fid => Sys2Proof.Machine.execCtxProgramLimit t fid s
  | .commit t src => Sys2Proof.Machine.execCommit t src s
  | .cutThroughStart t fid arrived => Sys2Proof.Machine.execCutThroughStart t fid arrived s
  | .ruleSwap t v => Sys2Proof.Machine.execRuleSwap t v s
  | .ruleDrained t => Sys2Proof.Machine.execRuleDrained t s
  | .emAgeing t => Sys2Proof.Machine.execEmAgeing t s
  | .hopAllocation t pool ext => Sys2Proof.Machine.execHopAllocation t pool ext s
  | .hopFree t handle owner requester => Sys2Proof.Machine.execHopFree t handle owner requester s
  | .handOver t handle cur new requester => Sys2Proof.Machine.execHandOver t handle cur new requester s
  | .spillCopyComplete t => Sys2Proof.Machine.execSpillCopyComplete t s
  | .promotion t fid => Sys2Proof.Machine.execPromotion t fid s
  | .promotionCopyComplete t fid => Sys2Proof.Machine.execPromotionCopyComplete t fid s
  | .hopListRebuilt t list => Sys2Proof.Machine.execHopListRebuilt t list s
  | .memEccUncorrectable t mem addr content => Sys2Proof.Machine.execMemEccUncorrectable t mem addr content s
  | .memEccCorrected t mem addr => Sys2Proof.Machine.execMemEccCorrected t mem addr s
  | .arbWindow t inst => Sys2Proof.Machine.execArbWindow t inst s
  | .arbBrake t inst v => Sys2Proof.Machine.execArbBrake t inst v s
  | .arbDrained t inst => Sys2Proof.Machine.execArbDrained t inst s
  | .portSelect t p => Sys2Proof.Machine.execPortSelect t p s
  | .gclCommit t p v => Sys2Proof.Machine.execGclCommit t p v s
  | .gclChanged t p => Sys2Proof.Machine.execGclChanged t p s
  | .gateEntry t p => Sys2Proof.Machine.execGateEntry t p s
  | .depthSample t => Sys2Proof.Machine.execDepthSample t s
  | .macEnable t p v => Sys2Proof.Machine.execMacEnable t p v s
  | .laneSignalLoss t k => Sys2Proof.Machine.execLaneSignalLoss t k s
  | .laneLocked t k calRx calTx => Sys2Proof.Machine.execLaneLocked t k calRx calTx s
  | .pcsAligned t p remoteFault report => Sys2Proof.Machine.execPcsAligned t p remoteFault report s
  | .alignmentLost t p cause report => Sys2Proof.Machine.execAlignmentLost t p cause report s
  | .remoteFault t p => Sys2Proof.Machine.execRemoteFault t p s
  | .alignmentTimeout t p => Sys2Proof.Machine.execAlignmentTimeout t p s
  | .txUnderrun t p => Sys2Proof.Machine.execTxUnderrun t p s
  | .frameTxEnd t p => Sys2Proof.Machine.execFrameTxEnd t p s
  | .macCtStartInit t p v => Sys2Proof.Machine.execMacCtStartInit t p v s
  | .macCtStartMin t p v => Sys2Proof.Machine.execMacCtStartMin t p v s
  | .macCtStartMax t p v => Sys2Proof.Machine.execMacCtStartMax t p v s
  | .preemptVerify t p good => Sys2Proof.Machine.execPreemptVerify t p good s
  | .macPreemptReverify t p v => Sys2Proof.Machine.execMacPreemptReverify t p v s
  | .hlTxEq t k v => Sys2Proof.Machine.execHlTxEq t k v s
  | .hlLoopback t k v => Sys2Proof.Machine.execHlLoopback t k v s
  | .prbsLock t row rx => Sys2Proof.Machine.execPrbsLock t row rx s
  | .clientSignalClear t k => Sys2Proof.Machine.execClientSignalClear t k s
  | .blockLock t k gained => Sys2Proof.Machine.execBlockLock t k gained s
  | .periodBoundary t c count data => Sys2Proof.Machine.execPeriodBoundary t c count data s
  | .container t c => Sys2Proof.Machine.execContainer t c s
  | .skewLimit t c => Sys2Proof.Machine.execSkewLimit t c s
  | .playoutSlip t c => Sys2Proof.Machine.execPlayoutSlip t c s
  | .pmSecond t => Sys2Proof.Machine.execPmSecond t s
  | .cliPmBin t => Sys2Proof.Machine.execCliPmBin t s
  | .cliPmClear t v => Sys2Proof.Machine.execCliPmClear t v s
  | .compatLatch t => Sys2Proof.Machine.execCompatLatch t s
  | .sourceTimeout t => Sys2Proof.Machine.execSourceTimeout t s
  | .timeHoldover t x => Sys2Proof.Machine.execTimeHoldover t x s
  | .timeSet t sec ns => Sys2Proof.Machine.execTimeSet t sec ns s
  | .timeSelect t v => Sys2Proof.Machine.execTimeSelect t v s
  | .timeDomSource t x v => Sys2Proof.Machine.execTimeDomSource t x v s
  | .ppsOut t => Sys2Proof.Machine.execPpsOut t s
  | .ppsIn t => Sys2Proof.Machine.execPpsIn t s
  | .ppsInFault t => Sys2Proof.Machine.execPpsInFault t s
  | .tlinkMessageSend t => Sys2Proof.Machine.execTlinkMessageSend t s
  | .tlinkMessage t highs => Sys2Proof.Machine.execTlinkMessage t highs s
  | .tlinkFault t => Sys2Proof.Machine.execTlinkFault t s
  | .tsPop t => Sys2Proof.Machine.execTsPop t s
  | .ciphSlotError t slot => Sys2Proof.Machine.execCiphSlotError t slot s
  | .ciphSecretBlob t bytes => Sys2Proof.Machine.execCiphSecretBlob t bytes s
  | .ciphArrayKeyBlob t bytes => Sys2Proof.Machine.execCiphArrayKeyBlob t bytes s
  | .ciphCaptureBlob t bytes => Sys2Proof.Machine.execCiphCaptureBlob t bytes s
  | .blobUnwrapComplete t which => Sys2Proof.Machine.execBlobUnwrapComplete t which s
  | .ciphSecretSeal t bytes => Sys2Proof.Machine.execCiphSecretSeal t bytes s
  | .ciphUnlockFlow t v => Sys2Proof.Machine.execCiphUnlockFlow t v s
  | .gcmSeal t slot iv aad data => Sys2Proof.Machine.execGcmSeal t slot iv aad data s
  | .gcmOpen t slot iv aad data tag => Sys2Proof.Machine.execGcmOpen t slot iv aad data tag s
  | .cmacGenerate t slot data => Sys2Proof.Machine.execCmacGenerate t slot data s
  | .cmacVerify t slot data tag => Sys2Proof.Machine.execCmacVerify t slot data tag s
  | .jobStepComplete t => Sys2Proof.Machine.execJobStepComplete t s
  | .contextExport t id => Sys2Proof.Machine.execContextExport t id s
  | .contextRestore t bytes => Sys2Proof.Machine.execContextRestore t bytes s
  | .pwrRequest t v => Sys2Proof.Machine.execPwrRequest t v s
  | .entryStepComplete t => Sys2Proof.Machine.execEntryStepComplete t s
  | .drainLimit t => Sys2Proof.Machine.execDrainLimit t s
  | .wakeOrderReady t => Sys2Proof.Machine.execWakeOrderReady t s
  | .readyTimeout t => Sys2Proof.Machine.execReadyTimeout t s
  | .wakeN t => Sys2Proof.Machine.execWakeN t s
  | .fieldBusCarrier t => Sys2Proof.Machine.execFieldBusCarrier t s
  | .alwaysOnTimer t => Sys2Proof.Machine.execAlwaysOnTimer t s
  | .hostLaneSignalDetect t k => Sys2Proof.Machine.execHostLaneSignalDetect t k s
  | .staggerSlot t => Sys2Proof.Machine.execStaggerSlot t s
  | .heQuiet t => Sys2Proof.Machine.execHeQuiet t s
  | .pwrIdleEntry t => Sys2Proof.Machine.execPwrIdleEntry t s
  | .governorWindow t busy => Sys2Proof.Machine.execGovernorWindow t busy s
  | .governorHoldEnd t => Sys2Proof.Machine.execGovernorHoldEnd t s
  | .clusterReady t c => Sys2Proof.Machine.execClusterReady t c s
  | .clusterGated t c => Sys2Proof.Machine.execClusterGated t c s
  | .govMoved t => Sys2Proof.Machine.execGovMoved t s
  | .govMin t g v => Sys2Proof.Machine.execGovMin t g v s
  | .govMax t g v => Sys2Proof.Machine.execGovMax t g v s
  | .resetN t low addr mgrN bootSel => Sys2Proof.Machine.execResetN t low addr mgrN bootSel s
  | .vaonRise t addr mgrN bootSel => Sys2Proof.Machine.execVaonRise t addr mgrN bootSel s
  | .startComplete t => Sys2Proof.Machine.execStartComplete t s
  | .initWatchdog t => Sys2Proof.Machine.execInitWatchdog t s
  | .loaderTimeout t => Sys2Proof.Machine.execLoaderTimeout t s
  | .runWatchdog t => Sys2Proof.Machine.execRunWatchdog t s
  | .bootRestart t v => Sys2Proof.Machine.execBootRestart t v s
  | .bootRetry t v => Sys2Proof.Machine.execBootRetry t v s
  | .pwrGoodLost t g => Sys2Proof.Machine.execPwrGoodLost t g s
  | .clockLost t => Sys2Proof.Machine.execClockLost t s
  | .tempSample t readings => Sys2Proof.Machine.execTempSample t readings s
  | .railSample t mv => Sys2Proof.Machine.execRailSample t mv s
  | .lifeUpdate t => Sys2Proof.Machine.execLifeUpdate t s
  | .fbTransmit t => Sys2Proof.Machine.execFbTransmit t s
  | .fbCollision t half => Sys2Proof.Machine.execFbCollision t half s
  | .fbBackoff t => Sys2Proof.Machine.execFbBackoff t s
  | .read t rq idx sub => Sys2Proof.Machine.execRead t rq idx sub s
  | .write t rq idx sub value => Sys2Proof.Machine.execWrite t rq idx sub value s
  | .readMulti t rq items => Sys2Proof.Machine.execReadMulti t rq items s
  | .tableRead t rq idx first count => Sys2Proof.Machine.execTableRead t rq idx first count s
  | .tableWrite t rq idx first count rows => Sys2Proof.Machine.execTableWrite t rq idx first count rows s
  | .segBegin t rq idx sub dir total => Sys2Proof.Machine.execSegBegin t rq idx sub dir total s
  | .segData t rq handle seg data => Sys2Proof.Machine.execSegData t rq handle seg data s
  | .segEnd t rq handle crc => Sys2Proof.Machine.execSegEnd t rq handle crc s
  | .transferClose t => Sys2Proof.Machine.execTransferClose t s
  | .subscribe t rq first last action => Sys2Proof.Machine.execSubscribe t rq first last action s
  | .subscriptionLapse t => Sys2Proof.Machine.execSubscriptionLapse t s
  | .event t rq records => Sys2Proof.Machine.execEvent t rq records s
  | .eventMerge t => Sys2Proof.Machine.execEventMerge t s
  | .store t rq => Sys2Proof.Machine.execStore t rq s
  | .storeWriteComplete t good => Sys2Proof.Machine.execStoreWriteComplete t good s
  | .restore t rq mode => Sys2Proof.Machine.execRestore t rq mode s
  | .discover t rq body => Sys2Proof.Machine.execDiscover t rq body s
  | .forward t rq target inner => Sys2Proof.Machine.execForward t rq target inner s
  | .fbFwdTimeout t => Sys2Proof.Machine.execFbFwdTimeout t s
  | .fbWakeWait t => Sys2Proof.Machine.execFbWakeWait t s
  | .heartbeat t => Sys2Proof.Machine.execHeartbeat t s
  | .heartbeatMiss t => Sys2Proof.Machine.execHeartbeatMiss t s
  | .managerLost t => Sys2Proof.Machine.execManagerLost t s
  | .managerRoleTimeout t => Sys2Proof.Machine.execManagerRoleTimeout t s
  | .fbAuthMode t v => Sys2Proof.Machine.execFbAuthMode t v s
  | .devAlertCause t => Sys2Proof.Machine.execDevAlertCause t s
  | .capClear t v => Sys2Proof.Machine.execCapClear t v s
  | .trstN t low => Sys2Proof.Machine.execTrstN t low s
  | .bypass t => Sys2Proof.Machine.execBypass t s
  | .idcode t => Sys2Proof.Machine.execIdcode t s
  | .samplePreload t pins preload => Sys2Proof.Machine.execSamplePreload t pins preload s
  | .extest t => Sys2Proof.Machine.execExtest t s
  | .clamp t => Sys2Proof.Machine.execClamp t s
  | .highz t => Sys2Proof.Machine.execHighz t s
  | .bootStepComplete t outcome => Sys2Proof.Machine.execBootStepComplete t outcome s
  | .vaonLoss t => Sys2Proof.Machine.execVaonLoss t s
  | .fbFrameReceived t frame => Sys2Proof.Machine.execFbFrameReceived t frame s
  | .innerResponse t rq msg => Sys2Proof.Machine.execInnerResponse t rq msg s
  | .ptpSync t => Sys2Proof.Machine.execPtpSync t s
  | .ptpAnnounce t => Sys2Proof.Machine.execPtpAnnounce t s
  | .arbDecision t inst reqs => Sys2Proof.Machine.execArbDecision t inst reqs s

end Sys2Proof.Machine
end

