-- ==== Sys2Proof/WellFormed.lean ====
section
/-! DEFINITION. Which commands a wire, a frame or a service can carry: operand lengths and field widths (Tables 03-4, 15-2 to 15-5, 16-6). -/
namespace Sys2Proof
open Sys2Proof.Machine

/-- The operands of a command fit their fields. A command that is not well formed faults; no hardware event is one. -/
def Instr.wf : Instr → Bool
  | .innerLinkResetRelease .. => true
  | .prbsCheckEnd .. => true
  | .markerLock .. => true
  | .innerLinkBringupTimeout .. => true
  | .flitReceived _ _ payload err => flitWf payload err
  | .alignmentMarker _ _ blocks hdrErrs => blocks.length == 40 && hdrErrs.length == 40
  | .ilLaneRepaired .. => true
  | .rootPllUnlock .. => true
  | .oscillatorCalibration .. => true
  | .psdLow .. => true
  | .cdrLossOfLock .. => true
  | .cdrLock .. => true
  | .dsRxEnable .. => true
  | .dsResync .. => true
  | .markMatch .. => true
  | .markMissing .. => true
  | .qualification .. => true
  | .barExpiry .. => true
  | .codewordDecoded _ _ _ c rx rel => codewordWf c rx rel
  | .carrierHeader .. => true
  | .actEvaluation .. => true
  | .actEnable .. => true
  | .profile _ _ d => dirWf d
  | .announceWindow _ _ d => dirWf d
  | .assignTerminalId _ _ d => dirWf d
  | .rangingTime _ _ d => dirWf d
  | .registrationNonce _ _ d => dirWf d
  | .derivationComplete .. => true
  | .keyControl _ _ d => dirWf d
  | .unwrapComplete .. => true
  | .stagedPartTimeout .. => true
  | .disable _ _ d => dirWf d
  | .enable _ _ d => dirWf d
  | .deactivate _ _ d => dirWf d
  | .sleepAllow _ _ d => dirWf d
  | .timeOfDay _ _ d => dirWf d
  | .adjustTransmit _ _ d => dirWf d
  | .optWriteComplete .. => true
  | .eqdApply .. => true
  | .channelHandover _ _ d => dirWf d
  | .handoverFrame .. => true
  | .bondingControl _ _ d => dirWf d
  | .acknowledge _ _ d => dirWf d
  | .tAnnounce .. => true
  | .tRange .. => true
  | .tLost .. => true
  | .upstreamResend .. => true
  | .duplicateWindow .. => true
  | .renewalTimeout .. => true
  | .actSilenceAck .. => true
  | .bandwidthMap .. => true
  | .seal .. => true
  | .fill .. => true
  | .burstStart .. => true
  | .burstEnd .. => true
  | .guardTrip .. => true
  | .guardReleased .. => true
  | .bondEnable .. => true
  | .bucketMapRebuild .. => true
  | .presentFrame .. => true
  | .reorderTimeout .. => true
  | .modeChange .. => true
  | .windowComplete _ a => arrivalWf a
  | .contextAssign .. => true
  | .ternaryResult .. => true
  | .emLookupResult .. => true
  | .programEnd .. => true
  | .lastByte _ _ rest _ => decide (rest.length ≤ 16000)
  | .oversize _ _ rest => decide (rest.length ≤ 16000)
  | .fcsVerdict .. => true
  | .tagVerdict .. => true
  | .ctxTimeout .. => true
  | .ctxProgramLimit .. => true
  | .commit .. => true
  | .cutThroughStart .. => true
  | .ruleSwap .. => true
  | .ruleDrained .. => true
  | .emAgeing .. => true
  | .hopAllocation _ _ ext => ext.all fun e => decide (e.1 < 10) && ownerUsed e.2
  | .hopFree _ handle owner requester => decide (handle < 2 ^ 24) && decide (owner < 1024) && decide (requester < 16)
  | .handOver _ handle cur new requester => decide (handle < 2 ^ 24) && decide (cur < 1024) && decide (new < 1024) && decide (requester < 16)
  | .spillCopyComplete .. => true
  | .promotion .. => true
  | .promotionCopyComplete .. => true
  | .hopListRebuilt .. => true
  | .memEccUncorrectable _ mem addr content => decide (mem ≤ 8) && decide (addr < 2 ^ 64) && contentWf content
  | .memEccCorrected _ mem addr => decide (mem ≤ 8) && decide (addr < 2 ^ 64)
  | .arbWindow .. => true
  | .arbBrake .. => true
  | .arbDrained .. => true
  | .portSelect .. => true
  | .gclCommit .. => true
  | .gclChanged .. => true
  | .gateEntry .. => true
  | .depthSample .. => true
  | .macEnable .. => true
  | .laneSignalLoss .. => true
  | .laneLocked _ _ calRx calTx => decide (calRx < 2 ^ 32) && decide (calTx < 2 ^ 32)
  | .pcsAligned _ _ _ report => reportWf report
  | .alignmentLost _ _ cause report => decide (cause < 4) && reportWf report
  | .remoteFault .. => true
  | .alignmentTimeout .. => true
  | .txUnderrun .. => true
  | .frameTxEnd .. => true
  | .macCtStartInit .. => true
  | .macCtStartMin .. => true
  | .macCtStartMax .. => true
  | .preemptVerify .. => true
  | .macPreemptReverify .. => true
  | .hlTxEq .. => true
  | .hlLoopback .. => true
  | .prbsLock .. => true
  | .clientSignalClear .. => true
  | .blockLock .. => true
  | .periodBoundary _ _ count data => decide (data.length = (count + 7) / 8)
  | .container .. => true
  | .skewLimit .. => true
  | .playoutSlip .. => true
  | .pmSecond .. => true
  | .cliPmBin .. => true
  | .cliPmClear .. => true
  | .compatLatch .. => true
  | .sourceTimeout .. => true
  | .timeHoldover .. => true
  | .timeSet .. => true
  | .timeSelect .. => true
  | .timeDomSource .. => true
  | .ppsOut .. => true
  | .ppsIn .. => true
  | .ppsInFault .. => true
  | .tlinkMessageSend .. => true
  | .tlinkMessage _ highs => decide (highs.length = 129)
  | .tlinkFault .. => true
  | .tsPop .. => true
  | .ciphSlotError .. => true
  | .ciphSecretBlob .. => true
  | .ciphArrayKeyBlob .. => true
  | .ciphCaptureBlob .. => true
  | .blobUnwrapComplete .. => true
  | .ciphSecretSeal .. => true
  | .ciphUnlockFlow .. => true
  | .gcmSeal _ _ iv _ _ => iv.length == 12
  | .gcmOpen _ _ iv _ _ tag => iv.length == 12 && tag.length == 16
  | .cmacGenerate .. => true
  | .cmacVerify _ _ _ tag => tag.length == 8 || tag.length == 16
  | .jobStepComplete .. => true
  | .contextExport .. => true
  | .contextRestore _ bytes => bytes.length == 104
  | .pwrRequest .. => true
  | .entryStepComplete .. => true
  | .drainLimit .. => true
  | .wakeOrderReady .. => true
  | .readyTimeout .. => true
  | .wakeN .. => true
  | .fieldBusCarrier .. => true
  | .alwaysOnTimer .. => true
  | .hostLaneSignalDetect .. => true
  | .staggerSlot .. => true
  | .heQuiet .. => true
  | .pwrIdleEntry .. => true
  | .governorWindow _ busy => decide (busy.length = 8) && busy.all fun b => decide (b ≤ 8 * 64 * 15000)
  | .governorHoldEnd .. => true
  | .clusterReady .. => true
  | .clusterGated .. => true
  | .govMoved .. => true
  | .govMin .. => true
  | .govMax .. => true
  | .resetN .. => true
  | .vaonRise .. => true
  | .startComplete .. => true
  | .initWatchdog .. => true
  | .loaderTimeout .. => true
  | .runWatchdog .. => true
  | .bootRestart .. => true
  | .bootRetry .. => true
  | .pwrGoodLost .. => true
  | .clockLost .. => true
  | .tempSample _ readings => decide (readings.length = 13) && readings.all fun r => decide (-32768 ≤ r) && decide (r < 32768)
  | .railSample _ mv => decide (mv.length = 8) && mv.all fun v => decide (v < 65536)
  | .lifeUpdate .. => true
  | .fbTransmit .. => true
  | .fbCollision .. => true
  | .fbBackoff .. => true
  | .read _ rq idx sub => reqWf rq && decide (idx < 65536) && decide (sub < 256)
  | .write _ rq idx sub value => reqWf rq && decide (idx < 65536) && decide (sub < 256) && decide (value.length ≤ 9000)
  | .readMulti _ rq items => reqWf rq && decide (items.length < 256) && items.all fun i => decide (i.1 < 65536) && decide (i.2 < 256)
  | .tableRead _ rq idx first count => reqWf rq && decide (idx < 65536) && decide (first < 2 ^ 32) && decide (count < 65536)
  | .tableWrite _ rq idx first count rows => reqWf rq && decide (idx < 65536) && decide (first < 2 ^ 32) && decide (count < 65536) && decide (rows.length ≤ 9000)
  | .segBegin _ rq idx sub dir total => reqWf rq && decide (idx < 65536) && decide (sub < 256) && decide (dir < 256) && decide (total < 2 ^ 32)
  | .segData _ rq handle seg data => reqWf rq && decide (handle < 65536) && decide (seg < 2 ^ 32) && decide (data.length ≤ 9000)
  | .segEnd _ rq handle crc => reqWf rq && decide (handle < 65536) && decide (crc < 2 ^ 32)
  | .transferClose .. => true
  | .subscribe _ rq first last action => reqWf rq && decide (first < 65536) && decide (last < 65536) && decide (action < 256)
  | .subscriptionLapse .. => true
  | .event _ rq records => reqWf rq && decide (records.length < 256) && records.all fun r => r.length == 32
  | .eventMerge .. => true
  | .store _ rq => reqWf rq
  | .storeWriteComplete .. => true
  | .restore _ rq mode => reqWf rq && decide (mode < 256)
  | .discover _ rq _ => reqWf rq
  | .forward _ rq target inner => reqWf rq && decide (target < 256) && decide (inner.length ≤ 9000)
  | .fbFwdTimeout .. => true
  | .fbWakeWait .. => true
  | .heartbeat .. => true
  | .heartbeatMiss .. => true
  | .managerLost .. => true
  | .managerRoleTimeout .. => true
  | .fbAuthMode .. => true
  | .devAlertCause .. => true
  | .capClear .. => true
  | .trstN .. => true
  | .bypass .. => true
  | .idcode .. => true
  | .samplePreload .. => true
  | .extest .. => true
  | .clamp .. => true
  | .highz .. => true
  | .bootStepComplete _ outcome => outcomeWf outcome
  | .vaonLoss .. => true
  | .fbFrameReceived _ frame => decide (frame.length ≤ 16384)
  | .innerResponse _ rq msg => innerWf rq msg
  | .ptpSync .. => true
  | .ptpAnnounce .. => true
  | .arbDecision .. => true

end Sys2Proof
end

