-- ==== Sys2Proof/Safety.lean ====
section
/-! DEFINITION. What statements mean by a safe state: stores in their canonical form and a test access port that is held in reset while TRST_N is low. -/
namespace Sys2Proof.Machine

/-- The two sparse stores of the dictionary are in canonical form: equal contents are equal data. -/
def State.storesWf (s : State) : Bool := stWf dictDflt s.dict && stWf tabDflt s.tab

/-- TRST_N low holds the TAP in Test-Logic-Reset, which selects IDCODE (R597). -/
def State.tapOk (s : State) : Bool := !s.jtag.held || s.jtag.instr == .idcode

/-- Every command in the queue is well formed. -/
def State.queueWf (s : State) : Bool := s.pending.all fun c => c.wf

/-- The invariant of every step from a well-formed queue. -/
abbrev State.Inv (s : State) : Prop := s.tapOk = true ∧ s.queueWf = true

/-! ### What a statement lists as unchanged -/

/-- The counters that the logging of an event may move (R570, R573). -/
def logObjs : List (Nat × Nat) :=
  [(Obj.EVT_RECORDS, 0), (Obj.EVT_OVERWRITTEN, 0), (Obj.EVT_MASKED, 0)]

/-- Every object but the listed ones reads in `u` as in `s`. -/
def State.objsBut (s u : State) (l : List (Nat × Nat)) : Prop :=
  ∀ i j : Nat, j < 256 → (i, j) ∉ l → u.obj i j = s.obj i j

/-- Every table row but the listed ones reads in `u` as in `s`. -/
def State.rowsBut (s u : State) (l : List (Nat × Nat)) : Prop :=
  ∀ tb r : Nat, 0x6000 ≤ tb → r < 2 ^ 24 → (tb, r) ∉ l → u.row tb r = s.row tb r

/-- An object has counted `n` more, up to its limit (R111). -/
def State.counted (s u : State) (idx sub n : Nat) : Prop := u.obj idx sub = min (counterMax idx) (s.obj idx sub + n)

/-- Every row of every table but the listed ones reads in `u` as in `s`. -/
def State.tabsBut (s u : State) (l : List Nat) : Prop :=
  ∀ tb r : Nat, 0x6000 ≤ tb → r < 2 ^ 24 → tb ∉ l → u.row tb r = s.row tb r

/-- The objects that frees and hand-overs of buffers may move (R315, R316). -/
def hopObjs : List (Nat × Nat) :=
  [(Obj.HOP_DOUBLE_FREE, 0), (Obj.HOP_FOREIGN_FREE, 0)] ++ (List.range 5).map fun p => (Obj.HOP_POOL_MIN_FREE, p + 1)

/-- The objects that a move of a frame between owners may move (R317). -/
def moveObjs : List (Nat × Nat) := (Obj.HOP_BAD_HANDOVERS, 0) :: hopObjs

/-- U64 word `w` of a counter row of `n` words has counted `k` more, and the row's other words are as before (R111). -/
def State.rowCounted (s u : State) (tb r n w k : Nat) : Prop :=
  u.row tb r = setFld (s.row tb r) (64 * (n - 1 - w) + 63) (64 * (n - 1 - w))
    (min (2 ^ 64 - 1) (fld (s.row tb r) (64 * (n - 1 - w) + 63) (64 * (n - 1 - w)) + k))

/-- No trigger that outranks place `rank` of Table 10-5 waits for a port in the tick that runs (R369). -/
abbrev State.leads (s : State) (t : Nat) (p : Fin 8) (rank : Nat) : Prop :=
  (s.pending.any fun c => outranks (s.advance t) p rank c) = false

/-- What a report of the PCS adds to a word of `PCS_COUNTERS`: error blocks, and with a FEC its codewords and symbols
(Table 10-10). -/
def reportWord (r : PcsReport) (fec w : Nat) : Nat :=
  if w = 7 then r.errorBlocks
  else if fec = 0 then 0
  else if w = 0 then r.codewords else if w = 1 then r.corrected else if w = 2 then r.uncorrectable else if w = 3 then r.symbols else 0

/-- Each word `w` of a row of `n` 64-bit counters has counted `k w` more, up to its limit. -/
def State.wordsCounted (s u : State) (tb r n : Nat) (k : Nat → Nat) : Prop :=
  ∀ w : Nat, w < n → fld (u.row tb r) (64 * (n - 1 - w) + 63) (64 * (n - 1 - w)) =
    min (2 ^ 64 - 1) (fld (s.row tb r) (64 * (n - 1 - w) + 63) (64 * (n - 1 - w)) + k w)

/-- The row of a port in `PCS_COUNTERS` has counted a report, and one more in word `loss`. -/
abbrev State.pcsCounted (s u : State) (p : Fin 8) (r : PcsReport) (loss : Option Nat) : Prop :=
  s.wordsCounted u Obj.PCS_COUNTERS p.val 10 fun w => reportWord r (s.obj Obj.MAC_FEC_MODE (sub p)) w + if loss = some w then 1 else 0

/-- The frames with other numbers are as before. -/
abbrev State.otherFrames (s u : State) (fid : Nat) : Prop :=
  (u.frames.filter fun x => x.fid ≠ fid) = s.frames.filter fun x => x.fid ≠ fid

/-- The buffers with other handles are as before. -/
abbrev State.otherBufs (s u : State) (h : Nat) : Prop :=
  (u.hop.state.filter fun e => e.1 ≠ h) = s.hop.state.filter fun e => e.1 ≠ h

/-- A frame of an existing source, ingress port and cluster, whose egress has not begun and that holds no tentative
policer debit. -/
abbrev Frame.plain (f : Frame) : Prop :=
  f.src < 80 ∧ f.inPort ≤ 12 ∧ f.cluster < 64 ∧ f.ct = none ∧ f.debit = none

/-- The last undo was not of this frame, so no cause decided in the same cycle takes its place (R284). -/
abbrev State.notUndone (s : State) (i : Nat) : Prop := (s.undoneNow.all fun e => e.1.fid != i) = true

/-- The objects that the end of a pass may move, for an ingress port. -/
def passObjs (port : Nat) : List (Nat × Nat) :=
  logObjs ++ hopObjs ++ [(Obj.PARSE_TRUNCATED_COUNT, port + 1), (Obj.LENGTH_CONFLICTS, port + 1),
    (Obj.LENGTH_CONFLICT_DROPS, port + 1), (Obj.RULE_MISSES, port + 1)]

/-- A pass has been undone for a cause: counted for its source and under its cause, its buffers given back, its frame removed
once nothing more of it is to come, every other frame as before, and nothing changed but counters, buffers and the log
(R282, R283, R287, R295). -/
def State.undone (s u : State) (i : Nat) (f : Frame) (cause : Nat) : Prop :=
  ((u.frame? i).map fun x => (x.stage, x.handles)) = (if frameOver f then none else some (.orphan, [])) ∧
  (u.undoneNow.map fun e => (e.1.fid, e.2.2)) = some (i, cause) ∧ s.otherFrames u i ∧ s.rowCounted u Obj.CTX_SOURCE_COUNTERS f.src 8 2 1 ∧
  s.rowCounted u Obj.CTX_UNDO_COUNTERS f.src 9 (cause - 1) 1 ∧ s.objsBut u (passObjs f.inPort) ∧
  s.tabsBut u [Obj.CTX_SOURCE_COUNTERS, Obj.CTX_UNDO_COUNTERS, Obj.ENG_CLUSTER_COUNTERS, Obj.MAC_COUNTERS] ∧
  u = { s with
    now := u.now, dict := u.dict, tab := u.tab, frames := u.frames, hop := u.hop, lastUndo := u.lastUndo, undoneNow := u.undoneNow, log := u.log
    island := u.island, pwr := { s.pwr with idleSince := u.now } }

/-- The objects that a change of a channel's activation state may move. -/
def actObjs (ch : Fin 4) : List (Nat × Nat) :=
  logObjs ++ hopObjs ++
    [(Obj.ACT_INTERMITTENT_ENTRIES, sub ch), (Obj.CIPH_KEYS_ERASED, 0), (Obj.US_FRAGMENTS_ABANDONED, sub ch)]

/-- What a change of a channel's activation state leaves: every other channel's activation and tailrace, every table but
the group counters, the time domains, and every part that the list does not name. -/
def State.actReach (s u : State) (ch : Fin 4) : Prop :=
  u = { s with
    now := u.now, draws := u.draws, dict := u.dict, tab := u.tab, time := u.time, ciph := u.ciph, pwr := u.pwr
    log := u.log, act := u.act, us := u.us, bond := u.bond, frames := u.frames, hop := u.hop, island := u.island } ∧
  u.time.doms = s.time.doms ∧ (∀ c : Fin 4, c ≠ ch → u.act[c] = s.act[c] ∧ u.us[c] = s.us[c]) ∧
  s.tabsBut u [Obj.BOND_GROUP_COUNTERS]

/-! ### Restarts -/

/-- What a restart leaves (R512-R514): its cause in the always-on island, whose kept events and safety records stay, the
boot flash but for a copy under way, the sensors, the test port and the guard's latches as before; every other part of
the package as at reset, PTXDIS asserted, and the clocks at this instant. -/
def State.restarted (s u : State) (cause : Nat) : Prop :=
  u.island = { s.island with
    resetCause := cause, wakeLatch := 0, attempts := u.island.attempts, bootReason := u.island.bootReason
    failedStart := u.island.failedStart, held := u.island.held, heldLost := u.island.heldLost
    lastTime := u.island.lastTime, alertCause := u.island.alertCause } ∧
  (∀ ch : Fin 4, u.us[ch] = { Us.init with latched := s.us[ch].latched, silenceHeld := s.us[ch].silenceHeld }) ∧
  u.pwr = { Pwr.init with
    phase := u.pwr.phase, phaseAt := u.now, bootAt := u.now, freshAt := u.now, initWdAt := some u.now
    pwrGood := s.pwr.pwrGood, exitAt := u.pwr.exitAt, wakeCause := u.pwr.wakeCause, cause := u.pwr.cause
    pending := u.pwr.pending, state := u.pwr.state } ∧
  u = { State.reset with
    pending := s.pending, now := u.now, draws := s.draws, nextFid := s.nextFid, jtag := s.jtag
    flash := { s.flash with writing := none }, island := u.island, mon := s.mon, us := u.us, pwr := u.pwr
    bus := { Bus.init with
      addr := u.bus.addr, mgrCapable := u.bus.mgrCapable, bootSel := u.bus.bootSel, term := s.bus.term, heardAt := u.now }
    time := { TimeSt.init with doms := TimeSt.init.doms.map fun d => { d with clk := { at0 := u.now, val := 0, rate := 0 } } } }

/-- The straps of the package are as before. -/
def State.sameStraps (s u : State) : Prop :=
  u.bus.addr = s.bus.addr ∧ u.bus.mgrCapable = s.bus.mgrCapable ∧ u.bus.bootSel = s.bus.bootSel

/-- The start after this one logs a failed start with a reason (R512). -/
def State.failedWith (s u : State) (reason : Nat) : Prop :=
  u.pwr.state = .run ∧ s.sameStraps u ∧ u.island.bootReason = reason ∧ u.island.attempts = s.island.attempts ∧
  u.island.failedStart = some (reason, s.island.attempts)

/-! ### Downstream directives -/

/-- A new directive of a type, coded under key `k`, reaches the machine of a running channel in Sync (R96, R126-R129). -/
abbrev State.hears (s : State) (ch : Fin 4) (ty : Nat) (d : Directive) (k : Nat) : Prop :=
  dirWf d = true ∧ s.rx[ch].st = .sync ∧ dirAddressed s ch d = true ∧ s.inSleep = false ∧ s.running = true ∧ k ≠ 1 ∧
  codeKey s.act[ch].session (mgmtKey s ch) (pendKey s ch) ty d = some k ∧
  (s.act[ch].dups.all fun e => !(e.1 == ty && e.2.1 == d.seq)) = true

/-- A channel's activation after an accepted unicast directive whose answer, of a type and content, has been queued
(R129, R130). -/
def Act.answeredBy (a : Act) (ty seq ansType content : Nat) : Act :=
  let v : UpDir := { type := ansType, seq := a.upSeq, content := content, sends := 0, sentAt := 0 }
  { a with
    upq := upInsert ((a.upSeq + 1) % 256) v a.upq, upSeq := (a.upSeq + 1) % 256
    dups := a.dups ++ [(ty, seq, a.frames, some v)] }

/-- The same where the answer is an Acknowledge with a result code (R132). -/
def Act.ackedBy (a : Act) (ty seq r : Nat) : Act := a.answeredBy ty seq 0x85 (ackContent ty seq r)

/-- The member mask that a Bonding Control of a channel names, in the terminal's channels (R232). -/
def namedMembers (s : State) (ch : Fin 4) (c : Nat) : Nat :=
  ((chans (fld c 279 276)).map fun k => mapChannel s s.rx[ch].heId k).foldl (fun m o => match o with
    | some (f : Fin 4) => if bitAt m f.val then m else m + 2 ^ f.val
    | none => m) 0

/-- The EqD change that a directive of frame `n` schedules (R144). -/
def eqdChange (n : Nat) (immediate : Bool) (apply : Nat) (delta : Bool) (value : Int) (source : Nat)
    (power : Option Nat) : EqdChange :=
  let late := sfcPast apply n
  { immediate := immediate || late, sfc := if immediate || late then (n + 1) % 2 ^ 51 else apply,
    delta := delta, value := value, source := source, power := power }

/-! ### Requests at the dictionary server -/

/-- No frame of the package is on the bus, and none of its records waits for a subscriber. -/
abbrev State.busQuiet (s : State) : Prop :=
  s.bus.sendAt = none ∧ (s.bus.manager = true ∨ s.bus.subs = [] ∨ s.log.unsent = [])

/-- A request reaches the running dictionary server by the bus, from another node, without `AUTH` and for its first time
within 1 s, while the bus is quiet (R528-R530). -/
abbrev State.receives (s : State) (t : Nat) (rq : Req) : Prop :=
  s.serverUp = true ∧ reqWf rq = true ∧ rq.inband = false ∧ rq.auth = false ∧ rq.dst = s.bus.addr ∧ rq.src ≠ s.bus.addr ∧
  (s.bus.answered.all fun a => decide (a.src ≠ rq.src ∨ a.txn ≠ rq.txn ∨ a.at0 + tickS ≤ max s.now t)) = true ∧
  s.busQuiet ∧ s.bus.txq.length < 32

/-- The request is not refused by R528, R537 or R545 before its service. -/
abbrev State.serves (s : State) (t : Nat) (rq : Req) : Prop :=
  s.receives t rq ∧ s.obj Obj.FB_AUTH_MODE ≠ 1 ∧ workerRefuses s rq.src none = false ∧ rq.waiting < 16

/-- What a quiet bus leaves before anything else: answers kept for 1 s, transfers idle for 5 s and subscriptions silent for 60 s
are gone, and a manager holds its own records for merging (R529, R533, R534, R542). -/
def State.atBus (s : State) (t : Nat) : State :=
  { s with
    now := max s.now t, log := { s.log with unsent := [] }
    bus := { s.bus with
      subs := s.bus.subs.filter fun x => decide (max s.now t < x.lastHeard + 60 * tickS)
      answered := s.bus.answered.filter fun a => decide (max s.now t < a.at0 + tickS)
      transfers := s.bus.transfers.filter fun x => decide (max s.now t < x.lastAt + 5 * tickS)
      merge := if s.bus.manager then s.bus.merge ++ s.log.unsent else s.bus.merge } }

/-- A frame that ends now leaves the bus free from here (R523). -/
def State.atFrame (s : State) (t : Nat) : State :=
  let v := s.atBus t
  { v with bus := { v.bus with freeAt := max s.now t } }

/-- What a received request leaves before its service: its frame is counted and its source has been heard (R528, R534). -/
def State.atServer (s : State) (t : Nat) (rq : Req) : State :=
  let v := s.atFrame t
  { v with
    dict := (s.bump Obj.FB_FRAMES_RX).dict
    bus := { v.bus with subs := v.bus.subs.map fun x => if x.src = rq.src then { x with lastHeard := max s.now t } else x } }

/-- A request or event of the package's own, without `AUTH` (Table 15-2). -/
def ownMsg (addr svc dst txn : Nat) (body : Bytes) : Bytes :=
  vdpBytes { resp := false, auth := false, svc := svc, length := 20 + body.length, dst := dst, src := addr, status := 0, txn := txn,
             counter := 0 } ++ body

/-- The response to a request without `AUTH` (R531, Table 15-2). -/
def answerMsg (addr : Nat) (rq : Req) (code : Nat) (st : Status) (body : Bytes) : Bytes :=
  vdpBytes { resp := true, auth := false, svc := code, length := 20 + body.length, dst := rq.src, src := addr,
             status := statusCode st, txn := rq.txn, counter := 0 } ++ body

/-- A request has been answered: the response is queued before frames that answer nothing, and kept for 1 s with at most
15 others of its source (R524, R529, R531); the frame goes no earlier than `from0` (R538). -/
def State.answeredAs (v : State) (rq : Req) (code : Nat) (st : Status) (body : Bytes) (from0 : Nat := 0) : State :=
  let m := answerMsg v.bus.addr rq code st body
  { v with
    status := st, value := body
    bus := { v.bus with
      answered := { src := rq.src, txn := rq.txn, reply := m, status := st, route := none, at0 := v.now } ::
        (v.bus.answered.filter fun a => a.src == rq.src).take 15 ++ v.bus.answered.filter fun a => a.src != rq.src
      txq := v.bus.txq ++ [{ urgent := true, dst := rq.src, msg := m, from0 := from0 }] } }

/-- A message of the package's own has been queued after the frames before it. -/
def State.sends (v : State) (svc dst : Nat) (body : Bytes) : State :=
  { v with bus := { v.bus with
    nextTxn := (v.bus.nextTxn + 1) % 65536
    txq := v.bus.txq ++ [{ urgent := false, dst := dst, msg := ownMsg v.bus.addr svc dst v.bus.nextTxn body }] } }

/-- What a DISCOVER response without `JOIN` or `LEAVING` makes of its sender's row (R539, Table 15-7). -/
def rowPresent (serial rev pwr : Nat) (capable safe : Bool) (attempts seq now : Nat) : Member :=
  { st := .present, mgrCapable := capable, safeMode := safe, pwrState := pwr, misses := 0, siliconRev := rev, serial := serial,
    imageSeq := seq, lastSeen := now, attempts := attempts, answered := true }

/-- A row of the membership table 1 s after a heartbeat (R539). -/
def rowMissed (r : Member) : Member :=
  if r.answered = true ∨ (r.st ≠ .present ∧ r.st ≠ .conflict) then r
  else if 2 ≤ r.misses then { r with st := .absent, misses := 3, answered := true }
  else { r with misses := r.misses + 1, answered := true }

end Sys2Proof.Machine
end

