-- ==== Sys2Proof/Certificates/Slice0/Obligations.lean ====
section
/-! DEFINITION. The statements for the provers, family by family. Each effect is stated with what it leaves: an equation
`u = { s with ... }` says that every field it does not list is unchanged. -/
open Sys2Proof Sys2Proof.Machine

/-- A step performs the command at the front of the queue, and on an empty queue the block idles. For every command c
and every queue, step of a state with c in front is exec of c on the state with the rest of the queue. A step of
a state whose queue is empty answers the same state. That commands wait in a queue, and that an empty one idles,
is the model's own form (log entry 2). -/
def Obligations.StepRunsTheFrontCommand : Prop :=
  (∀ (s : State) (c : Instr) (rest : List Instr), step { s with pending := c :: rest } = exec c { s with pending := rest }) ∧
  (∀ (s : State), s.pending = [] → step s = .next s)

/-- No command touches the waiting commands, and time never runs back. Whatever command is performed, if it answers a
next state, the waiting commands are as before, and the state's instant is the later of the old one and the
command's. That the instant never runs back is the model's choice (log entry 1). -/
def Obligations.CommandsLeaveTheQueueAndNeverTurnTimeBack : Prop :=
  ∀ (c : Instr) (s u : State), exec c s = .next u → u.pending = s.pending ∧ s.now ≤ u.now

/-- A step from a well-formed queue completes and takes exactly the front command. If every waiting command is well
formed, a step answers a next state; where a command was waiting, the queue after it is the queue without its
front. No command stops the block. -/
def Obligations.StepTakesOneCommand : Prop :=
  ∀ (s : State), s.queueWf = true → ∃ u, step s = .next u ∧ u.pending = s.pending.tail ∧ u.queueWf = true

/-- A command stops the block exactly when it is ill-formed. exec answers the fault illFormed exactly for the
commands whose operands no wire, frame or service can carry, and never refuses. That such a command faults is the
model's choice (log entry 4). -/
def Obligations.IllFormedCommandsAloneStop : Prop :=
  ∀ (c : Instr) (s : State), (exec c s = .fault .illFormed ↔ c.wf = false) ∧ ∀ r, exec c s ≠ .refused r

/-- The invariant holds in the state after reset. The state after reset has the test access port in Test-Logic-Reset
with IDCODE selected, an empty (and so well-formed) queue, and stores in their canonical form. -/
def Obligations.InvariantHoldsAtReset : Prop :=
  State.reset.Inv ∧ State.reset.storesWf = true

/-- Every step keeps the test access port in Test-Logic-Reset while TRST_N is low, and the queue well formed. From
every state that meets the invariant (TRST_N low implies that IDCODE is the current instruction; every waiting
command is well formed), a step that answers a next state answers one that meets it, whichever of the 224
commands it performs. -/
def Obligations.InvariantKeptByEveryStep : Prop :=
  ∀ (s : State), s.Inv → ∀ u, step s = .next u → u.Inv

/-- The bring-up of the inner link takes it from reset release to up. In a bring-up phase with the link down, the
reset release starts training. When the lane check ends with at most two failed lanes in each direction, the 38
lowest-numbered good lanes are active and the other good ones are spares. The third marker after that check
brings the link up. -/
def Obligations.InnerLinkComesUp : Prop :=
  (∀ (s : State) (t : Nat), ilBringUp s = true → s.il.st = 0 →
    exec (.innerLinkResetRelease t) s = .next { s with now := max s.now t, il := { s.il with
      st := 1, relAt := max s.now t, checked := false, dirs := Vector.replicate 2 IlDir.init } }) ∧
  (∀ (s : State) (t : Nat) (bad0 bad1 : BitVec 40), s.il.st = 1 → s.il.checked = false →
    (laneSet bad0).length ≤ 2 → (laneSet bad1).length ≤ 2 →
    ∃ u, exec (.prbsCheckEnd t bad0 bad1) s = .next u ∧ u.il.checked = true ∧ u.il.st = 1 ∧
      u.il.dirs[0].active = ((List.range 40).filter fun k => !bad0.getLsbD k).take 38 ∧
      u.il.dirs[0].spares = ((List.range 40).filter fun k => !bad0.getLsbD k).drop 38 ∧
      u.il.dirs[1].active = ((List.range 40).filter fun k => !bad1.getLsbD k).take 38 ∧
      u.il.dirs[1].spares = ((List.range 40).filter fun k => !bad1.getLsbD k).drop 38 ∧
      s.objsBut u logObjs ∧
      u = { s with now := max s.now t, il := u.il, dict := u.dict, log := u.log, island := u.island }) ∧
  (∀ (s : State) (t : Nat), s.il.st = 1 → s.il.checked = true →
    exec (.markerLock t) s = .next { s with
      now := max s.now t, il := { s.il with st := 2, dirs := s.il.dirs.map fun d => { d with markNo := 3, missed := [] } } })

/-- Flit errors are replayed and counted; a failed lane leaves the stripe and its spare joins at the fourth marker. A
flit that no lane changes is kept by its sender and its payload accepted. One whose CRC fails counts as an error
and a replay of its direction and is kept for the replay, and a flit that then arrives unchanged is the oldest one
due. At a marker boundary at which just one active lane misses its second marker in a row while a spare is left,
that lane leaves the stripe, the lowest spare begins to train and the link reads repairing. A spare that has seen
four markers since the failure joins the stripe, and the link is up again when no repair is under way. The
oscillator is calibrated when REFCLK runs and the last calibration is 1 s old; the error it leaves is a free value
(log entry 161). -/
def Obligations.InnerLinkReplaysAndRepairs : Prop :=
  (∀ (s : State) (t : Nat) (d : Fin 2) (payload : Bytes), 2 ≤ s.il.st → flitWf payload [] = true → s.il.dirs[d].replay = 0 →
    exec (.flitReceived t d payload []) s = .next { s with now := max s.now t, il := { s.il with
      dirs := s.il.dirs.set d { s.il.dirs[d] with kept := (payload :: s.il.dirs[d].kept).take 256, got := payload } } }) ∧
  (∀ (s : State) (t : Nat) (d : Fin 2) (payload err : Bytes), 2 ≤ s.il.st → flitWf payload err = true →
    s.il.dirs[d].replay = 0 → flitGood (flitArrives (flitOf payload) err) = false →
    ∃ u, exec (.flitReceived t d payload err) s = .next u ∧
      s.counted u Obj.IL_FLIT_CRC_ERRORS (sub d) 1 ∧ s.counted u Obj.IL_REPLAYS (sub d) 1 ∧
      s.objsBut u [(Obj.IL_FLIT_CRC_ERRORS, sub d), (Obj.IL_REPLAYS, sub d)] ∧
      u = { s with now := max s.now t, dict := u.dict, il := { s.il with
        dirs := s.il.dirs.set d { s.il.dirs[d] with kept := (payload :: s.il.dirs[d].kept).take 256, replay := 1 } } }) ∧
  (∀ (s : State) (t n : Nat) (d : Fin 2) (payload old : Bytes), 2 ≤ s.il.st → flitWf payload [] = true →
    s.il.dirs[d].replay = n + 1 → s.il.dirs[d].kept[n]? = some old →
    exec (.flitReceived t d payload []) s = .next { s with now := max s.now t, il := { s.il with
      dirs := s.il.dirs.set d { s.il.dirs[d] with replay := n, got := old } } }) ∧
  (∀ (s : State) (t : Nat) (d : Fin 2) (k n : Nat) (rest errs : List Nat) (blocks : List (BitVec 257)),
    2 ≤ s.il.st → blocks.length = 40 → errs.length = 40 → k ∈ s.il.dirs[d].active → s.il.dirs[d].active.Nodup →
    s.il.dirs[d].spares = n :: rest → s.il.dirs[d].missed.contains k = true →
    markerGood k s.il.dirs[d].markNo (blocks.getD k 0) = false →
    (s.il.dirs[d].active.all fun j =>
      j == k || (markerGood j s.il.dirs[d].markNo (blocks.getD j 0) && decide (errs.getD j 0 ≤ 64))) = true →
    ∃ u, exec (.alignmentMarker t d blocks errs) s = .next u ∧ u.il.st = 3 ∧
      u.il.dirs[d] = { s.il.dirs[d] with
        active := s.il.dirs[d].active.erase k, spares := rest, failed := setBit s.il.dirs[d].failed k true
        repairs := (s.il.dirs[d].repairs.map fun r => (r.1, r.2.1, r.2.2 + 1)) ++ [(k, n, 0)]
        markNo := (s.il.dirs[d].markNo + 1) % 256, missed := [k] } ∧
      (∀ e : Fin 2, e ≠ d → u.il.dirs[e] = s.il.dirs[e]) ∧ s.objsBut u logObjs ∧
      u = { s with now := max s.now t, il := u.il, dict := u.dict, log := u.log, island := u.island }) ∧
  (∀ (s : State) (t : Nat) (d : Fin 2) (k n m : Nat), s.il.st = 3 → 4 ≤ m → s.il.dirs[d].repairs = [(k, n, m)] →
    (∀ e : Fin 2, e ≠ d → s.il.dirs[e].repairs = []) →
    ∃ u, exec (.ilLaneRepaired t d) s = .next u ∧ u.il.st = 2 ∧ n ∈ u.il.dirs[d].active ∧
      u.il.dirs[d].repairs = [] ∧ s.counted u Obj.IL_REPAIRS (sub d) 1 ∧
      s.objsBut u ((Obj.IL_REPAIRS, sub d) :: logObjs) ∧
      u = { s with now := max s.now t, il := u.il, dict := u.dict, log := u.log, island := u.island }) ∧
  (∀ (s : State) (t : Nat), s.island.oscEn = true →
    (s.island.oscCalAt.all fun c => decide (c + tickS ≤ max s.now t)) = true →
    exec (.oscillatorCalibration t) s = .next { s with
      now := max s.now t, draws := s.draws + 1
      island := { s.island with oscCalAt := some (max s.now t), oscErr := oscResidue s } })

/-- Loss of signal, loss of lock and lock move the receive state. While the receiver runs, PSD low or CDR loss of
lock in Hunt or Presync leads to No signal, drops every candidate and counts one loss, and the other channels,
the activation and the tailraces stay as they are. A CDR that locks takes a channel from No signal to Hunt. -/
def Obligations.LossOfSignalAndLock : Prop :=
  (∀ (s : State) (t : Nat) (ch : Fin 4), rxRuns s ch = true → (s.rx[ch].st = .hunt ∨ s.rx[ch].st = .presync) →
    ∃ u, exec (.psdLow t ch) s = .next u ∧
      u.rx[ch] = { s.rx[ch] with st := .noSignal, psd := false, cands := [], window := false } ∧
      s.counted u Obj.DS_LOS_COUNT (sub ch) 1 ∧ (∀ c : Fin 4, c ≠ ch → u.rx[c] = s.rx[c]) ∧
      s.objsBut u ((Obj.DS_LOS_COUNT, sub ch) :: logObjs) ∧
      u = { s with now := max s.now t, rx := u.rx, dict := u.dict, log := u.log, island := u.island }) ∧
  (∀ (s : State) (t : Nat) (ch : Fin 4), rxRuns s ch = true → (s.rx[ch].st = .hunt ∨ s.rx[ch].st = .presync) →
    ∃ u, exec (.cdrLossOfLock t ch) s = .next u ∧
      u.rx[ch] = { s.rx[ch] with st := .noSignal, cdr := false, calibrated := false, cands := [], window := false } ∧
      s.counted u Obj.DS_LOS_COUNT (sub ch) 1 ∧ (∀ c : Fin 4, c ≠ ch → u.rx[c] = s.rx[c]) ∧
      s.objsBut u ((Obj.DS_LOS_COUNT, sub ch) :: logObjs) ∧
      u = { s with now := max s.now t, rx := u.rx, dict := u.dict, log := u.log, island := u.island }) ∧
  (∀ (s : State) (t : Nat) (ch : Fin 4), rxRuns s ch = true → s.rx[ch].st = .noSignal →
    exec (.cdrLock t ch) s = .next { s with
      now := max s.now t, rx := s.rx.set ch { s.rx[ch] with st := .hunt, psd := true, cdr := true, calibrated := true } })

/-- Writes of the receiver enable and of the resync command. While the dictionary server runs: writing 1 to the
enable of a disabled, powered channel without signal starts its receiver in No signal; writing 1 to the resync
command in Presync drops every candidate, keeps the barred offsets and returns the channel to Hunt; any other
value of the two is answered with RANGE and changes nothing. -/
def Obligations.ReceiverWritesActOnTheirChannel : Prop :=
  (∀ (s : State) (t : Nat) (ch : Fin 4), s.serverUp = true → s.chanPowered ch = true → prbsHolds s ch = false →
    s.rx[ch].st = .disabled → s.rx[ch].psd = false →
    ∃ u, exec (.dsRxEnable t ch 1) s = .next u ∧ u.status = .ok ∧ u.obj Obj.DS_RX_ENABLE (sub ch) = 1 ∧
      u.rx = s.rx.set ch { s.rx[ch] with st := .noSignal } ∧
      s.objsBut u [(Obj.DS_RX_ENABLE, sub ch)] ∧
      u = { s with now := max s.now t, rx := u.rx, dict := u.dict, status := .ok, pm := u.pm }) ∧
  (∀ (s : State) (t v : Nat) (ch : Fin 4), s.serverUp = true → 1 < v →
    exec (.dsRxEnable t ch v) s = .next { s with now := max s.now t, status := .range }) ∧
  (∀ (s : State) (t : Nat) (ch : Fin 4), s.serverUp = true → s.rx[ch].st = .presync →
    exec (.dsResync t ch 1) s = .next { s with
      now := max s.now t, status := .ok, rx := s.rx.set ch { s.rx[ch] with st := .hunt, cands := [], window := false } }) ∧
  (∀ (s : State) (t v : Nat) (ch : Fin 4), s.serverUp = true → v ≠ 1 →
    exec (.dsResync t ch v) s = .next { s with now := max s.now t, status := .range })

/-- The mark search: a match starts a candidate, a miss drops one in Hunt, a bar ends. In Hunt, a match at a position
that no candidate expects, whose offset is not barred, starts a candidate there while fewer than four are
tracked. The expected position of a candidate in Hunt passing without a match drops it without a bar. When a bar
has lasted 16 frames it is lifted. -/
def Obligations.CandidatesStartAndEnd : Prop :=
  (∀ (s : State) (t pos : Nat) (ch : Fin 4) (bits : BitVec 64), s.rx[ch].st = .hunt → markMatches s ch bits = true →
    (s.rx[ch].cands.all fun c => c.pos + frameSymbols != pos && c.pos != pos) = true → s.rx[ch].cands.length < 4 →
    (s.rx[ch].barred.all fun b => b.1 != pos % frameSymbols || decide (b.2 + 16 * tickFrame ≤ max s.now t)) = true →
    ∃ u, exec (.markMatch t ch pos bits) s = .next u ∧
      (u.rx[ch].cands.map fun c => (c.pos, c.arrival, c.presync)) =
        (s.rx[ch].cands.map fun c => (c.pos, c.arrival, c.presync)) ++ [(pos, max s.now t, false)] ∧
      u = { s with now := max s.now t, rx := s.rx.set ch { s.rx[ch] with cands := u.rx[ch].cands } }) ∧
  (∀ (s : State) (t pos : Nat) (ch : Fin 4) (c : Cand), s.rx[ch].st = .hunt →
    s.rx[ch].cands.find? (fun c => c.pos + frameSymbols == pos) = some c → c.presync = false →
    exec (.markMissing t ch pos) s = .next { s with
      now := max s.now t, rx := s.rx.set ch { s.rx[ch] with cands := s.rx[ch].cands.filter fun x => x.pos ≠ c.pos } }) ∧
  (∀ (s : State) (t off : Nat) (ch : Fin 4),
    exec (.barExpiry t ch off) s = .next { s with
      now := max s.now t, rx := s.rx.set ch { s.rx[ch] with
        barred := s.rx[ch].barred.filter fun b => !(b.1 = off && decide (max s.now t ≥ b.2 + 16 * tickFrame)) } })

/-- A lone Presync candidate that passes the four tests takes its channel to Sync. With one candidate in Presync,
whose header passes its CRC with the recorded SFC plus 1 and the recorded identifiers and whose codeword 1 is
correctable, the decision takes the channel to Sync: the next mark is expected one frame after it with the next
SFC, the identifiers are latched and the count of bad frames is zero. No other channel's receiver changes. -/
def Obligations.AGoodCandidateEntersSync : Prop :=
  ∀ (s : State) (t : Nat) (ch : Fin 4) (c : Cand) (h : Hdr) (w : Nat), s.rx[ch].st = .presync →
    s.rx[ch].cands = [c] → s.rx[ch].window = false → c.presync = true → c.recorded = true → c.qualified = none →
    c.hdr = some h → c.cw1 = some (false, w) → h.crcOk = true → h.sfc = (c.sfc + 1) % 2 ^ 51 → (h.chId, h.heId) = c.ids →
    s.rx[ch].latched = some c.ids →
    ∃ u, exec (.qualification t ch c.pos) s = .next u ∧
      u.rx[ch].st = .sync ∧ u.rx[ch].expPos = c.pos + frameSymbols ∧ u.rx[ch].expSfc = (h.sfc + 1) % 2 ^ 51 ∧
      u.rx[ch].latched = some c.ids ∧ u.rx[ch].badRun = 0 ∧ u.rx[ch].cands = [] ∧
      s.counted u Obj.DS_SYNC_ACQUIRED (sub ch) 1 ∧ (∀ k : Fin 4, k ≠ ch → u.rx[k] = s.rx[k]) ∧
      u.us = s.us ∧ u.frames = s.frames ∧ u.ciph = s.ciph ∧ u.flash = s.flash ∧
      u.island = { s.island with
        lastTime := u.island.lastTime, lastSeq := u.island.lastSeq, kept := u.island.kept, held := u.island.held
        heldLost := u.island.heldLost, alertCause := u.island.alertCause }

/-- A decoded codeword is counted and its bytes kept; an idle carrier is skipped and counted. In Sync, a codeword of a
frame that is not used counts once in the total, and, by what the decoder makes of it, once as uncorrectable or,
where its syndrome weight is not 0, once as corrected with the bits changed; its descrambled bytes follow the
earlier ones, marked as of a bad codeword where it is uncorrectable. In Presync, codeword 1 of a candidate's
frame records its outcome and syndrome weight. When the walk of a used frame reaches an idle carrier that fits
its frame, its header and payload bytes are counted and skipped. -/
def Obligations.CodewordsAndCarriersAreCounted : Prop :=
  (∀ (s : State) (t pos c rel : Nat) (ch : Fin 4) (line : Bytes) (f : RxFrame) (h : Hdr) (d : Decoded), s.rx[ch].st = .sync →
    s.rx[ch].rxq = [f] → f.pos = pos → f.nextCw = c → 0 < c → c < 719 → codewordWf c line rel = true →
    f.used = false → f.hdr = some h → f.cur = none → d = decodeLine s ch c line rel →
    ∃ u, exec (.codewordDecoded t ch pos c line rel) s = .next u ∧
      u.rx[ch].rxq = [{ f with
        tc := f.tc ++ (descramble h.sfc f.tc.length f.ks (decodedInfo c d)).1
        ks := (descramble h.sfc f.tc.length f.ks (decodedInfo c d)).2, nextCw := c + 1
        badCws := if d.uncorr then f.badCws ++ [c] else f.badCws }] ∧
      s.counted u Obj.DS_CW_TOTAL (sub ch) 1 ∧
      (d.uncorr = true → s.counted u Obj.DS_CW_UNCORRECTABLE (sub ch) 1) ∧
      (d.uncorr = false → d.weight ≠ 0 →
        s.counted u Obj.DS_CW_CORRECTED (sub ch) 1 ∧ s.counted u Obj.DS_BITS_CORRECTED (sub ch) d.changed) ∧
      s.objsBut u ((Obj.DS_CW_TOTAL, sub ch) :: (if d.uncorr then [(Obj.DS_CW_UNCORRECTABLE, sub ch)]
        else if d.weight = 0 then [] else [(Obj.DS_CW_CORRECTED, sub ch), (Obj.DS_BITS_CORRECTED, sub ch)])) ∧
      u = { s with now := max s.now t, rx := u.rx, dict := u.dict, pm := u.pm, compat := u.compat }) ∧
  (∀ (s : State) (t pos rel : Nat) (ch : Fin 4) (line : Bytes) (d : Decoded), s.rx[ch].st = .presync →
    codewordWf 1 line rel = true → d = decodeLine s ch 1 line rel →
    s.rx[ch].cands.any (fun x => x.pos == pos && x.presync) = true →
    exec (.codewordDecoded t ch pos 1 line rel) s = .next { s with
      now := max s.now t, rx := s.rx.set ch { s.rx[ch] with
        cands := s.rx[ch].cands.map fun c => if c.pos = pos then { c with cw1 := some (d.uncorr, d.weight) } else c } }) ∧
  (∀ (s : State) (t : Nat) (ch : Fin 4) (f : RxFrame) (h : Hdr), s.rx[ch].st = .sync → s.rx[ch].rxq = [f] →
    f.used = true → f.walkEnded = false → f.cur = none → f.hdr = some h → f.walk + 8 ≤ f.tc.length → fecBad f f.walk 8 = false →
    hec14 (beAt f.tc f.walk 8) = fld (beAt f.tc f.walk 8) 13 0 → fld (beAt f.tc f.walk 8) 47 32 = 0xFFFF →
    f.walk + 8 + fld (beAt f.tc f.walk 8) 63 50 ≤ tcBytes →
    ∃ u, exec (.carrierHeader t ch) s = .next u ∧
      u.rx[ch].rxq = [{ f with walk := f.walk + 8 + fld (beAt f.tc f.walk 8) 63 50 }] ∧
      s.counted u Obj.DS_IDLE_BYTES (sub ch) (8 + fld (beAt f.tc f.walk 8) 63 50) ∧
      s.objsBut u [(Obj.DS_IDLE_BYTES, sub ch)] ∧ u = { s with now := max s.now t, rx := u.rx, dict := u.dict })

/-- Profile, Announce Window, Adjust Transmit and Channel Handover schedule what they carry. A Profile that stores a
profile queues it for frame N + 2. An Announce Window of at least one frame draws a frame and a delay and keeps
the announcement unless its frame is already past. An Adjust Transmit with no change waiting queues its EqD
change, at once where its frame is past, and is answered with an Acknowledge. A Channel Handover whose target is
ready 2 to 8000 frames ahead is kept and acknowledged. Each counts as accepted; the other channels, the
receivers, keys, frames and memory stay as they are. -/
def Obligations.DirectivesThatScheduleForALaterFrame : Prop :=
  (∀ (s : State) (t k : Nat) (ch : Fin 4) (d : Directive), s.hears ch 1 d k → d.tid = 1023 → bitAt d.content 285 = true →
    4 ≤ fld d.content 281 274 → fld d.content 281 274 ≤ 128 → 1 ≤ fld d.content 273 266 → fld d.content 273 266 ≤ 64 →
    ∃ u, exec (.profile t ch d) s = .next u ∧
      u.us = s.us.set ch { s.us[ch] with
        profq := s.us[ch].profq ++ [{ sfc := ((dirContext s ch 1 d).sfc + 2) % 2 ^ 51, idx := fld d.content 287 286 % 4, prof := { valid := true, stale := false, p := fld d.content 281 274, guardSlots := fld d.content 273 266, pattern := fld d.content 265 202, delimiter := fld d.content 201 138 } }]
        profSeen := some (dirContext s ch 1 d).sfc } ∧
      s.counted u Obj.ACT_DIRECTIVES_ACCEPTED (sub ch) 1 ∧
      s.objsBut u [(Obj.ACT_DIRECTIVES_ACCEPTED, sub ch), (Obj.PWR_STATE_ENTRIES, 1)] ∧
      u = { s with now := max s.now t, us := u.us, dict := u.dict, pwr := (leaveIdle (s.advance t)).pwr }) ∧
  (∀ (s : State) (t k : Nat) (ch : Fin 4) (d : Directive), s.hears ch 2 d k → d.tid = 1023 →
    (s.act[ch].st = .standby ∨ (s.act[ch].st = .announced ∧ bitAt d.content 210 = true)) →
    0 < fld d.content 236 229 → fld d.content 209 178 ≤ eqdMax →
    ∃ u, exec (.announceWindow t ch d) s = .next u ∧
      u.act = s.act.set ch { s.act[ch] with announce := if sfcPast ((fld d.content 287 237 + Config.random s.draws % fld d.content 236 229) % 2 ^ 51) (dirContext s ch 2 d).sfc then none else some { sfc := (fld d.content 287 237 + Config.random s.draws % fld d.content 236 229) % 2 ^ 51, delay := Config.random (s.draws + 1) % (fld d.content 228 213 + 1), profile := fld d.content 212 211, preEqd := fld d.content 209 178, all := bitAt d.content 210 } } ∧
      s.counted u Obj.ACT_DIRECTIVES_ACCEPTED (sub ch) 1 ∧
      s.objsBut u [(Obj.ACT_DIRECTIVES_ACCEPTED, sub ch), (Obj.PWR_STATE_ENTRIES, 1)] ∧
      u = { s with now := max s.now t, draws := s.draws + 2, act := u.act, dict := u.dict, pwr := (leaveIdle (s.advance t)).pwr }) ∧
  (∀ (s : State) (t k : Nat) (ch : Fin 4) (d : Directive), s.hears ch 12 d k → d.tid ≠ 1023 →
    s.act[ch].st = .operating → s.act[ch].eqdq = [] → s.act[ch].upq.length < 8 →
    0 ≤ (s.act[ch].eqd : Int) + toS 16 (fld d.content 287 272) →
    (s.act[ch].eqd : Int) + toS 16 (fld d.content 287 272) ≤ (eqdMax : Int) →
    ∃ u, exec (.adjustTransmit t ch d) s = .next u ∧
      u.act = s.act.set ch { s.act[ch].ackedBy 12 d.seq (if !bitAt d.content 220 && sfcPast (fld d.content 271 221) (dirContext s ch 12 d).sfc then 6 else 0) with eqdq := [eqdChange (dirContext s ch 12 d).sfc (bitAt d.content 220) (fld d.content 271 221) true (toS 16 (fld d.content 287 272)) 2 (if bitAt d.content 219 then some (fld d.content 218 217) else none)] } ∧
      s.counted u Obj.ACT_DIRECTIVES_ACCEPTED (sub ch) 1 ∧
      s.objsBut u [(Obj.ACT_DIRECTIVES_ACCEPTED, sub ch), (Obj.PWR_STATE_ENTRIES, 1), (Obj.ACT_LATE_APPLY, sub ch)] ∧
      u = { s with now := max s.now t, act := u.act, dict := u.dict, pwr := (leaveIdle (s.advance t)).pwr }) ∧
  (∀ (s : State) (t k : Nat) (ch tgt : Fin 4) (d : Directive), s.hears ch 13 d k → d.tid ≠ 1023 →
    s.act[ch].st = .operating → s.act[ch].upq.length < 8 → fld d.content 285 276 ≠ 1023 → fld d.content 275 244 ≤ eqdMax →
    handoverTarget s ch (fld d.content 287 286) = some tgt → inBondGroup s ch = false →
    2 ≤ sfcDist (fld d.content 243 193) (dirContext s ch 13 d).sfc →
    sfcDist (fld d.content 243 193) (dirContext s ch 13 d).sfc ≤ 8000 →
    ∃ u, exec (.channelHandover t ch d) s = .next u ∧
      u.act = s.act.set ch { s.act[ch].ackedBy 13 d.seq 0 with
        handover := some { target := tgt, sfc := fld d.content 243 193, tid := fld d.content 285 276, eqd := fld d.content 275 244, reached := false } } ∧
      s.counted u Obj.ACT_DIRECTIVES_ACCEPTED (sub ch) 1 ∧
      s.objsBut u [(Obj.ACT_DIRECTIVES_ACCEPTED, sub ch), (Obj.PWR_STATE_ENTRIES, 1)] ∧
      u = { s with now := max s.now t, act := u.act, dict := u.dict, pwr := (leaveIdle (s.advance t)).pwr })

/-- Assign Terminal ID, Ranging Time, Disable, Enable and Deactivate move the activation state. On a channel that is
neither silenced nor stopped: an Assign Terminal ID for this serial number sets the terminal ID and enters
Ranging with T_range started; a Ranging Time under a session key sets RTD, queues the EqD and takes Ranging to
Operating; a Deactivate returns to Standby and records its reason. A Disable for this serial number sets the stop
record and enters Emergency stop, with terminal ID 1023 and no session; an Enable clears the record and enters
Initial. The receivers, the time domains, the queues and the other channels' activation and tailraces stay as
they are. -/
def Obligations.DirectivesThatMoveTheState : Prop :=
  (∀ (s : State) (t k : Nat) (ch : Fin 4) (d : Directive), s.hears ch 3 d k → d.tid = 1023 →
    (s.act[ch].st = .announced ∨ s.act[ch].st = .ranging) → s.island.silence[ch] = false → stopSet s ch = false →
    fld d.content 287 224 = serialNumber → fld d.content 223 214 ≠ 1023 →
    ∃ u, exec (.assignTerminalId t ch d) s = .next u ∧ u.now = max s.now t ∧
      u.act[ch] = { s.act[ch] with
        st := .ranging, tid := fld d.content 223 214, tAnnounce := u.act[ch].tAnnounce, token := 0
        tRange := some (max s.now t + s.obj Obj.ACT_T_RANGE (sub ch) * tickMs) } ∧
      u.island.stop = s.island.stop ∧ u.island.silence = s.island.silence ∧ s.actReach u ch ∧
      s.objsBut u (actObjs ch ++ [(Obj.ACT_DIRECTIVES_ACCEPTED, sub ch), (Obj.PWR_STATE_ENTRIES, 1), (Obj.US_ALLOC_CONFLICTS, sub ch)])) ∧
  (∀ (s : State) (t k : Nat) (ch : Fin 4) (d : Directive), s.hears ch 4 d k → d.tid ≠ 1023 → k = 2 →
    (s.act[ch].st = .ranging ∨ s.act[ch].st = .operating) → s.island.silence[ch] = false → stopSet s ch = false →
    fld d.content 287 256 ≤ eqdMax → s.act[ch].eqdq = [] → s.act[ch].upq.length < 8 →
    ∃ u, exec (.rangingTime t ch d) s = .next u ∧ u.now = max s.now t ∧
      u.act[ch] = { s.act[ch].ackedBy 4 d.seq (if !bitAt d.content 172 && sfcPast (fld d.content 223 173) (dirContext s ch 4 d).sfc then 6 else 0) with
        st := .operating, rtd := fld d.content 255 224, rtdValid := true, tRange := u.act[ch].tRange, token := u.act[ch].token
        eqdq := [eqdChange (dirContext s ch 4 d).sfc (bitAt d.content 172) (fld d.content 223 173) false (fld d.content 287 256 : Int) 1 none] } ∧
      u.island.stop = s.island.stop ∧ u.island.silence = s.island.silence ∧ s.actReach u ch ∧
      s.objsBut u (actObjs ch ++ [(Obj.ACT_DIRECTIVES_ACCEPTED, sub ch), (Obj.PWR_STATE_ENTRIES, 1), (Obj.ACT_LATE_APPLY, sub ch)])) ∧
  (∀ (s : State) (t k : Nat) (ch : Fin 4) (d : Directive), s.hears ch 7 d k → s.island.silence[ch] = false →
    s.act[ch].st ≠ .emergencyStop → s.act[ch].st ≠ .silenced → fld d.content 287 224 = serialNumber →
    ∃ u, exec (.disable t ch d) s = .next u ∧ u.now = max s.now t ∧
      u.act[ch].st = .emergencyStop ∧ stopSet u ch = true ∧ u.act[ch].tid = 1023 ∧ u.act[ch].session = .none ∧
      u.us[ch].openFrags = [] ∧ u.island.silence = s.island.silence ∧
      (∀ c : Fin 4, c ≠ ch → stopSet u c = stopSet s c) ∧ s.actReach { u with flash := s.flash } ch ∧
      u.flash = { s.flash with stop := u.flash.stop, recSeq := u.flash.recSeq, qspi := u.flash.qspi } ∧
      s.objsBut u (actObjs ch ++ [(Obj.ACT_DIRECTIVES_ACCEPTED, sub ch), (Obj.PWR_STATE_ENTRIES, 1)])) ∧
  (∀ (s : State) (t k : Nat) (ch : Fin 4) (d : Directive), s.hears ch 8 d k → d.tid = 1023 →
    s.act[ch].st = .emergencyStop → s.island.silence[ch] = false → fld d.content 287 224 = serialNumber →
    ∃ u, exec (.enable t ch d) s = .next u ∧ u.now = max s.now t ∧
      u.act[ch].st = .initial ∧ stopSet u ch = false ∧ u.island.silence = s.island.silence ∧
      (∀ c : Fin 4, c ≠ ch → stopSet u c = stopSet s c) ∧ s.actReach { u with flash := s.flash } ch ∧
      u.flash = { s.flash with stop := u.flash.stop, recSeq := u.flash.recSeq, qspi := u.flash.qspi } ∧
      s.objsBut u (actObjs ch ++ [(Obj.ACT_DIRECTIVES_ACCEPTED, sub ch), (Obj.PWR_STATE_ENTRIES, 1)])) ∧
  (∀ (s : State) (t k : Nat) (ch : Fin 4) (d : Directive), s.hears ch 9 d k →
    (s.act[ch].st = .announced ∨ s.act[ch].st = .ranging ∨ s.act[ch].st = .operating) →
    s.island.silence[ch] = false → stopSet s ch = false →
    ∃ u, exec (.deactivate t ch d) s = .next u ∧ u.now = max s.now t ∧
      u.act[ch].st = .standby ∧ u.act[ch].deactReason = fld d.content 287 280 ∧ u.act[ch].tid = 1023 ∧
      u.act[ch].session = .none ∧ u.us[ch].openFrags = [] ∧ u.us[ch].failSafe = false ∧
      u.island.stop = s.island.stop ∧ u.island.silence = s.island.silence ∧ s.actReach u ch ∧
      s.objsBut u (actObjs ch ++ [(Obj.ACT_DIRECTIVES_ACCEPTED, sub ch), (Obj.PWR_STATE_ENTRIES, 1)]))

/-- A session key is derived and confirmed, a data key is staged, unwrapped and installed. A Registration Nonce in
Ranging without a session, with the secret installed, starts a derivation over a fresh nonce and drops any
Registration for an earlier one. When it has run 20 µs, the pending keys fill the channel's slots, the session is
pending and a Registration is queued. A part 0 of a 256-bit data key is staged. An unwrap that has run 2 µs and finds
its integrity check good and a slot to use writes the key there and queues a Key Report of 0. A staged part waits 8
frames and is then discarded. A renewal without an answer for 1 s discards the new keys and leaves the session
confirmed. The receivers, the tailraces and the other channels' activation stay as they are. -/
def Obligations.SessionAndDataKeys : Prop :=
  (∀ (s : State) (t k : Nat) (ch : Fin 4) (d : Directive), s.hears ch 5 d k → d.tid ≠ 1023 → s.act[ch].st = .ranging →
    s.act[ch].session = .none → s.ciph.slots[chanSlot 227 ch].st ≠ .valid → secretInstalled s = true →
    ∃ u, exec (.registrationNonce t ch d) s = .next u ∧
      u.act = s.act.set ch { s.act[ch] with
        dups := s.act[ch].dups ++ [(5, d.seq, s.act[ch].frames, none)]
        upq := s.act[ch].upq.filter fun v => v.type != 0x82, await := s.act[ch].await.filter fun v => v.type != 0x82
        regNonce := some (fld d.content 287 160 / 2 ^ 64, Config.random s.draws % 2 ^ 128), renewing := false, regSeq := d.seq } ∧
      u.ciph = { s.ciph with derive := s.ciph.derive.set ch (some { keys := deriveKeys (slotKey s (slotIdx 240)) (fld d.content 287 160) (Config.random s.draws % 2 ^ 128) serialNumber s.rx[ch].heId, startedAt := max s.now t }) } ∧
      s.objsBut u [(Obj.ACT_DIRECTIVES_ACCEPTED, sub ch), (Obj.PWR_STATE_ENTRIES, 1)] ∧
      u = { s with now := max s.now t, draws := s.draws + 1, act := u.act, ciph := u.ciph, dict := u.dict, pwr := (leaveIdle (s.advance t)).pwr }) ∧
  (∀ (s : State) (t echo tn : Nat) (ch : Fin 4) (dv : Derivation), s.ciph.derive[ch] = some dv →
    s.act[ch].regNonce = some (echo, tn) → dv.startedAt + 20 * tickUs ≤ max s.now t → s.act[ch].renewing = false →
    s.act[ch].upq.length < 8 →
    ∃ u, exec (.derivationComplete t ch) s = .next u ∧ u.ciph.derive[ch] = none ∧
      u.ciph.slots[chanSlot 226 ch] = { Slot.empty with st := .valid, len256 := true, key := dv.keys.take 32 } ∧
      u.ciph.slots[chanSlot 227 ch] = { Slot.empty with st := .valid, len256 := true, key := dv.keys.drop 32 } ∧
      (∀ i : Fin 256, i ≠ chanSlot 226 ch → i ≠ chanSlot 227 ch → u.ciph.slots[i] = s.ciph.slots[i]) ∧
      u.act[ch].session = .pending ∧ u.act[ch].regNonce = none ∧
      u.act[ch].upq = upInsert ((s.act[ch].upSeq + 1) % 256) { type := 0x82, seq := s.act[ch].upSeq, content := tn * 2 ^ 160 + serialNumber * 2 ^ 96 + echo * 2 ^ 32, sends := 0, sentAt := 0 } s.act[ch].upq ∧
      (∀ c : Fin 4, c ≠ ch → u.act[c] = s.act[c] ∧ u.ciph.derive[c] = s.ciph.derive[c]) ∧ s.objsBut u logObjs ∧
      u = { s with
        now := max s.now t, act := u.act, ciph := u.ciph, dict := u.dict, log := u.log, island := u.island
        pwr := { s.pwr with idleSince := max s.now t } }) ∧
  (∀ (s : State) (t k : Nat) (ch : Fin 4) (d : Directive), s.hears ch 6 d k → d.tid ≠ 1023 → s.act[ch].st = .operating →
    fld d.content 287 272 ≠ 0xFFFF → fld d.content 271 270 ≠ 0 → fld d.content 271 270 ≠ 3 → fld d.content 269 268 = 0 →
    bitAt d.content 267 = true → bitAt d.content 266 = false →
    ∃ u, exec (.keyControl t ch d) s = .next u ∧
      u.ciph = { s.ciph with staged := s.ciph.staged.set ch (some { flow := fld d.content 287 272, index := fld d.content 271 270, tag := fld d.content 265 258, bytes := beBytes 24 (fld d.content 255 64), frames := s.act[ch].frames }) } ∧
      u.act = s.act.set ch { s.act[ch] with dups := s.act[ch].dups ++ [(6, d.seq, s.act[ch].frames, none)] } ∧
      s.objsBut u [(Obj.ACT_DIRECTIVES_ACCEPTED, sub ch), (Obj.PWR_STATE_ENTRIES, 1)] ∧
      u = { s with now := max s.now t, act := u.act, ciph := u.ciph, dict := u.dict, pwr := (leaveIdle (s.advance t)).pwr }) ∧
  (∀ (s : State) (t : Nat) (w : KeyUnwrap) (rest : List KeyUnwrap) (key : Bytes) (i : Fin 256), s.ciph.unwraps = w :: rest →
    w.startedAt + 2 * tickUs ≤ max s.now t → keyUnwrap w.kek w.wrapped = some key →
    installSlot s w.flow w.index = some i → s.act[w.ch].upq.length < 8 →
    ∃ u, exec (.unwrapComplete t) s = .next u ∧ u.ciph.unwraps = rest ∧
      u.ciph.slots[i].st = .valid ∧ u.ciph.slots[i].key = key ∧ u.ciph.slots[i].flow = w.flow ∧
      u.ciph.slots[i].index = w.index ∧ u.ciph.slots[i].newest = true ∧ u.ciph.slots[i].sessionCh = w.ch.val ∧
      (∀ j : Fin 256, j ≠ i → u.ciph.slots[j] = { s.ciph.slots[j] with newest := u.ciph.slots[j].newest, txCh := u.ciph.slots[j].txCh }) ∧
      s.counted u Obj.CIPH_KEYS_INSTALLED (sub w.ch) 1 ∧ s.objsBut u [(Obj.CIPH_KEYS_INSTALLED, sub w.ch)] ∧
      u.act[w.ch].upq = upInsert ((s.act[w.ch].upSeq + 1) % 256) { type := 0x83, seq := s.act[w.ch].upSeq, content := w.flow * 2 ^ 272 + w.index * 2 ^ 270 + w.tag * 2 ^ 262, sends := 0, sentAt := 0 } s.act[w.ch].upq ∧
      (∀ c : Fin 4, c ≠ w.ch → u.act[c] = s.act[c]) ∧
      u = { s with
        now := max s.now t, act := u.act, ciph := u.ciph, dict := u.dict, pwr := { s.pwr with idleSince := max s.now t } }) ∧
  (∀ (s : State) (t : Nat) (ch : Fin 4) (st : Staged), s.ciph.staged[ch] = some st →
    exec (.stagedPartTimeout t ch) s = .next { s with
      now := max s.now t, ciph := { s.ciph with staged := if st.frames + 8 ≤ s.act[ch].frames then s.ciph.staged.set ch none else s.ciph.staged } }) ∧
  (∀ (s : State) (t x : Nat) (ch : Fin 4), s.running = true → s.act[ch].renewAt = some x → s.act[ch].session = .renewing →
    x + tickS ≤ max s.now t →
    ∃ u, exec (.renewalTimeout t ch) s = .next u ∧
      u.act = s.act.set ch { s.act[ch] with session := .confirmed, renewAt := none, renewing := false } ∧
      u.ciph.slots[chanSlot 224 ch] = s.ciph.slots[chanSlot 224 ch] ∧ u.ciph.slots[chanSlot 225 ch] = s.ciph.slots[chanSlot 225 ch] ∧
      u.ciph.slots[chanSlot 226 ch].st ≠ .valid ∧ u.ciph.slots[chanSlot 227 ch].st ≠ .valid ∧
      s.objsBut u ((Obj.CIPH_KEYS_ERASED, 0) :: logObjs) ∧
      u = { s with now := max s.now t, act := u.act, ciph := { s.ciph with slots := u.ciph.slots }, dict := u.dict, log := u.log, island := u.island })

/-- Sleep Allow, Time of Day, Bonding Control and Acknowledge have their effects in Operating. Sleep Allow sets or
takes back the head end's allowance where the object permits sleep, and is else acknowledged as refused. A Time
of Day on an unmeasured frame counts as received and as unusable and moves no clock; on a usable one it gives the
free-running domain fed by that channel its first sample. A Bonding Control that joins at least two mapped
channels configures a free row as owned by the head end. An Acknowledge ends the wait of the directive it names.
The first unicast directive under the pending key confirms the session and moves the pending keys to their slots. -/
def Obligations.DirectivesOfSleepTimeAndBonding : Prop :=
  (∀ (s : State) (t k : Nat) (ch : Fin 4) (d : Directive), s.hears ch 10 d k → d.tid ≠ 1023 → s.act[ch].st = .operating →
    s.act[ch].upq.length < 8 → s.flag Obj.PWR_HE_SLEEP_PERMIT = true →
    (bitAt d.content 287 = false ∨ fld d.content 271 256 ≠ 0) →
    ∃ u, exec (.sleepAllow t ch d) s = .next u ∧
      u.pwr = { (leaveIdle (s.advance t)).pwr with allow := s.pwr.allow.set ch (if bitAt d.content 287 then some (fld d.content 271 256) else none), quietSince := max s.now t } ∧
      u.act = s.act.set ch (s.act[ch].ackedBy 10 d.seq 0) ∧
      s.objsBut u [(Obj.ACT_DIRECTIVES_ACCEPTED, sub ch), (Obj.PWR_STATE_ENTRIES, 1)] ∧
      u = { s with now := max s.now t, act := u.act, dict := u.dict, pwr := u.pwr }) ∧
  (∀ (s : State) (t k : Nat) (ch : Fin 4) (d : Directive), s.hears ch 10 d k → d.tid ≠ 1023 → s.act[ch].st = .operating →
    s.act[ch].upq.length < 8 → s.flag Obj.PWR_HE_SLEEP_PERMIT = false →
    ∃ u, exec (.sleepAllow t ch d) s = .next u ∧ u.act = s.act.set ch (s.act[ch].ackedBy 10 d.seq 1) ∧
      s.objsBut u [(Obj.ACT_DIRECTIVES_ACCEPTED, sub ch), (Obj.PWR_STATE_ENTRIES, 1)] ∧
      u = { s with now := max s.now t, act := u.act, dict := u.dict, pwr := (leaveIdle (s.advance t)).pwr }) ∧
  (∀ (s : State) (t k : Nat) (ch : Fin 4) (d : Directive), s.hears ch 11 d k → d.tid = 1023 →
    fld d.content 239 208 ≤ 999999999 → (dirContext s ch 11 d).measured = false →
    ∃ u, exec (.timeOfDay t ch d) s = .next u ∧
      s.counted u Obj.TIME_TOD_RECEIVED (sub ch) 1 ∧ s.counted u Obj.TIME_TOD_UNUSABLE (sub ch) 1 ∧
      s.objsBut u [(Obj.TIME_TOD_RECEIVED, sub ch), (Obj.TIME_TOD_UNUSABLE, sub ch), (Obj.ACT_DIRECTIVES_ACCEPTED, sub ch), (Obj.PWR_STATE_ENTRIES, 1)] ∧
      u = { s with now := max s.now t, dict := u.dict, pwr := (leaveIdle (s.advance t)).pwr }) ∧
  (∀ (s : State) (t k : Nat) (ch : Fin 4) (x : Fin 2) (d : Directive) (src : Int), s.hears ch 11 d k → d.tid = 1023 →
    fld d.content 239 208 ≤ 999999999 → (dirContext s ch 11 d).measured = true → (dirContext s ch 11 d).tod = true →
    (dirContext s ch 11 d).firstTod = true → (dirContext s ch 11 d).jumped = false → s.rx[ch].calibrated = true →
    s.act[ch].rtdValid = true → s.obj Obj.TIME_DOM_SOURCE (sub x) = ch.val + 1 →
    s.obj Obj.TIME_DOM_SOURCE (sub (1 - x)) ≠ ch.val + 1 → s.time.doms[x].state = .freeRun → s.time.doms[x].pair = none →
    (s.time.doms[x].headEnd = none ∨ s.time.doms[x].headEnd = some s.rx[ch].heId) →
    src = ((fld d.content 287 240 * secU + fld d.content 239 208 * nsU + fld d.content 207 192 * 2 ^ 24 : Nat) : Int) + (((s.act[ch].rtd * 2 ^ 40 * 10000 / 995328 : Nat) : Int) - epsMean s ch) * ((2 ^ 31 : Nat) + toS 32 (fld d.content 191 160)) / (2 ^ 32 : Nat) →
    ∃ u, exec (.timeOfDay t ch d) s = .next u ∧
      u.time.doms = s.time.doms.set x { s.time.doms[x] with
        headEnd := some s.rx[ch].heId, last := some src.toNat, lastUsable := max s.now t
        theta := src - (clockAt s.time.doms[x].clk (dirContext s ch 11 d).arrival : Int)
        pair := some (src - (clockAt s.time.doms[x].clk (dirContext s ch 11 d).arrival : Int), src.toNat, max s.now t) } ∧
      s.counted u Obj.TIME_TOD_RECEIVED (sub ch) 1 ∧
      s.objsBut u [(Obj.TIME_TOD_RECEIVED, sub ch), (Obj.ACT_DIRECTIVES_ACCEPTED, sub ch), (Obj.PWR_STATE_ENTRIES, 1)] ∧
      u = { s with now := max s.now t, dict := u.dict, pwr := (leaveIdle (s.advance t)).pwr, time := { s.time with doms := u.time.doms, dd := u.time.dd } }) ∧
  (∀ (s : State) (t k : Nat) (ch : Fin 4) (g : Fin 64) (d : Directive), s.hears ch 14 d k → d.tid ≠ 1023 →
    s.act[ch].st = .operating → s.act[ch].upq.length < 8 → s.flag Obj.BOND_ENABLE = true → fld d.content 287 282 = g.val →
    fld d.content 281 280 = 0 → fld d.content 275 274 < 2 → 50 ≤ fld d.content 271 256 → fld d.content 271 256 ≤ 2000 →
    2 ≤ popCount 4 (fld d.content 279 276) →
    ((chans (fld d.content 279 276)).any fun c => (mapChannel s s.rx[ch].heId c).isNone) = false →
    bitAt (namedMembers s ch d.content) ch.val = true → s.bond.groups[g].valid = false →
    ∃ u, exec (.bondingControl t ch d) s = .next u ∧
      u.bond.groups[g] = { Group.init with valid := true, headOwned := true, mode := fld d.content 275 274, members := namedMembers s ch d.content, headEnd := some s.rx[ch].heId, timeout := fld d.content 271 256, st := u.bond.groups[g].st, up := u.bond.groups[g].up, dirty := u.bond.groups[g].dirty } ∧
      (u.bond.groups[g].st = .held ∨ u.bond.groups[g].st = .active) ∧
      (∀ h : Fin 64, h ≠ g → u.bond.groups[h] = s.bond.groups[h]) ∧
      u.act = s.act.set ch (s.act[ch].ackedBy 14 d.seq 0) ∧
      s.objsBut u (logObjs ++ [(Obj.ACT_DIRECTIVES_ACCEPTED, sub ch), (Obj.PWR_STATE_ENTRIES, 1)]) ∧
      u = { s with now := max s.now t, act := u.act, bond := { s.bond with groups := u.bond.groups }, dict := u.dict, log := u.log, island := u.island, pwr := (leaveIdle (s.advance t)).pwr }) ∧
  (∀ (s : State) (t k : Nat) (ch : Fin 4) (d : Directive) (v : UpDir), s.hears ch 15 d k → d.tid ≠ 1023 →
    (s.act[ch].st = .ranging ∨ s.act[ch].st = .operating) → s.act[ch].await = [v] → s.act[ch].upq = [] →
    v.type = fld d.content 287 280 → v.seq = fld d.content 279 272 → s.pwr.heWait ≠ some ch →
    ∃ u, exec (.acknowledge t ch d) s = .next u ∧
      u.act = s.act.set ch { s.act[ch] with await := [], dups := s.act[ch].dups ++ [(15, d.seq, s.act[ch].frames, none)] } ∧
      s.objsBut u [(Obj.ACT_DIRECTIVES_ACCEPTED, sub ch), (Obj.PWR_STATE_ENTRIES, 1)] ∧
      u = { s with now := max s.now t, act := u.act, dict := u.dict, pwr := (leaveIdle (s.advance t)).pwr }) ∧
  (∀ (s : State) (t : Nat) (ch : Fin 4) (d : Directive), dirWf d = true → s.rx[ch].st = .sync → dirAddressed s ch d = true →
    s.inSleep = false → s.running = true → d.tid ≠ 1023 → s.act[ch].session = .pending → s.act[ch].st = .ranging →
    codeKey .pending (mgmtKey s ch) (pendKey s ch) 15 d = some 1 →
    ∃ u, exec (.acknowledge t ch d) s = .next u ∧ u.act[ch].session = .confirmed ∧
      u.ciph.slots[chanSlot 224 ch] = s.ciph.slots[chanSlot 226 ch] ∧
      u.ciph.slots[chanSlot 225 ch] = s.ciph.slots[chanSlot 227 ch] ∧
      u.ciph.slots[chanSlot 226 ch] = Slot.empty ∧ u.ciph.slots[chanSlot 227 ch] = Slot.empty ∧
      (∀ c : Fin 4, c ≠ ch → u.act[c] = s.act[c]) ∧ u.rx = s.rx ∧ u.us = s.us ∧ u.time = s.time ∧ u.flash = s.flash)

/-- The activation enable, the timers' expiries, the silence token and the optics write. A write of 0 or 1 sets the
activation enable and leaves the state until the evaluation; another value is refused. T_announce and T_range
return an expired Announced or Ranging channel to Standby and T_lost returns an expired Intermittent one to
Initial. The right silence token clears the silence record; a wrong one is refused and counted. An optics write
sends its device address with the write bit, its register address and its data, after 9 clocks and a STOP where
OPT_SDA was low; one that is not acknowledged is counted. An accepted directive leaves the window of duplicates after 16 frames. -/
def Obligations.ActivationTimersAndWrites : Prop :=
  (∀ (s : State) (t v : Nat) (ch : Fin 4), s.serverUp = true → v ≤ 1 →
    ∃ u, exec (.actEnable t ch v) s = .next u ∧ u.status = .ok ∧ u.obj Obj.ACT_ENABLE (sub ch) = v ∧
      u.act = s.act.set ch { s.act[ch] with disabled := if v = 0 then true else s.act[ch].disabled } ∧
      s.objsBut u [(Obj.ACT_ENABLE, sub ch)] ∧
      u = { s with now := max s.now t, act := u.act, dict := u.dict, status := .ok }) ∧
  (∀ (s : State) (t v : Nat) (ch : Fin 4), s.serverUp = true → 1 < v →
    exec (.actEnable t ch v) s = .next { s with now := max s.now t, status := .range }) ∧
  (∀ (s : State) (t x : Nat) (ch : Fin 4), s.running = true → s.act[ch].st = .announced → s.act[ch].tAnnounce = some x →
    x ≤ max s.now t → s.island.silence[ch] = false → stopSet s ch = false →
    ∃ u, exec (.tAnnounce t ch) s = .next u ∧ u.now = max s.now t ∧ u.act[ch].st = .standby ∧ u.act[ch].tAnnounce = none ∧
      u.act[ch].tid = 1023 ∧ s.actReach u ch ∧ s.objsBut u (actObjs ch)) ∧
  (∀ (s : State) (t x : Nat) (ch : Fin 4), s.running = true → s.act[ch].st = .ranging → s.act[ch].tRange = some x →
    x ≤ max s.now t → s.island.silence[ch] = false → stopSet s ch = false →
    ∃ u, exec (.tRange t ch) s = .next u ∧ u.now = max s.now t ∧ u.act[ch].st = .standby ∧ u.act[ch].tRange = none ∧
      u.act[ch].tid = 1023 ∧ s.actReach u ch ∧ s.objsBut u (actObjs ch)) ∧
  (∀ (s : State) (t x : Nat) (ch : Fin 4), s.running = true → s.act[ch].st = .intermittent → s.act[ch].tLost = some x →
    x ≤ max s.now t → s.island.silence[ch] = false → stopSet s ch = false →
    ∃ u, exec (.tLost t ch) s = .next u ∧ u.now = max s.now t ∧ u.act[ch].st = .initial ∧ u.act[ch].tLost = none ∧
      u.act[ch].session = .none ∧ s.actReach u ch ∧ s.objsBut u (actObjs ch)) ∧
  (∀ (s : State) (t : Nat) (ch : Fin 4), s.serverUp = true → s.act[ch].token ≠ 0 →
    ∃ u, exec (.actSilenceAck t ch s.act[ch].token) s = .next u ∧ u.status = .ok ∧ u.island.silence[ch] = false ∧
      u.act = s.act.set ch { s.act[ch] with acked := true, token := 0 } ∧
      (∀ c : Fin 4, c ≠ ch → u.island.silence[c] = s.island.silence[c]) ∧ u.island.stop = s.island.stop ∧
      s.objsBut u logObjs ∧
      u = { s with now := max s.now t, status := .ok, act := u.act, dict := u.dict, log := u.log, island := u.island }) ∧
  (∀ (s : State) (t v : Nat) (ch : Fin 4), s.serverUp = true → v ≠ s.act[ch].token →
    ∃ u, exec (.actSilenceAck t ch v) s = .next u ∧ u.status = .range ∧ s.counted u Obj.ACT_SILENCE_ACK_FAILS (sub ch) 1 ∧
      s.objsBut u [(Obj.ACT_SILENCE_ACK_FAILS, sub ch)] ∧ u = { s with now := max s.now t, status := .range, dict := u.dict }) ∧
  (∀ (s : State) (t : Nat) (ch : Fin 4) (sdaLow : Bool) (w : OptWrite), s.act[ch].optPending = some w →
    exec (.optWriteComplete t ch sdaLow true) s = .next { s with
      now := max s.now t
      act := s.act.set ch { s.act[ch] with optPending := none, optLast := some w, optSent := (if sdaLow then
        [.clock, .clock, .clock, .clock, .clock, .clock, .clock, .clock, .clock, .stop] else []) ++
        [.start, .byte (w.device * 2), .byte w.register, .byte w.data, .stop] } }) ∧
  (∀ (s : State) (t : Nat) (ch : Fin 4) (sdaLow : Bool) (w : OptWrite), s.act[ch].optPending = some w →
    ∃ u, exec (.optWriteComplete t ch sdaLow false) s = .next u ∧ s.counted u Obj.ACT_OPT_WRITE_FAILS (sub ch) 1 ∧
      s.objsBut u [(Obj.ACT_OPT_WRITE_FAILS, sub ch)] ∧
      u = { s with now := max s.now t, dict := u.dict, act := s.act.set ch { s.act[ch] with
        optPending := none, optSent := optTransfer sdaLow w } }) ∧
  (∀ (s : State) (t : Nat) (ch : Fin 4),
    exec (.duplicateWindow t ch) s = .next { s with
      now := max s.now t, act := s.act.set ch { s.act[ch] with dups := s.act[ch].dups.filter fun e => s.act[ch].frames < e.2.2.1 + 16 } })

/-- The evaluation enters Standby and Intermittent; resends, EqD changes and handovers come due. At the evaluation, a
channel in Initial that is in Sync, enabled, with a stored profile and nothing pending enters Standby, and one in
Operating that has left Sync enters Intermittent with T_lost started. A directive unacknowledged for more than 8
frames is queued again, or dropped and counted after its third send. An EqD change that is due takes force. At
the handover frame the source gives its session slots to the target and returns to Standby, and the target that
has seen its first frame enters Operating with the terminal ID given. -/
def Obligations.EvaluationResendAndHandover : Prop :=
  (∀ (s : State) (t : Nat) (ch : Fin 4), s.running = true → s.act[ch].st = .initial → s.rx[ch].st = .sync →
    s.flag Obj.ACT_ENABLE (sub ch) = true → profileStored s ch = true → s.act[ch].dirq = [] → s.act[ch].disabled = false →
    s.act[ch].trip = none → s.act[ch].handover = none → s.act[ch].incoming = none → s.act[ch].await = [] →
    s.act[ch].renewAt = none → s.ciph.staged[ch] = none → s.island.silence[ch] = false → stopSet s ch = false →
    ∃ u, exec (.actEvaluation t ch) s = .next u ∧ u.now = max s.now t ∧ u.act[ch].st = .standby ∧
      u.act[ch].frames = s.act[ch].frames + 1 ∧ u.act[ch].evalAt = max s.now t ∧ u.us[ch].failSafe = false ∧
      s.actReach u ch ∧ s.objsBut u (actObjs ch)) ∧
  (∀ (s : State) (t : Nat) (ch : Fin 4), s.running = true → s.act[ch].st = .operating → s.rx[ch].st ≠ .sync →
    0 < s.obj Obj.ACT_T_LOST (sub ch) → s.act[ch].dirq = [] → s.act[ch].disabled = false → s.act[ch].trip = none →
    s.act[ch].handover = none → s.act[ch].incoming = none → s.act[ch].await = [] → s.act[ch].renewAt = none →
    s.ciph.staged[ch] = none → s.island.silence[ch] = false → stopSet s ch = false →
    ∃ u, exec (.actEvaluation t ch) s = .next u ∧ u.now = max s.now t ∧ u.act[ch].st = .intermittent ∧
      u.act[ch].tLost = some (max s.now t + s.obj Obj.ACT_T_LOST (sub ch) * tickMs) ∧ u.act[ch].tid = s.act[ch].tid ∧
      u.act[ch].session = s.act[ch].session ∧ u.ciph = s.ciph ∧ u.us = s.us ∧
      s.counted u Obj.ACT_INTERMITTENT_ENTRIES (sub ch) 1 ∧ s.actReach u ch ∧ s.objsBut u (actObjs ch)) ∧
  (∀ (s : State) (t : Nat) (ch : Fin 4) (v : UpDir), s.running = true → s.act[ch].await = [v] →
    v.sentAt + 8 < s.act[ch].frames → v.sends < 3 → s.act[ch].upq.length < 8 →
    exec (.upstreamResend t ch) s = .next { s with
      now := max s.now t, act := s.act.set ch { s.act[ch] with await := [], upq := upInsert s.act[ch].upSeq v s.act[ch].upq } }) ∧
  (∀ (s : State) (t : Nat) (ch : Fin 4) (v : UpDir), s.running = true → s.act[ch].await = [v] →
    v.sentAt + 8 < s.act[ch].frames → 3 ≤ v.sends → s.pwr.heWait ≠ some ch →
    ∃ u, exec (.upstreamResend t ch) s = .next u ∧ u.act = s.act.set ch { s.act[ch] with await := [] } ∧
      s.counted u Obj.ACT_UP_DIRECTIVES_DROPPED (sub ch) 1 ∧
      s.objsBut u ((Obj.ACT_UP_DIRECTIVES_DROPPED, sub ch) :: logObjs) ∧
      u = { s with now := max s.now t, act := u.act, dict := u.dict, log := u.log, island := u.island }) ∧
  (∀ (s : State) (t v : Nat) (ch : Fin 4) (e : EqdChange), s.rx[ch].st = .sync → s.act[ch].eqdq = [e] →
    sfcLe e.sfc s.us[ch].curSfc = true → eqdValue s.act[ch].eqd e = some v → e.power = none →
    ∃ u, exec (.eqdApply t ch) s = .next u ∧ u.act = s.act.set ch { s.act[ch] with eqdq := [], eqd := v } ∧
      s.objsBut u logObjs ∧
      u = { s with now := max s.now t, act := u.act, dict := u.dict, log := u.log, island := u.island }) ∧
  (∀ (s : State) (t : Nat) (ch : Fin 4) (h : Handover), s.running = true → s.act[ch].handover = some h → h.target ≠ ch →
    s.act[h.target].st = .standby → h.reached = true → s.act[ch].st = .operating → s.act[ch].incoming = none →
    s.island.silence[ch] = false → stopSet s ch = false →
    ∃ u, exec (.handoverFrame t ch) s = .next u ∧ u.now = max s.now t ∧ u.act[ch].st = .standby ∧
      u.act[ch].handover = none ∧ u.act[ch].session = .none ∧ u.act[ch].tid = 1023 ∧
      u.ciph.slots[chanSlot 224 h.target] = s.ciph.slots[chanSlot 224 ch] ∧
      u.ciph.slots[chanSlot 225 h.target] = s.ciph.slots[chanSlot 225 ch] ∧ s.actReach u ch ∧ s.objsBut u (actObjs ch)) ∧
  (∀ (s : State) (t : Nat) (ch src : Fin 4) (h : Handover), s.running = true → s.act[ch].handover = none →
    s.act[ch].incoming = some (src, h, true) → s.act[ch].st = .standby → s.island.silence[ch] = false →
    stopSet s ch = false →
    ∃ u, exec (.handoverFrame t ch) s = .next u ∧ u.now = max s.now t ∧ u.act[ch].st = .operating ∧
      u.act[ch].tid = h.tid ∧ u.act[ch].session = .confirmed ∧ u.act[ch].incoming = none ∧
      (∀ c : Fin 4, c ≠ ch → u.act[c] = s.act[c]) ∧ u.rx = s.rx ∧ u.flash = s.flash ∧ u.time.doms = s.time.doms ∧
      s.tabsBut u [Obj.US_ALLOC_TABLE, Obj.BOND_GROUP_COUNTERS])

/-- A grant becomes a chain, the chain is sealed, filled and sent. In Operating, a map whose single grant is to the
default allocation and passes the eight tests adds one data chain at start(N) with the grant's slots, and counts
the grant; a grant whose HEC fails adds none and is counted. The next chain of a channel is sealed once its rise
is at most 6 µs ahead, with the alarm and receive bits of its header, the bonding maps, and the directive at the
head of the queue where a grant of it has a directive slot with room; a Serial Number chain is sealed over 19
slots with a fresh directive. A sealed data chain of one grant of an allocation with nothing queued is filled with
its allocation header, report 0, and idle carriers; a Serial Number chain with its directive. At its rise a
filled chain that the state allows is sent: PBEN rises, the burst number advances and the burst is counted. After
the tail PBEN falls and its idle bytes are counted. No other channel's receiver or tailrace changes. -/
def Obligations.GrantsBecomeBursts : Prop :=
  (∀ (s : State) (t w per : Nat) (ch : Fin 4) (m : MapIn) (rest : List MapIn) (g : Grant) (pr : BurstProfile),
    per = linePeriod s ch → s.us[ch].maps = m :: rest → m.words = [(w, false)] → parseGrant (w, false) = g → profileAt s ch g.profile = pr →
    s.act[ch].st = .operating → s.act[ch].tid ≠ 1023 → s.act[ch].announce = none → s.act[ch].handover = none →
    s.act[ch].incoming = none → asleepUp s = false → g.hecOk = true → g.allocId = s.act[ch].tid → g.ranging = false →
    16 ≤ g.size → grantInRange g = true → profileOk pr = true → pr.p + 1 ≤ g.start →
    s.us[ch].lastEnd ≤ startOf per m.arrival s.act[ch].eqd + slotTicks per g.start - slotTicks per (pr.p + 1) →
    ∃ u, exec (.bandwidthMap t ch) s = .next u ∧ u.us[ch].maps = rest ∧
      u.us[ch].chains = s.us[ch].chains ++ [{
        kind := .data, tid := s.act[ch].tid, sfc := m.sfc, chId := m.chId, grants := [(g, s.obj Obj.US_DEFAULT_ROW (sub ch))]
        startSlot := g.start, slots := g.size, p := pr.p, guardSlots := pr.guardSlots, pattern := pr.pattern
        delimiter := pr.delimiter, frameStart := startOf per m.arrival s.act[ch].eqd, measured := m.measured
        period := per, all := false
        riseAt := startOf per m.arrival s.act[ch].eqd + slotTicks per g.start - slotTicks per (pr.p + 1)
        endAt := startOf per m.arrival s.act[ch].eqd + slotTicks per (g.start + g.size), delay := 0, sealedAt := none
        dsOk := false, emergency := false, directive := none, dirBytes := [], bonds := [], filled := false, content := [], taken := [], reports := 0, carriers := 0, payload := 0, idle := 0
        fragments := 0 }] ∧
      s.counted u Obj.US_GRANTS_SEEN (sub ch) 1 ∧ (∀ c : Fin 4, c ≠ ch → u.us[c] = s.us[c]) ∧
      s.objsBut u [(Obj.US_GRANTS_SEEN, sub ch), (Obj.PWR_STATE_ENTRIES, 1)] ∧
      u = { s with now := max s.now t, us := u.us, dict := u.dict, pwr := (leaveIdle (s.advance t)).pwr }) ∧
  (∀ (s : State) (t : Nat) (ch : Fin 4) (m : MapIn) (rest : List MapIn) (w : Nat), s.us[ch].maps = m :: rest →
    m.words = [(w, false)] → s.act[ch].announce = none → (parseGrant (w, false)).hecOk = false →
    ∃ u, exec (.bandwidthMap t ch) s = .next u ∧ u.us[ch].maps = rest ∧ u.us[ch].chains = s.us[ch].chains ∧
      s.counted u Obj.US_GRANT_HEC_ERRORS (sub ch) 1 ∧ (∀ c : Fin 4, c ≠ ch → u.us[c] = s.us[c]) ∧
      s.objsBut u ((Obj.US_GRANT_HEC_ERRORS, sub ch) :: logObjs) ∧
      u = { s with now := max s.now t, us := u.us, dict := u.dict, log := u.log, island := u.island }) ∧
  (∀ (s : State) (t : Nat) (ch : Fin 4) (k : Chain), s.us[ch].chains = [k] → k.sealedAt = none →
    (k.kind = .data ∨ k.kind = .reportOnly) → k.riseAt ≤ max s.now t + 6 * tickUs → asleepUp s = false →
    (s.act[ch].upq = [] ∨ (k.grants.all fun g => !g.1.directiveSlot) = true) →
    exec (.seal t ch) s = .next { s with
      now := max s.now t, us := s.us.set ch { s.us[ch] with chains := [{ k with
        sealedAt := some (sealEdge k), dsOk := s.rx[ch].last8.all id, emergency := emergency s
        bonds := s.bond.groups.toList.map fun g => (chans g.up, g.map) }] } }) ∧
  (∀ (s : State) (t : Nat) (ch : Fin 4) (k : Chain) (v : UpDir) (rest : List UpDir), s.us[ch].chains = [k] →
    k.sealedAt = none → k.kind = .data → k.riseAt ≤ max s.now t + 6 * tickUs → asleepUp s = false →
    s.act[ch].upq = v :: rest → (k.grants.any fun g => g.1.directiveSlot) = true → chainRoom k 56 = true →
    ∃ u, exec (.seal t ch) s = .next u ∧
      (u.us[ch].chains.map fun x => (x.sealedAt, x.directive, x.grants)) = [(some (sealEdge k), some v, k.grants)] ∧
      u.act = s.act.set ch { s.act[ch] with upq := rest } ∧ (∀ c : Fin 4, c ≠ ch → u.us[c] = s.us[c]) ∧
      u = { s with now := max s.now t, us := u.us, act := u.act }) ∧
  (∀ (s : State) (t : Nat) (ch : Fin 4) (k : Chain), s.us[ch].chains = [k] → k.sealedAt = none → k.kind = .announce →
    k.riseAt ≤ max s.now t + 6 * tickUs → asleepUp s = false →
    ∃ u, exec (.seal t ch) s = .next u ∧
      (u.us[ch].chains.map fun x => (x.slots, x.directive)) = [(19, some { type := 0x81, seq := s.act[ch].upSeq, content := serialContent s ch k.delay, sends := 0, sentAt := 0 })] ∧
      u.act = s.act.set ch { s.act[ch] with upSeq := (s.act[ch].upSeq + 1) % 256 } ∧
      (∀ c : Fin 4, c ≠ ch → u.us[c] = s.us[c]) ∧ u = { s with now := max s.now t, us := u.us, act := u.act }) ∧
  (∀ (s : State) (t at0 r : Nat) (ch : Fin 4) (k : Chain) (g : Grant), s.us[ch].chains = [k] → k.sealedAt = some at0 →
    nextSeal s = some (ch, k, at0) → k.kind = .data → k.grants = [(g, r)] → g.directiveSlot = false → g.size = k.slots →
    g.start = k.startSlot → 16 ≤ k.slots → k.dirBytes = [] → s.usq = [] → (∀ c : Fin 4, s.us[c].openFrags = []) →
    ∃ u, exec (.fill t) s = .next u ∧
      u.us[ch].chains = [{ k with
        filled := true, taken := [], reports := 1, carriers := 0, payload := 0, idle := infoBytes (16 * k.slots) - 16, fragments := 0, content := beBytes 8 (allocHdr g.allocId 0 false false) ++ idleFill ((infoBytes (16 * k.slots) - 8) / 8 + 1) (infoBytes (16 * k.slots) - 16) }] ∧
      (∀ c : Fin 4, c ≠ ch → u.us[c] = s.us[c]) ∧ s.objsBut u [(Obj.US_REPORTS_OMITTED, sub ch)] ∧
      u = { s with now := max s.now t, us := u.us, dict := u.dict }) ∧
  (∀ (s : State) (t at0 : Nat) (ch : Fin 4) (k : Chain), s.us[ch].chains = [k] → k.sealedAt = some at0 →
    nextSeal s = some (ch, k, at0) → k.kind = .announce →
    exec (.fill t) s = .next { s with now := max s.now t, us := s.us.set ch { s.us[ch] with
      chains := [{ k with filled := true, content := k.dirBytes ++ fill4E 8 }] } }) ∧
  (∀ (s : State) (t : Nat) (ch : Fin 4) (k : Chain) (rest : List Chain), s.us[ch].burst = none → s.us[ch].chains = k :: rest →
    k.filled = true → k.riseAt ≤ max s.now t → chainAllowed s ch k = true →
    ∃ u, exec (.burstStart t ch) s = .next u ∧ u.us[ch].pben = true ∧ u.us[ch].burst = some k ∧ u.us[ch].chains = rest ∧
      u.us[ch].burstSeq = (s.us[ch].burstSeq + 1) % 256 ∧
      u.us[ch].fallAt = k.frameStart + slotTicks k.period (k.startSlot + k.slots + s.obj Obj.US_PBEN_TAIL (sub ch)) ∧
      (u.us[ch].last.map fun o => o.line.take (16 * (k.p + 1))) = some ((preamble k).take (16 * (k.p + 1))) ∧
      s.counted u Obj.US_BURSTS_SENT (sub ch) 1 ∧ s.counted u Obj.US_GRANTS_EXECUTED (sub ch) k.grants.length ∧
      (∀ c : Fin 4, c ≠ ch → u.us[c] = s.us[c] ∧ u.act[c] = s.act[c]) ∧ s.tabsBut u [Obj.US_ALLOC_COUNTERS] ∧
      u = { s with now := max s.now t, us := u.us, act := u.act, dict := u.dict, tab := u.tab, time := u.time, compat := u.compat }) ∧
  (∀ (s : State) (t : Nat) (ch : Fin 4) (k : Chain), s.us[ch].burst = some k → s.us[ch].fallAt ≤ max s.now t →
    ∃ u, exec (.burstEnd t ch) s = .next u ∧ u.us = s.us.set ch { s.us[ch] with burst := none, pben := false } ∧
      s.counted u Obj.US_IDLE_BYTES (sub ch) k.idle ∧
      s.objsBut u ([(Obj.US_PAYLOAD_BYTES, sub ch), (Obj.US_IDLE_BYTES, sub ch), (Obj.US_FRAGMENTS_SENT, sub ch)] ++ logObjs ++ hopObjs) ∧
      s.tabsBut u [Obj.US_ALLOC_COUNTERS] ∧
      u = { s with now := max s.now t, us := u.us, dict := u.dict, tab := u.tab, hop := u.hop, log := u.log, island := u.island })

/-- Light outside every window latches PTXDIS; the latch ends after its hold. A sample that shows PBEN high inside an
open window changes nothing. The first of a run outside every window latches the channel's PTXDIS, counts one
trip, records its instant in the always-on island and signals the activation machine, as a second trip where the
last was at most 60 s ago. But under EXTEST, where its boundary cell drives the pin, PTXDIS is then asserted. At least 1 s
after the trip, with no silence record, the latch ends. The other channels stay as they are. -/
def Obligations.EmissionGuardTripsAndReleases : Prop :=
  (∀ (s : State) (t : Nat) (ch : Fin 4),
    (s.us[ch].windows.any fun w => decide (w.1 ≤ max s.now t) && decide (max s.now t ≤ w.2)) = true →
    exec (.guardTrip t ch) s = .next (s.advance t)) ∧
  (∀ (s : State) (t : Nat) (ch : Fin 4),
    (s.us[ch].windows.any fun w => decide (w.1 ≤ max s.now t) && decide (max s.now t ≤ w.2)) = false →
    outsideBefore (s.advance t) ch = false →
    ∃ u, exec (.guardTrip t ch) s = .next u ∧
      u.us = s.us.set ch { s.us[ch] with outside := some (max s.now t), latched := some (max s.now t) } ∧
      (tapIn s .extest = false → ptxdis u ch = true) ∧
      u.act[ch].trip = some (secondTrip (s.advance t) ch || s.act[ch].trip == some true) ∧
      u.island.lastTrip = s.island.lastTrip.set ch (some (max s.now t)) ∧ u.island.silence = s.island.silence ∧
      s.counted u Obj.US_GUARD_TRIPS (sub ch) 1 ∧ s.objsBut u ((Obj.US_GUARD_TRIPS, sub ch) :: logObjs) ∧
      (∀ c : Fin 4, c ≠ ch → u.act[c] = s.act[c]) ∧
      u = { s with now := max s.now t, us := u.us, act := u.act, dict := u.dict, log := u.log, island := u.island }) ∧
  (∀ (s : State) (t x : Nat) (ch : Fin 4), s.us[ch].latched = some x → x + tickS ≤ max s.now t →
    s.island.silence[ch] = false →
    ∃ u, exec (.guardReleased t ch) s = .next u ∧
      u.us = s.us.set ch { s.us[ch] with latched := none, silenceHeld := false } ∧ s.objsBut u logObjs ∧
      u = { s with now := max s.now t, us := u.us, dict := u.dict, log := u.log, island := u.island }) ∧
  (∀ (s : State) (t : Nat) (ch : Fin 4), s.island.silence[ch] = true →
    exec (.guardReleased t ch) s = .next (s.advance t))

/-- Bonding is enabled, maps are rebuilt, and the reorder releases, holds and skips. Writing 0 to the bonding enable
leaves every valid group Unconfigured with no frame held and no member Up; another value than 0 and 1 is refused.
A dirty group's bucket map is rebuilt from its members and those Up. A present frame with the expected sequence
is released to the parser, and the expectation moves on; one ahead of it is held. When the only held frame is
past the group's timeout, the group skips to it and releases it. A change of mode or timeout takes force on a
group that holds no frame. No other group changes. -/
def Obligations.BondingGroupsAndReorder : Prop :=
  (∀ (s : State) (t : Nat), s.serverUp = true →
    ∃ u, exec (.bondEnable t 0) s = .next u ∧ u.status = .ok ∧ u.obj Obj.BOND_ENABLE = 0 ∧
      (∀ g : Fin 64, s.bond.groups[g].valid = true → u.bond.groups[g].st = .unconfigured ∧ u.bond.groups[g].held = [] ∧
        u.bond.groups[g].up = 0 ∧ u.bond.groups[g].members = s.bond.groups[g].members) ∧
      (∀ g : Fin 64, s.bond.groups[g].valid = false → u.bond.groups[g] = s.bond.groups[g]) ∧
      s.objsBut u ((Obj.BOND_ENABLE, 0) :: logObjs ++ moveObjs) ∧ s.tabsBut u [Obj.BOND_GROUP_COUNTERS] ∧
      u = { s with now := max s.now t, status := .ok, dict := u.dict, tab := u.tab, frames := u.frames, nextOrd := u.nextOrd, hop := u.hop, log := u.log, island := u.island, bond := { s.bond with groups := u.bond.groups } }) ∧
  (∀ (s : State) (t v : Nat), s.serverUp = true → 1 < v →
    exec (.bondEnable t v) s = .next { s with now := max s.now t, status := .range }) ∧
  (∀ (s : State) (t : Nat) (g : Fin 64) (left : Bool), s.bond.groups[g].dirty = some left → s.bond.groups[g].held = [] →
    exec (.bucketMapRebuild t g) s = .next { s with
      now := max s.now t, bond := { s.bond with groups := s.bond.groups.set g { s.bond.groups[g] with
        map := bucketMap (chans s.bond.groups[g].members) (chans s.bond.groups[g].up), dirty := none, expValid := if left then false else s.bond.groups[g].expValid } } }) ∧
  (∀ (s : State) (t i q : Nat) (g : Fin 64) (b : Bool) (rest : List (Nat × Nat × Bool × Nat)),
    s.bond.presented = (i, g.val, b, q) :: rest → s.bond.groups[g].valid = true → groupLive s.bond.groups[g] = true →
    s.bond.groups[g].expValid = true → s.bond.groups[g].held = [] → seqDist s.bond.groups[g].expected q = 0 →
    ∃ u, exec (.presentFrame t) s = .next u ∧
      u.bond = { s.bond with presented := rest, groups := s.bond.groups.set g { s.bond.groups[g] with expected := (s.bond.groups[g].expected + 1) % 4096 } } ∧
      ((u.frame? i).map fun x => (x.ready, x.order, x.owner)) = ((s.frame? i).map fun _ => (true, some (max s.now t, s.nextOrd), 16 + g.val)) ∧
      s.otherFrames u i ∧ s.rowCounted u Obj.BOND_GROUP_COUNTERS g.val 8 0 1 ∧
      s.rowsBut u [(Obj.BOND_GROUP_COUNTERS, g.val)] ∧ s.objsBut u (logObjs ++ moveObjs) ∧
      u = { s with now := max s.now t, bond := u.bond, frames := u.frames, nextOrd := s.nextOrd + 1, dict := u.dict, tab := u.tab, hop := u.hop, log := u.log, island := u.island }) ∧
  (∀ (s : State) (t i q : Nat) (g : Fin 64) (b : Bool) (rest : List (Nat × Nat × Bool × Nat)),
    s.bond.presented = (i, g.val, b, q) :: rest → s.bond.groups[g].valid = true → groupLive s.bond.groups[g] = true →
    s.bond.groups[g].expValid = true → s.bond.groups[g].held = [] → 0 < seqDist s.bond.groups[g].expected q →
    seqDist s.bond.groups[g].expected q < 2048 → heldFrames s < 16384 →
    ∃ u, exec (.presentFrame t) s = .next u ∧
      u.bond = { s.bond with presented := rest, groups := s.bond.groups.set g { s.bond.groups[g] with held := [{ seq := q, fid := i, at0 := max s.now t }] } } ∧
      ((u.frame? i).map fun x => x.owner) = ((s.frame? i).map fun _ => 80) ∧ s.otherFrames u i ∧
      s.objsBut u (logObjs ++ moveObjs) ∧
      u = { s with now := max s.now t, bond := u.bond, frames := u.frames, dict := u.dict, hop := u.hop, log := u.log, island := u.island }) ∧
  (∀ (s : State) (t : Nat) (g : Fin 64) (h : HeldFrame), s.bond.groups[g].held = [h] →
    (∀ k : Fin 64, k ≠ g → s.bond.groups[k].held = []) → h.at0 + s.bond.groups[g].timeout * tickUs ≤ max s.now t →
    ∃ u, exec (.reorderTimeout t) s = .next u ∧
      u.bond = { s.bond with groups := s.bond.groups.set g { s.bond.groups[g] with held := [], expected := (h.seq + 1) % 4096 } } ∧
      ((u.frame? h.fid).map fun x => (x.ready, x.owner)) = ((s.frame? h.fid).map fun _ => (true, 16 + g.val)) ∧
      s.otherFrames u h.fid ∧ s.rowsBut u [(Obj.BOND_GROUP_COUNTERS, g.val)] ∧ s.objsBut u (logObjs ++ moveObjs) ∧
      u = { s with now := max s.now t, bond := u.bond, frames := u.frames, nextOrd := s.nextOrd + 1, dict := u.dict, tab := u.tab, hop := u.hop, log := u.log, island := u.island }) ∧
  (∀ (s : State) (t m tmo : Nat) (g : Fin 64), s.bond.groups[g].change = some (m, tmo) → s.bond.groups[g].held = [] →
    exec (.modeChange t g) s = .next { s with
      now := max s.now t, bond := { s.bond with groups := s.bond.groups.set g { s.bond.groups[g] with
        mode := m, timeout := tmo, change := none, expValid := if m = s.bond.groups[g].mode then s.bond.groups[g].expValid else false, usNext := if m ≠ s.bond.groups[g].mode ∧ m = 1 then 0 else s.bond.groups[g].usNext } } })

/-- A window brings a frame in; a context, the lookups and the program's end move its pass on. A host frame of 60 to
64 bytes of window on an Up port enters as a frame of that source with the active generation, asks for its first
buffer and waits while its source is below its wait limit; a flow-control frame is only counted. The oldest
eligible waiting frame of a region takes the chosen thread. A matching rule gives a frame its action, issuing a
flow-table lookup where the action asks for one. A flow-table hit replaces the action and a miss leaves it. A
program that ends on a frame still arriving leaves the frame awaiting its checks. No other frame changes. -/
def Obligations.WindowsContextsAndLookups : Prop :=
  (∀ (s : State) (t sof lane pcs : Nat) (p : Fin 8) (bytes : Bytes), s.ingressOpen = true → s.ports[p].st = .up →
    looped s p = false → s.flag Obj.MAC_PREEMPT_ENABLE (sub p) = false → 60 ≤ bytes.length → bytes.length ≤ 64 →
    bytes.length + 4 ≤ s.obj Obj.MAC_MAX_FRAME (sub p) → beAt bytes 12 2 ≠ 0x8808 →
    s.frame? s.nextFid = none → waitingOf s p.val < waitLimit s p.val →
    ∃ u, exec (.windowComplete t (.host p bytes sof lane pcs true)) s = .next u ∧ u.nextFid = s.nextFid + 1 ∧
      ((u.frame? s.nextFid).map fun x => (x.src, x.inPort, x.data, x.stage, x.generation, x.asking)) =
        some (p.val, p.val, bytes, Stage.noBuffer, s.rules.active, true) ∧
      s.otherFrames u s.nextFid ∧
      (u.hop.reqs[(0 : Fin 5)].map HopReq.use) = (s.hop.reqs[(0 : Fin 5)].map HopReq.use) ++ [.first s.nextFid] ∧
      s.objsBut u [(Obj.PWR_STATE_ENTRIES, 1), (Obj.TIME_UNCAL_STAMPS, 0)] ∧
      u = { s with now := max s.now t, nextFid := u.nextFid, nextOrd := s.nextOrd + 1, frames := u.frames, hop := { s.hop with reqs := u.hop.reqs }, pwr := u.pwr, dict := u.dict }) ∧
  (∀ (s : State) (t sof lane pcs : Nat) (p : Fin 8) (bytes : Bytes), s.ingressOpen = true → s.ports[p].st = .up →
    looped s p = false → 60 ≤ bytes.length → bytes.length ≤ 64 → beAt bytes 12 2 = 0x8808 →
    ∃ u, exec (.windowComplete t (.host p bytes sof lane pcs true)) s = .next u ∧ s.rowCounted u Obj.MAC_COUNTERS p.val 18 5 1 ∧
      s.rowsBut u [(Obj.MAC_COUNTERS, p.val)] ∧ u = { s with now := max s.now t, tab := u.tab }) ∧
  (∀ (s : State) (t c e : Nat) (r : Fin 8) (f : Frame), s.ingressOpen = true →
    earliest ((regionHeads s r.val).filter fun x => mayTake s x.src r.val) = some f → s.frame? f.fid = some f →
    f.region = r.val → f.stage = .waiting → f.pass = 0 → f.src < 80 → failedCause f = none → f.reentry = false →
    pickThread s r.val = some (c, e) → c < 64 →
    ∃ u, exec (.contextAssign t r) s = .next u ∧
      u.frame? f.fid = some { f with stage := .parsing, ctxAt := max s.now t, cluster := c, engine := e } ∧
      s.otherFrames u f.fid ∧ s.objsBut u [(Obj.CTX_MAX_IN_USE, 0)] ∧
      s.rowsBut u [(Obj.CTX_SOURCE_COUNTERS, f.src), (Obj.ENG_CLUSTER_COUNTERS, c)] ∧
      u = { s with now := max s.now t, frames := u.frames, dict := u.dict, tab := u.tab }) ∧
  (∀ (s : State) (t i r v : Nat) (f : Frame), s.frame? i = some f → f.stage = .parsing → f.cpuEgress = none →
    f.lcDrop = false → ruleLookup s f.generation f.key = some (r, v) →
    exec (.ternaryResult t i) s = .next { s with
      now := max s.now t, frames := s.frames.map fun x => if x.fid = i then { x with rule := r, action := v % 2 ^ 128, miss := false, stage := if bitAt (v % 2 ^ 128) 35 then .lookup else .program, emWait := if bitAt (v % 2 ^ 128) 35 then some (actProfile (v % 2 ^ 128), packKey f.key (s.row Obj.EM_PROFILES (actProfile (v % 2 ^ 128)))) else none } else x }) ∧
  (∀ (s : State) (t i prof key r : Nat) (f : Frame), s.frame? i = some f → f.stage = .lookup → f.emWait = some (prof, key) →
    emFind s prof key = some r →
    exec (.emLookupResult t i) s = .next { s with
      now := max s.now t, frames := s.frames.map fun x => if x.fid = i then { x with stage := .program, emWait := none, emRow := some r, rule := 0xFFFE, action := fld (s.row Obj.EM_TABLE r) 191 64 } else x }) ∧
  (∀ (s : State) (t i prof key : Nat) (f : Frame), s.frame? i = some f → f.stage = .lookup → f.emWait = some (prof, key) →
    emFind s prof key = none →
    exec (.emLookupResult t i) s = .next { s with
      now := max s.now t, frames := s.frames.map fun x => if x.fid = i then { x with stage := .program, learn := if bitAt f.action 34 then some (prof, key) else none } else x }) ∧
  (∀ (s : State) (t i d : Nat) (f : Frame), s.frame? i = some f → f.stage = .program → f.complete = false → f.pass = 0 →
    failedCause f = none → journalSize { f with info := d } ≤ 64 →
    ∃ u, exec (.programEnd t i d) s = .next u ∧ u.frame? i = some { f with stage := .awaiting, info := d } ∧
      s.otherFrames u i ∧ u = { s with now := max s.now t, frames := u.frames })

/-- The last byte, the verdicts and the limits decide a pass. The last byte of a host frame within its port's size limit
completes it; one beyond the limit, in a frame that holds no context, is counted, the bytes after the limit are
discarded, and nothing more comes of the frame; the last byte of a frame already marked oversize ends it. A good
FCS verdict that closes the last check makes an awaiting frame Ready and counts a good frame and its bytes; a bad
one undoes the pass with cause 1. A frame that reaches its port's size limit before it holds a context is marked
oversize and truncated. A good tag verdict closes one tag of its frame. A pass that is not Ready and whose checks
stay open past the timeout is undone with cause 7, and one that still runs past the program limit with cause 8.
An undone pass is counted, its buffers are given back, its frame leaves once nothing more of it is to come, and
every other frame stays. A command for a frame that is not there changes nothing. -/
def Obligations.LateChecksAndUndo : Prop :=
  (∀ (s : State) (t i : Nat) (rest : Bytes) (asmOk : Bool) (f : Frame), rest.length ≤ 16000 → s.frame? i = some f →
    f.src < 8 → f.complete = false → f.oversize = false → f.data.length + rest.length + 4 ≤ maxFrame s f.inPort →
    (asmOk = true ∨ s.flag Obj.MAC_PREEMPT_ENABLE (f.inPort + 1) = false) → (f.stage = .lookup ∨ f.stage = .program) →
    failedCause f = none → f.reentry = false → f.ends = [] →
    ∃ u, exec (.lastByte t i rest asmOk) s = .next u ∧ u.frame? i = some { f with data := f.data ++ rest, complete := true } ∧
      s.otherFrames u i ∧ u = { s with now := max s.now t, frames := u.frames }) ∧
  (∀ (s : State) (t i : Nat) (rest : Bytes) (asmOk : Bool) (f : Frame), rest.length ≤ 16000 → s.frame? i = some f →
    f.src < 8 → f.inPort < 8 → f.complete = false → f.oversize = false → f.stage = .waiting → s.notUndone i →
    maxFrame s f.inPort < f.data.length + rest.length + 4 →
    ∃ u, exec (.lastByte t i rest asmOk) s = .next u ∧
      u.frame? i = some { f with
        data := (f.data ++ rest).take (maxFrame s f.inPort), oversize := true, truncated := true, complete := true
        cut := true, ends := [] } ∧ s.otherFrames u i ∧
      s.rowCounted u Obj.MAC_COUNTERS f.inPort 18 4 1 ∧ s.rowsBut u [(Obj.MAC_COUNTERS, f.inPort)] ∧
      u = { s with now := max s.now t, frames := u.frames, tab := u.tab }) ∧
  (∀ (s : State) (t i : Nat) (rest : Bytes) (asmOk : Bool) (f : Frame), rest.length ≤ 16000 → s.frame? i = some f →
    f.src < 8 → f.complete = false → f.oversize = true → f.stage ≠ .orphan →
    ∃ u, exec (.lastByte t i rest asmOk) s = .next u ∧
      u.frame? i = some { f with complete := true, cut := true, ends := [] } ∧ s.otherFrames u i ∧
      u = { s with now := max s.now t, frames := u.frames }) ∧
  (∀ (s : State) (t i : Nat) (rest : Bytes) (asmOk good : Bool), rest.length ≤ 16000 → s.frame? i = none →
    exec (.lastByte t i rest asmOk) s = .next (s.advance t) ∧ exec (.oversize t i rest) s = .next (s.advance t) ∧
    exec (.fcsVerdict t i good) s = .next (s.advance t) ∧ exec (.ctxTimeout t i) s = .next (s.advance t) ∧
    exec (.ctxProgramLimit t i) s = .next (s.advance t)) ∧
  (∀ (s : State) (t i : Nat) (rest : Bytes) (f : Frame), rest.length ≤ 16000 → s.frame? i = some f → f.src < 8 →
    f.complete = false → f.oversize = false → f.stage = .waiting → f.inPort < 8 → s.notUndone i →
    maxFrame s f.inPort ≤ f.data.length + rest.length →
    ∃ u, exec (.oversize t i rest) s = .next u ∧
      u.frame? i = some { f with
        data := (f.data ++ rest).take (maxFrame s f.inPort), oversize := true, truncated := true } ∧ s.otherFrames u i ∧
      s.rowCounted u Obj.MAC_COUNTERS f.inPort 18 4 1 ∧ s.rowsBut u [(Obj.MAC_COUNTERS, f.inPort)] ∧
      u = { s with now := max s.now t, frames := u.frames, tab := u.tab }) ∧
  (∀ (s : State) (t i : Nat) (f : Frame), s.frame? i = some f → f.src < 8 → f.inPort < 8 → f.complete = true →
    f.cut = false → f.fcs = none → f.stage = .awaiting → f.reentry = false → failedCause { f with fcs := some true } = none →
    openChecks { f with fcs := some true } = 0 →
    ∃ u, exec (.fcsVerdict t i true) s = .next u ∧ u.frame? i = some { f with fcs := some true, stage := .ready } ∧
      s.otherFrames u i ∧ s.rowsBut u [(Obj.MAC_COUNTERS, f.inPort)] ∧
      fld (u.row Obj.MAC_COUNTERS f.inPort) 1151 1088 = min (2 ^ 64 - 1) (fld (s.row Obj.MAC_COUNTERS f.inPort) 1151 1088 + 1) ∧
      fld (u.row Obj.MAC_COUNTERS f.inPort) 1087 1024 =
        min (2 ^ 64 - 1) (fld (s.row Obj.MAC_COUNTERS f.inPort) 1087 1024 + (f.data.length + 4)) ∧
      u = { s with now := max s.now t, frames := u.frames, tab := u.tab }) ∧
  (∀ (s : State) (t i : Nat) (f : Frame), s.frame? i = some f → f.plain → f.src < 8 → f.inPort < 8 → f.complete = true →
    f.cut = false → f.fcs = none → holdsCtx f = true → f.stage ≠ .ready → s.notUndone i →
    ∃ u, exec (.fcsVerdict t i false) s = .next u ∧ u.now = max s.now t ∧ s.undone u i { f with fcs := some false } 1 ∧
      s.rowCounted u Obj.MAC_COUNTERS f.inPort 18 2 1) ∧
  (∀ (s : State) (t : Nat) (ch : Fin 4) (v : Verdict) (rest : List Verdict) (f : Frame), s.rx[ch].verdicts = v :: rest →
    v.noKey = false → v.good = true → v.client = none → s.frame? v.fid = some f → f.stage = .program →
    failedCause f = none → f.reentry = false →
    ∃ u, exec (.tagVerdict t ch) s = .next u ∧ u.frame? v.fid = some { f with tagsOpen := f.tagsOpen - 1 } ∧
      s.otherFrames u v.fid ∧ s.counted u Obj.CIPH_DS_DECRYPTED (sub ch) 1 ∧ s.objsBut u [(Obj.CIPH_DS_DECRYPTED, sub ch)] ∧
      u = { s with now := max s.now t, frames := u.frames, dict := u.dict, rx := s.rx.set ch { s.rx[ch] with verdicts := rest } }) ∧
  (∀ (s : State) (t : Nat) (ch : Fin 4), s.rx[ch].verdicts = [] → exec (.tagVerdict t ch) s = .next (s.advance t)) ∧
  (∀ (s : State) (t i : Nat) (f : Frame), s.frame? i = some f → f.plain → holdsCtx f = true → f.stage ≠ .ready →
    f.pass = 0 → openChecks f ≠ 0 → f.ctxAt + s.obj Obj.CTX_TIMEOUT_US * tickUs ≤ max s.now t →
    ∃ u, exec (.ctxTimeout t i) s = .next u ∧ u.now = max s.now t ∧ s.undone u i f 7) ∧
  (∀ (s : State) (t i : Nat) (f : Frame), s.frame? i = some f → f.plain → ctxRunning f = true →
    f.ctxAt + s.obj Obj.CTX_PROGRAM_LIMIT * tickCore ≤ max s.now t →
    ∃ u, exec (.ctxProgramLimit t i) s = .next u ∧ u.now = max s.now t ∧ s.undone u i f 8)

/-- The oldest Ready frame of a source commits by its action; egress may begin before. A source whose oldest frame is
not Ready commits nothing. A Ready frame whose action drops it leaves with its buffers and is counted as a
commit. One for an upstream queue with room, with no effects but its destination, goes to the end of that queue
as it is, and no other frame changes. A frame that meets the conditions of cut-through, whose class the port's
selection picks while its line is free, begins egress there marked as not committed; one that does not meet them
changes nothing. -/
def Obligations.CommitAndCutThrough : Prop :=
  (∀ (s : State) (t : Nat) (src : Fin 80) (f : Frame), sourceOldest s src.val = some f → f.stage ≠ .ready →
    exec (.commit t src) s = .next (s.advance t)) ∧
  (∀ (s : State) (t : Nat) (src : Fin 80) (f : Frame), sourceOldest s src.val = some f → s.frame? f.fid = some f → f.plain →
    f.src = src.val → f.stage = .ready → f.action = 0 → f.marked = false → f.passColour = none → f.emRow = none →
    f.emWait = none →
    ∃ u, exec (.commit t src) s = .next u ∧ u.frame? f.fid = none ∧ s.otherFrames u f.fid ∧
      s.rowCounted u Obj.CTX_SOURCE_COUNTERS f.src 8 1 1 ∧ s.objsBut u (passObjs f.inPort) ∧
      s.tabsBut u [Obj.CTX_SOURCE_COUNTERS, Obj.ENG_CLUSTER_COUNTERS] ∧
      u = { s with now := max s.now t, frames := u.frames, dict := u.dict, tab := u.tab, hop := u.hop, log := u.log, island := u.island, pwr := { s.pwr with idleSince := max s.now t } }) ∧
  (∀ (s : State) (t q : Nat) (src : Fin 80) (f : Frame), sourceOldest s src.val = some f → s.frame? f.fid = some f → f.plain →
    f.src = src.val → f.stage = .ready → q < 2048 → f.action = 2 * 2 ^ 125 + q % 8 * 2 ^ 119 + q / 8 * 2 ^ 111 + f.flow * 2 ^ 95 →
    f.flow < 2 ^ 16 → f.marked = false → f.passColour = none → f.emRow = none → f.emWait = none → f.colour ≤ 1 →
    f.oneStep = 0 → queueDepth s q + f.data.length ≤ queueLimit s q 1 →
    ∃ u, exec (.commit t src) s = .next u ∧ u.frame? f.fid = none ∧ s.otherFrames u f.fid ∧
      (u.usq.map fun x => (x.fid, x.queue, x.data, x.flow, x.bond)) = (s.usq.map fun x => (x.fid, x.queue, x.data, x.flow, x.bond)) ++ [(f.fid, q, f.data, f.flow, none)] ∧
      s.rowCounted u Obj.CTX_SOURCE_COUNTERS f.src 8 1 1 ∧ s.objsBut u (passObjs f.inPort ++ moveObjs) ∧
      s.tabsBut u [Obj.CTX_SOURCE_COUNTERS, Obj.ENG_CLUSTER_COUNTERS, Obj.SCH_QUEUE_COUNTERS] ∧
      u = { s with now := max s.now t, frames := u.frames, usq := u.usq, dict := u.dict, tab := u.tab, hop := u.hop, log := u.log, island := u.island, pwr := { s.pwr with idleSince := max s.now t } }) ∧
  (∀ (s w : State) (t i n : Nat) (p : Fin 8) (c : Fin 8) (f : Frame), s.running = true → s.frame? i = some f → f.src < 80 →
    actHost f.action = 8 * p.val + c.val → ctReady (s.advance t) f n = true → s.ports[p].st = .up →
    preemptActive (s.advance t) p = false → s.ports[p].tx = none → s.ports[p].held = none → classEmpty s p c.val = true →
    (s.sch.rowChanges.all fun x => decide (tickOf (max s.now t) ≤ x.1)) = true →
    selectClass p false [7, 6, 5, 4, 3, 2, 1, 0] (some (c.val, fld (classRow s p c.val) 45 32, if f.complete then egressLen f.data.length else fld (classRow s p c.val) 45 32)) (s.advance t) = (some c.val, w) →
    ∃ u, exec (.cutThroughStart t i n) s = .next u ∧ ((u.frame? i).map fun x => x.ct) = some (some (8 * p.val + c.val)) ∧
      (u.ports[p].tx.map fun x => (x.cls, x.cutThrough, x.committed, x.startedAt)) = some (c.val, true, false, max s.now t) ∧
      s.otherFrames u i ∧ u.rx = s.rx ∧ u.us = s.us ∧ u.usq = s.usq ∧ u.hop = s.hop ∧ u.bond = s.bond ∧ u.rules = s.rules) ∧
  (∀ (s : State) (t i n : Nat) (f : Frame), s.running = true → s.sch.rowChanges = [] → s.frame? i = some f →
    ctReady (s.advance t) f n = false → exec (.cutThroughStart t i n) s = .next (s.advance t))

/-- Swap, drain and ageing of the rule sets. A swap of 1 with no drain under way flips the active generation, starts
the drain and is counted; during a drain it is answered with BUSY, and any other value with RANGE. When no frame
of the old generation is left, every rule row's shadow membership becomes its active one and the drain ends;
while one is left nothing happens. The sweep clears the valid bit of every learned entry at least EM_AGE_S old
and leaves every other row. -/
def Obligations.RuleGenerationsAndAgeing : Prop :=
  (∀ (s : State) (t : Nat), s.serverUp = true → s.rules.draining = false →
    ∃ u, exec (.ruleSwap t 1) s = .next u ∧ u.status = .ok ∧
      u.rules = { active := 1 - s.rules.active, draining := true, flipAt := max s.now t } ∧
      s.counted u Obj.RULE_SWAPS 0 1 ∧ s.objsBut u ((Obj.RULE_SWAPS, 0) :: logObjs) ∧
      u = { s with now := max s.now t, status := .ok, rules := u.rules, dict := u.dict, log := u.log, island := u.island }) ∧
  (∀ (s : State) (t : Nat), s.serverUp = true → s.rules.draining = true →
    exec (.ruleSwap t 1) s = .next { s with now := max s.now t, status := .busy }) ∧
  (∀ (s : State) (t v : Nat), s.serverUp = true → v ≠ 1 →
    exec (.ruleSwap t v) s = .next { s with now := max s.now t, status := .range }) ∧
  (∀ (s : State) (t : Nat), s.rules.draining = true → drainCount s = 0 → s.storesWf = true → s.rules.active ≤ 1 →
    ∃ u, exec (.ruleDrained t) s = .next u ∧ u.rules = { s.rules with draining := false } ∧
      (∀ r : Fin 16777216, rowMember (u.row Obj.RULE_TABLE r.val) (1 - s.rules.active) = rowMember (s.row Obj.RULE_TABLE r.val) s.rules.active ∧
        fld (u.row Obj.RULE_TABLE r.val) 1469 0 = fld (s.row Obj.RULE_TABLE r.val) 1469 0) ∧
      s.objsBut u logObjs ∧ s.tabsBut u [Obj.RULE_TABLE] ∧
      u = { s with now := max s.now t, rules := u.rules, dict := u.dict, tab := u.tab, log := u.log, island := u.island }) ∧
  (∀ (s : State) (t : Nat), s.rules.draining = true → drainCount s ≠ 0 → exec (.ruleDrained t) s = .next (s.advance t)) ∧
  (∀ (s : State) (t : Nat), s.running = true → 0 < s.obj Obj.EM_AGE_S → s.storesWf = true →
    ∃ u, exec (.emAgeing t) s = .next u ∧
      (∀ r : Fin 16777216, u.row Obj.EM_TABLE r.val =
        if bitAt (s.row Obj.EM_TABLE r.val) 63 && bitAt (s.row Obj.EM_TABLE r.val) 62 && decide (s.obj Obj.EM_AGE_S ≤ (taiLow (s.advance t) + 2 ^ 32 - s.row Obj.EM_TABLE r.val % 2 ^ 32) % 2 ^ 32) then setBit (s.row Obj.EM_TABLE r.val) 63 false else s.row Obj.EM_TABLE r.val) ∧
      s.objsBut u [(Obj.EM_AGED, 0)] ∧ s.tabsBut u [Obj.EM_TABLE] ∧ u = { s with now := max s.now t, dict := u.dict, tab := u.tab })

/-- The hopper grants, refuses, frees, hands over and rebuilds. A lone admissible request at an unbraked pool port
whose lists yield a buffer takes it for its owner; a lone request that is not admissible and does not fall back
is refused and counted. A free by the recorded owner makes the buffer Free at the head of its list; a second free
is counted as double and one for another owner as foreign, and changes no buffer. A hand-over from the recorded
owner to one without spilling makes it the owner; from any other it is rejected and counted. A rebuild ends with
only Free buffers on the list. Every other buffer stays as it is. -/
def Obligations.HopperGrantsFreesAndHandOvers : Prop :=
  (∀ (s : State) (t r o h : Nat) (p : Fin 5), s.running = true → r < 10 → ownerUsed o = true → s.hop.reqs[p] = [] →
    s.arb[portArb p].brakeAt = none → admissible s o p.val = true → (popPool p.val (r % 8) s).1 = some h →
    ∃ u, exec (.hopAllocation t p [(r, o)]) s = .next u ∧ bufState u h = ownerState o ∧ bufOwner u h = o ∧ s.otherBufs u h ∧
      u.hop.given = s.hop.given ++ [(r, o, h)] ∧ u.hop.reqs = s.hop.reqs ∧ s.counted u Obj.HOP_ALLOCS (sub p) 1 ∧
      s.objsBut u (logObjs ++ [(Obj.HOP_ALLOCS, sub p), (Obj.HOP_POOL_MIN_FREE, sub p), (Obj.HOP_REMOTE_ALLOCS, sub p)]) ∧
      s.tabsBut u [Obj.ARB_COUNTERS] ∧ (∀ i : Fin 23, i ≠ portArb p → u.arb[i] = s.arb[i]) ∧
      u = { s with now := max s.now t, hop := u.hop, arb := u.arb, dict := u.dict, tab := u.tab, log := u.log, island := u.island }) ∧
  (∀ (s : State) (t r o : Nat) (p : Fin 5), s.running = true → r < 10 → ownerUsed o = true → s.hop.reqs[p] = [] →
    s.arb[portArb p].brakeAt = none → admissible s o p.val = false →
    hopFallsBack s { requester := r, owner := o, region := r % 8, use := .outside } p.val = false →
    ∃ u, exec (.hopAllocation t p [(r, o)]) s = .next u ∧ s.counted u Obj.HOP_FAILS (sub p) 1 ∧
      s.objsBut u (logObjs ++ [(Obj.HOP_FAILS, sub p), (Obj.HOP_RESERVE_SHORT, sub p)]) ∧
      (∀ i : Fin 23, i ≠ portArb p → u.arb[i] = s.arb[i]) ∧
      u = { s with now := max s.now t, arb := u.arb, dict := u.dict, log := u.log, island := u.island }) ∧
  (∀ (s : State) (t h o r : Nat), h < 2 ^ 24 → o < 1024 → r < 16 → bufExists s h = true →
    (bufState s h = 1 ∨ bufState s h = 2) → bufOwner s h = o →
    s.hop.lists[listOf s (poolOf h) (idxOf h)].rebuilding = false → (s.hop.spills.all fun x => x.old != h) = true →
    ∃ u, exec (.hopFree t h o r) s = .next u ∧ bufState u h = 0 ∧ s.otherBufs u h ∧
      u.hop.lists = s.hop.lists.set (listOf s (poolOf h) (idxOf h)) { s.hop.lists[listOf s (poolOf h) (idxOf h)] with pushed := idxOf h :: s.hop.lists[listOf s (poolOf h) (idxOf h)].pushed } ∧
      s.objsBut u (logObjs ++ hopObjs) ∧
      u = { s with now := max s.now t, hop := u.hop, dict := u.dict, log := u.log, island := u.island }) ∧
  (∀ (s : State) (t h o r : Nat), h < 2 ^ 24 → o < 1024 → r < 16 → bufExists s h = true → bufState s h = 0 →
    s.hop.lists[listOf s (poolOf h) (idxOf h)].rebuilding = false →
    ∃ u, exec (.hopFree t h o r) s = .next u ∧ s.counted u Obj.HOP_DOUBLE_FREE 0 1 ∧
      s.objsBut u ((Obj.HOP_DOUBLE_FREE, 0) :: logObjs) ∧
      u = { s with now := max s.now t, dict := u.dict, log := u.log, island := u.island }) ∧
  (∀ (s : State) (t h o r : Nat), h < 2 ^ 24 → o < 1024 → r < 16 → bufExists s h = true →
    (bufState s h = 1 ∨ bufState s h = 2) → bufOwner s h ≠ o →
    s.hop.lists[listOf s (poolOf h) (idxOf h)].rebuilding = false →
    ∃ u, exec (.hopFree t h o r) s = .next u ∧ s.counted u Obj.HOP_FOREIGN_FREE 0 1 ∧
      s.objsBut u ((Obj.HOP_FOREIGN_FREE, 0) :: logObjs) ∧
      u = { s with now := max s.now t, dict := u.dict, log := u.log, island := u.island }) ∧
  (∀ (s : State) (t h a b r : Nat), h < 2 ^ 24 → a < 1024 → b < 1024 → r < 16 → bufExists s h = true →
    (bufState s h = 1 ∨ bufState s h = 2) → bufOwner s h = a → ownerUsed b = true →
    bitAt (s.row Obj.HOP_OWNER_TABLE b) 126 = false →
    ∃ u, exec (.handOver t h a b r) s = .next u ∧ bufState u h = ownerState b ∧ bufOwner u h = b ∧ s.otherBufs u h ∧
      u.hop.lists = s.hop.lists ∧ u.hop.reqs = s.hop.reqs ∧ s.objsBut u (logObjs ++ hopObjs) ∧
      u = { s with now := max s.now t, hop := u.hop, dict := u.dict, log := u.log, island := u.island }) ∧
  (∀ (s : State) (t h a b r : Nat), h < 2 ^ 24 → a < 1024 → b < 1024 → r < 16 → bufOwner s h ≠ a →
    ∃ u, exec (.handOver t h a b r) s = .next u ∧ s.counted u Obj.HOP_BAD_HANDOVERS 0 1 ∧
      s.objsBut u ((Obj.HOP_BAD_HANDOVERS, 0) :: logObjs) ∧
      u = { s with now := max s.now t, dict := u.dict, log := u.log, island := u.island }) ∧
  (∀ (s : State) (t : Nat) (l : Fin 19), s.hop.lists[l].rebuilding = true → s.hop.lists[l].waiting = [] → s.hop.bad = [] →
    ∃ u, exec (.hopListRebuilt t l) s = .next u ∧ u.hop.lists[l].rebuilding = false ∧
      (u.hop.lists[l].pushed.all fun i => bufState u (listPool l * 2 ^ 21 + i) == 0) = true ∧
      (∀ k : Fin 19, k ≠ l → u.hop.lists[k] = s.hop.lists[k]) ∧ u.hop.state = s.hop.state ∧
      s.counted u Obj.HOP_LIST_REBUILDS 0 1 ∧ s.objsBut u ((Obj.HOP_LIST_REBUILDS, 0) :: logObjs ++ hopObjs) ∧
      u = { s with now := max s.now t, hop := u.hop, dict := u.dict, log := u.log, island := u.island })

/-- Promotion and spill move a frame's bytes; memory errors are counted and answered. A host frame still arriving
with one buffer of pool 0 asks pool 1 for a larger one, once. When the copy of a promotion ends, the old buffer
is Free and the frame holds the new one. When a spill's copy ends, the old on-die buffer is Free and the frames
inside the engines hold the new one in its place. An uncorrectable error in a flow-table entry is counted and
makes the entry invalid; a corrected error is counted. While no memory is powered to be sensed an error has no
effect. -/
def Obligations.PromotionSpillAndMemoryErrors : Prop :=
  (∀ (s : State) (t i h : Nat) (f : Frame), s.running = true → s.frame? i = some f → f.handles = [h] → poolOf h = 0 →
    f.asking = false → f.stage ≠ .orphan → f.src < 8 → f.complete = false →
    ∃ u, exec (.promotion t i) s = .next u ∧ u.frame? f.fid = some { f with asking := true } ∧ s.otherFrames u f.fid ∧
      u.hop = { s.hop with reqs := s.hop.reqs.set 1 (s.hop.reqs[1] ++ [{ requester := f.region % 8, owner := f.owner, region := f.region, use := .promote f.fid }]) } ∧
      u = { s with now := max s.now t, frames := u.frames, hop := u.hop }) ∧
  (∀ (s : State) (t i a b : Nat) (f : Frame), s.frame? i = some f → f.handles = [a, b] →
    (bufState s a = 1 ∨ bufState s a = 2) → freeWaits s a = false →
    ∃ u, exec (.promotionCopyComplete t i) s = .next u ∧ u.frame? i = some { f with handles := [b] } ∧
      bufState u a = 0 ∧ s.otherBufs u a ∧ s.objsBut u (logObjs ++ hopObjs) ∧ u.rx = s.rx ∧ u.act = s.act ∧ u.tab = s.tab ∧
      u.bond = s.bond ∧ u.time = s.time ∧ u.ciph = s.ciph ∧ u.flash = s.flash) ∧
  (∀ (s : State) (t : Nat) (x : Spill) (rest : List Spill), s.hop.spills = x :: rest →
    (bufState s x.old = 1 ∨ bufState s x.old = 2) → freeWaits s x.old = false →
    ∃ u, exec (.spillCopyComplete t) s = .next u ∧ u.hop.spills = rest ∧ bufState u x.old = 0 ∧ s.otherBufs u x.old ∧
      u.frames = (s.frames.map fun f => { f with handles := f.handles.map fun h => if h = x.old then x.new else h }) ∧
      s.objsBut u (logObjs ++ hopObjs) ∧ u.rx = s.rx ∧ u.act = s.act ∧ u.tab = s.tab ∧ u.bond = s.bond ∧ u.time = s.time ∧
      u.ciph = s.ciph ∧ u.flash = s.flash) ∧
  (∀ (s : State) (t m a r : Nat), sensing s = true → m ≤ 8 → a < 2 ^ 64 → r < 1048576 →
    ∃ u, exec (.memEccUncorrectable t m a (.flowEntry r)) s = .next u ∧
      u.row Obj.EM_TABLE r = setBit (s.row Obj.EM_TABLE r) 63 false ∧ s.rowsBut u [(Obj.EM_TABLE, r)] ∧
      s.counted u Obj.MEM_UNCORRECTABLE 0 1 ∧
      s.objsBut u ([(Obj.MEM_UNCORRECTABLE, 0), (Obj.MEM_LAST_ERROR, 0)] ++ logObjs) ∧
      u = { s with now := max s.now t, dict := u.dict, tab := u.tab, log := u.log, island := u.island }) ∧
  (∀ (s : State) (t m a : Nat), sensing s = true → m ≤ 8 → a < 2 ^ 64 →
    ∃ u, exec (.memEccCorrected t m a) s = .next u ∧ s.counted u Obj.MEM_CORRECTED 0 1 ∧
      s.objsBut u ([(Obj.MEM_CORRECTED, 0), (Obj.MEM_LAST_ERROR, 0)] ++ logObjs) ∧
      u = { s with now := max s.now t, dict := u.dict, log := u.log, island := u.island }) ∧
  (∀ (s : State) (t m a : Nat), sensing s = false → m ≤ 8 → a < 2 ^ 64 →
    exec (.memEccCorrected t m a) s = .next (s.advance t))

/-- An arbiter's window, decision, withdrawal, brake and drain. A window sets every credit of an instance to its
requester's weight. With no winner outstanding, no brake and no requester at its wait limit, the requester with
more credit than every other one wins: its credit falls by one and its wait is 0. At a recirculation port a winner
makes its sack-hoist entry at once. A winner that has withdrawn
before its cycle counts a dead cycle, gets its credit back up to its weight, and the instance decides afresh. A
brake of 1 stops the instance and one of 0 resumes it; any other value is refused. A braked instance whose work
has ended reads drained. No other instance changes. -/
def Obligations.ArbitersPickBrakeAndDrain : Prop :=
  (∀ (s : State) (t : Nat) (i : Fin 23), s.running = true →
    exec (.arbWindow t i) s = .next { s with
      now := max s.now t, arb := s.arb.set i { s.arb[i] with credit := Vector.ofFn (fun r => arbWeight s i r.val), weight := Vector.ofFn (fun r => arbWeight s i r.val) } }) ∧
  (∀ (s : State) (t : Nat) (i : Fin 23) (rq : BitVec 16) (r : Fin 16), s.running = true → (i.val < 9 ∨ 21 < i.val) →
    s.arb[i].winner = none → s.arb[i].brakeAt = none → laneBusy s i = false → arbRequests s i rq r.val = true →
    (∀ q : Fin 16, arbLimit s i q.val = 0 ∨ s.arb[i].wait[q] < arbLimit s i q.val) →
    (∀ q : Fin 16, q = r ∨ arbRequests s i rq q.val = false ∨ s.arb[i].credit[q] < s.arb[i].credit[r]) →
    ∃ u, exec (.arbDecision t i rq) s = .next u ∧ u.arb[i].winner = some r.val ∧
      u.arb[i].credit[r] = s.arb[i].credit[r] - 1 ∧ u.arb[i].wait[r] = 0 ∧
      (∀ q : Fin 16, q ≠ r → u.arb[i].credit[q] = s.arb[i].credit[q]) ∧ (∀ k : Fin 23, k ≠ i → u.arb[k] = s.arb[k]) ∧
      s.tabsBut u [Obj.ARB_COUNTERS] ∧ u = { s with now := max s.now t, arb := u.arb, tab := u.tab }) ∧
  (∀ (s : State) (t : Nat) (i : Fin 23) (rq : BitVec 16) (r : Fin 16) (f : Frame), s.running = true → 14 ≤ i.val → i.val ≤ 21 →
    s.arb[i].winner = none → s.arb[i].brakeAt = none → hoistAsker s (i.val - 14) r.val = some f → s.frame? f.fid = some f →
    arbRequests s i rq r.val = true → hoistDepth s f.region < 256 →
    (∀ q : Fin 16, arbLimit s i q.val = 0 ∨ s.arb[i].wait[q] < arbLimit s i q.val) →
    (∀ q : Fin 16, q = r ∨ arbRequests s i rq q.val = false ∨ s.arb[i].credit[q] < s.arb[i].credit[r]) →
    ∃ u, exec (.arbDecision t i rq) s = .next u ∧ u.arb[i].winner = none ∧ u.arb[i].credit[r] = s.arb[i].credit[r] - 1 ∧
      u.frame? f.fid = some { f with stage := .hoist, src := 13, since := max s.now t, order := some (max s.now t, s.nextOrd) } ∧
      s.otherFrames u f.fid ∧ s.counted u Obj.RECIRC_PASSES 0 1 ∧ s.objsBut u [(Obj.RECIRC_PASSES, 0)] ∧
      (∀ k : Fin 23, k ≠ i → u.arb[k] = s.arb[k]) ∧ s.tabsBut u [Obj.ARB_COUNTERS] ∧
      u = { s with
        now := max s.now t, arb := u.arb, tab := u.tab, frames := u.frames, nextOrd := s.nextOrd + 1, dict := u.dict }) ∧
  (∀ (s : State) (t w : Nat) (i : Fin 23), s.running = true → arbNextCycle i = true → s.arb[i].winner = some w → w < 16 →
    (∀ q : Fin 16, arbRequests s i 0 q.val = false) →
    ∃ u, exec (.arbDecision t i 0) s = .next u ∧ u.arb[i].winner = none ∧
      s.counted u Obj.ARB_DEAD_CYCLES (sub i) 1 ∧ s.objsBut u [(Obj.ARB_DEAD_CYCLES, sub i)] ∧
      s.rowCounted u Obj.ARB_COUNTERS (arbRow i w) 4 2 1 ∧ s.rowsBut u [(Obj.ARB_COUNTERS, arbRow i w)] ∧
      u.arb[i].credit = Vector.ofFn (fun (r : Fin 16) => if r.val = w then min (s.arb[i].credit[r] + 1) s.arb[i].weight[r] else s.arb[i].credit[r]) ∧
      (∀ k : Fin 23, k ≠ i → u.arb[k] = s.arb[k]) ∧
      u = { s with now := max s.now t, arb := u.arb, dict := u.dict, tab := u.tab }) ∧
  (∀ (s : State) (t : Nat) (i : Fin 23), s.serverUp = true → s.arb[i].brakeAt = none →
    ∃ u, exec (.arbBrake t i 1) s = .next u ∧ u.status = .ok ∧ u.obj Obj.ARB_BRAKE (sub i) = 1 ∧
      u.arb = s.arb.set i { s.arb[i] with brakeAt := some (max s.now t) } ∧ s.objsBut u [(Obj.ARB_BRAKE, sub i)] ∧
      u = { s with now := max s.now t, status := .ok, arb := u.arb, dict := u.dict }) ∧
  (∀ (s : State) (t : Nat) (i : Fin 23), s.serverUp = true →
    ∃ u, exec (.arbBrake t i 0) s = .next u ∧ u.status = .ok ∧ u.obj Obj.ARB_BRAKE (sub i) = 0 ∧
      u.obj Obj.ARB_DRAINED (sub i) = 0 ∧ u.arb = s.arb.set i { s.arb[i] with brakeAt := none, drained := false } ∧
      s.objsBut u [(Obj.ARB_BRAKE, sub i), (Obj.ARB_DRAINED, sub i)] ∧
      u = { s with now := max s.now t, status := .ok, arb := u.arb, dict := u.dict }) ∧
  (∀ (s : State) (t v : Nat) (i : Fin 23), s.serverUp = true → 1 < v →
    exec (.arbBrake t i v) s = .next { s with now := max s.now t, status := .range }) ∧
  (∀ (s : State) (t b : Nat) (i : Fin 23), s.arb[i].brakeAt = some b → s.arb[i].drained = false →
    arbIdle (s.advance t) i = true →
    ∃ u, exec (.arbDrained t i) s = .next u ∧ u.obj Obj.ARB_DRAINED (sub i) = 1 ∧
      u.arb = s.arb.set i { s.arb[i] with drained := true } ∧ s.objsBut u ((Obj.ARB_DRAINED, sub i) :: logObjs) ∧
      u = { s with now := max s.now t, arb := u.arb, dict := u.dict, log := u.log, island := u.island })

/-- Selection takes the highest open strict class; a frame's end and underrun move the threshold. A port that is Up
and sends nothing takes the head of its highest class that has a frame, if that class is strict and open and as much of
the frame fits the transmit buffer as the start threshold asks for: the frame leaves its queue, its departure is counted and egress begins. A disabled port selects nothing. At an end
the clean run grows by one; a frame stomped by underrun raises the start threshold by 512 B up to its maximum and
ends the run; after 1,048,576 clean frames the threshold falls by 512 B, not below its minimum. A cut-through
frame that is not committed waits. An underrun stomps the frame once, and is counted when the frame ends. A depth
sample counts the depth of each of the 2,112 queues in its bin and raises the maximum. -/
def Obligations.PortsSelectSendAndSample : Prop :=
  (∀ (s : State) (t c : Nat) (p : Fin 8) (q : QFrame), s.running = true → s.ports[p].st = .up → s.ports[p].tx = none →
    s.ports[p].held = none → s.flag Obj.MAC_PREEMPT_ENABLE (sub p) = false → s.flag Obj.GATE_ENABLE (sub p) = false → c ≤ 7 →
    (s.sch.rowChanges.all fun x => decide (tickOf (max s.now t) ≤ x.1)) = true →
    classHead (s.advance t) p c = some q → (∀ d : Fin 8, c < d.val → classHead (s.advance t) p d.val = none) →
    min (depthOf q) s.ports[p].ctStart ≤ 32768 →
    bitAt (classRow s p c) 63 = true → bitAt (gatesSeen (s.advance t) p) c = true → shaperOn s (2304 + 8 * p.val + c) = false →
    shaperOn s (2368 + p.val) = false → shaperJustReset (s.advance t) (2304 + 8 * p.val + c) = none →
    shaperJustReset (s.advance t) (2368 + p.val) = none → q.ptpOff = none → q.ts = none → (q.handles.any fun h => bufState s h == 3) = false →
    ∃ u, exec (.portSelect t p) s = .next u ∧
      u.ports = s.ports.set p { s.ports[p] with tx := some {
        frame := q, cls := c, len := depthOf q, startedAt := max s.now t, stamp := egressStamp (s.advance t) p
        uncal := !s.lanes[startLane (s.advance t) p].locked, cutThrough := false, committed := true
        staged := min (depthOf q) 32768, stomp := 0, stompAt := max s.now t, undoOf := none, sent := 0, overrun := false
        closedAt := none } } ∧
      u.sch.hq = (s.sch.hq.eraseP fun x => x.queue == q.queue) ∧
      fld (u.row Obj.SCH_QUEUE_COUNTERS q.queue) 127 64 = min (2 ^ 64 - 1) (fld (s.row Obj.SCH_QUEUE_COUNTERS q.queue) 127 64 + 1) ∧
      fld (u.row Obj.SCH_QUEUE_COUNTERS q.queue) 63 0 = min (2 ^ 64 - 1) (fld (s.row Obj.SCH_QUEUE_COUNTERS q.queue) 63 0 + depthOf q) ∧
      s.tabsBut u [Obj.SCH_QUEUE_COUNTERS, Obj.LAT_HISTOGRAMS, Obj.LAT_STATE] ∧ s.objsBut u [(Obj.TIME_UNCAL_STAMPS, 0)] ∧
      u = { s with
        now := max s.now t, ports := u.ports, sch := { s.sch with hq := u.sch.hq, departs := u.sch.departs }, tab := u.tab, dict := u.dict
        pwr := { s.pwr with quietSince := max s.now t, idleSince := max s.now t } }) ∧
  (∀ (s : State) (t : Nat) (p : Fin 8), s.ports[p].st = .disabled → s.sch.rowChanges = [] →
    exec (.portSelect t p) s = .next (s.advance t)) ∧
  (∀ (s : State) (t : Nat) (p : Fin 8) (x : Tx), s.ports[p].tx = some x → x.cutThrough = true → x.committed = false →
    x.stomp = 0 → exec (.frameTxEnd t p) s = .next (s.advance t)) ∧
  (∀ (s : State) (t : Nat) (p : Fin 8) (x : Tx), s.ports[p].tx = some x → x.cutThrough = false → x.stomp = 0 →
    x.len ≤ s.obj Obj.MAC_MAX_FRAME (sub p) → s.flag Obj.MAC_PREEMPT_ENABLE (sub p) = false →
    s.ports[p].clean + 1 ≠ 1048576 →
    ∃ u, exec (.frameTxEnd t p) s = .next u ∧
      u.ports = s.ports.set p { s.ports[p] with
        tx := none, clean := s.ports[p].clean + 1, lastSent := padFcs (stamped (s.advance t) p x.frame x.stamp) } ∧
      s.tabsBut u [Obj.MAC_COUNTERS] ∧ s.objsBut u (logObjs ++ hopObjs) ∧
      u = { s with
        now := max s.now t, ports := u.ports, dict := u.dict, tab := u.tab, hop := u.hop, log := u.log, island := u.island }) ∧
  (∀ (s : State) (t : Nat) (p : Fin 8) (x : Tx), s.ports[p].tx = some x → x.cutThrough = false → x.stomp = 0 →
    s.ports[p].clean + 1 = 1048576 → s.obj Obj.MAC_CT_START_MIN (sub p) < s.ports[p].ctStart →
    ∃ u, exec (.frameTxEnd t p) s = .next u ∧ u.ports[p].tx = none ∧ u.ports[p].clean = 0 ∧
      u.ports[p].ctStart = max (s.ports[p].ctStart - 512) (s.obj Obj.MAC_CT_START_MIN (sub p)) ∧
      (∀ c : Fin 8, c ≠ p → u.ports[c] = s.ports[c]) ∧ s.tabsBut u [Obj.MAC_COUNTERS] ∧ s.objsBut u (logObjs ++ hopObjs) ∧
      u = { s with
        now := max s.now t, ports := u.ports, dict := u.dict, tab := u.tab, hop := u.hop, log := u.log, island := u.island }) ∧
  (∀ (s : State) (t : Nat) (p : Fin 8) (x : Tx), s.ports[p].tx = some x → x.stomp = 2 → x.frame.ts = none →
    ∃ u, exec (.frameTxEnd t p) s = .next u ∧
      u.ports = s.ports.set p { s.ports[p] with
        tx := none, clean := 0, ctStart := min (s.ports[p].ctStart + 512) (s.obj Obj.MAC_CT_START_MAX (sub p))
        lastSent := u.ports[p].lastSent } ∧
      (s.frame? x.frame.fid = none → u.ports[p].lastSent =
        stompedBytes x.frame.fid (sentAt (s.advance t) p x x.stompAt) (stamped (s.advance t) p x.frame x.stamp)) ∧
      s.rowCounted u Obj.MAC_COUNTERS p.val 18 11 1 ∧ s.rowsBut u [(Obj.MAC_COUNTERS, p.val)] ∧ s.objsBut u (logObjs ++ hopObjs) ∧
      u = { s with
        now := max s.now t, ports := u.ports, dict := u.dict, tab := u.tab, hop := u.hop, log := u.log, island := u.island }) ∧
  (∀ (s : State) (t : Nat) (p : Fin 8) (x : Tx), s.ports[p].tx = some x → x.stomp = 0 →
    ∃ u, exec (.txUnderrun t p) s = .next u ∧
      u.ports = s.ports.set p { s.ports[p] with tx := some { x with stomp := 2, stompAt := max s.now t } } ∧
      u = { s with now := max s.now t, ports := u.ports }) ∧
  (∀ (s : State) (t : Nat) (p : Fin 8) (x : Tx), s.ports[p].tx = some x → x.stomp ≠ 0 →
    exec (.txUnderrun t p) s = .next (s.advance t)) ∧
  (∀ (s : State) (t : Nat), s.running = true →
    ∃ u, exec (.depthSample t) s = .next u ∧
      (∀ k : Fin 2112, s.rowCounted u Obj.LAT_STATE k.val 5 3 1 ∧
        fld (u.row Obj.LAT_HISTOGRAMS k.val) (64 * (33 - latBin 8 (queueDepth s k.val)) + 63) (64 * (33 - latBin 8 (queueDepth s k.val))) = min (2 ^ 64 - 1) (fld (s.row Obj.LAT_HISTOGRAMS k.val) (64 * (33 - latBin 8 (queueDepth s k.val)) + 63) (64 * (33 - latBin 8 (queueDepth s k.val))) + 1) ∧
        fld (u.row Obj.LAT_HISTOGRAMS k.val) 127 64 = max (fld (s.row Obj.LAT_HISTOGRAMS k.val) 127 64) (queueDepth s k.val)) ∧
      s.tabsBut u [Obj.LAT_STATE, Obj.LAT_HISTOGRAMS] ∧ u = { s with now := max s.now t, tab := u.tab })

/-- A commit makes a list pending, its time makes it active, and a closing gate overruns or waits. An accepted commit
whose base time is at least 10 µs ahead makes the shadow list, with its length, pending with Tc at the base; one whose base is
earlier takes the first whole number of cycles after it that is, and is counted as late. A commit while one is
pending is BUSY; a commit of a value other than 1, or of a list out of range, is RANGE: neither changes the
lists. At Tc the pending list becomes active; before it nothing changes. At an entry the gates that its list
gives reach the scheduler. A frame on the line whose class closes and that preemption cannot end goes on and is
counted as an overrun. -/
def Obligations.GateListsCommitAndChange : Prop :=
  (∀ (s : State) (t len cyc : Nat) (p : Fin 8), s.serverUp = true → s.obj Obj.GCL_LENGTH (sub p) = len → s.obj Obj.GCL_CYCLE_NS (sub p) = cyc →
    1 ≤ len → len ≤ 256 → 1 ≤ cyc → cyc ≤ 1000000000 →
    (((shadowList s p).take len).all fun e => decide (16 ≤ e.2) && decide (e.2 ≤ 1000000000)) = true →
    s.sch.gates[p].pending = none →
    (s.advance t).devTime + 10000 * nsU ≤ time80Ns (s.obj Obj.GCL_BASE_TIME (sub p)) * nsU →
    exec (.gclCommit t p 1) s = .next { s with
      now := max s.now t, status := .ok, sch := { s.sch with gates := s.sch.gates.set p { s.sch.gates[p] with
        pending := some { entries := shadowList s p, length := len, cycle := cyc, anchor := (time80Ns (s.obj Obj.GCL_BASE_TIME (sub p)) : Int) }
        changeAt := (time80Ns (s.obj Obj.GCL_BASE_TIME (sub p)) : Int) } } }) ∧
  (∀ (s : State) (t len cyc b k : Nat) (p : Fin 8), s.serverUp = true → s.obj Obj.GCL_LENGTH (sub p) = len → s.obj Obj.GCL_CYCLE_NS (sub p) = cyc →
    1 ≤ len → len ≤ 256 → 1 ≤ cyc → cyc ≤ 1000000000 →
    (((shadowList s p).take len).all fun e => decide (16 ≤ e.2) && decide (e.2 ≤ 1000000000)) = true →
    s.sch.gates[p].pending = none → time80Ns (s.obj Obj.GCL_BASE_TIME (sub p)) = b →
    (b + k * cyc) * nsU < (s.advance t).devTime + 10000 * nsU → (s.advance t).devTime + 10000 * nsU ≤ (b + (k + 1) * cyc) * nsU →
    ∃ u, exec (.gclCommit t p 1) s = .next u ∧
      u.sch = { s.sch with gates := s.sch.gates.set p { s.sch.gates[p] with
        pending := some { entries := shadowList s p, length := len, cycle := cyc, anchor := ((b + (k + 1) * cyc : Nat) : Int) }
        changeAt := ((b + (k + 1) * cyc : Nat) : Int) } } ∧
      s.counted u Obj.GCL_LATE_COMMITS (sub p) 1 ∧ s.objsBut u [(Obj.GCL_LATE_COMMITS, sub p)] ∧
      u = { s with now := max s.now t, status := .ok, sch := u.sch, dict := u.dict }) ∧
  (∀ (s : State) (t len cyc : Nat) (p : Fin 8), s.serverUp = true → s.obj Obj.GCL_LENGTH (sub p) = len → s.obj Obj.GCL_CYCLE_NS (sub p) = cyc →
    1 ≤ len → len ≤ 256 → 1 ≤ cyc → cyc ≤ 1000000000 →
    (((shadowList s p).take len).all fun e => decide (16 ≤ e.2) && decide (e.2 ≤ 1000000000)) = true →
    s.sch.gates[p].pending.isSome = true →
    exec (.gclCommit t p 1) s = .next { s with now := max s.now t, status := .busy }) ∧
  (∀ (s : State) (t v : Nat) (p : Fin 8), s.serverUp = true →
    (v ≠ 1 ∨ s.obj Obj.GCL_LENGTH (sub p) = 0 ∨ 256 < s.obj Obj.GCL_LENGTH (sub p) ∨ s.obj Obj.GCL_CYCLE_NS (sub p) = 0 ∨
      1000000000 < s.obj Obj.GCL_CYCLE_NS (sub p) ∨
      (((shadowList s p).take (s.obj Obj.GCL_LENGTH (sub p))).any fun e => decide (e.2 < 16) || decide (1000000000 < e.2)) = true) →
    exec (.gclCommit t p v) s = .next { s with now := max s.now t, status := .range }) ∧
  (∀ (s : State) (t : Nat) (p : Fin 8) (l : Gcl), s.running = true → s.sch.gates[p].pending = some l →
    s.sch.gates[p].active = none → s.sch.gates[p].changeAt * (nsU : Int) ≤ ((s.advance t).devTime : Int) → s.ports[p].tx = none →
    ∃ u, exec (.gclChanged t p) s = .next u ∧
      u.sch = { s.sch with gates := s.sch.gates.set p { s.sch.gates[p] with
        active := some l, pending := none, overlap := none
        before := if s.sch.gates[p].before.1 = tickOf (max s.now t) + 1 then s.sch.gates[p].before else (tickOf (max s.now t) + 1, s.sch.gates[p].gates)
        gates := if s.flag Obj.GATE_ENABLE (sub p) then (gclAt l ((s.advance t).devTime : Int)).1 else 0xFF } } ∧
      s.objsBut u logObjs ∧
      u = { s with now := max s.now t, sch := u.sch, dict := u.dict, log := u.log, island := u.island }) ∧
  (∀ (s : State) (t : Nat) (p : Fin 8), ((s.advance t).devTime : Int) < s.sch.gates[p].changeAt * (nsU : Int) →
    exec (.gclChanged t p) s = .next (s.advance t)) ∧
  (∀ (s : State) (t : Nat) (p : Fin 8), s.running = true → s.ports[p].tx = none →
    exec (.gateEntry t p) s = .next { s with
      now := max s.now t, sch := { s.sch with gates := s.sch.gates.set p { s.sch.gates[p] with
        gates := gatesAt (s.advance t) p ((s.advance t).devTime : Int)
        before := if s.sch.gates[p].before.1 = tickOf (max s.now t) + 1 then s.sch.gates[p].before else (tickOf (max s.now t) + 1, s.sch.gates[p].gates)
        overlap := s.sch.gates[p].overlap.filter fun e => decide (((s.advance t).devTime : Int) < e.2) } } }) ∧
  (∀ (s : State) (t g : Nat) (p : Fin 8) (x : Tx), s.running = true → s.ports[p].tx = some x → x.overrun = false →
    bitAt s.sch.gates[p].gates x.cls = true → gatesAt (s.advance t) p ((s.advance t).devTime : Int) = g → bitAt g x.cls = false →
    allSent (s.advance t) p x = false → closePoint (s.advance t) p x = none →
    ∃ u, exec (.gateEntry t p) s = .next u ∧
      u.ports = s.ports.set p { s.ports[p] with tx := some { x with
        overrun := true, closedAt := if (txLen s x).isNone then some (max s.now t) else x.closedAt } } ∧
      u.sch.gates[p].gates = g ∧ s.counted u Obj.GATE_OVERRUNS (sub p) 1 ∧
      (∀ c : Fin 8, c ≠ p → u.sch.gates[c] = s.sch.gates[c]) ∧ s.objsBut u ((Obj.GATE_OVERRUNS, sub p) :: logObjs) ∧
      u = { s with
        now := max s.now t, ports := u.ports, sch := { s.sch with gates := u.sch.gates }, dict := u.dict, log := u.log
        island := u.island })

/-- Enabling, lane lock, alignment and its loss move a port through Table 10-4's states. A write of 1 to MAC_ENABLE
of a disabled port that passes the checks of its type makes it No signal; one that fails them, or a value above
1, is RANGE and changes nothing; a write of 0 disables it. A lane that locks records its calibration and, as the
last lane of a port without signal, makes it Aligning. Alignment makes it Up, or Remote fault; a loss of
alignment or of a lane takes it back to Aligning or No signal and is counted; Remote Fault while Up enters Remote
fault. What the PCS reports is counted with it: error blocks, and with a FEC codewords and symbols. An alignment that
takes too long starts the lanes anew. Other ports do not change. Of triggers of one tick only the highest acts. -/
def Obligations.LinkStatesOfAPort : Prop :=
  (∀ (s : State) (t : Nat) (p : Fin 8), s.serverUp = true → s.ports[p].st = .disabled → enableChecks s p = true →
    lanesLocked s p = false → ((memberLanes s p).any fun k => laneTesting s k) = false →
    ∃ u, exec (.macEnable t p 1) s = .next u ∧
      u.ports = s.ports.set p { s.ports[p] with st := .noSignal, stAt := max s.now t } ∧ u.obj Obj.MAC_ENABLE (sub p) = 1 ∧
      s.objsBut u [(Obj.MAC_ENABLE, sub p)] ∧
      u = { s with now := max s.now t, status := .ok, ports := u.ports, dict := u.dict }) ∧
  (∀ (s : State) (t v : Nat) (p : Fin 8), s.serverUp = true →
    (1 < v ∨ (v = 1 ∧ enableChecks s p = false)) →
    exec (.macEnable t p v) s = .next { s with now := max s.now t, status := .range }) ∧
  (∀ (s : State) (t : Nat) (p : Fin 8), s.serverUp = true → s.ports[p].st ≠ .up → s.ports[p].st ≠ .disabled →
    ∃ u, exec (.macEnable t p 0) s = .next u ∧
      u.ports = s.ports.set p { s.ports[p] with st := .disabled, stAt := max s.now t } ∧ u.obj Obj.MAC_ENABLE (sub p) = 0 ∧
      s.objsBut u [(Obj.MAC_ENABLE, sub p)] ∧
      u = { s with now := max s.now t, status := .ok, ports := u.ports, dict := u.dict }) ∧
  (∀ (s : State) (t ka kb : Nat) (k : Fin 8), s.running = true → ka < 2 ^ 32 → kb < 2 ^ 32 → laneOn s k = true →
    laneOwner s k = none →
    exec (.laneLocked t k ka kb) s = .next { s with
      now := max s.now t, lanes := s.lanes.set k { s.lanes[k] with
        signal := true, locked := true, calRx := ka, calTx := kb, signalAt := if s.lanes[k].signal then s.lanes[k].signalAt else max s.now t } }) ∧
  (∀ (s : State) (t ka kb : Nat) (k p : Fin 8), s.running = true → ka < 2 ^ 32 → kb < 2 ^ 32 → laneOn s k = true →
    laneOwner s k = some p → s.ports[p].st = .noSignal → ((memberLanes s p).any fun j => laneTesting s j) = false →
    s.leads t p 5 →
    ((memberLanes s p).all fun j => decide (j = k) || s.lanes[j].locked && s.flag Obj.HL_ENABLE (sub j)) = true →
    exec (.laneLocked t k ka kb) s = .next { s with
      now := max s.now t, ports := s.ports.set p { s.ports[p] with st := .aligning, stAt := max s.now t }
      lanes := s.lanes.set k { s.lanes[k] with
        signal := true, locked := true, calRx := ka, calTx := kb, signalAt := if s.lanes[k].signal then s.lanes[k].signalAt else max s.now t } }) ∧
  (∀ (s : State) (t : Nat) (p : Fin 8) (r : PcsReport), s.running = true → reportWf r = true → s.ports[p].st = .aligning →
    s.leads t p 8 → s.flag Obj.MAC_PREEMPT_ENABLE (sub p) = false →
    ∃ u, exec (.pcsAligned t p false r) s = .next u ∧
      u.ports = s.ports.set p { s.ports[p] with st := .up, stAt := max s.now t, preempt := 0 } ∧ s.objsBut u logObjs ∧
      s.pcsCounted u p r none ∧ s.rowCounted u Obj.MAC_COUNTERS p.val 18 17 (verifyFrames (s.advance t) p) ∧
      s.rowsBut u [(Obj.PCS_COUNTERS, p.val), (Obj.MAC_COUNTERS, p.val)] ∧
      u = { s with now := max s.now t, ports := u.ports, tab := u.tab, dict := u.dict, log := u.log, island := u.island }) ∧
  (∀ (s : State) (t : Nat) (p : Fin 8) (r : PcsReport), s.running = true → reportWf r = true → s.ports[p].st = .aligning →
    s.leads t p 9 →
    ∃ u, exec (.pcsAligned t p true r) s = .next u ∧
      u.ports = s.ports.set p { s.ports[p] with st := .remoteFault, stAt := max s.now t } ∧
      s.pcsCounted u p r none ∧ s.rowsBut u [(Obj.PCS_COUNTERS, p.val)] ∧
      u = { s with now := max s.now t, ports := u.ports, tab := u.tab }) ∧
  (∀ (s : State) (t w : Nat) (p : Fin 8) (c : Nat) (r : PcsReport), c < 4 → reportWf r = true → lossWord c = some w →
    s.ports[p].st = .remoteFault → s.leads t p 7 →
    ∃ u, exec (.alignmentLost t p c r) s = .next u ∧
      u.ports = s.ports.set p { s.ports[p] with st := .aligning, stAt := max s.now t } ∧
      s.pcsCounted u p r (some w) ∧ s.rowsBut u [(Obj.PCS_COUNTERS, p.val)] ∧
      u = { s with now := max s.now t, ports := u.ports, tab := u.tab }) ∧
  (∀ (s : State) (t : Nat) (p : Fin 8) (r : PcsReport), reportWf r = true → s.ports[p].st = .up → s.leads t p 7 →
    s.ports[p].preempt ≠ 1 → s.ports[p].tx = none → s.ports[p].held = none → (s.frames.all fun f => f.src != p.val) = true →
    ∃ u, exec (.alignmentLost t p 2 r) s = .next u ∧
      u.ports = s.ports.set p { s.ports[p] with st := .aligning, stAt := max s.now t } ∧
      s.pcsCounted u p r (some 8) ∧ s.rowsBut u [(Obj.PCS_COUNTERS, p.val)] ∧ s.objsBut u logObjs ∧
      u = { s with now := max s.now t, ports := u.ports, tab := u.tab, dict := u.dict, log := u.log, island := u.island }) ∧
  (∀ (s : State) (t : Nat) (p : Fin 8), s.ports[p].st = .up → ¬ s.leads t p 9 →
    exec (.remoteFault t p) s = .next (s.advance t)) ∧
  (∀ (s : State) (t : Nat) (p : Fin 8), s.ports[p].st = .up → s.leads t p 9 → s.ports[p].preempt ≠ 1 →
    s.ports[p].tx = none → s.ports[p].held = none → (s.frames.all fun f => f.src != p.val) = true →
    ∃ u, exec (.remoteFault t p) s = .next u ∧
      u.ports = s.ports.set p { s.ports[p] with st := .remoteFault, stAt := max s.now t } ∧
      s.rowCounted u Obj.PCS_COUNTERS p.val 10 8 1 ∧ s.rowsBut u [(Obj.PCS_COUNTERS, p.val)] ∧ s.objsBut u logObjs ∧
      u = { s with now := max s.now t, ports := u.ports, tab := u.tab, dict := u.dict, log := u.log, island := u.island }) ∧
  (∀ (s : State) (t : Nat) (k p : Fin 8), laneOwner s k = some p → s.obj Obj.HL_LOOPBACK (sub k) ≠ 1 → s.ports[p].st = .up →
    s.leads t p 4 → s.ports[p].preempt ≠ 1 → s.ports[p].tx = none → s.ports[p].held = none → (s.frames.all fun f => f.src != p.val) = true →
    ∃ u, exec (.laneSignalLoss t k) s = .next u ∧
      u.ports = s.ports.set p { s.ports[p] with st := .noSignal, stAt := max s.now t } ∧
      u.lanes = s.lanes.set k { s.lanes[k] with signal := false, locked := false, losClear := false, lostAt := max s.now t } ∧
      (∀ c : Fin 8, u.pm[pmClient c] = if s.cliOn c.val = true ∧ fld (s.cliRow c.val) 60 58 = k.val then
        { s.pm[pmClient c] with acc := { s.pm[pmClient c].acc with defect := true } } else s.pm[pmClient c]) ∧
      (∀ ch : Fin 4, u.pm[pmChan ch] = s.pm[pmChan ch]) ∧
      s.rowCounted u Obj.PCS_COUNTERS p.val 10 8 1 ∧ s.rowsBut u [(Obj.PCS_COUNTERS, p.val)] ∧ s.objsBut u logObjs ∧
      u = { s with
        now := max s.now t, ports := u.ports, lanes := u.lanes, pm := u.pm, tab := u.tab, dict := u.dict, log := u.log
        island := u.island }) ∧
  (∀ (s : State) (t : Nat) (p : Fin 8), s.ports[p].st = .aligning →
    s.ports[p].stAt + s.obj Obj.MAC_ALIGN_TIMEOUT_MS (sub p) * tickMs ≤ max s.now t → s.leads t p 6 →
    ∃ u, exec (.alignmentTimeout t p) s = .next u ∧
      u.ports = s.ports.set p { s.ports[p] with st := .noSignal, stAt := max s.now t } ∧
      (∀ k : Fin 8, u.lanes[k] = if (memberLanes s p).contains k then { s.lanes[k] with locked := false } else s.lanes[k]) ∧
      s.rowCounted u Obj.PCS_COUNTERS p.val 10 9 1 ∧ s.rowsBut u [(Obj.PCS_COUNTERS, p.val)] ∧
      u = { s with now := max s.now t, ports := u.ports, lanes := u.lanes, tab := u.tab })

/-- Writes of the three start values are accepted only in order; T follows them. A write that would break 64 <= MIN
<= INIT <= MAX <= 16000 is RANGE and changes nothing. An accepted write of INIT sets T to it and ends the clean
run; an accepted write of MIN or MAX clamps T between the bounds and keeps the run. A change of T is logged; no
other port changes. -/
def Obligations.StartThresholdKeepsItsBounds : Prop :=
  (∀ (s : State) (t v : Nat) (p : Fin 8), s.serverUp = true → 64 ≤ s.obj Obj.MAC_CT_START_MIN (sub p) →
    s.obj Obj.MAC_CT_START_MIN (sub p) ≤ v → v ≤ s.obj Obj.MAC_CT_START_MAX (sub p) → s.obj Obj.MAC_CT_START_MAX (sub p) ≤ 16000 →
    ∃ u, exec (.macCtStartInit t p v) s = .next u ∧ u.obj Obj.MAC_CT_START_INIT (sub p) = v ∧
      u.ports = s.ports.set p { s.ports[p] with ctStart := v, clean := 0 } ∧
      s.objsBut u ((Obj.MAC_CT_START_INIT, sub p) :: logObjs) ∧
      u = { s with
        now := max s.now t, status := .ok, ports := u.ports, dict := u.dict, log := u.log, island := u.island }) ∧
  (∀ (s : State) (t v : Nat) (p : Fin 8), s.serverUp = true → 64 ≤ v →
    v ≤ s.obj Obj.MAC_CT_START_INIT (sub p) → s.obj Obj.MAC_CT_START_INIT (sub p) ≤ s.obj Obj.MAC_CT_START_MAX (sub p) →
    s.obj Obj.MAC_CT_START_MAX (sub p) ≤ 16000 →
    ∃ u, exec (.macCtStartMin t p v) s = .next u ∧ u.obj Obj.MAC_CT_START_MIN (sub p) = v ∧
      u.ports = s.ports.set p { s.ports[p] with
        ctStart := max v (min (s.obj Obj.MAC_CT_START_MAX (sub p)) s.ports[p].ctStart) } ∧
      s.objsBut u ((Obj.MAC_CT_START_MIN, sub p) :: logObjs) ∧
      u = { s with
        now := max s.now t, status := .ok, ports := u.ports, dict := u.dict, log := u.log, island := u.island }) ∧
  (∀ (s : State) (t v : Nat) (p : Fin 8), s.serverUp = true → 64 ≤ s.obj Obj.MAC_CT_START_MIN (sub p) →
    s.obj Obj.MAC_CT_START_MIN (sub p) ≤ s.obj Obj.MAC_CT_START_INIT (sub p) → s.obj Obj.MAC_CT_START_INIT (sub p) ≤ v → v ≤ 16000 →
    ∃ u, exec (.macCtStartMax t p v) s = .next u ∧ u.obj Obj.MAC_CT_START_MAX (sub p) = v ∧
      u.ports = s.ports.set p { s.ports[p] with
        ctStart := max (s.obj Obj.MAC_CT_START_MIN (sub p)) (min v s.ports[p].ctStart) } ∧
      s.objsBut u ((Obj.MAC_CT_START_MAX, sub p) :: logObjs) ∧
      u = { s with
        now := max s.now t, status := .ok, ports := u.ports, dict := u.dict, log := u.log, island := u.island }) ∧
  (∀ (s : State) (t v : Nat) (p : Fin 8), s.serverUp = true →
    (v < s.obj Obj.MAC_CT_START_MIN (sub p) ∨ s.obj Obj.MAC_CT_START_MAX (sub p) < v) →
    exec (.macCtStartInit t p v) s = .next { s with now := max s.now t, status := .range }) ∧
  (∀ (s : State) (t v : Nat) (p : Fin 8), s.serverUp = true → (v < 64 ∨ s.obj Obj.MAC_CT_START_INIT (sub p) < v) →
    exec (.macCtStartMin t p v) s = .next { s with now := max s.now t, status := .range }) ∧
  (∀ (s : State) (t v : Nat) (p : Fin 8), s.serverUp = true → (v < s.obj Obj.MAC_CT_START_INIT (sub p) ∨ 16000 < v) →
    exec (.macCtStartMax t p v) s = .next { s with now := max s.now t, status := .range })

/-- Verification ends once; lane writes are checked; checkers and client lanes record their locks. A verify handshake
under way ends as Verified, or as Failed a verify time after the third of its verify frames, not sooner; they are
counted. A reverify of 1 on an Up port that verifies starts anew; another value is RANGE. Taps in range with
magnitudes that sum to at most 64 are stored, others are RANGE. A loopback code above 2 is RANGE. A checker that is on
counts the bits, the errors and the losses of lock of what its lane receives, and one that is locked finds no error in
what a generator of its sequence sends. The signal of a client lane clears its loss 125 us after it, not sooner;
block lock is recorded on C10E and C25E lanes. -/
def Obligations.PreemptionAndLaneTest : Prop :=
  (∀ (s : State) (t : Nat) (p : Fin 8), s.ports[p].preempt = 1 → s.ports[p].st = .up →
    ∃ u, exec (.preemptVerify t p true) s = .next u ∧ u.ports = s.ports.set p { s.ports[p] with preempt := 2 } ∧
      s.rowCounted u Obj.MAC_COUNTERS p.val 18 17 (verifyFrames (s.advance t) p) ∧
      s.rowsBut u [(Obj.MAC_COUNTERS, p.val)] ∧ s.objsBut u logObjs ∧
      u = { s with now := max s.now t, ports := u.ports, tab := u.tab, dict := u.dict, log := u.log, island := u.island }) ∧
  (∀ (s : State) (t : Nat) (p : Fin 8), max s.now t < s.ports[p].verifyAt + 3 * verifyTicks s p →
    exec (.preemptVerify t p false) s = .next (s.advance t)) ∧
  (∀ (s : State) (t : Nat) (p : Fin 8), s.ports[p].preempt = 1 → s.ports[p].st = .up →
    0 < s.obj Obj.MAC_VERIFY_TIME_MS (sub p) → s.ports[p].verifyAt + 3 * verifyTicks s p ≤ max s.now t →
    ∃ u, exec (.preemptVerify t p false) s = .next u ∧ u.ports = s.ports.set p { s.ports[p] with preempt := 3 } ∧
      s.rowCounted u Obj.MAC_COUNTERS p.val 18 17 2 ∧ s.rowsBut u [(Obj.MAC_COUNTERS, p.val)] ∧ s.objsBut u logObjs ∧
      u = { s with now := max s.now t, ports := u.ports, tab := u.tab, dict := u.dict, log := u.log, island := u.island }) ∧
  (∀ (s : State) (t : Nat) (p : Fin 8), s.serverUp = true → s.ports[p].st = .up →
    s.flag Obj.MAC_PREEMPT_ENABLE (sub p) = true → s.flag Obj.MAC_VERIFY_DISABLE (sub p) = false →
    ∃ u, exec (.macPreemptReverify t p 1) s = .next u ∧
      u.ports = s.ports.set p { s.ports[p] with preempt := 1, verifyAt := max s.now t } ∧
      s.rowCounted u Obj.MAC_COUNTERS p.val 18 17 (verifyFrames (s.advance t) p + 1) ∧ s.rowsBut u [(Obj.MAC_COUNTERS, p.val)] ∧
      u = { s with now := max s.now t, status := .ok, ports := u.ports, tab := u.tab }) ∧
  (∀ (s : State) (t v : Nat) (p : Fin 8), s.serverUp = true → v ≠ 1 →
    exec (.macPreemptReverify t p v) s = .next { s with now := max s.now t, status := .range }) ∧
  (∀ (s : State) (t v : Nat) (k : Fin 8), s.serverUp = true → v < 2 ^ 32 → tapsOk v = true →
    ∃ u, exec (.hlTxEq t k v) s = .next u ∧ u.obj Obj.HL_TX_EQ (sub k) = v ∧ s.objsBut u [(Obj.HL_TX_EQ, sub k)] ∧
      u = { s with now := max s.now t, status := .ok, dict := u.dict }) ∧
  (∀ (s : State) (t v : Nat) (k : Fin 8), s.serverUp = true → tapsOk v = false →
    exec (.hlTxEq t k v) s = .next { s with now := max s.now t, status := .range }) ∧
  (∀ (s : State) (t v : Nat) (k : Fin 8), s.serverUp = true → v ≤ 2 → laneOwner s k = none →
    ∃ u, exec (.hlLoopback t k v) s = .next u ∧ u.obj Obj.HL_LOOPBACK (sub k) = v ∧ s.objsBut u [(Obj.HL_LOOPBACK, sub k)] ∧
      u = { s with now := max s.now t, status := .ok, dict := u.dict }) ∧
  (∀ (s : State) (t v : Nat) (k : Fin 8), s.serverUp = true → 2 < v →
    exec (.hlLoopback t k v) s = .next { s with now := max s.now t, status := .range }) ∧
  (∀ (s : State) (t : Nat) (r : Fin 12) (rx : Bytes) (c : Check), genRuns s r = false → chkRuns s r = true →
    checkBits (fld (s.row Obj.HL_PRBS_TABLE r.val) 57 54) (rowPam s r) (prbsSees s r rx)
      { bits := 0, errors := 0, losses := 0, changes := [], x := s.prbs[r] } = c →
    ∃ u, exec (.prbsLock t r rx) s = .next u ∧ u.prbs = s.prbs.set r c.x ∧
      s.wordsCounted u Obj.HL_PRBS_COUNTERS r.val 4 (fun w => if w = 0 then c.bits else if w = 1 then c.errors else if w = 2 then c.losses else 0) ∧
      s.rowsBut u [(Obj.HL_PRBS_COUNTERS, r.val)] ∧ s.objsBut u logObjs ∧
      (c.changes = [] → u.dict = s.dict ∧ u.log = s.log ∧ u.island = s.island) ∧
      u = { s with now := max s.now t, prbs := u.prbs, tab := u.tab, dict := u.dict, log := u.log, island := u.island }) ∧
  (∀ (code n : Nat) (g x : Prbs), isSsprq code = false → g.flip = 0 → x.locked = true → x.chk = g.gen →
    (x.errs.filter id).length < 128 →
    let c := checkBits code false (prbsBits code false n g).1 { bits := 0, errors := 0, losses := 0, changes := [], x := x }
    c.bits = n ∧ c.errors = 0 ∧ c.losses = 0 ∧ c.changes = [] ∧ c.x.locked = true) ∧
  (∀ (s : State) (t : Nat) (r : Fin 12) (rx : Bytes), genRuns s r = false → chkRuns s r = false →
    exec (.prbsLock t r rx) s = .next (s.advance t)) ∧
  (∀ (s : State) (t : Nat) (k : Fin 8), max s.now t < s.lanes[k].lostAt + 125 * tickUs →
    exec (.clientSignalClear t k) s = .next (s.advance t)) ∧
  (∀ (s : State) (t : Nat) (k : Fin 8), laneOn s k = true → clientMode (s.obj Obj.HL_MODE (sub k)) = true →
    s.lanes[k].lostAt + 125 * tickUs ≤ max s.now t →
    exec (.clientSignalClear t k) s = .next { s with
      now := max s.now t, lanes := s.lanes.set k { s.lanes[k] with
        signal := true, losClear := true, signalAt := if s.lanes[k].signal then s.lanes[k].signalAt else max s.now t } }) ∧
  (∀ (s : State) (t : Nat) (k : Fin 8), laneOn s k = true →
    (s.obj Obj.HL_MODE (sub k) = 20 ∨ s.obj Obj.HL_MODE (sub k) = 21) →
    exec (.blockLock t k true) s = .next { s with
      now := max s.now t, lanes := s.lanes.set k { s.lanes[k] with blockLock := true } }) ∧
  (∀ (s : State) (t : Nat) (k : Fin 8), laneOn s k = true →
    (s.obj Obj.HL_MODE (sub k) = 20 ∨ s.obj Obj.HL_MODE (sub k) = 21) →
    ∃ u, exec (.blockLock t k false) s = .next u ∧
      (∀ c : Fin 8, u.pm[pmClient c] = if s.cliOn c.val = true ∧ fld (s.cliRow c.val) 60 58 = k.val then
        { s.pm[pmClient c] with acc := { s.pm[pmClient c].acc with defect := true } } else s.pm[pmClient c]) ∧
      (∀ ch : Fin 4, u.pm[pmChan ch] = s.pm[pmChan ch]) ∧
      u = { s with
        now := max s.now t, pm := u.pm
        lanes := s.lanes.set k { s.lanes[k] with blockLock := false, blockLostAt := max s.now t } })

/-- A period is sent or dropped, containers join their parts, late parts and slips are lost. The first boundary of an
enabled client starts its mapper. With loss of signal, a period of a single-member client is all ones: it is
counted, its r, GFC and JC history advance, and its containers join the flume queue while timing and the channel
are up, or are dropped and counted. A container that is short or whose CRC is bad is a CRC error, and a sound one on a
channel of no member is a wrong channel; a good first container opens its member's part. A part older than 250 µs is lost, with its frame. A
playout slip takes the de-mapper back to Seek and empties the buffer. Nothing else of the state changes but the
log. -/
def Obligations.ClientPeriodsAndContainers : Prop :=
  (∀ (s : State) (t n : Nat) (c : Fin 8) (d : Bytes), s.running = true → s.cliOn c.val = true → s.cli[c].started = false →
    d.length = (n + 7) / 8 →
    exec (.periodBoundary t c n d) s = .next { s with
      now := max s.now t, cli := s.cli.set c { s.cli[c] with
        buf := 0, bufBits := 0, out := (0, 0), playAt := max s.now t, started := true, boundary := max s.now t, startLos := cliLos s c, startBlk := cliBlk s c } }) ∧
  (∀ (s : State) (t : Nat) (c : Fin 8), s.running = true → s.cliOn c.val = true → s.cli[c].started = true → cliM s c = 1 →
    cliLos s c = true → s.cli[c].usOnes = 0 → s.rx[memberCh s c 0].st ≠ .sync →
    ∃ u, exec (.periodBoundary t c 0 []) s = .next u ∧
      u.cli = s.cli.set c { settlePlay (s.advance t) c s.cli[c] with
        buf := 0, bufBits := 0, out := (0, 0), started := true, boundary := max s.now t, startLos := true, startBlk := cliBlk s c
        r := (s.cli[c].r + cliB s c) % cliB s c, gfc := (s.cli[c].gfc + 1) % 65536, lastSent := s.cli[c].gfc
        prevJc := some 0, usOnes := 1 } ∧
      s.counted u Obj.CLI_AIS_SENT (sub c) 1 ∧ s.counted u Obj.CLI_US_PERIODS_DROPPED (sub c) 1 ∧
      u.pm[pmClient c].acc.words[5] = s.pm[pmClient c].acc.words[5] + 1 ∧
      (∀ e : Fin 12, e ≠ pmClient c → u.pm[e] = s.pm[e]) ∧
      s.objsBut u ([(Obj.CLI_AIS_SENT, sub c), (Obj.CLI_US_PERIODS_DROPPED, sub c), (Obj.CLI_JC_CLAMPED, sub c)] ++ logObjs) ∧
      u = { s with
        now := max s.now t, cli := u.cli, pm := u.pm, dict := u.dict, log := u.log, island := u.island }) ∧
  (∀ (s : State) (t : Nat) (c : Fin 8), s.running = true → s.cliOn c.val = true → s.cli[c].started = true → cliM s c = 1 →
    cliLos s c = true → s.cli[c].usOnes = 1 → s.rx[memberCh s c 0].st = .sync → s.act[memberCh s c 0].st = .operating →
    flumePeriods s (flumeNo c 0) = [] →
    ∃ u, exec (.periodBoundary t c 0 []) s = .next u ∧
      (u.usq.map fun q => q.data) = (s.usq.map fun q => q.data) ++ containers (cliB s c) (onesVal (8 * cliB s c)) s.cli[c].gfc 0 0 true 0 ((cliB s c - s.cli[c].r) % cliB s c / 8) ∧
      s.counted u Obj.CLI_AIS_SENT (sub c) 1 ∧ s.counted u Obj.CLI_PERIODS_SENT (sub c) 1 ∧
      (∀ k : Fin 8, k ≠ c → u.cli[k] = s.cli[k]) ∧ (∀ e : Fin 12, e ≠ pmClient c → u.pm[e] = s.pm[e]) ∧
      s.objsBut u [(Obj.CLI_AIS_SENT, sub c), (Obj.CLI_PERIODS_SENT, sub c), (Obj.CLI_JC_CLAMPED, sub c)] ∧
      u = { s with
        now := max s.now t, cli := u.cli, pm := u.pm, dict := u.dict, usq := u.usq, hop := u.hop, nextCont := u.nextCont }) ∧
  (∀ (s : State) (t : Nat) (c : Fin 8), (s.flumeIn.find? fun x => x.client == c.val && !verdictOpen s x) = none →
    exec (.container t c) s = .next (s.advance t)) ∧
  (∀ (s : State) (t : Nat) (c : Fin 8) (g : FlumeIn), s.running = true →
    (s.flumeIn.find? fun x => x.client == c.val && !verdictOpen s x) = some g → s.cliOn c.val = true → s.cli[c].st ≠ 0 →
    16 ≤ g.data.length → crc16Tlink (beAt g.data 0 16) = beAt g.data 0 16 % 2 ^ 16 → memberOf s c g.ch = none →
    fld (beAt g.data 0 16) 104 103 < cliM s c →
    ∃ u, exec (.container t c) s = .next u ∧ u.flumeIn = (s.flumeIn.filter fun x => x.fid ≠ g.fid) ∧
      s.counted u Obj.CLI_WRONG_CHANNEL (sub c) 1 ∧ s.objsBut u [(Obj.CLI_WRONG_CHANNEL, sub c)] ∧
      u = { s with now := max s.now t, flumeIn := u.flumeIn, dict := u.dict }) ∧
  (∀ (s : State) (t : Nat) (c : Fin 8) (g : FlumeIn), s.running = true →
    (s.flumeIn.find? fun x => x.client == c.val && !verdictOpen s x) = some g → s.cliOn c.val = true → s.cli[c].st ≠ 0 →
    (g.data.length < 16 ∨ crc16Tlink (beAt g.data 0 16) ≠ beAt g.data 0 16 % 2 ^ 16) →
    (∀ m : Nat, memberOf s c g.ch = some m → curPart s c m = none ∧ (s.cli[c].heard.find? fun e => e.1 == m) = none) →
    ∃ u, exec (.container t c) s = .next u ∧ u.flumeIn = (s.flumeIn.filter fun x => x.fid ≠ g.fid) ∧
      s.counted u Obj.CLI_CONT_CRC_ERRORS (sub c) 1 ∧ s.objsBut u [(Obj.CLI_CONT_CRC_ERRORS, sub c)] ∧
      u.compat.cli[c][1] = s.compat.cli[c][1] + 1 ∧
      u = { s with now := max s.now t, flumeIn := u.flumeIn, dict := u.dict, compat := u.compat }) ∧
  (∀ (s : State) (t m h : Nat) (c : Fin 8) (g : FlumeIn), s.running = true →
    (s.flumeIn.find? fun x => x.client == c.val && !verdictOpen s x) = some g → s.cliOn c.val = true → s.cli[c].st ≠ 0 →
    memberOf s c g.ch = some m → 16 ≤ g.data.length → g.bad = false → beAt g.data 0 16 = h →
    crc16Tlink h = h % 2 ^ 16 → fld h 104 103 = m → fld h 111 106 = 0 → bitAt h 105 = false → curPart s c m = none →
    partSettled (s.advance t) c m (fld h 127 112) = false →
    exec (.container t c) s = .next { s with
      now := max s.now t, flumeIn := s.flumeIn.filter fun x => x.fid ≠ g.fid
      cli := s.cli.set c { s.cli[c] with heard := (m, fld h 127 112, false) :: s.cli[c].heard.filter fun e => e.1 ≠ m, parts := (s.cli[c].parts.filter fun p => p.member ≠ m) ++ [{
        member := m, gfc := fld h 127 112, nextNo := 1, at0 := max s.now t, data := beNat (g.data.drop 16)
        bytes := (g.data.drop 16).length, full := decide ((g.data.drop 16).length = 16000), jc := majority h, ais := bitAt h 100
        pointer := fld h 63 48 }] } }) ∧
  (∀ (s : State) (t : Nat) (c : Fin 8), cliM s c = 1 →
    (s.cli[c].parts.all fun p => decide (max s.now t < p.at0 + 250 * tickUs)) = true →
    exec (.skewLimit t c) s = .next (s.advance t)) ∧
  (∀ (s : State) (t : Nat) (c : Fin 8) (p : CliPart), s.running = true → cliM s c = 1 → s.cli[c].parts = [p] →
    p.at0 + 250 * tickUs ≤ max s.now t → s.cli[c].st = 1 → lostNow (s.advance t) c p.gfc = false →
    ∃ u, exec (.skewLimit t c) s = .next u ∧
      u.cli = s.cli.set c { s.cli[c] with
        parts := [], frames := s.cli[c].frames.filter fun x => x.gfc ≠ p.gfc, lost := ((p.gfc, max s.now t) :: s.cli[c].lost).take 16
        lostRun := s.cli[c].lostRun + 1, refPtr := none, seekRun := 0, lastGfc := none, lastAis := false, lastSkew := false } ∧
      s.counted u Obj.CLI_PERIODS_LOST (sub c) 1 ∧ s.objsBut u [(Obj.CLI_PERIODS_LOST, sub c)] ∧
      u.pm[pmClient c].acc.errored = s.pm[pmClient c].acc.errored + 1 ∧ u.compat.cli[c][0] = s.compat.cli[c][0] + 1 ∧
      (∀ e : Fin 12, e ≠ pmClient c → u.pm[e] = s.pm[e]) ∧
      u = { s with now := max s.now t, cli := u.cli, pm := u.pm, dict := u.dict, compat := u.compat }) ∧
  (∀ (s : State) (t : Nat) (c : Fin 8), s.cli[c].st = 2 → s.cli[c].running = true →
    (playFill (s.advance t) c = 0 ∨ 1000 * (fld (s.cliRow c.val) 38 31 + 250) < playFill (s.advance t) c) →
    ∃ u, exec (.playoutSlip t c) s = .next u ∧
      u.cli = s.cli.set c { s.cli[c] with
        st := 1, seekRun := 0, lostRun := 0, ptrRun := 0, lastGfc := none, refPtr := none, playout := [], running := false
        dsOnes := u.cli[c].dsOnes } ∧
      s.counted u Obj.CLI_PLAYOUT_SLIPS (sub c) 1 ∧ u.pm[pmClient c].acc.defect = true ∧
      (∀ e : Fin 12, e ≠ pmClient c → u.pm[e] = s.pm[e]) ∧ s.objsBut u ((Obj.CLI_PLAYOUT_SLIPS, sub c) :: logObjs) ∧
      u = { s with now := max s.now t, cli := u.cli, pm := u.pm, dict := u.dict, log := u.log, island := u.island })

/-- Seconds are classified and held, go to their bins after 10 s, and are latched for the forerunner block. At a
whole second with the servo locked every entity that counts gains one held second, classified by its defect and
its errored blocks, and starts the next empty; one that does not count keeps its bins. A second held for 10 s
goes to a bin of each width. A clear of 1 empties every bin; another value is RANGE. At the latch the forerunner
objects take the second's counts of the channels and clients they show, and the counts start anew. -/
def Obligations.PerformanceSecondsAndBins : Prop :=
  (∀ (s : State) (t : Nat), s.pwr.phase = .up → s.time.doms[s.time.selected].state = .locked →
    ∃ u, exec (.pmSecond t) s = .next u ∧
      (∀ e : Fin 12, (pmCounts s e = true → s.pm[e].held.length < 9 →
        u.pm[e] = { s.pm[e] with
          held := s.pm[e].held ++ [{ second := taiSecond (s.advance t) - 1, errored := s.pm[e].acc.errored, es := s.pm[e].acc.defect || pmDefectNow s e || decide (s.pm[e].acc.errored > 0), ses := s.pm[e].acc.defect || pmDefectNow s e || decide (s.pm[e].acc.errored ≥ if e.val < 8 then 2400 else 1728000), uas := s.pm[e].unavail, words := s.pm[e].acc.words }]
          acc := { errored := 0, defect := pmDefectNow s e, words := Vector.replicate 8 0 } }) ∧
        (pmCounts s e = false →
          u.pm[e] = { s.pm[e] with acc := { errored := 0, defect := pmDefectNow s e, words := Vector.replicate 8 0 } })) ∧
      s.objsBut u logObjs ∧ u = { s with now := max s.now t, pm := u.pm, dict := u.dict, log := u.log, island := u.island }) ∧
  (∀ (s : State) (t : Nat) (e : Fin 12) (p : PmSec), s.running = true → s.pm[e].held = [p] → s.pm[e].quarter.cur = none →
    s.pm[e].day.cur = none → s.pm[e].quarter.recent = [] → s.pm[e].day.recent = [] →
    p.second + 11 ≤ taiSecond (s.advance t) → taiSecond (s.advance t) < p.second / 900 * 900 + 910 →
    (∀ k : Fin 12, k ≠ e → s.pm[k].held = [] ∧ s.pm[k].quarter.cur = none ∧ s.pm[k].day.cur = none) →
    exec (.cliPmBin t) s = .next { s with
      now := max s.now t, pm := s.pm.set e { s.pm[e] with
        held := []
        quarter := { s.pm[e].quarter with
          cur := some (binAdd p { start := p.second / 900 * 900, suspect := true, words := Vector.replicate 14 0 })
          marks := s.pm[e].quarter.marks.filter fun m => decide (p.second / 900 * 900 ≤ m.2) }
        day := { s.pm[e].day with
          cur := some (binAdd p { start := p.second / 86400 * 86400, suspect := true, words := Vector.replicate 14 0 })
          marks := s.pm[e].day.marks.filter fun m => decide (p.second / 86400 * 86400 ≤ m.2) } } }) ∧
  (∀ (s : State) (t : Nat), s.serverUp = true →
    ∃ u, exec (.cliPmClear t 1) s = .next u ∧
      (∀ e : Fin 12, u.pm[e].acc = s.pm[e].acc ∧ u.pm[e].unavail = s.pm[e].unavail ∧ u.pm[e].held = [] ∧ pmRow u false (97 * e.val) = 0 ∧ pmRow u true (8 * e.val) = 0) ∧
      u = { s with now := max s.now t, status := .ok, pm := u.pm }) ∧
  (∀ (s : State) (t v : Nat), s.serverUp = true → v ≠ 1 →
    exec (.cliPmClear t v) s = .next { s with now := max s.now t, status := .range }) ∧
  (∀ (s : State) (t : Nat), s.running = true →
    ∃ u, exec (.compatLatch t) s = .next u ∧ u.compat = Compat.init ∧
      u.obj Obj.COMPAT_SECOND = (taiSecond (s.advance t) - 1) % 2 ^ 32 ∧
      (∀ (i : Fin 2) (ch : Fin 4), compatChan s i.val = some ch →
        objView u Obj.COMPAT_CW_UNCORRECTABLE (sub i) = some (min s.compat.ch[ch][0] 0xFFFFFFFF) ∧
        objView u Obj.COMPAT_CW_CORRECTED (sub i) = some (min s.compat.ch[ch][1] 0xFFFFFFFF) ∧
        objView u Obj.COMPAT_BITS_CORRECTED (sub i) = some (min s.compat.ch[ch][2] 0xFFFFFFFF) ∧
        objView u Obj.COMPAT_FRAMES_LOST (sub i) = some (min (8000 - s.compat.ch[ch][3]) 0xFFFFFFFF) ∧
        objView u Obj.COMPAT_HEC_ERRORS (sub i) = some (min s.compat.ch[ch][4] 0xFFFFFFFF) ∧
        objView u Obj.COMPAT_BURSTS_SENT (sub i) = some (min s.compat.ch[ch][5] 0xFFFFFFFF)) ∧
      (∀ i : Fin 2, compatChan s i.val = none →
        objView u Obj.COMPAT_CW_UNCORRECTABLE (sub i) = some 0 ∧ objView u Obj.COMPAT_FRAMES_LOST (sub i) = some 0 ∧
        objView u Obj.COMPAT_BURSTS_SENT (sub i) = some 0) ∧
      (∀ i : Fin 4, compatClient s i.val = none → objView u Obj.COMPAT_CLI_LOST (sub i) = some 0) ∧
      (∀ (i : Fin 4) (c : Fin 8), compatClient s i.val = some c →
        objView u Obj.COMPAT_CLI_LOST (sub i) = some (min s.compat.cli[c][0] 0xFFFFFFFF) ∧
        objView u Obj.COMPAT_CLI_AIS (sub i) = some (min s.compat.cli[c][3] 0xFFFFFFFF)) ∧
      (∀ ch : Fin 4, u.compatDown.1[ch] = (s.rx[ch].st != .sync)) ∧ (∀ c : Fin 8, u.compatDown.2[c] = (s.cli[c].st != 2)) ∧
      s.objsBut u [(Obj.COMPAT_SECOND, 0)] ∧
      u = { s with
        now := max s.now t, dict := u.dict, compat := u.compat, compatLast := u.compatLast, compatDown := u.compatDown })

/-- A domain loses its source, ends its holdover, is set, and is selected without a phase step. At the every-second
check a domain that steers and has heard no usable sample for its timeout loses its source: from Locking it goes
to Free-run at rate 0. A holdover that has lasted its time ends in Free-run with its rate. Setting the time is
RANGE, or STATE outside Free-run, or moves device time to the value. A selection above 2 is RANGE; a change of
domain keeps device time as it is and is counted. A change of source drops a domain Locked for 900 s to Holdover.
The other domain does not change. -/
def Obligations.DomainsLoseHoldAndSwitch : Prop :=
  (∀ (s : State) (t : Nat), (∀ x : Fin 2, (s.time.doms[x].state = .freeRun ∨ s.time.doms[x].state = .holdover) ∧ s.time.doms[x].pair = none) →
    exec (.sourceTimeout t) s = .next (s.advance t)) ∧
  (∀ (s : State) (t : Nat) (x : Fin 2), s.running = true → s.obj Obj.TIME_SELECT ≠ 2 → s.time.doms[x].state = .locking →
    s.time.doms[x].pair = none → s.time.doms[1 - x].state = .freeRun → s.time.doms[1 - x].pair = none →
    s.time.doms[x].lastUsable + s.obj Obj.TIME_SRC_TIMEOUT_S (sub x) * tickS ≤ max s.now t →
    ∃ u, exec (.sourceTimeout t) s = .next u ∧
      u.time = { s.time with doms := s.time.doms.set x { s.time.doms[x] with
        state := .freeRun, integral := 0, clk := { at0 := max s.now t, val := clockAt s.time.doms[x].clk (max s.now t), rate := 0 }
        hist := (max s.now t, 0) :: keepRates (max s.now t - 64 * tickS) s.time.doms[x].hist } } ∧
      s.objsBut u logObjs ∧ u = { s with now := max s.now t, time := u.time, dict := u.dict, log := u.log, island := u.island }) ∧
  (∀ (s : State) (t : Nat) (x : Fin 2), s.running = true → s.obj Obj.TIME_SELECT ≠ 2 → s.time.doms[x].state = .holdover →
    s.time.doms[x].holdoverAt + s.obj Obj.TIME_HOLDOVER_S (sub x) * tickS ≤ max s.now t →
    ∃ u, exec (.timeHoldover t x) s = .next u ∧
      u.time = { s.time with doms := s.time.doms.set x { s.time.doms[x] with state := .freeRun } } ∧
      s.objsBut u logObjs ∧ u = { s with now := max s.now t, time := u.time, dict := u.dict, log := u.log, island := u.island }) ∧
  (∀ (s : State) (t : Nat) (x : Fin 2), (s.time.doms[x].state ≠ .holdover ∨
      max s.now t < s.time.doms[x].holdoverAt + s.obj Obj.TIME_HOLDOVER_S (sub x) * tickS) →
    exec (.timeHoldover t x) s = .next (s.advance t)) ∧
  (∀ (s : State) (t sec ns : Nat), s.serverUp = true → (999999999 < ns ∨ 2 ^ 48 ≤ sec) →
    exec (.timeSet t sec ns) s = .next { s with now := max s.now t, status := .range }) ∧
  (∀ (s : State) (t sec ns : Nat), s.serverUp = true → ns ≤ 999999999 → sec < 2 ^ 48 →
    s.time.doms[s.time.selected].state ≠ .freeRun →
    exec (.timeSet t sec ns) s = .next { s with now := max s.now t, status := .state }) ∧
  (∀ (s : State) (t sec ns : Nat) (x : Fin 2), s.serverUp = true → ns ≤ 999999999 → sec < 2 ^ 48 → s.time.selected = x →
    s.time.doms[x].state = .freeRun →
    (∀ p : Fin 8, s.sch.gates[p].active = none ∧ s.sch.gates[p].pending = none ∧ s.ports[p].tx = none) →
    ∃ u, exec (.timeSet t sec ns) s = .next u ∧
      u.time = { s.time with
        doms := s.time.doms.set x { s.time.doms[x] with clk := { at0 := max s.now t, val := sec * secU + ns * nsU, rate := s.time.doms[x].clk.rate }, pair := none }
        delta := 0, deltaAt := max s.now t, stepped := true } ∧
      u.devTime = sec * secU + ns * nsU ∧ (∀ p : Fin 8, s.counted u Obj.GCL_TIME_STEPS (sub p) 1 ∧ u.sch.gates[p].overlap = none) ∧
      s.objsBut u (((fins 8).map fun p => (Obj.GCL_TIME_STEPS, sub p)) ++ logObjs) ∧
      u = { s with
        now := max s.now t, status := .ok, time := u.time, sch := { s.sch with gates := u.sch.gates }, pm := u.pm, dict := u.dict, log := u.log, island := u.island }) ∧
  (∀ (s : State) (t v : Nat), s.serverUp = true → 2 < v →
    exec (.timeSelect t v) s = .next { s with now := max s.now t, status := .range }) ∧
  (∀ (s : State) (t : Nat) (x : Fin 2), s.serverUp = true → s.time.selected ≠ x →
    ∃ u, exec (.timeSelect t x.val) s = .next u ∧ u.time.selected = x ∧ u.devTime = (s.advance t).devTime ∧
      u.time = { s.time with selected := x, delta := u.time.delta, deltaAt := max s.now t } ∧ u.obj Obj.TIME_SELECT = x.val ∧
      s.counted u Obj.TIME_SWITCHES 0 1 ∧ s.objsBut u ([(Obj.TIME_SELECT, 0), (Obj.TIME_SWITCHES, 0)] ++ logObjs) ∧
      u = { s with
        now := max s.now t, status := .ok, time := u.time, dict := u.dict, log := u.log, island := u.island }) ∧
  (∀ (s : State) (t : Nat) (x : Fin 2), s.serverUp = true → s.time.selected = x →
    ∃ u, exec (.timeSelect t x.val) s = .next u ∧ u.obj Obj.TIME_SELECT = x.val ∧ s.objsBut u [(Obj.TIME_SELECT, 0)] ∧
      u = { s with now := max s.now t, status := .ok, dict := u.dict }) ∧
  (∀ (s : State) (t v : Nat) (x : Fin 2), s.serverUp = true → 6 < v →
    exec (.timeDomSource t x v) s = .next { s with now := max s.now t, status := .range }) ∧
  (∀ (s : State) (t v : Nat) (x : Fin 2), s.serverUp = true → v ≤ 6 → 5 ≤ v → s.obj Obj.TIME_DOM_SOURCE (sub x) ≠ v →
    s.time.doms[x].state = .locked → 900 * tickS ≤ max s.now t - s.time.doms[x].lockedAt → s.obj Obj.TIME_SELECT ≠ 2 →
    ∃ u, exec (.timeDomSource t x v) s = .next u ∧ u.obj Obj.TIME_DOM_SOURCE (sub x) = v ∧
      u.time.doms[x].state = .holdover ∧ u.time.doms[x].holdoverAt = max s.now t ∧ u.time.doms[x].headEnd = none ∧
      u.time.doms[x].clk = { at0 := max s.now t, val := clockAt s.time.doms[x].clk (max s.now t), rate := clampI (-32768000000) 32768000000 (meanRate (max s.now t) s.time.doms[x]) } ∧
      u.time = { s.time with doms := s.time.doms.set x u.time.doms[x] } ∧
      s.objsBut u ((Obj.TIME_DOM_SOURCE, sub x) :: logObjs) ∧
      u = { s with
        now := max s.now t, status := .ok, time := u.time, dict := u.dict, log := u.log, island := u.island }) ∧
  (∀ (s : State) (t v : Nat) (x : Fin 2), s.serverUp = true → v ≤ 6 → s.obj Obj.TIME_DOM_SOURCE (sub x) = v →
    ∃ u, exec (.timeDomSource t x v) s = .next u ∧ u.obj Obj.TIME_DOM_SOURCE (sub x) = v ∧
      s.objsBut u [(Obj.TIME_DOM_SOURCE, sub x)] ∧ u = { s with now := max s.now t, status := .ok, dict := u.dict })

/-- Pulses, time-link messages, the stamp queue and the PTP stack. An enabled PPS output that is not squelched and
has risen at least 500 ms ago rises at a whole second for its width. An enabled PPS input records its offset to the nearest
second and ends its fault; 1.1 s without an edge is a fault once. The manager drives the next time-link message at a
whole second and clears its step mark; another terminal drives none. The cells that carry a message are read as that
message. A worker counts a message with a bad CRC or bad cells; a good one is recorded and ends a fault; 1.1 s without one is a fault once. A pop takes the oldest complete host
entry, or reads zero. The PTP stack submits a Sync or Announce on each master port 62.5 ms or 125 ms after the last and
advances its sequence. -/
def Obligations.PulsesTimeLinkAndStampQueue : Prop :=
  (∀ (s : State) (t : Nat), s.running = true → s.flag Obj.PPS_OUT_ENABLE = true → wholeSecond (s.advance t) = true →
    (s.flag Obj.PPS_OUT_SQUELCH = false ∨ s.time.doms[s.time.selected].state = .locked ∨ s.time.doms[s.time.selected].state = .holdover) →
    s.obj Obj.PPS_OUT_ADJ_PS = 0 → (s.time.ppsOutRise.all fun r => decide (r + 500 * tickMs ≤ max s.now t)) = true →
    exec (.ppsOut t) s = .next { s with
      now := max s.now t, time := { s.time with
        ppsOutRise := some (max s.now t), ppsOutUntil := max s.now t + s.obj Obj.PPS_OUT_WIDTH_MS * tickMs } }) ∧
  (∀ (s : State) (t : Nat), (s.flag Obj.PPS_OUT_ENABLE = false ∨ wholeSecond (s.advance t) = false ∨ (s.flag Obj.PPS_OUT_SQUELCH = true ∧
      (s.time.doms[s.time.selected].state = .freeRun ∨ s.time.doms[s.time.selected].state = .locking))) →
    exec (.ppsOut t) s = .next (s.advance t)) ∧
  (∀ (s : State) (t : Nat), s.running = true → s.flag Obj.PPS_IN_ENABLE = true → s.obj Obj.PPS_IN_ADJ_PS = 0 →
    (s.time.ppsInLast.all fun r => decide (r + 900 * tickMs ≤ max s.now t)) = true →
    (∀ x : Fin 2, s.obj Obj.TIME_DOM_SOURCE (sub x) ≠ 6) →
    exec (.ppsIn t) s = .next { s with
      now := max s.now t, time := { s.time with
        ppsInLast := some (max s.now t), ppsInFaulted := false
        ppsInOffset := toPs ((s.devTimeAt (roundStamp (max s.now t)) : Int) - (nearestSecond (s.devTimeAt (roundStamp (max s.now t))) : Int)) } }) ∧
  (∀ (s : State) (t : Nat), (s.flag Obj.PPS_IN_ENABLE = false ∨
      (s.time.ppsInLast.any fun r => decide (max s.now t < r + 900 * tickMs)) = true) →
    exec (.ppsIn t) s = .next (s.advance t)) ∧
  (∀ (s : State) (t r : Nat), s.time.ppsInLast = some r → s.flag Obj.PPS_IN_ENABLE = true → s.time.ppsInFaulted = false →
    (s.running = true ∨ s.inSleep = true) → r + 1100 * tickMs ≤ max s.now t →
    ∃ u, exec (.ppsInFault t) s = .next u ∧ u.time = { s.time with ppsInFaulted := true } ∧
      s.counted u Obj.PPS_IN_MISSED 0 1 ∧ s.objsBut u ((Obj.PPS_IN_MISSED, 0) :: logObjs) ∧
      u = { s with now := max s.now t, time := u.time, dict := u.dict, log := u.log, island := u.island }) ∧
  (∀ (s : State) (t : Nat), s.time.ppsInFaulted = true → exec (.ppsInFault t) s = .next (s.advance t)) ∧
  (∀ (s : State) (t : Nat), wholeSecond (s.advance t) = false → exec (.tlinkMessageSend t) s = .next (s.advance t)) ∧
  (∀ (s : State) (t : Nat), s.running = true → s.bus.manager = true → s.flag Obj.TLINK_ENABLE = true →
    wholeSecond (s.advance t) = true →
    exec (.tlinkMessageSend t) s = .next { s with
      now := max s.now t, time := { s.time with
        tlOut := tlinkMessage (s.advance t), tlDriving := true, stepped := false, tlSeq := (s.time.tlSeq + 1) % 65536 } }) ∧
  (∀ (s : State) (t : Nat), (s.bus.manager = false ∨ s.flag Obj.TLINK_ENABLE = false) → wholeSecond (s.advance t) = true →
    exec (.tlinkMessageSend t) s = .next { s with
      now := max s.now t, time := { s.time with tlDriving := false, stepped := false } }) ∧
  (∀ m : Nat, m < 2 ^ 128 → tlinkRead (tlinkCells m) = some m) ∧
  (∀ (s : State) (t : Nat) (l : List Nat), s.running = true → s.bus.manager = false → l.length = 129 →
    (∀ m : Nat, tlinkRead l = some m → m % 2 ^ 16 ≠ crc16Tlink m) →
    ∃ u, exec (.tlinkMessage t l) s = .next u ∧ s.counted u Obj.TLINK_CRC_ERRORS 0 1 ∧
      s.objsBut u [(Obj.TLINK_CRC_ERRORS, 0)] ∧ u = { s with now := max s.now t, dict := u.dict }) ∧
  (∀ (s : State) (t m : Nat) (l : List Nat), s.running = true → s.bus.manager = false → l.length = 129 → tlinkRead l = some m →
    m % 2 ^ 16 = crc16Tlink m → (∀ x : Fin 2, s.obj Obj.TIME_DOM_SOURCE (sub x) ≠ 5) →
    ∃ u, exec (.tlinkMessage t l) s = .next u ∧
      u.time = { s.time with tlLastGood := some (max s.now t), tlLastSeq := fld m 47 32, tlFault := false } ∧
      s.objsBut u logObjs ∧
      u = { s with now := max s.now t, time := u.time, dict := u.dict, log := u.log, island := u.island }) ∧
  (∀ (s : State) (t : Nat) (l : List Nat), s.bus.manager = true → l.length = 129 →
    exec (.tlinkMessage t l) s = .next (s.advance t)) ∧
  (∀ (s : State) (t r : Nat), s.time.tlLastGood = some r → s.bus.manager = false → s.time.tlFault = false →
    (s.running = true ∨ s.inSleep = true) → r + 1100 * tickMs ≤ max s.now t →
    ∃ u, exec (.tlinkFault t) s = .next u ∧ u.time = { s.time with tlFault := true } ∧ tlinkState u = 3 ∧
      s.objsBut u logObjs ∧ u = { s with now := max s.now t, time := u.time, dict := u.dict, log := u.log, island := u.island }) ∧
  (∀ (s : State) (t : Nat) (e : TsEntry), s.serverUp = true →
    (s.time.tsq.find? fun x => tsHostKind x.kind && x.complete) = some e →
    exec (.tsPop t) s = .next { s with
      now := max s.now t, status := .ok, value := beBytes 32 (tsBits e)
      time := { s.time with tsq := s.time.tsq.filter fun x => x.id ≠ e.id } }) ∧
  (∀ (s : State) (t : Nat), s.serverUp = true →
    (s.time.tsq.all fun x => !(tsHostKind x.kind && x.complete)) = true →
    exec (.tsPop t) s = .next { s with now := max s.now t, status := .ok, value := zeros 32 }) ∧
  (∀ (s : State) (t : Nat), ptpDue (s.advance t) s.time.ptpSyncAt (tickS / 16) = false → exec (.ptpSync t) s = .next (s.advance t)) ∧
  (∀ (s : State) (t : Nat), s.running = true → ptpDue (s.advance t) s.time.ptpSyncAt (tickS / 16) = true →
    exec (.ptpSync t) s = .next { s with
      now := max s.now t
      cpuq := s.cpuq ++ ((List.range 8).filter fun p => bitAt (s.obj Obj.TIME_PTP_PORTS) p).map fun p => (ptpFrame s 0 44 (ofS 8 (-4)) s.time.ptpSyncSeq (zeros 10), p * 8 + 7, 1)
      time := { s.time with ptpSyncSeq := (s.time.ptpSyncSeq + 1) % 65536, ptpSyncAt := some (max s.now t) } }) ∧
  (∀ (s : State) (t : Nat), s.running = true → ptpDue (s.advance t) s.time.ptpAnnAt (tickS / 8) = true →
    ∃ u, exec (.ptpAnnounce t) s = .next u ∧ u.cpuq.take s.cpuq.length = s.cpuq ∧
      ((u.cpuq.drop s.cpuq.length).map fun e => (e.2, beAt e.1 15 1, beAt e.1 58 2, beAt e.1 62 1)) =
        (((List.range 8).filter fun p => bitAt (s.obj Obj.TIME_PTP_PORTS) p).map fun p => ((p * 8 + 7, 0), 2, s.obj Obj.TIME_TAI_UTC % 65536, clockClass s % 256)) ∧
      u = { s with
        now := max s.now t, cpuq := u.cpuq, time := { s.time with ptpAnnSeq := (s.time.ptpAnnSeq + 1) % 65536, ptpAnnAt := some (max s.now t) } })

/-- A slot error locks or frees; blobs are stored and unwrapped; an unlock frees Locked slots. A parity error locks a
Valid data slot, whose key is erased and counted, or frees another slot; it is counted and logged. A blob of 40
bytes is stored in flash and its unwrap begins; another length is TYPE_MISMATCH. After 2 µs the unwrap fills the
blob's slot, or leaves it Free for a zero or a failing blob, and the state says which. Sealing stores the wrapped
secret unless a channel is enabled. An unlock frees exactly the Locked slots of its flow. -/
def Obligations.SlotErrorsBlobsAndUnlock : Prop :=
  (∀ (s : State) (t : Nat) (i : Fin 256), i.val < 224 → s.ciph.slots[i].st = .valid →
    ∃ u, exec (.ciphSlotError t i) s = .next u ∧
      u.ciph = { s.ciph with
        slots := s.ciph.slots.set i { s.ciph.slots[i] with st := .locked, key := [], txCh := 0, newest := false }
        txKeys := s.ciph.txKeys.filter fun e => e.slot ≠ some i.val } ∧
      s.counted u Obj.CIPH_KEYS_ERASED 0 1 ∧ s.counted u Obj.CIPH_SLOT_PARITY_ERRORS 0 1 ∧
      s.objsBut u ([(Obj.CIPH_KEYS_ERASED, 0), (Obj.CIPH_SLOT_PARITY_ERRORS, 0)] ++ logObjs) ∧
      u = { s with now := max s.now t, ciph := u.ciph, dict := u.dict, log := u.log, island := u.island }) ∧
  (∀ (s : State) (t : Nat) (i : Fin 256), 224 ≤ i.val → s.ciph.slots[i].st = .valid →
    ∃ u, exec (.ciphSlotError t i) s = .next u ∧ u.ciph = { s.ciph with slots := s.ciph.slots.set i Slot.empty } ∧
      s.counted u Obj.CIPH_KEYS_ERASED 0 1 ∧ s.counted u Obj.CIPH_SLOT_PARITY_ERRORS 0 1 ∧
      s.objsBut u ([(Obj.CIPH_KEYS_ERASED, 0), (Obj.CIPH_SLOT_PARITY_ERRORS, 0)] ++ logObjs) ∧
      u = { s with now := max s.now t, ciph := u.ciph, dict := u.dict, log := u.log, island := u.island }) ∧
  (∀ (s : State) (t : Nat) (i : Fin 256), i.val < 224 → s.ciph.slots[i].st ≠ .valid →
    ∃ u, exec (.ciphSlotError t i) s = .next u ∧ s.counted u Obj.CIPH_SLOT_PARITY_ERRORS 0 1 ∧
      s.objsBut u ((Obj.CIPH_SLOT_PARITY_ERRORS, 0) :: logObjs) ∧
      u = { s with now := max s.now t, dict := u.dict, log := u.log, island := u.island }) ∧
  (∀ (s : State) (t : Nat) (d : Bytes), s.serverUp = true → d.length = 40 →
    exec (.ciphSecretBlob t d) s = .next { s with
      now := max s.now t, status := .ok, flash := { (s.qspi (qspiWrite (blobAddr 0) 40)).flash with blobs := s.flash.blobs.set 0 d }
      ciph := { s.ciph with blobRun := s.ciph.blobRun.set 0 (some (max s.now t)) } } ∧
    exec (.ciphArrayKeyBlob t d) s = .next { s with
      now := max s.now t, status := .ok, flash := { (s.qspi (qspiWrite (blobAddr 1) 40)).flash with blobs := s.flash.blobs.set 1 d }
      ciph := { s.ciph with blobRun := s.ciph.blobRun.set 1 (some (max s.now t)) } } ∧
    exec (.ciphCaptureBlob t d) s = .next { s with
      now := max s.now t, status := .ok, flash := { (s.qspi (qspiWrite (blobAddr 2) 40)).flash with blobs := s.flash.blobs.set 2 d }
      ciph := { s.ciph with blobRun := s.ciph.blobRun.set 2 (some (max s.now t)) } }) ∧
  (∀ (s : State) (t : Nat) (d : Bytes), s.serverUp = true → d.length ≠ 40 →
    exec (.ciphSecretBlob t d) s = .next { s with now := max s.now t, status := .typeMismatch } ∧
    exec (.ciphArrayKeyBlob t d) s = .next { s with now := max s.now t, status := .typeMismatch } ∧
    exec (.ciphCaptureBlob t d) s = .next { s with now := max s.now t, status := .typeMismatch }) ∧
  (∀ (s : State) (t x : Nat) (w : Fin 3), s.ciph.blobRun[w] = some x → max s.now t < x + 2 * tickUs →
    exec (.blobUnwrapComplete t w) s = .next (s.advance t)) ∧
  (∀ (s : State) (t x : Nat) (w : Fin 3), s.ciph.blobRun[w] = some x → x + 2 * tickUs ≤ max s.now t →
    beNat s.flash.blobs[w] = 0 → s.ciph.slots[blobSlot w].st = .free →
    exec (.blobUnwrapComplete t w) s = .next { s with
      now := max s.now t, ciph := { s.ciph with
        slots := s.ciph.slots.set (blobSlot w) Slot.empty, blobState := s.ciph.blobState.set w 0
        blobRun := s.ciph.blobRun.set w none }
      pwr := { s.pwr with idleSince := max s.now t } }) ∧
  (∀ (s : State) (t x : Nat) (w : Fin 3), s.ciph.blobRun[w] = some x → x + 2 * tickUs ≤ max s.now t →
    beNat s.flash.blobs[w] ≠ 0 → s.ciph.slots[blobSlot w].st = .valid →
    ∃ u, exec (.blobUnwrapComplete t w) s = .next u ∧
      u.ciph.slots[blobSlot w] = (match keyUnwrap deviceKey s.flash.blobs[w] with
        | some k => { Slot.empty with st := .valid, len256 := true, key := k }
        | none => Slot.empty) ∧
      u.ciph = { s.ciph with
        slots := s.ciph.slots.set (blobSlot w) u.ciph.slots[blobSlot w]
        blobState := s.ciph.blobState.set w (if (keyUnwrap deviceKey s.flash.blobs[w]).isSome then 1 else 2)
        blobRun := s.ciph.blobRun.set w none } ∧
      s.counted u Obj.CIPH_KEYS_ERASED 0 1 ∧
      s.objsBut u ([(Obj.CIPH_KEYS_ERASED, 0), (Obj.CIPH_BLOB_UNWRAP_FAILS, 0)] ++ logObjs) ∧
      u = { s with
        now := max s.now t, ciph := u.ciph, pwr := { s.pwr with idleSince := max s.now t }, dict := u.dict, log := u.log
        island := u.island }) ∧
  (∀ (s : State) (t : Nat) (d : Bytes), s.serverUp = true → d.length = 32 →
    (∀ c : Fin 4, s.flag Obj.ACT_ENABLE (sub c) = false) →
    exec (.ciphSecretSeal t d) s = .next { s with
      now := max s.now t, status := .ok, flash := { (s.qspi (qspiWrite (blobAddr 0) 40)).flash with blobs := s.flash.blobs.set 0 (keyWrap deviceKey d) }
      ciph := { s.ciph with blobRun := s.ciph.blobRun.set 0 (some (max s.now t)) } }) ∧
  (∀ (s : State) (t : Nat) (c : Fin 4) (d : Bytes), s.serverUp = true → d.length = 32 → s.flag Obj.ACT_ENABLE (sub c) = true →
    exec (.ciphSecretSeal t d) s = .next { s with now := max s.now t, status := .state }) ∧
  (∀ (s : State) (t v : Nat), s.serverUp = true → v < 0xFFFF →
    ∃ u, exec (.ciphUnlockFlow t v) s = .next u ∧
      (∀ i : Fin 256, u.ciph.slots[i] = if i.val < 224 ∧ s.ciph.slots[i].st = .locked ∧ s.ciph.slots[i].flow = v then Slot.empty else s.ciph.slots[i]) ∧
      u = { s with now := max s.now t, status := .ok, ciph := { s.ciph with slots := u.ciph.slots } }) ∧
  (∀ (s : State) (t v : Nat), s.serverUp = true → 0xFFFF ≤ v →
    exec (.ciphUnlockFlow t v) s = .next { s with now := max s.now t, status := .range })

/-- Jobs take a context, run in steps of 64 blocks and end with their result; contexts leave and return. A job that
names a slot of its kind that holds a key takes a context with all its blocks to process; a slot it may not name
ends it with an error, which is counted. A granted step, after 8 cycles and one for each block, has processed 64 blocks
of its job, or ends it: a pass is
decided by its tag, plaintext is given only after one, and the job is counted. An exported context leaves wrapped
under the context key and frees its place; a context that fails its integrity check on its return ends its job
with an error, and one that passes takes its place back. -/
def Obligations.CipherJobsRunToTheirResults : Prop :=
  (∀ (s : State) (t : Nat) (nc ad pt : Bytes), nc.length = 12 → s.ciph.slots[slotIdx 242].st = .valid → contextsUsed s < 64 →
    ∃ u, exec (.gcmSeal t 242 nc ad pt) s = .next u ∧
      u.ciph = { s.ciph with
        jobs := s.ciph.jobs ++ [{ id := s.ciph.nextJob, kind := .gcmSeal, slot := 242, iv := nc, aad := ad, data := pt, tag := [], blocksLeft := jobBlocks ad pt, exported := false }]
        nextJob := s.ciph.nextJob + 1 } ∧ s.objsBut u [(Obj.PWR_STATE_ENTRIES, 1)] ∧
      u = { s with now := max s.now t, ciph := u.ciph, dict := u.dict, pwr := (leaveIdle (s.advance t)).pwr }) ∧
  (∀ (s : State) (t : Nat) (nc ad pt mac : Bytes), nc.length = 12 → mac.length = 16 →
    (s.ciph.slots[slotIdx 244].st = .valid ∨ s.ciph.slots[slotIdx 244].st = .fixed) → contextsUsed s < 64 →
    ∃ u, exec (.gcmOpen t 244 nc ad pt mac) s = .next u ∧
      u.ciph = { s.ciph with
        jobs := s.ciph.jobs ++ [{ id := s.ciph.nextJob, kind := .gcmOpen, slot := 244, iv := nc, aad := ad, data := pt, tag := mac, blocksLeft := jobBlocks ad pt, exported := false }]
        nextJob := s.ciph.nextJob + 1 } ∧ s.objsBut u [(Obj.PWR_STATE_ENTRIES, 1)] ∧
      u = { s with now := max s.now t, ciph := u.ciph, dict := u.dict, pwr := (leaveIdle (s.advance t)).pwr }) ∧
  (∀ (s : State) (t : Nat) (i : Fin 256) (pt : Bytes),
    (i.val = 241 ∨ i.val = 255 ∨ (224 ≤ i.val ∧ i.val < 240 ∧ (i.val % 4 = 1 ∨ i.val % 4 = 3))) →
    s.ciph.slots[i].st = .valid → contextsUsed s < 64 →
    ∃ u, exec (.cmacGenerate t i pt) s = .next u ∧
      u.ciph = { s.ciph with
        jobs := s.ciph.jobs ++ [{ id := s.ciph.nextJob, kind := .cmacGenerate, slot := i.val, iv := [], aad := [], data := pt, tag := [], blocksLeft := jobBlocks [] pt, exported := false }]
        nextJob := s.ciph.nextJob + 1 } ∧ s.objsBut u [(Obj.PWR_STATE_ENTRIES, 1)] ∧
      u = { s with now := max s.now t, ciph := u.ciph, dict := u.dict, pwr := (leaveIdle (s.advance t)).pwr }) ∧
  (∀ (s : State) (t : Nat) (i : Fin 256) (pt mac : Bytes), (mac.length = 8 ∨ mac.length = 16) →
    (i.val = 241 ∨ i.val = 255 ∨ (224 ≤ i.val ∧ i.val < 240 ∧ (i.val % 4 = 1 ∨ i.val % 4 = 3))) →
    s.ciph.slots[i].st = .valid → contextsUsed s < 64 →
    ∃ u, exec (.cmacVerify t i pt mac) s = .next u ∧
      u.ciph = { s.ciph with
        jobs := s.ciph.jobs ++ [{ id := s.ciph.nextJob, kind := .cmacVerify, slot := i.val, iv := [], aad := [], data := pt, tag := mac, blocksLeft := jobBlocks [] pt, exported := false }]
        nextJob := s.ciph.nextJob + 1 } ∧ s.objsBut u [(Obj.PWR_STATE_ENTRIES, 1)] ∧
      u = { s with now := max s.now t, ciph := u.ciph, dict := u.dict, pwr := (leaveIdle (s.advance t)).pwr }) ∧
  (∀ (s : State) (t : Nat) (i : Fin 256) (nc ad pt : Bytes), nc.length = 12 → i.val ≠ 242 →
    ∃ u, exec (.gcmSeal t i nc ad pt) s = .next u ∧
      u.ciph = { s.ciph with
        results := s.ciph.results ++ [{ id := s.ciph.nextJob, pass := false, out := [], tag := [], error := true }]
        nextJob := s.ciph.nextJob + 1 } ∧
      s.counted u Obj.CIPH_JOB_ERRORS 0 1 ∧ s.objsBut u [(Obj.PWR_STATE_ENTRIES, 1), (Obj.CIPH_JOB_ERRORS, 0)] ∧
      u = { s with now := max s.now t, ciph := u.ciph, dict := u.dict, pwr := (leaveIdle (s.advance t)).pwr }) ∧
  (∀ (s : State) (t n : Nat) (j : Job), s.ciph.lane = some (j.id, n) →
    (s.ciph.jobs.find? fun x => x.id == j.id && !x.exported) = some j →
    max s.now t < n + (8 + min j.blocksLeft 64) * tickCore → exec (.jobStepComplete t) s = .next (s.advance t)) ∧
  (∀ (s : State) (t n : Nat) (j : Job), s.ciph.lane = some (j.id, n) →
    (s.ciph.jobs.find? fun x => x.id == j.id && !x.exported) = some j → 64 < j.blocksLeft → n + 72 * tickCore ≤ max s.now t →
    exec (.jobStepComplete t) s = .next { s with
      now := max s.now t, ciph := { s.ciph with
        lane := none
        jobs := s.ciph.jobs.map fun x => if x.id = j.id then { x with blocksLeft := x.blocksLeft - 64 } else x } }) ∧
  (∀ (s : State) (t n : Nat) (j : Job), s.ciph.lane = some (j.id, n) →
    (s.ciph.jobs.find? fun x => x.id == j.id && !x.exported) = some j → j.blocksLeft ≤ 64 →
    n + (8 + j.blocksLeft) * tickCore ≤ max s.now t →
    ∃ u, exec (.jobStepComplete t) s = .next u ∧
      u.ciph = { s.ciph with
        lane := none
        jobs := s.ciph.jobs.filter fun x => x.id ≠ j.id, results := s.ciph.results ++ [jobResult s j] } ∧
      (jobResult s j).id = j.id ∧ (j.kind = .gcmOpen ∧ (jobResult s j).pass = false → (jobResult s j).out = []) ∧
      s.counted u Obj.CIPH_JOBS 0 1 ∧ s.objsBut u [(Obj.CIPH_JOBS, 0)] ∧
      u = { s with now := max s.now t, ciph := u.ciph, dict := u.dict, pwr := { s.pwr with idleSince := max s.now t } }) ∧
  (∀ (s : State) (t n : Nat) (j : Job), (s.ciph.jobs.find? fun x => x.id == n && !x.exported) = some j →
    ∃ u, exec (.contextExport t n) s = .next u ∧ u.value = keyWrap (slotKey s (slotIdx 243)) (jobContext s j) ∧
      u.ciph = { s.ciph with jobs := s.ciph.jobs.map fun x => if x.id = n then { x with exported := true } else x } ∧
      u = { s with now := max s.now t, value := u.value, ciph := u.ciph }) ∧
  (∀ (s : State) (t : Nat) (d : Bytes), d.length = 104 → contextsUsed s < 64 →
    ∃ u, exec (.contextRestore t d) s = .next u ∧
      u.ciph = (match keyUnwrap (slotKey s (slotIdx 243)) d with
        | none => { s.ciph with
            results := s.ciph.results ++ [{ id := s.ciph.nextJob, pass := false, out := [], tag := [], error := true }]
            nextJob := s.ciph.nextJob + 1 }
        | some c => match s.ciph.jobs.find? fun j => j.exported && jobContext s j == c with
          | some j => { s.ciph with jobs := s.ciph.jobs.map fun x => if x.id = j.id then { x with exported := false } else x }
          | none => s.ciph) ∧
      s.objsBut u [(Obj.CIPH_JOB_ERRORS, 0)] ∧ u = { s with now := max s.now t, ciph := u.ciph, dict := u.dict })

/-- Each restart records its cause, asserts PTXDIS and leaves only what survives one. A bring-up of the inner link
that runs out of time, an init watchdog, a loader that times out and a ready signal missed in a start fail the
start with their reason and restart with cause 7. A root PLL unlock restarts with cause 5, a lost clock or supply
with 11, the run watchdog, once its time can be over, with 4, a restart request with 8 and a retry with 10 and no attempts counted. Every
restart leaves the always-on island's records, the boot flash, the straps, the sensors, the test port and the
guard latches, and everything else as at reset. Outside their phases these triggers change nothing; other values
of the two requests are RANGE. -/
def Obligations.RestartsKeepWhatTheSpecKeeps : Prop :=
  (∀ (s : State) (t : Nat), s.il.st = 1 → s.il.relAt + tickMs ≤ max s.now t →
    ∃ u, exec (.innerLinkBringupTimeout t) s = .next u ∧ u.now = max s.now t ∧ s.restarted u 7 ∧ s.failedWith u 3 ∧ u.pwr.phase = .boot 1) ∧
  (∀ (s : State) (t w : Nat), s.pwr.initWdAt = some w → booting s = true → w + 4 * tickS ≤ max s.now t →
    ∃ u, exec (.initWatchdog t) s = .next u ∧ u.now = max s.now t ∧ s.restarted u 7 ∧ s.failedWith u 4 ∧ u.pwr.phase = .boot 1) ∧
  (∀ (s : State) (t w : Nat), s.pwr.loaderAt = some w → w + 600 * tickS ≤ max s.now t →
    ∃ u, exec (.loaderTimeout t) s = .next u ∧ u.now = max s.now t ∧ s.restarted u 7 ∧ s.failedWith u 1 ∧ u.pwr.phase = .boot 1) ∧
  (∀ (s : State) (t n : Nat), s.pwr.phase = .exit n → s.pwr.state = .run → s.pwr.phaseAt + readyLimit .run n ≤ max s.now t →
    (s.island.pwrEn = Vector.replicate 4 true ∨ (ramping s).isSome = true) →
    ∃ u, exec (.readyTimeout t) s = .next u ∧ u.now = max s.now t ∧ s.restarted u 7 ∧ s.failedWith u 6 ∧
      u.pwr.phase = (if s.island.oscEn = true ∧ s.island.pwrEn = Vector.replicate 4 true then .boot 1 else .exit 1)) ∧
  (∀ (s : State) (t n : Nat), s.pwr.phase = .exit n → s.pwr.state ≠ .run →
    s.pwr.phaseAt + readyLimit s.pwr.state n ≤ max s.now t → (s.island.pwrEn = Vector.replicate 4 true ∨ (ramping s).isSome = true) →
    ∃ u, exec (.readyTimeout t) s = .next u ∧ u.now = max s.now t ∧ s.restarted u 11 ∧ s.sameStraps u ∧
      u.pwr.phase = (if s.island.oscEn = true ∧ s.island.pwrEn = Vector.replicate 4 true then .boot 1 else .exit 1) ∧
      u.island.attempts = s.island.attempts) ∧
  (∀ (s : State) (t : Nat) (die : Fin 2), inRun s = true →
    ∃ u, exec (.rootPllUnlock t die) s = .next u ∧ u.now = max s.now t ∧ s.restarted u 5 ∧ s.sameStraps u ∧
      u.pwr.phase = .boot 1 ∧ u.island.attempts = s.island.attempts) ∧
  (∀ (s : State) (t : Nat), inRun s = true →
    ∃ u, exec (.clockLost t) s = .next u ∧ u.now = max s.now t ∧ s.restarted u 11 ∧ s.sameStraps u ∧
      u.pwr.phase = .boot 1 ∧ u.island.attempts = s.island.attempts) ∧
  (∀ (s : State) (t : Nat) (g : Fin 4), (inRun s = true ∨ s.pwr.phase = .safeMode) → pwrEnPin (s.advance t) g = true →
    s.pwr.pwrGood[g] = true →
    ∃ u, exec (.pwrGoodLost t g) s = .next u ∧ u.now = max s.now t ∧ s.restarted u 11 ∧ s.sameStraps u ∧
      u.pwr.phase = .boot 1 ∧ u.island.attempts = s.island.attempts) ∧
  (∀ (s : State) (t : Nat) (g : Fin 4), booting s = true → s.island.pwrEn[g] = true → s.pwr.pwrGood[g] = true →
    ∃ u, exec (.pwrGoodLost t g) s = .next u ∧ u.now = max s.now t ∧ s.restarted u 7 ∧ s.failedWith u 6 ∧ u.pwr.phase = .boot 1) ∧
  (∀ (s : State) (t : Nat) (g : Fin 4), (pwrEnPin (s.advance t) g = false ∨ s.pwr.pwrGood[g] = false) →
    exec (.pwrGoodLost t g) s = .next (s.advance t)) ∧
  (∀ (s : State) (t : Nat), watchdogDue (s.advance t) = true →
    ∃ u, exec (.runWatchdog t) s = .next u ∧ u.now = max s.now t ∧ s.restarted u 4 ∧ s.sameStraps u ∧
      u.pwr.phase = .boot 1 ∧ u.island.attempts = s.island.attempts ∧ u.island.lastTime = (s.advance t).eventTime ∧
      ((s.advance t).eventTime = 0 → u.island.held = s.island.held)) ∧
  (∀ (s : State) (t : Nat), inRun s = false →
    exec (.runWatchdog t) s = .next (s.advance t) ∧ exec (.clockLost t) s = .next (s.advance t)) ∧
  (∀ (s : State) (t : Nat), s.serverUp = true →
    ∃ u, exec (.bootRestart t 1) s = .next u ∧ u.now = max s.now t ∧ s.restarted u 8 ∧ s.sameStraps u ∧
      u.pwr.phase = .boot 1 ∧ u.island.attempts = s.island.attempts) ∧
  (∀ (s : State) (t : Nat), s.serverUp = true →
    ∃ u, exec (.bootRetry t 1) s = .next u ∧ u.now = max s.now t ∧ s.restarted u 10 ∧ s.sameStraps u ∧
      u.pwr.phase = .boot 1 ∧ u.island.attempts = 0) ∧
  (∀ (s : State) (t v : Nat), s.serverUp = true → v ≠ 1 →
    exec (.bootRestart t v) s = .next { s with now := max s.now t, status := .range } ∧
    exec (.bootRetry t v) s = .next { s with now := max s.now t, status := .range }) ∧
  (∀ (s : State) (t : Nat), s.pwr.phase = .up → max s.now t < s.pwr.phaseAt + s.obj Obj.PWR_WDT_MS * tickMs →
    exec (.runWatchdog t) s = .next (s.advance t))

/-- Requests begin entries, entries and exits go through their steps. A request for Sleep, Deep sleep or Off while up
begins the entry; Idle and unknown codes are RANGE; in an entry a request waits. Step 1 lasts the announce time,
step 2 until no pass holds a context or the drain limit undoes what is open, step 5, once the enables it lowers are
low, ends in the target, which is counted, or in an exit if a wake was latched. Deep sleep drops two supply groups and the oscillator. The wake
order raises supplies and oscillator, boots a package that was Off, and returns a sleeping one to Run. The
stagger slot ends after its wait. A quiet package under an allowance asks to sleep, and one that is idle long
enough enters Idle. -/
def Obligations.PowerEntriesAndExits : Prop :=
  (∀ (s : State) (t : Nat) (x : PwrState), s.serverUp = true → s.pwr.phase = .up → s.pwr.state ≠ .idle → s.island.wakeBits = 0 →
    (x = .sleep ∨ x = .deepSleep ∨ x = .off) →
    exec (.pwrRequest t (pwrCode x)) s = .next { s with
      now := max s.now t, status := .ok, island := { s.island with wakeLatch := 0 }
      pwr := { s.pwr with
        idleSince := max s.now t, heSleep := none, heWait := none, watch := hostWatch s, target := x, cause := 1
        phaseAt := max s.now t, entryAt := max s.now t, phase := .entry (if x = .sleep then 2 else 1) } }) ∧
  (∀ (s : State) (t v : Nat), s.serverUp = true → (v = 1 ∨ 5 ≤ v) →
    exec (.pwrRequest t v) s = .next { s with now := max s.now t, status := .range }) ∧
  (∀ (s : State) (t n : Nat) (x : PwrState), s.serverUp = true → s.pwr.phase = .entry n → x ≠ .idle →
    exec (.pwrRequest t (pwrCode x)) s = .next { s with
      now := max s.now t, status := .ok, pwr := { s.pwr with pending := if x = s.pwr.target then none else some x } }) ∧
  (∀ (s : State) (t : Nat), s.pwr.phase = .entry 1 →
    exec (.entryStepComplete t) s = .next (if max s.now t < s.pwr.phaseAt + s.obj Obj.PWR_ANNOUNCE_MS * tickMs then s.advance t
      else { s with now := max s.now t, pwr := { s.pwr with phase := .entry 2, phaseAt := max s.now t } })) ∧
  (∀ (s : State) (t : Nat), s.pwr.phase = .entry 2 → (s.frames.any holdsCtx) = true →
    exec (.entryStepComplete t) s = .next (s.advance t)) ∧
  (∀ (s : State) (t : Nat), s.pwr.phase = .entry 2 → (s.frames.any holdsCtx) = false →
    ∃ u, exec (.entryStepComplete t) s = .next u ∧ u.pwr = { s.pwr with phase := .entry 3, phaseAt := max s.now t } ∧
      s.objsBut u [(Obj.FB_TX_DROPS, 0)] ∧ u = { s with now := max s.now t, pwr := u.pwr, bus := u.bus, dict := u.dict }) ∧
  (∀ (s : State) (t : Nat), s.pwr.phase = .entry 2 → max s.now t < s.pwr.phaseAt + 200 * tickUs →
    exec (.drainLimit t) s = .next (s.advance t)) ∧
  (∀ (s : State) (t : Nat), s.pwr.phase = .entry 2 → s.pwr.phaseAt + 200 * tickUs ≤ max s.now t →
    (s.frames.all fun f => !holdsCtx f) = true →
    ∃ u, exec (.drainLimit t) s = .next u ∧ u.pwr = { s.pwr with phase := .entry 3, phaseAt := max s.now t } ∧
      s.objsBut u [(Obj.FB_TX_DROPS, 0)] ∧ u = { s with now := max s.now t, pwr := u.pwr, bus := u.bus, dict := u.dict }) ∧
  (∀ (s : State) (t : Nat), s.pwr.phase = .entry 4 →
    exec (.entryStepComplete t) s = .next { s with
      now := max s.now t, pwr := { s.pwr with phase := .entry 5, phaseAt := max s.now t } }) ∧
  (∀ (s : State) (t : Nat), s.pwr.phase = .entry 5 → s.pwr.target = .sleep → s.island.wakeLatch = 0 → s.pwr.pending = none →
    ∃ u, exec (.entryStepComplete t) s = .next u ∧
      u.pwr = { s.pwr with state := .sleep, phase := .asleep, phaseAt := max s.now t } ∧ u.island.pwrEn = s.island.pwrEn ∧
      s.counted u Obj.PWR_STATE_ENTRIES 3 1 ∧ s.objsBut u ((Obj.PWR_STATE_ENTRIES, 3) :: logObjs) ∧
      u = { s with now := max s.now t, pwr := u.pwr, dict := u.dict, log := u.log, island := u.island }) ∧
  (∀ (s : State) (t : Nat), s.pwr.phase = .entry 5 → s.pwr.target = .deepSleep → max s.now t < s.pwr.phaseAt + 200 * tickUs →
    exec (.entryStepComplete t) s = .next (s.advance t)) ∧
  (∀ (s : State) (t : Nat), s.pwr.phase = .entry 5 → s.pwr.target = .deepSleep → s.island.wakeLatch = 0 → s.pwr.pending = none →
    s.pwr.phaseAt + 200 * tickUs ≤ max s.now t →
    ∃ u, exec (.entryStepComplete t) s = .next u ∧ u.pwr.state = .deepSleep ∧ u.pwr.phase = .asleep ∧
      u.island.pwrEn = #v[true, false, true, false] ∧ u.island.oscEn = false ∧ u.pwr.pwrGood[1] = false ∧
      u.pwr.pwrGood[3] = false ∧ s.counted u Obj.PWR_STATE_ENTRIES 4 1 ∧ s.objsBut u ((Obj.PWR_STATE_ENTRIES, 4) :: logObjs) ∧
      u = { s with now := max s.now t, pwr := u.pwr, dict := u.dict, log := u.log, island := u.island }) ∧
  (∀ (s : State) (t : Nat), s.pwr.phase = .entry 5 → s.pwr.target = .sleep → s.island.wakeLatch ≠ 0 →
    ∃ u, exec (.entryStepComplete t) s = .next u ∧ u.pwr.phase = .exit 2 ∧ u.pwr.target = .run ∧
      u.pwr.wakeCause = s.island.wakeLatch + 128 ∧ u.island.wakeLatch = 0 ∧ u.island.oscEn = true ∧
      s.counted u Obj.PWR_WAKES_DURING_ENTRY 0 1 ∧
      s.objsBut u ([(Obj.PWR_STATE_ENTRIES, 3), (Obj.PWR_WAKES_DURING_ENTRY, 0)] ++ logObjs) ∧
      u = { s with now := max s.now t, pwr := u.pwr, dict := u.dict, log := u.log, island := u.island }) ∧
  (∀ (s : State) (t : Nat) (g : Fin 4), s.pwr.phase = .exit 1 → s.pwr.phaseAt ≤ max s.now t → ramping s = some g → s.island.pwrEn = Vector.replicate 4 true →
    exec (.wakeOrderReady t) s = .next { s with
      now := max s.now t, island := { s.island with oscEn := true }
      pwr := { s.pwr with phase := .exit 2, phaseAt := max s.now t + 100 * tickUs, pwrGood := s.pwr.pwrGood.set g true } }) ∧
  (∀ (s : State) (t : Nat) (g h : Fin 4), s.pwr.phase = .exit 1 → s.pwr.phaseAt ≤ max s.now t → h.val = g.val + 1 →
    (∀ k : Fin 4, s.island.pwrEn[k] = decide (k.val < h.val)) → (∀ k : Fin 4, s.pwr.pwrGood[k] = decide (k.val < g.val)) →
    exec (.wakeOrderReady t) s = .next { s with
      now := max s.now t, island := { s.island with pwrEn := s.island.pwrEn.set h true }
      pwr := { s.pwr with phaseAt := max s.now t + 100 * tickUs, pwrGood := s.pwr.pwrGood.set g true } }) ∧
  (∀ (s : State) (t : Nat), s.pwr.phase = .exit 2 → s.pwr.phaseAt ≤ max s.now t → (s.pwr.state = .sleep ∨ s.pwr.state = .deepSleep) →
    exec (.wakeOrderReady t) s = .next { s with
      now := max s.now t, pwr := { s.pwr with phase := .exit 3, phaseAt := max s.now t } }) ∧
  (∀ (s : State) (t : Nat), s.pwr.phase = .exit 2 → s.pwr.phaseAt ≤ max s.now t → s.pwr.state = .off →
    ∃ u, exec (.wakeOrderReady t) s = .next u ∧ u.now = max s.now t ∧ s.restarted u (if s.pwr.thermal then 9 else 3) ∧
      s.sameStraps u ∧ u.pwr.phase = .boot 1 ∧ u.pwr.state = .off ∧ u.pwr.exitAt = s.pwr.exitAt ∧ u.pwr.pending = s.pwr.pending) ∧
  (∀ (s : State) (t : Nat), s.pwr.phase = .exit 3 → s.pwr.phaseAt ≤ max s.now t → s.pwr.state = .sleep →
    exec (.wakeOrderReady t) s = .next { s with
      now := max s.now t, pwr := { s.pwr with phase := .exit 4, phaseAt := max s.now t } }) ∧
  (∀ (s : State) (t : Nat), s.pwr.phase = .exit 4 → s.pwr.phaseAt ≤ max s.now t → s.pwr.state = .sleep → s.pwr.pending = none →
    ∃ u, exec (.wakeOrderReady t) s = .next u ∧ u.now = max s.now t ∧ u.pwr.phase = .up ∧ u.pwr.state = .run ∧ u.pwr.target = .run ∧
      u.pwr.lastExitUs = (max s.now t - s.pwr.exitAt) / tickUs ∧ u.pwr.heSleep = none ∧ u.island.held = [] ∧
      u.status = s.status ∧ u.value = s.value ∧ u.il = s.il ∧ u.jtag = s.jtag ∧ u.flash = s.flash ∧ u.rules = s.rules ∧ u.arb = s.arb) ∧
  (∀ (s : State) (t : Nat), s.pwr.phase = .exit 4 → s.pwr.state = .deepSleep → s.il.st < 2 →
    exec (.wakeOrderReady t) s = .next (s.advance t)) ∧
  (∀ (s : State) (t : Nat), s.pwr.phase = .stagger →
    exec (.staggerSlot t) s = .next (
      if islandMs (s.advance t) s.pwr.phaseAt (staggerSlot s.bus.addr s.island.lastManager * s.island.staggerMs) = false then s.advance t
      else { s with
        now := max s.now t, island := { s.island with pwrEn := nextEnable s }
        pwr := { s.pwr with phase := .exit 1, phaseAt := max s.now t, exitAt := max s.now t } })) ∧
  (∀ (s : State) (t : Nat) (ch : Fin 4), (fins 4).find? (fun c => s.pwr.allow[c].isSome && s.act[c].st == .operating) = some ch →
    s.pwr.quietSince + s.obj Obj.PWR_HE_QUIET_MS * tickMs ≤ max s.now t → quietNow s = true → s.pwr.heWait = none →
    (s.frames.any ctxWaits) = false → s.act[ch].upq = [] →
    exec (.heQuiet t) s = .next { s with
      now := max s.now t, pwr := { s.pwr with heWait := some ch }
      act := s.act.set ch { s.act[ch] with
        upSeq := (s.act[ch].upSeq + 1) % 256
        upq := [{ type := 0x84, seq := s.act[ch].upSeq, content := 2 ^ 284, sends := 0, sentAt := 0 }] } }) ∧
  (∀ (s : State) (t : Nat), s.pwr.state = .run → quietNow s = true →
    s.pwr.idleSince + s.obj Obj.PWR_IDLE_ENTRY_US * tickUs ≤ max s.now t →
    (s.frames.any fun f => holdsCtx f || ctxWaits f) = false → s.ciph.jobs = [] → jobLaneIdle (s.advance t) = true →
    ∃ u, exec (.pwrIdleEntry t) s = .next u ∧ u.pwr = { s.pwr with state := .idle, target := .idle } ∧
      s.counted u Obj.PWR_STATE_ENTRIES 2 1 ∧ s.objsBut u [(Obj.PWR_STATE_ENTRIES, 2)] ∧
      u = { s with now := max s.now t, pwr := u.pwr, dict := u.dict })

/-- A wake source that acts in the state begins the exit, or is latched in an entry. WAKE_N wakes every sleeping
state; in an entry it is latched; awake it does nothing. The field-bus carrier wakes Sleep and Deep sleep if
enabled and not Off. The wake timer acts when its time has passed on the island's oscillator, which may have drifted
1 % from its calibration, and never when it is 0. The first signal on a masked lane wakes Sleep; it is recorded with or without the mask. A
worker leaving Deep sleep or Off waits for its slot first. -/
def Obligations.WakeSourcesActInTheirStates : Prop :=
  (∀ (s : State) (t : Nat), s.pwr.phase = .asleep → s.pwr.state = .sleep →
    exec (.wakeN t) s = .next { s with
      now := max s.now t, island := { s.island with wakeLatch := 0, oscEn := true }
      pwr := { s.pwr with exitAt := max s.now t, target := .run, wakeCause := 1, cause := 3, phase := .exit 2, phaseAt := max s.now t } }) ∧
  (∀ (s : State) (t : Nat), s.pwr.phase = .asleep → (s.pwr.state = .deepSleep ∨ s.pwr.state = .off) → s.island.wasManager = true →
    exec (.wakeN t) s = .next { s with
      now := max s.now t, island := { s.island with wakeLatch := 0, pwrEn := nextEnable s }
      pwr := { s.pwr with exitAt := max s.now t, target := .run, wakeCause := 1, cause := 3, phase := .exit 1, phaseAt := max s.now t } }) ∧
  (∀ (s : State) (t : Nat), s.pwr.phase = .asleep → (s.pwr.state = .deepSleep ∨ s.pwr.state = .off) → s.island.wasManager = false →
    exec (.wakeN t) s = .next { s with
      now := max s.now t, island := { s.island with wakeLatch := 0 }
      pwr := { s.pwr with exitAt := max s.now t, target := .run, wakeCause := 1, cause := 3, phase := .stagger, phaseAt := max s.now t } }) ∧
  (∀ (s : State) (t n : Nat), s.pwr.phase = .entry n → (s.pwr.target = .sleep ∨ s.pwr.target = .deepSleep ∨ s.pwr.target = .off) →
    exec (.wakeN t) s = .next { s with
      now := max s.now t, island := { s.island with wakeLatch := setBit s.island.wakeLatch 0 true } }) ∧
  (∀ (s : State) (t : Nat), s.pwr.phase = .up →
    exec (.wakeN t) s = .next { s with
      now := max s.now t, island := { s.island with
        wakeAt := max s.now t
        wakeBits := setBit (if tickOf s.island.wakeAt = tickOf (max s.now t) then s.island.wakeBits else 0) 0 true } } ∧
    exec (.fieldBusCarrier t) s = .next (s.advance t) ∧
    exec (.alwaysOnTimer t) s = .next (s.advance t) ∧ (∀ k : Fin 8, exec (.hostLaneSignalDetect t k) s = .next (s.advance t))) ∧
  (∀ (s : State) (t : Nat), s.pwr.phase = .asleep → s.pwr.state = .sleep → bitAt (s.obj Obj.PWR_WAKE_ENABLE) 1 = true →
    exec (.fieldBusCarrier t) s = .next { s with
      now := max s.now t, island := { s.island with wakeLatch := 0, oscEn := true }
      pwr := { s.pwr with exitAt := max s.now t, target := .run, wakeCause := 2, cause := 3, phase := .exit 2, phaseAt := max s.now t } }) ∧
  (∀ (s : State) (t : Nat), s.pwr.phase = .asleep → (s.pwr.state = .off ∨ bitAt (s.obj Obj.PWR_WAKE_ENABLE) 1 = false) →
    exec (.fieldBusCarrier t) s = .next (s.advance t)) ∧
  (∀ (s : State) (t : Nat), s.pwr.phase = .asleep → s.pwr.state = .sleep → s.pwr.heSleep = none →
    s.obj Obj.PWR_WAKE_TIMER_MS ≠ 0 → bitAt (s.obj Obj.PWR_WAKE_ENABLE) 2 = true →
    islandMs (s.advance t) s.pwr.entryAt (s.obj Obj.PWR_WAKE_TIMER_MS) = true →
    exec (.alwaysOnTimer t) s = .next { s with
      now := max s.now t, island := { s.island with wakeLatch := 0, oscEn := true }
      pwr := { s.pwr with exitAt := max s.now t, target := .run, wakeCause := 4, cause := 3, phase := .exit 2, phaseAt := max s.now t } }) ∧
  (∀ (s : State) (t : Nat), s.pwr.heSleep = none →
    (s.obj Obj.PWR_WAKE_TIMER_MS = 0 ∨ islandMs (s.advance t) s.pwr.entryAt (s.obj Obj.PWR_WAKE_TIMER_MS) = false) →
    exec (.alwaysOnTimer t) s = .next (s.advance t)) ∧
  (∀ (s : State) (t : Nat) (k : Fin 8), s.pwr.phase = .asleep → s.pwr.state = .sleep → s.lanes[k].signal = false →
    bitAt (s.obj Obj.PWR_LANE_WAKE_MASK) k.val = true → bitAt (s.obj Obj.PWR_WAKE_ENABLE) 3 = true →
    exec (.hostLaneSignalDetect t k) s = .next { s with
      now := max s.now t, lanes := s.lanes.set k { s.lanes[k] with signal := true, signalAt := max s.now t }
      island := { s.island with wakeLatch := 0, oscEn := true }
      pwr := { s.pwr with exitAt := max s.now t, target := .run, wakeCause := 8, cause := 3, phase := .exit 2, phaseAt := max s.now t } }) ∧
  (∀ (s : State) (t : Nat) (k : Fin 8), s.pwr.phase = .asleep → s.pwr.state = .sleep → s.lanes[k].signal = false →
    bitAt (s.obj Obj.PWR_LANE_WAKE_MASK) k.val = false →
    exec (.hostLaneSignalDetect t k) s = .next { s with
      now := max s.now t, lanes := s.lanes.set k { s.lanes[k] with signal := true, signalAt := max s.now t } })

/-- Load ungates and gates clusters within the bounds; flow groups move once a millisecond. The governor acts after
the first second. A window in which a region is loaded above GOV_UP_PCT starts its lowest gated cluster while it
is below MAX, and marks it limited at MAX; the tenth lightly loaded window in a row stops its highest active
cluster while it is above MIN, or gates it at once if it still reloads. A reloaded cluster is active; a stopping one whose contexts are free is gated and
counted. A bound out of range is RANGE; an accepted one that the region already meets only stores, once the governor acts or with the region at its MAX. A millisecond
without a limited region moves nothing and starts the next. -/
def Obligations.GovernorKeepsItsBounds : Prop :=
  (∀ (s : State) (t : Nat), s.running = true → s.pwr.freshAt + tickS ≤ max s.now t →
    exec (.governorHoldEnd t) s = .next { s with now := max s.now t, pwr := { s.pwr with govActing := true } }) ∧
  (∀ (s : State) (t : Nat), max s.now t < s.pwr.freshAt + tickS → exec (.governorHoldEnd t) s = .next (s.advance t)) ∧
  (∀ (s : State) (t : Nat) (l : List Nat), l.length = 8 → (l.all fun b => decide (b ≤ 7680000)) = true →
    s.pwr.govActing = false → exec (.governorWindow t l) s = .next (s.advance t)) ∧
  (∀ (s : State) (t n : Nat) (g : Fin 8) (c : Fin 64) (l : List Nat) (rest : List (Fin 64)), l.length = 8 → (l.all fun b => decide (b ≤ 7680000)) = true →
    s.running = true → s.pwr.govActing = true → s.frames = [] → l.getD g.val 0 = n → clustersIn s g .gated = c :: rest →
    busyOver n (clustersIn s g .active).length (s.obj Obj.GOV_UP_PCT) = true → activeCount s g < govMaxOf s g →
    govMinOf s g ≠ govMaxOf s g →
    (∀ h : Fin 8, h ≠ g → govMinOf s h = govMaxOf s h ∧ activeCount s h = govMaxOf s h ∧ l.getD h.val 0 = 0 ∧ s.pwr.regions[h].limited = false) →
    ∃ u, exec (.governorWindow t l) s = .next u ∧ u.pwr.clusters = s.pwr.clusters.set c .loading ∧
      u.pwr.regions[g].lowRun = 0 ∧ u.pwr.regions[g].busy = n ∧ u.pwr.regions[g].limited = s.pwr.regions[g].limited ∧
      u = { s with now := max s.now t, pwr := { s.pwr with clusters := u.pwr.clusters, regions := u.pwr.regions } }) ∧
  (∀ (s : State) (t n : Nat) (g : Fin 8) (l : List Nat), l.length = 8 → (l.all fun b => decide (b ≤ 7680000)) = true →
    s.running = true → s.pwr.govActing = true → s.frames = [] → l.getD g.val 0 = n →
    busyOver n (clustersIn s g .active).length (s.obj Obj.GOV_UP_PCT) = true → activeCount s g = govMaxOf s g →
    govMinOf s g ≠ govMaxOf s g → s.pwr.regions[g].limited = false →
    (∀ h : Fin 8, h ≠ g → govMinOf s h = govMaxOf s h ∧ activeCount s h = govMaxOf s h ∧ l.getD h.val 0 = 0 ∧ s.pwr.regions[h].limited = false) →
    ∃ u, exec (.governorWindow t l) s = .next u ∧ u.pwr.clusters = s.pwr.clusters ∧
      u.pwr.regions[g].limited = true ∧ u.pwr.regions[g].limitedSince = max s.now t ∧ s.objsBut u logObjs ∧
      u = { s with
        now := max s.now t, pwr := { s.pwr with regions := u.pwr.regions }, dict := u.dict, log := u.log, island := u.island }) ∧
  (∀ (s : State) (t : Nat) (g : Fin 8) (l : List Nat), l.length = 8 → (l.all fun b => b == 0) = true →
    s.running = true → s.pwr.govActing = true → s.frames = [] → govMinOf s g < activeCount s g → govMinOf s g < govMaxOf s g →
    2 ≤ activeCount s g → clustersIn s g .active ≠ [] → 0 < s.obj Obj.GOV_DOWN_PCT → s.pwr.regions[g].lowRun = 9 →
    s.pwr.regions[g].limited = false →
    (∀ h : Fin 8, h ≠ g → govMinOf s h = govMaxOf s h ∧ activeCount s h = govMaxOf s h ∧ s.pwr.regions[h].limited = false) →
    ∃ u, exec (.governorWindow t l) s = .next u ∧ u.pwr.regions[g].lowRun = 0 ∧
      (∃ c : Fin 64, ((regionClusters g).filter fun k => s.pwr.clusters[k] == .active || s.pwr.clusters[k] == .loading).getLast? = some c ∧
        (s.pwr.clusters[c] = .active → u.pwr.clusters = s.pwr.clusters.set c .stopping ∧
          s.objsBut u ((Obj.CTX_QUOTA_SHORT_CYCLES, 0) :: logObjs)) ∧
        (s.pwr.clusters[c] = .loading → u.pwr.clusters = s.pwr.clusters.set c .gated ∧ s.counted u Obj.GOV_GATES (c.val / 8 + 1) 1 ∧
          s.objsBut u [(Obj.GOV_GATES, c.val / 8 + 1)])) ∧
      u = { s with
        now := max s.now t, pwr := { s.pwr with clusters := u.pwr.clusters, regions := u.pwr.regions }, dict := u.dict
        log := u.log, island := u.island, quotaShort := u.quotaShort, quotaShortAt := u.quotaShortAt }) ∧
  (∀ (s : State) (t : Nat) (c : Fin 64), s.pwr.clusters[c] = .loading →
    ∃ u, exec (.clusterReady t c) s = .next u ∧ u.pwr = { s.pwr with clusters := s.pwr.clusters.set c .active } ∧
      s.objsBut u ((Obj.CTX_QUOTA_SHORT_CYCLES, 0) :: logObjs) ∧
      u = { s with
        now := max s.now t, pwr := u.pwr, dict := u.dict, log := u.log, island := u.island, quotaShort := u.quotaShort
        quotaShortAt := max s.now t }) ∧
  (∀ (s : State) (t : Nat) (c : Fin 64), s.pwr.clusters[c] = .stopping → clusterUse s c.val = 0 →
    ∃ u, exec (.clusterGated t c) s = .next u ∧ u.pwr = { s.pwr with clusters := s.pwr.clusters.set c .gated } ∧
      s.counted u Obj.GOV_GATES (c.val / 8 + 1) 1 ∧
      s.objsBut u ([(Obj.GOV_GATES, c.val / 8 + 1), (Obj.CTX_QUOTA_SHORT_CYCLES, 0)] ++ logObjs) ∧
      u = { s with
        now := max s.now t, pwr := u.pwr, dict := u.dict, log := u.log, island := u.island, quotaShort := u.quotaShort
        quotaShortAt := max s.now t }) ∧
  (∀ (s : State) (t : Nat) (c : Fin 64), (s.pwr.clusters[c] ≠ .stopping ∨ clusterUse s c.val ≠ 0) →
    exec (.clusterGated t c) s = .next (s.advance t)) ∧
  (∀ (s : State) (t : Nat), s.pwr.govActing = true → s.running = true → s.pwr.msAt + tickMs ≤ max s.now t →
    (∀ g : Fin 8, s.pwr.regions[g].limited = false) →
    exec (.govMoved t) s = .next { s with
      now := max s.now t, pwr := { s.pwr with
        msAt := max s.now t, groupFrames := []
        regions := s.pwr.regions.map fun r => { r with msLow := true, msLimited := false, msBusy := 0, msWindows := 0 } } }) ∧
  (∀ (s : State) (t n : Nat) (g h : Fin 8), s.pwr.govActing = true → s.running = true → s.pwr.msAt + tickMs ≤ max s.now t →
    moveSource s = some g → moveTarget s g = some h → busiestGroup s g = some n →
    ∃ u, exec (.govMoved t) s = .next u ∧ u.row Obj.GOV_PLACEMENT n = h.val ∧ s.rowsBut u [(Obj.GOV_PLACEMENT, n)] ∧
      s.counted u Obj.GOV_MOVES 0 1 ∧ u.pwr.msAt = max s.now t ∧ u.pwr.groupFrames = [] ∧
      s.objsBut u ((Obj.GOV_MOVES, 0) :: logObjs) ∧
      u = { s with
        now := max s.now t, tab := u.tab, dict := u.dict, log := u.log, island := u.island
        pwr := { s.pwr with msAt := u.pwr.msAt, groupFrames := [], regions := u.pwr.regions } }) ∧
  (∀ (s : State) (t v : Nat) (g : Fin 8), s.serverUp = true → (v = 0 ∨ govMaxOf s g < v) →
    exec (.govMin t g v) s = .next { s with now := max s.now t, status := .range }) ∧
  (∀ (s : State) (t v : Nat) (g : Fin 8), s.serverUp = true → (8 < v ∨ v < govMinOf s g) →
    exec (.govMax t g v) s = .next { s with now := max s.now t, status := .range }) ∧
  (∀ (s : State) (t v : Nat) (g : Fin 8), s.serverUp = true → 1 ≤ v → v ≤ activeCount s g → activeCount s g ≤ govMaxOf s g →
    (s.pwr.govActing = true ∨ activeCount s g = govMaxOf s g) →
    ∃ u, exec (.govMin t g v) s = .next u ∧ govMinOf u g = v ∧ s.objsBut u [(Obj.GOV_MIN, sub g)] ∧
      u = { s with now := max s.now t, status := .ok, dict := u.dict }) ∧
  (∀ (s : State) (t v : Nat) (g : Fin 8), s.serverUp = true → v ≤ 8 → govMinOf s g ≤ activeCount s g → activeCount s g ≤ v →
    (s.pwr.govActing = true ∨ activeCount s g = v) →
    ∃ u, exec (.govMax t g v) s = .next u ∧ govMaxOf u g = v ∧ s.objsBut u [(Obj.GOV_MAX, sub g)] ∧
      u = { s with now := max s.now t, status := .ok, dict := u.dict })

/-- VAON, RESET_N and the steps of the cold boot take the package from nothing to Run. The loss of VAON leaves only
the boot flash and releases nothing else; its rise counts, takes the straps and begins the supplies, a worker
after its slot. RESET_N, low for the filter's time, restarts with cause 2 and the straps it samples. Each boot step ends with an outcome it
can have: step 1 counts the start, step 2 refuses a hot package and takes strap 3 to safe mode, step 3 waits for
the inner link, step 4 takes the sequence numbers that the headers in the flash hold, step 5 the first image tried
that is valid, and shows one tried before it as invalid, step 6 trains the DRAM, step 7 takes the stored
dictionary with a new epoch, and a failure restarts with its reason. Completion clears the attempts and the init
watchdog and reaches Run. -/
def Obligations.StartsFromPowerToRun : Prop :=
  (∀ (s : State) (t : Nat),
    ∃ u, exec (.vaonLoss t) s = .next u ∧
      ((∀ ch : Fin 4, s.island.silence[ch] = false) →
        u.dict = State.reset.dict ∧ u.island.heldLost = State.reset.island.heldLost ∧ u.island.lastTime = State.reset.island.lastTime ∧
        u.island.alertCause = State.reset.island.alertCause ∧ u.island.held = (if s.pwr.phase = .vaonWait then s.island.held else [])) ∧
      State.reset.objsBut u [(Obj.EVT_MASKED, 0)] ∧
      u = { State.reset with
      pending := s.pending, now := max s.now t, draws := s.draws, nextFid := s.nextFid, flash := { s.flash with writing := none }
      dict := u.dict
      island := { State.reset.island with
        resetCause := 1, pwrEn := Vector.replicate 4 false, oscEn := false, held := u.island.held, heldLost := u.island.heldLost
        lastTime := u.island.lastTime, alertCause := u.island.alertCause }
      time := { TimeSt.init with doms := TimeSt.init.doms.map fun d => { d with clk := { at0 := max s.now t, val := 0, rate := 0 } } }
      pwr := { Pwr.init with phase := .vaonWait, phaseAt := max s.now t, initWdAt := none, pwrGood := Vector.replicate 4 false } }) ∧
  (∀ (s : State) (t : Nat) (a : Fin 64) (worker : Bool) (sel : Fin 4),
    ∃ u, exec (.vaonRise t a worker sel) s = .next u ∧ u.pwr.phase = (if worker then .stagger else .exit 1) ∧
      u.island.resetCause = 1 ∧ u.island.pwrEn = (if worker then Vector.replicate 4 false else #v[true, false, false, false]) ∧ u.island.oscEn = false ∧
      u.flash = { s.flash with
        writing := none, vaonRises := s.flash.vaonRises + 1, recSeq := s.flash.recSeq + 1, qspi := u.flash.qspi } ∧
      (∃ l, u.flash.qspi = l ++ qspiWrite (recordAddr (s.flash.recSeq + 1)) 4096) ∧ State.reset.objsBut u [(Obj.EVT_MASKED, 0)] ∧
      u.bus = { Bus.init with addr := a.val, mgrCapable := !worker, bootSel := sel.val } ∧ u.jtag = State.reset.jtag ∧
      u = { State.reset with
        pending := s.pending, now := max s.now t, draws := s.draws, nextFid := s.nextFid, flash := u.flash, island := u.island
        time := u.time, pwr := u.pwr, bus := u.bus, dict := u.dict }) ∧
  (∀ (s : State) (t low : Nat) (a : Fin 64) (worker : Bool) (sel : Fin 4), (s.pwr.phase = .vaonWait ∨ low < resetFilterNs) →
    exec (.resetN t low a worker sel) s = .next (s.advance t)) ∧
  (∀ (s : State) (t low : Nat) (a : Fin 64) (worker : Bool) (sel : Fin 4), resetFilterNs ≤ low → s.pwr.phase ≠ .vaonWait → s.island.oscEn = true →
    s.island.pwrEn = Vector.replicate 4 true →
    ∃ u, exec (.resetN t low a worker sel) s = .next u ∧ u.now = max s.now t ∧ s.restarted u 2 ∧ u.pwr.phase = .boot 1 ∧
      u.bus.addr = a.val ∧ u.bus.mgrCapable = !worker ∧ u.bus.bootSel = sel.val ∧ u.island.attempts = s.island.attempts) ∧
  (∀ (s : State) (t : Nat), s.pwr.phase = .boot 1 → s.island.attempts < 3 → s.island.failedStart = none →
    exec (.bootStepComplete t .ok) s = .next { s with
      now := max s.now t, island := { s.island with attempts := s.island.attempts + 1, servedSafe := false }
      pwr := { s.pwr with phase := .boot 2, phaseAt := max s.now t } }) ∧
  (∀ (s : State) (t : Nat), s.pwr.phase = .boot 1 → 3 ≤ s.island.attempts → s.island.servedSafe = false →
    s.island.failedStart = none →
    ∃ u, exec (.bootStepComplete t .ok) s = .next u ∧ u.pwr.phase = .safeMode ∧ u.pwr.image = 3 ∧ u.pwr.initWdAt = none ∧
      u.island.servedSafe = true ∧ (∀ ch : Fin 4, u.us[ch] = { s.us[ch] with failSafe := true }) ∧
      s.objsBut u ((Obj.EVT_RETAINED_LOST, 0) :: logObjs) ∧
      u = { s with
        now := max s.now t, pwr := u.pwr, us := u.us, dict := u.dict, log := u.log, island := u.island }) ∧
  (∀ (s : State) (t : Nat), s.pwr.phase = .boot 2 → s.bus.bootSel ≠ 3 → junction s ≤ (8 * s.obj Obj.MON_TEMP_ALARM_C : Nat) →
    exec (.bootStepComplete t .ok) s = .next { s with
      now := max s.now t, pwr := { s.pwr with phase := .boot 3, phaseAt := max s.now t } }) ∧
  (∀ (s : State) (t : Nat), s.pwr.phase = .boot 2 → s.bus.bootSel ≠ 3 → junction s > (8 * s.obj Obj.MON_TEMP_ALARM_C : Nat) →
    ∃ u, exec (.bootStepComplete t .ok) s = .next u ∧ u.now = max s.now t ∧ s.restarted u 7 ∧ s.failedWith u 5 ∧ u.pwr.phase = .boot 1) ∧
  (∀ (s : State) (t : Nat), s.pwr.phase = .boot 3 → s.il.st < 2 → exec (.bootStepComplete t .ok) s = .next (s.advance t)) ∧
  (∀ (s : State) (t : Nat), s.pwr.phase = .boot 3 →
    ∃ u, exec (.bootStepComplete t .failed) s = .next u ∧ u.now = max s.now t ∧ s.restarted u 7 ∧ s.failedWith u 3 ∧ u.pwr.phase = .boot 1) ∧
  (∀ (s : State) (t x y : Nat), s.pwr.phase = .boot 4 → s.bus.bootSel ≠ 2 → x < 2 ^ 32 → y < 2 ^ 32 →
    x = headerSeq (imageBytes s 0) → y = headerSeq (imageBytes s 1) →
    exec (.bootStepComplete t (.headers x y)) s = .next { s with
      now := max s.now t, flash := (s.qspi [qspiRead (imageAddr 0) 512, qspiRead (imageAddr 1) 512]).flash, pwr := { s.pwr with imageSeqs := (x, y), phase := .boot 5, phaseAt := max s.now t } }) ∧
  (∀ (s : State) (t im n ver lay : Nat) (cust : Bool), s.pwr.phase = .boot 5 → im ≤ 2 → n < 2 ^ 32 → ver < 2 ^ 32 → lay < 2 ^ 16 →
    ∃ u, exec (.bootStepComplete t (.image im n ver lay cust)) s = .next u ∧
      (imageFits s im n cust = false → u = s.advance t) ∧
      (imageFits s im n cust = true → u.pwr = { s.pwr with
        image := im, imageSeqRun := n, imageVersion := ver, dictLayout := lay, phase := .boot 6, phaseAt := max s.now t
        imageSeqs := seqsAfter s im }) ∧
      (∀ i : Fin 2, imageFits s im n cust = true → i.val = im → u.flash = (s.qspi [qspiRead (imageAddr i) s.flash.images[i].length]).flash) ∧
      (im = 2 → u.flash = s.flash) ∧ s.objsBut u logObjs ∧
      u = { s with now := max s.now t, pwr := u.pwr, flash := u.flash, dict := u.dict, log := u.log, island := u.island }) ∧
  (∀ (s : State) (t : Nat), s.pwr.phase = .boot 5 →
    ∃ u, exec (.bootStepComplete t .noImage) s = .next u ∧ u.now = max s.now t ∧
      ((imageChosen s).isSome = true → u = s.advance t) ∧
      (imageChosen s = none → s.restarted u 7 ∧ s.failedWith u 1 ∧ u.pwr.phase = .boot 1)) ∧
  (∀ (s : State) (t : Nat), s.pwr.phase = .boot 6 →
    exec (.bootStepComplete t .ok) s = .next { s with
      now := max s.now t, pwr := { s.pwr with phase := .boot 7, phaseAt := max s.now t } }) ∧
  (∀ (s : State) (t : Nat), s.pwr.phase = .boot 6 →
    ∃ u, exec (.bootStepComplete t .failed) s = .next u ∧ u.now = max s.now t ∧ s.restarted u 7 ∧ s.failedWith u 2 ∧ u.pwr.phase = .boot 1) ∧
  (∀ (s : State) (t : Nat), s.pwr.phase = .boot 7 → s.island.defaultsOnce = true →
    ∃ u, exec (.bootStepComplete t .ok) s = .next u ∧ u.pwr = { s.pwr with phase := .boot 8, phaseAt := max s.now t, idleSince := u.pwr.idleSince } ∧
      u.island.defaultsOnce = false ∧
      u.flash = { s.flash with epoch := s.flash.epoch + 1, recSeq := s.flash.recSeq + 1, qspi := u.flash.qspi } ∧
      (∃ l, u.flash.qspi = l ++ qspiWrite (recordAddr (s.flash.recSeq + 1)) 4096) ∧
      u.bus = { s.bus with txLow := 0 } ∧ u.hop.state = [] ∧ u.draws = s.draws + 1 ∧ s.tabsBut u [Obj.HOP_OWNER_TABLE] ∧
      u = { s with
        now := max s.now t, pwr := u.pwr, flash := u.flash, bus := u.bus, ciph := u.ciph, draws := u.draws, hop := u.hop
        tab := u.tab, dict := u.dict, log := u.log, island := u.island }) ∧
  (∀ (s : State) (t : Nat), s.pwr.phase = .boot 8 → s.pwr.state = .run →
    ∃ u, exec (.startComplete t) s = .next u ∧ u.now = max s.now t ∧ u.pwr.phase = .up ∧ u.pwr.state = .run ∧
      u.pwr.initWdAt = none ∧ u.pwr.thermal = false ∧ u.pwr.govActing = false ∧ u.island.attempts = 0 ∧ u.island.held = [] ∧
      u.obj Obj.ENG_IMAGE_RUNNING = s.obj Obj.ENG_IMAGE_SELECT ∧ u.status = s.status ∧ u.il = s.il ∧ u.ciph = s.ciph ∧
      u.rules = s.rules ∧ u.flash = s.flash) ∧
  (∀ (s : State) (t : Nat), s.pwr.phase ≠ .boot 8 → exec (.startComplete t) s = .next (s.advance t)) ∧
  (∀ (s : State) (t x y : Nat), s.pwr.phase = .boot 4 → x < 2 ^ 32 → y < 2 ^ 32 →
    (x ≠ headerSeq (imageBytes s 0) ∨ y ≠ headerSeq (imageBytes s 1)) →
    exec (.bootStepComplete t (.headers x y)) s = .next (s.advance t))

/-- Readings are kept with their maxima; alarms, rail excursions and the life record follow. A temperature sample
keeps the 13 readings and their maxima; in Run a millisecond goes to its band. Above the alarm threshold the
alarm begins once, counted and logged; 5 °C below, it ends. At 125 °C the thermal shutdown begins with PTXDIS
asserted. A rail out of its range in two samples in a row is an excursion, once, counted; one sample is not; a
rail of a group that is off reads off. Every 4 h of Run what has gathered goes to flash. Package memory, frames
and keys do not change. -/
def Obligations.MonitorsSampleAndLifeRecord : Prop :=
  (∀ (s : State) (t : Nat) (l : List Int), l.length = 13 → (l.all fun r => decide (-32768 ≤ r) && decide (r < 32768)) = true →
    tempSensing s = false → exec (.tempSample t l) s = .next (s.advance t)) ∧
  (∀ (s : State) (t : Nat) (l : List Int), l.length = 13 → (l.all fun r => decide (-32768 ≤ r) && decide (r < 32768)) = true →
    s.pwr.phase = .up → s.mon.alarm = false → (l.all fun r => decide (r ≤ 680)) = true → 85 ≤ s.obj Obj.MON_TEMP_ALARM_C →
    exec (.tempSample t l) s = .next { s with
      now := max s.now t, mon := { s.mon with
        temps := Vector.ofFn fun i => l.getD i.val 0, tempMax := Vector.ofFn fun (i : Fin 13) => max s.mon.tempMax[i] (l.getD i.val 0)
        lifeMs := s.mon.lifeMs.set 0 (s.mon.lifeMs[0] + 1), lifeN := s.mon.lifeN + 1
        lifeTj := s.mon.lifeTj + (hottest (Vector.ofFn fun i => l.getD i.val 0)).1 } }) ∧
  (∀ (s : State) (t : Nat) (l : List Int), l.length = 13 → (l.all fun r => decide (-32768 ≤ r) && decide (r < 1000)) = true →
    s.pwr.phase = .up → s.mon.alarm = false → (hottest (Vector.ofFn fun i => l.getD i.val 0)).1 > (8 * s.obj Obj.MON_TEMP_ALARM_C : Nat) →
    ∃ u, exec (.tempSample t l) s = .next u ∧ u.mon.alarm = true ∧ u.mon.temps = (Vector.ofFn fun i => l.getD i.val 0) ∧
      s.counted u Obj.MON_ALARM_ENTRIES 0 1 ∧ s.objsBut u ((Obj.MON_ALARM_ENTRIES, 0) :: logObjs) ∧
      u = { s with now := max s.now t, mon := u.mon, dict := u.dict, log := u.log, island := u.island }) ∧
  (∀ (s : State) (t : Nat) (l : List Int), l.length = 13 → (l.all fun r => decide (-32768 ≤ r) && decide (r < 1000)) = true →
    s.pwr.phase = .up → s.mon.alarm = true → (hottest (Vector.ofFn fun i => l.getD i.val 0)).1 ≤ (8 * s.obj Obj.MON_TEMP_ALARM_C : Nat) - 40 →
    ∃ u, exec (.tempSample t l) s = .next u ∧ u.mon.alarm = false ∧ s.objsBut u logObjs ∧
      u = { s with now := max s.now t, mon := u.mon, dict := u.dict, log := u.log, island := u.island }) ∧
  (∀ (s : State) (t : Nat) (l : List Int), l.length = 13 → (l.all fun r => decide (-32768 ≤ r) && decide (r < 32768)) = true →
    s.pwr.phase = .up → 1000 ≤ (hottest (Vector.ofFn fun i => l.getD i.val 0)).1 → s.pwr.thermal = false →
    ∃ u, exec (.tempSample t l) s = .next u ∧ u.pwr.phase = .entry 3 ∧ u.pwr.target = .off ∧ u.pwr.thermal = true ∧
      u.pwr.cause = 4 ∧ (∀ ch : Fin 4, u.us[ch] = { s.us[ch] with failSafe := true }) ∧
      u = { s with
        now := max s.now t, mon := u.mon, pwr := u.pwr, us := u.us, bus := u.bus, dict := u.dict, log := u.log
        island := u.island }) ∧
  (∀ (s : State) (t : Nat) (l : List Nat), l.length = 8 → (l.all fun v => decide (v < 65536)) = true →
    sensing s = false → exec (.railSample t l) s = .next (s.advance t)) ∧
  (∀ (s : State) (t : Nat) (l : List Nat), l.length = 8 → (l.all fun v => decide (v < 65536)) = true → sensing s = true →
    s.island.pwrEn = Vector.replicate 4 true →
    (∀ r : Fin 8, (railRange r.val).1 ≤ 10 * l.getD r.val 0 ∧ 10 * l.getD r.val 0 ≤ (railRange r.val).2.1 ∧ s.mon.railState[r] < 2) →
    exec (.railSample t l) s = .next { s with
      now := max s.now t, mon := { s.mon with
        railMv := Vector.ofFn fun i => l.getD i.val 0, railOut := Vector.replicate 8 0, railState := Vector.replicate 8 1 } }) ∧
  (∀ (s : State) (t : Nat) (l : List Nat) (k : Fin 8), l.length = 8 → (l.all fun v => decide (v < 65536)) = true → sensing s = true →
    s.island.pwrEn = Vector.replicate 4 true → 10 * l.getD k.val 0 < (railRange k.val).1 → s.mon.railOut[k] = 1 →
    s.mon.railState[k] = 1 →
    (∀ r : Fin 8, r ≠ k → (railRange r.val).1 ≤ 10 * l.getD r.val 0 ∧ 10 * l.getD r.val 0 ≤ (railRange r.val).2.1 ∧ s.mon.railState[r] < 2) →
    ∃ u, exec (.railSample t l) s = .next u ∧ u.mon.railState = (Vector.replicate 8 1).set k 2 ∧
      u.mon.railMv = (Vector.ofFn fun i => l.getD i.val 0) ∧ s.counted u Obj.MON_RAIL_EXCURSIONS (sub k) 1 ∧
      s.objsBut u ((Obj.MON_RAIL_EXCURSIONS, sub k) :: logObjs) ∧
      u = { s with now := max s.now t, mon := u.mon, dict := u.dict, log := u.log, island := u.island }) ∧
  (∀ (s : State) (t : Nat), s.running = true → s.mon.lifeAt + 4 * 3600 * tickS ≤ max s.now t →
    ∃ u, exec (.lifeUpdate t) s = .next u ∧
      (∀ b : Fin 4, u.flash.lifeMs[b] = s.flash.lifeMs[b] + s.mon.lifeMs[b] ∧ u.mon.lifeMs[b] = 0) ∧
      u.flash = { s.flash with
        lifeMs := u.flash.lifeMs, lifeTjSum := s.flash.lifeTjSum + s.mon.lifeTj, lifeSamples := s.flash.lifeSamples + s.mon.lifeN
        recSeq := s.flash.recSeq + 1, qspi := u.flash.qspi } ∧
      (∃ l, u.flash.qspi = l ++ qspiWrite (recordAddr (s.flash.recSeq + 1)) 4096) ∧
      u.mon = { s.mon with lifeMs := u.mon.lifeMs, lifeTj := 0, lifeN := 0, lifeAt := max s.now t } ∧
      u = { s with now := max s.now t, flash := u.flash, mon := u.mon }) ∧
  (∀ (s : State) (t : Nat), max s.now t < s.mon.lifeAt + 4 * 3600 * tickS → exec (.lifeUpdate t) s = .next (s.advance t))

/-- The test port selects its registers and drives only the pins. While TRST_N is low no instruction loads and IDCODE
is selected. Released, BYPASS and the others load; IDCODE shifts out 1422074F; SAMPLE/PRELOAD captures the pins
and preloads the cells. EXTEST drives PTXDIS and PBEN from the cells and CLAMP only PBEN, which neither can raise while
PTXDIS is low; under HIGHZ PTXDIS is held asserted. When EXTEST ends, PTXDIS is asserted on every channel. No test instruction changes anything but
the port, the captured value and that hold: keys, flash and the always-on island are out of its reach. -/
def Obligations.TestAccessPortLeavesThePackage : Prop :=
  (∀ (s : State) (t : Nat) (a b : BitVec 60), s.jtag.held = true →
    exec (.bypass t) s = .next (s.advance t) ∧ exec (.idcode t) s = .next (s.advance t) ∧ exec (.samplePreload t a b) s = .next (s.advance t) ∧
    exec (.extest t) s = .next (s.advance t) ∧ exec (.clamp t) s = .next (s.advance t) ∧ exec (.highz t) s = .next (s.advance t)) ∧
  (∀ (s : State) (t : Nat), s.jtag.held = true →
    exec (.trstN t false) s = .next { s with now := max s.now t, jtag := { s.jtag with held := false } }) ∧
  (∀ (s : State) (t : Nat), s.jtag.instr ≠ .extest →
    exec (.trstN t true) s = .next { s with now := max s.now t, jtag := { s.jtag with held := true, instr := .idcode } }) ∧
  (∀ (s : State) (t : Nat), s.jtag.held = false → s.jtag.instr = .extest →
    ∃ u, exec (.trstN t true) s = .next u ∧ (∀ ch : Fin 4, u.us[ch] = { s.us[ch] with failSafe := true } ∧ ptxdis u ch = true) ∧
      u = { s with now := max s.now t, us := u.us, jtag := { s.jtag with held := true, instr := .idcode } }) ∧
  (∀ (s : State) (t : Nat), s.jtag.held = false → s.jtag.instr = .extest →
    ∃ u, exec (.bypass t) s = .next u ∧ (∀ ch : Fin 4, u.us[ch] = { s.us[ch] with failSafe := true } ∧ ptxdis u ch = true) ∧
      u = { s with now := max s.now t, us := u.us, value := [0], jtag := { s.jtag with instr := .bypass, shift := 0 } }) ∧
  (∀ (s : State) (t : Nat) (a b : BitVec 60), s.jtag.held = false → s.jtag.instr ≠ .extest →
    exec (.bypass t) s = .next { s with now := max s.now t, value := [0], jtag := { s.jtag with instr := .bypass, shift := 0 } } ∧
    exec (.idcode t) s = .next { s with
      now := max s.now t, value := [0x14, 0x22, 0x07, 0x4F], jtag := { s.jtag with instr := .idcode, shift := 0x1422074F } } ∧
    exec (.samplePreload t a b) s = .next { s with
      now := max s.now t, value := beBytes 8 a.toNat, jtag := { s.jtag with instr := .samplePreload, shift := a.toNat, boundary := b } } ∧
    exec (.clamp t) s = .next { s with now := max s.now t, value := [0], jtag := { s.jtag with instr := .clamp, shift := 0 } } ∧
    exec (.highz t) s = .next { s with now := max s.now t, value := [0], jtag := { s.jtag with instr := .highz, shift := 0 } }) ∧
  (∀ (s : State) (t : Nat), s.jtag.held = false →
    ∃ u, exec (.extest t) s = .next u ∧
      (∀ ch : Fin 4, ptxdis u ch = s.jtag.boundary.getLsbD (4 + ch.val) ∧
        pbenPin u ch = (s.jtag.boundary.getLsbD ch.val && s.jtag.boundary.getLsbD (4 + ch.val))) ∧
      u = { s with now := max s.now t, jtag := { s.jtag with instr := .extest } }) ∧
  (∀ (s : State) (t : Nat), s.jtag.held = false → s.jtag.instr ≠ .extest →
    (∃ u, exec (.clamp t) s = .next u ∧ (∀ ch : Fin 4, ptxdis u ch = (s.us[ch].failSafe || s.us[ch].latched.isSome) ∧
      pbenPin u ch = (s.jtag.boundary.getLsbD ch.val && (s.us[ch].failSafe || s.us[ch].latched.isSome)))) ∧
    (∃ u, exec (.highz t) s = .next u ∧ (∀ ch : Fin 4, ptxdis u ch = true ∧ pbenPin u ch = false)))

/-- A request is dropped, repeated, refused or served in the order of the checks. A request while the server is
stopped is lost. One for another address only ends old answers and transfers. A duplicate within 1 s gets the
kept response again, is counted and not performed. Without a code in FB_AUTH_MODE 1 and it is answered with AUTH,
but for the three kinds that a package without the key accepts; by a worker that tracks another node with
NOT_MANAGER; beyond 16 waiting with BUSY; beyond 1,500 bytes with TOO_LONG. None of these has an effect but its
answer. -/
def Obligations.RequestsMeetTheChecksInOrder : Prop :=
  (∀ (s : State) (t : Nat) (rq : Req) (i j : Nat), s.serverUp = false → reqWf rq = true → i < 65536 → j < 256 →
    exec (.read t rq i j) s = .next (s.advance t)) ∧
  (∀ (s : State) (t : Nat) (rq : Req) (i j : Nat), s.serverUp = true → reqWf rq = true → i < 65536 → j < 256 → rq.inband = false →
    rq.dst ≠ s.bus.addr → rq.dst ≠ 127 → s.bus.sendAt = none → s.bus.subs = [] → s.bus.manager = false →
    exec (.read t rq i j) s = .next { s with
      now := max s.now t, log := { s.log with unsent := [] }
      bus := { s.bus with
        freeAt := max s.now t
        answered := s.bus.answered.filter fun a => decide (max s.now t < a.at0 + tickS)
        transfers := s.bus.transfers.filter fun x => decide (max s.now t < x.lastAt + 5 * tickS) } }) ∧
  (∀ (s : State) (t : Nat) (rq : Req) (i j : Nat) (a : Answered), s.serverUp = true → reqWf rq = true → i < 65536 → j < 256 →
    rq.inband = false → rq.auth = false → rq.dst = s.bus.addr → rq.src ≠ s.bus.addr → s.obj Obj.FB_AUTH_MODE ≠ 1 →
    s.bus.sendAt = none → s.bus.txq.length < 32 → s.bus.subs = [] → s.bus.answered = [a] → max s.now t < a.at0 + tickS →
    a.src = rq.src → a.txn = rq.txn → a.route = none →
    ∃ u, exec (.read t rq i j) s = .next u ∧ u.status = a.status ∧ s.counted u Obj.VDP_DUPLICATES 0 1 ∧
      s.counted u Obj.FB_FRAMES_RX 0 1 ∧ s.objsBut u [(Obj.VDP_DUPLICATES, 0), (Obj.FB_FRAMES_RX, 0)] ∧
      u.bus = { (s.atServer t rq).bus with txq := s.bus.txq ++ [{ urgent := true, dst := rq.src, msg := a.reply }] } ∧
      u = { s.atServer t rq with status := u.status, dict := u.dict, bus := u.bus }) ∧
  (∀ (s : State) (t : Nat) (rq : Req) (i j : Nat) (x : Bytes), s.receives t rq → i < 65536 → j < 256 → x.length ≤ 9000 →
    s.obj Obj.FB_AUTH_MODE = 1 → s.ciph.slots[(241 : Fin 256)].st = .valid →
    exec (.read t rq i j) s = .next ((s.atServer t rq).answeredAs rq 1 .auth []) ∧
    exec (.write t rq i j x) s = .next ((s.atServer t rq).answeredAs rq 2 .auth [])) ∧
  (∀ (s : State) (t : Nat) (rq : Req) (m : Nat), s.receives t rq → s.obj Obj.FB_AUTH_MODE = 1 →
    s.ciph.slots[(241 : Fin 256)].st ≠ .valid → workerRefuses s rq.src none = false → rq.waiting < 16 → m < 256 →
    exec (.restore t rq m) s = .next ((s.atServer t rq).answeredAs rq 12 .auth []) ∧
    exec (.read t rq Obj.FB_AUTH_MODE 0) s = .next ((s.atServer t rq).answeredAs rq 1 .ok [1]) ∧
    exec (.write t rq Obj.FB_AUTH_MODE 0 [0]) s = .next (((s.atServer t rq).setObj Obj.FB_AUTH_MODE 0 0).answeredAs rq 2 .ok [])) ∧
  (∀ (s : State) (t : Nat) (rq : Req) (i j : Nat) (x : Bytes), s.receives t rq → i < 65536 → j < 256 → x.length ≤ 9000 →
    s.obj Obj.FB_AUTH_MODE ≠ 1 → workerRefuses s rq.src none = true →
    exec (.read t rq i j) s = .next ((s.atServer t rq).answeredAs rq 1 .notManager []) ∧
    exec (.write t rq i j x) s = .next ((s.atServer t rq).answeredAs rq 2 .notManager [])) ∧
  (∀ (s : State) (t : Nat) (rq : Req) (i j : Nat) (x : Bytes), s.receives t rq → i < 65536 → j < 256 → x.length ≤ 9000 →
    s.obj Obj.FB_AUTH_MODE ≠ 1 → workerRefuses s rq.src none = false → 16 ≤ rq.waiting →
    exec (.read t rq i j) s = .next ((s.atServer t rq).answeredAs rq 1 .busy []) ∧
    exec (.write t rq i j x) s = .next ((s.atServer t rq).answeredAs rq 2 .busy [])) ∧
  (∀ (s : State) (t : Nat) (rq : Req) (i j : Nat) (x : Bytes), s.serves t rq → i < 65536 → j < 256 → x.length ≤ 9000 →
    1476 < x.length → exec (.write t rq i j x) s = .next ((s.atServer t rq).answeredAs rq 2 .tooLong []))

/-- READ and WRITE answer with the value, or with the first rule broken. A READ answers with the bytes of the object,
and an RC object is then cleared. A missing object or subindex, a WO or CMD object, a TABLE or DOMAIN are refused
in that order. A WRITE is refused for a missing object, a read-only one, a wrong length, a value outside its
range, and an RWD object whose block is enabled, in that order; else the value is stored and OK answered. Nothing
else changes but what reception itself leaves. -/
def Obligations.ObjectsReadAndWrittenByRequests : Prop :=
  (∀ (s : State) (t : Nat) (rq : Req) (i j : Nat) (r : ObjRow), s.serves t rq → i < 65536 → j < 256 → findObj i j = .value r →
    readStatus i j = .ok → r.acc ≠ .rc → i ∉ [Obj.GOV_LIMITED_CYCLES, Obj.CTX_QUOTA_SHORT_CYCLES] → tySize r.ty ≤ 1480 → i ≠ Obj.TS_POP →
    exec (.read t rq i j) s = .next ((s.atServer t rq).answeredAs rq 1 .ok
      (beBytes (tySize r.ty) (objValue (s.atServer t rq) i j)))) ∧
  (∀ (s : State) (t : Nat) (rq : Req), s.serves t rq →
    exec (.read t rq Obj.FB_FWD_TIMEOUT_MS 0) s = .next ((s.atServer t rq).answeredAs rq 1 .ok (beBytes 2 (s.obj Obj.FB_FWD_TIMEOUT_MS))) ∧
    exec (.read t rq Obj.FB_COLLISIONS 0) s =
      .next (((s.atServer t rq).setObj Obj.FB_COLLISIONS 0 0).answeredAs rq 1 .ok (beBytes 8 (s.obj Obj.FB_COLLISIONS))) ∧
    exec (.read t rq Obj.DEV_ALERT_CAUSE 0) s = .next (State.answeredAs
      { s.atServer t rq with island := { s.island with alertCause := 0xFFFF } } rq 1 .ok (beBytes 2 s.island.alertCause))) ∧
  (∀ (s : State) (t : Nat) (rq : Req) (i j n : Nat), s.serves t rq → i < 65536 → j < 256 → findObj i j = .count n →
    i ∉ [Obj.GOV_LIMITED_CYCLES] →
    exec (.read t rq i j) s = .next ((s.atServer t rq).answeredAs rq 1 .ok (beBytes 1 n))) ∧
  (∀ (s : State) (t : Nat) (rq : Req) (i j : Nat) (e : Status), s.serves t rq → i < 65536 → j < 256 → findObj i j = .refused e →
    exec (.read t rq i j) s = .next ((s.atServer t rq).answeredAs rq 1 e [])) ∧
  (∀ (s : State) (t : Nat) (rq : Req) (i j : Nat) (r : ObjRow), s.serves t rq → i < 65536 → j < 256 → findObj i j = .value r →
    (r.acc = .wo ∨ r.acc = .cmd ∨ bulkType r.ty = true) →
    exec (.read t rq i j) s = .next ((s.atServer t rq).answeredAs rq 1
      (if r.acc = .wo ∨ r.acc = .cmd then .writeOnly else .typeMismatch) [])) ∧
  (∀ (s : State) (t : Nat) (rq : Req) (i j : Nat) (x : Bytes) (e : Status), s.serves t rq → i < 65536 → j < 256 →
    x.length ≤ 1476 → findObj i j = .refused e →
    exec (.write t rq i j x) s = .next ((s.atServer t rq).answeredAs rq 2 e [])) ∧
  (∀ (s : State) (t : Nat) (rq : Req) (i j : Nat) (x : Bytes) (n : Nat), s.serves t rq → i < 65536 → j < 256 →
    x.length ≤ 1476 → findObj i j = .count n →
    exec (.write t rq i j x) s = .next ((s.atServer t rq).answeredAs rq 2 .readOnly [])) ∧
  (∀ (s : State) (t : Nat) (rq : Req) (i j : Nat) (x : Bytes) (r : ObjRow), s.serves t rq → i < 65536 → j < 256 →
    x.length ≤ 1476 → findObj i j = .value r →
    (r.acc = .ro ∨ r.acc = .rc ∨ bulkType r.ty = true ∨ x.length ≠ tySize r.ty ∨ tyRefuses r.ty x = true ∨
      outOfRange r (beNat x) = true ∨ (r.acc = .rwd ∧ chapterRefuses s i (beNat x) = false ∧ s.flag (enablingObj i) j = true)) →
    exec (.write t rq i j x) s = .next ((s.atServer t rq).answeredAs rq 2
      (if r.acc = .ro ∨ r.acc = .rc then .readOnly
       else if bulkType r.ty = true ∨ x.length ≠ tySize r.ty then .typeMismatch
       else if tyRefuses r.ty x = true ∨ outOfRange r (beNat x) = true then .range else .state) [])) ∧
  (∀ (s : State) (t : Nat) (rq : Req) (x : Bytes), s.serves t rq → x.length = 2 → 10 ≤ beNat x → beNat x ≤ 10000 →
    exec (.write t rq Obj.FB_FWD_TIMEOUT_MS 0 x) s =
      .next (((s.atServer t rq).setObj Obj.FB_FWD_TIMEOUT_MS 0 (beNat x)).answeredAs rq 2 .ok [])) ∧
  (∀ (s : State) (t : Nat) (rq : Req) (x : Bytes), s.serves t rq → x.length = 1 → beNat x < 64 →
    exec (.write t rq Obj.PWR_WAKE_ENABLE 0 x) s =
      .next (((s.atServer t rq).setObj Obj.PWR_WAKE_ENABLE 0 (setBit (beNat x) 0 true)).answeredAs rq 2 .ok [])) ∧
  (∀ (s : State) (t : Nat) (rq : Req) (x : Bytes) (ch : Fin 4), s.serves t rq → x.length = 1 → beNat x ≤ 1 → s.flag Obj.DS_RX_ENABLE (sub ch) = false →
    exec (.write t rq Obj.DS_RX_INVERT (sub ch) x) s =
      .next (((s.atServer t rq).setObj Obj.DS_RX_INVERT (sub ch) (beNat x)).answeredAs rq 2 .ok [])) ∧
  (∀ (s : State) (t v : Nat), s.serverUp = true → v ≤ 1 → ¬(v = 1 ∧ s.ciph.blobState[(1 : Fin 3)] ≠ 1) →
    exec (.fbAuthMode t v) s = .next { s with now := max s.now t, status := .ok, dict := (s.setObj Obj.FB_AUTH_MODE 0 v).dict }) ∧
  (∀ (s : State) (t v : Nat), s.serverUp = true → (1 < v ∨ (v = 1 ∧ s.ciph.blobState[(1 : Fin 3)] ≠ 1)) →
    exec (.fbAuthMode t v) s = .next { s with now := max s.now t, status := if v = 1 then .state else .range }) ∧
  (∀ (s : State) (t : Nat), s.serverUp = true →
    exec (.devAlertCause t) s = .next { s with
      now := max s.now t, status := .ok, value := beBytes 2 s.island.alertCause, island := { s.island with alertCause := 0xFFFF } }) ∧
  (∀ (s : State) (t v : Nat), s.serverUp = false →
    exec (.fbAuthMode t v) s = .next (s.advance t) ∧ exec (.devAlertCause t) s = .next (s.advance t) ∧
    exec (.capClear t v) s = .next (s.advance t))

/-- READ_MULTI, TABLE_READ and TABLE_WRITE act on items and rows in order. READ_MULTI with 0 or more than 32 items is
RANGE; each item carries its status and value, and RC items are cleared. A table service on a missing object,
another type, too many bytes, rows beyond the table or no rows is refused with no row touched. A TABLE_READ
answers the rows in order. A TABLE_WRITE writes rows until one is refused, and answers how many it wrote; the
rows after them and every other table are untouched. Clearing the capture ring empties it; another value is
RANGE. -/
def Obligations.RowsAndSeveralObjectsByRequests : Prop :=
  (∀ (s : State) (t : Nat) (rq : Req) (l : List (Nat × Nat)), s.serves t rq → l.length < 256 → (l.all fun i => decide (i.1 < 65536) && decide (i.2 < 256)) = true →
    (l = [] ∨ 32 < l.length) → exec (.readMulti t rq l) s = .next ((s.atServer t rq).answeredAs rq 3 .range [])) ∧
  (∀ (s : State) (t : Nat) (rq : Req) (i j : Nat) (e : Status), s.serves t rq → i < 65536 → j < 256 → findObj i j = .refused e →
    exec (.readMulti t rq [(i, j), (Obj.FB_COLLISIONS, 0), (Obj.FB_WAKE_WAIT_MS, 0)]) s =
      .next (((s.atServer t rq).setObj Obj.FB_COLLISIONS 0 0).answeredAs rq 3 .ok
        ([BitVec.ofNat 8 (statusCode e), 0, 0, 0] ++ [0, 0, 0, 8] ++ beBytes 8 (s.obj Obj.FB_COLLISIONS) ++
          [0, 0, 0, 2] ++ beBytes 2 (s.obj Obj.FB_WAKE_WAIT_MS)))) ∧
  (∀ (s : State) (t : Nat) (rq : Req) (i f n : Nat) (x : Bytes), s.serves t rq → i < 65536 → f < 2 ^ 32 → n < 65536 → x.length ≤ 1470 →
    objRow? i = none →
    exec (.tableRead t rq i f n) s = .next ((s.atServer t rq).answeredAs rq 4 .noObject []) ∧
    exec (.tableWrite t rq i f n x) s = .next ((s.atServer t rq).answeredAs rq 5 .noObject [])) ∧
  (∀ (s : State) (t : Nat) (rq : Req) (i f n : Nat) (x : Bytes) (r : ObjRow), s.serves t rq → i < 65536 → f < 2 ^ 32 → n < 65536 →
    x.length ≤ 1470 → objRow? i = some r → r.ty ≠ .table →
    exec (.tableRead t rq i f n) s = .next ((s.atServer t rq).answeredAs rq 4 .typeMismatch []) ∧
    exec (.tableWrite t rq i f n x) s = .next ((s.atServer t rq).answeredAs rq 5 .typeMismatch [])) ∧
  (∀ (s : State) (t : Nat) (rq : Req) (i f n : Nat) (x : Bytes) (r : ObjRow), s.serves t rq → i < 65536 → f < 2 ^ 32 → n < 65536 →
    x.length ≤ 1470 → objRow? i = some r → r.ty = .table → i ≠ Obj.HOP_BUFFER_STATE → n * 8 * r.words ≤ 1480 → r.count < f + n → 0 < n →
    exec (.tableRead t rq i f n) s = .next ((s.atServer t rq).answeredAs rq 4 .noSub []) ∧
    exec (.tableWrite t rq i f n x) s = .next ((s.atServer t rq).answeredAs rq 5 .noSub [])) ∧
  (∀ (s : State) (t : Nat) (rq : Req) (f n : Nat) (x : Bytes), s.serves t rq → f < 2 ^ 32 → n < 65536 → x.length ≤ 1470 → 187 < n →
    exec (.tableRead t rq Obj.LAT_CONFIG f n) s = .next ((s.atServer t rq).answeredAs rq 4 .tooLong []) ∧
    exec (.tableWrite t rq Obj.LAT_CONFIG f n x) s = .next ((s.atServer t rq).answeredAs rq 5 .tooLong [])) ∧
  (∀ (s : State) (t : Nat) (rq : Req) (f : Nat), s.serves t rq → f < 2112 →
    exec (.tableRead t rq Obj.LAT_CONFIG f 0) s = .next ((s.atServer t rq).answeredAs rq 4 .range []) ∧
    exec (.tableWrite t rq Obj.LAT_CONFIG f 0 []) s = .next ((s.atServer t rq).answeredAs rq 5 .range [])) ∧
  (∀ (s : State) (t : Nat) (rq : Req) (f n : Nat), s.serves t rq → f + n ≤ 2112 → 0 < n → n ≤ 185 →
    exec (.tableRead t rq Obj.LAT_CONFIG f n) s = .next ((s.atServer t rq).answeredAs rq 4 .ok
      ((List.range n).flatMap fun i => beBytes 8 (s.row Obj.LAT_CONFIG (f + i))))) ∧
  (∀ (s : State) (t : Nat) (rq : Req) (f n : Nat) (x : Bytes), s.serves t rq → f + n ≤ 2112 → 0 < n → n ≤ 183 → x.length ≤ 1470 →
    x.length ≠ 8 * n →
    exec (.tableWrite t rq Obj.LAT_CONFIG f n x) s = .next ((s.atServer t rq).answeredAs rq 5 .typeMismatch [])) ∧
  (∀ (s : State) (t : Nat) (rq : Req) (f n k : Nat) (x : Bytes), s.serves t rq → f + n ≤ 2112 → 0 < n → n ≤ 183 → x.length = 8 * n →
    k ≤ n → (∀ i : Nat, i < k → beAt x (8 * i) 8 % 32 ≤ 16) → (k = n ∨ 16 < beAt x (8 * k) 8 % 32) →
    ∃ u, exec (.tableWrite t rq Obj.LAT_CONFIG f n x) s = .next u ∧
      (∀ i : Fin n, u.row Obj.LAT_CONFIG (f + i.val) =
        if i.val < k then beAt x (8 * i.val) 8 % 32 else s.row Obj.LAT_CONFIG (f + i.val)) ∧
      s.rowsBut u ((List.range k).map fun i => (Obj.LAT_CONFIG, f + i)) ∧
      u = { (s.atServer t rq).answeredAs rq 5 (if k = n then .ok else .range) (beBytes 4 k) with tab := u.tab }) ∧
  (∀ (s : State) (t v : Nat), s.serverUp = true → v ≠ 1 → exec (.capClear t v) s = .next { s with now := max s.now t, status := .range }) ∧
  (∀ (s : State) (t : Nat), s.serverUp = true →
    ∃ u, exec (.capClear t 1) s = .next u ∧ u.cap = { s.cap with ring := [], nextOff := 0, stopped := false } ∧ s.objsBut u logObjs ∧
      u = { s with now := max s.now t, status := .ok, cap := u.cap, dict := u.dict, log := u.log, island := u.island })

/-- A segmented transfer opens, moves its segments in order and ends by its CRC. SEG_BEGIN opens a log or capture
read, or a write of a firmware image in safe mode, with a handle and segments of 1,456 bytes; another type,
direction or length, a fifth transfer and a closed domain are refused. A segment in order is served and counted,
one out of order is RANGE and leaves the transfer open, an unknown handle is STATE. SEG_END closes it: a wrong
CRC is RANGE; a read moves its cursor past the last record; a written image goes to flash. Transfers idle for 5 s
close. -/
def Obligations.DomainsMoveInSegments : Prop :=
  (∀ (s : State) (t : Nat) (rq : Req) (d n : Nat), s.serves t rq → d < 256 → n < 2 ^ 32 → (s.atServer t rq).bus.transfers.length < 4 →
    exec (.segBegin t rq 0 0 d n) s = .next ((s.atServer t rq).answeredAs rq 6 .noObject []) ∧
    exec (.segBegin t rq Obj.EVT_LOG_DOMAIN 1 d n) s = .next ((s.atServer t rq).answeredAs rq 6 .noSub []) ∧
    exec (.segBegin t rq Obj.FB_ETHERTYPE 0 d n) s = .next ((s.atServer t rq).answeredAs rq 6 .typeMismatch []) ∧
    exec (.segBegin t rq Obj.BOOT_IMAGE_DOMAIN 0 d n) s = .next ((s.atServer t rq).answeredAs rq 6 .typeMismatch [])) ∧
  (∀ (s : State) (t : Nat) (rq : Req) (d n : Nat), s.serves t rq → d < 256 → n < 2 ^ 32 → (s.atServer t rq).bus.transfers.length < 4 →
    (1 < d ∨ n % 32 ≠ 0) → exec (.segBegin t rq Obj.EVT_LOG_DOMAIN 0 d n) s = .next ((s.atServer t rq).answeredAs rq 6 .range [])) ∧
  (∀ (s : State) (t : Nat) (rq : Req) (n : Nat), s.serves t rq → n < 2 ^ 32 → (s.atServer t rq).bus.transfers.length < 4 →
    (n % 32 = 0 → exec (.segBegin t rq Obj.EVT_LOG_DOMAIN 0 1 n) s = .next ((s.atServer t rq).answeredAs rq 6 .state [])) ∧
    (n % 64 = 0 → exec (.segBegin t rq Obj.CAP_DOMAIN 0 1 n) s = .next ((s.atServer t rq).answeredAs rq 6 .state [])) ∧
    (n % 64 ≠ 0 → exec (.segBegin t rq Obj.CAP_DOMAIN 0 0 n) s = .next ((s.atServer t rq).answeredAs rq 6 .range [])) ∧
    exec (.segBegin t rq Obj.BOOT_IMAGE_DOMAIN 3 0 n) s = .next ((s.atServer t rq).answeredAs rq 6 .state [])) ∧
  (∀ (s : State) (t : Nat) (rq : Req) (n : Nat), s.serves t rq → n < 2 ^ 32 → n % 64 = 0 → 4 ≤ (s.atServer t rq).bus.transfers.length →
    exec (.segBegin t rq Obj.EVT_LOG_DOMAIN 0 0 n) s = .next ((s.atServer t rq).answeredAs rq 6 .busy []) ∧
    exec (.segBegin t rq Obj.CAP_DOMAIN 0 0 n) s = .next ((s.atServer t rq).answeredAs rq 6 .busy [])) ∧
  (∀ (s v : State) (t : Nat) (rq : Req) (n : Nat), s.serves t rq → n < 2 ^ 32 → n % 64 = 0 → v = s.atServer t rq →
    v.bus.transfers.length < 4 →
    exec (.segBegin t rq Obj.EVT_LOG_DOMAIN 0 0 n) s = .next (State.answeredAs
      { v with bus := { v.bus with
          nextHandle := (s.bus.nextHandle + 1) % 65536
          transfers := v.bus.transfers ++ [{
            handle := s.bus.nextHandle, src := rq.src, index := Obj.EVT_LOG_DOMAIN, sub := 0, write := false, total := n, seg := 0
            segSize := 1456, data := [], plan := evtPlan s n, lastAt := max s.now t }] } }
      rq 6 .ok (beBytes 2 s.bus.nextHandle ++ [5, 0xB0])) ∧
    exec (.segBegin t rq Obj.CAP_DOMAIN 0 0 n) s = .next (State.answeredAs
      { v with bus := { v.bus with
          nextHandle := (s.bus.nextHandle + 1) % 65536
          transfers := v.bus.transfers ++ [{
            handle := s.bus.nextHandle, src := rq.src, index := Obj.CAP_DOMAIN, sub := 0, write := false, total := n, seg := 0
            segSize := 1456, data := [], plan := capPlan s n, lastAt := max s.now t }] } }
      rq 6 .ok (beBytes 2 s.bus.nextHandle ++ [5, 0xB0]))) ∧
  (∀ (s v : State) (t : Nat) (rq : Req) (n : Nat) (k : Fin 2), s.serves t rq → n ≤ 15 * 2 ^ 20 → s.pwr.phase = .safeMode →
    v = s.atServer t rq → v.bus.transfers.length < 4 →
    exec (.segBegin t rq Obj.BOOT_IMAGE_DOMAIN (k.val + 1) 1 n) s = .next (State.answeredAs
      { v with bus := { v.bus with
          nextHandle := (s.bus.nextHandle + 1) % 65536
          transfers := v.bus.transfers ++ [{
            handle := s.bus.nextHandle, src := rq.src, index := Obj.BOOT_IMAGE_DOMAIN, sub := k.val + 1, write := true, total := n
            seg := 0, segSize := 1456, data := [], plan := [], lastAt := max s.now t }] } }
      rq 6 .ok (beBytes 2 s.bus.nextHandle ++ [5, 0xB0]))) ∧
  (∀ (s : State) (t : Nat) (rq : Req) (h g : Nat) (d : Bytes), s.serves t rq → h < 65536 → g < 2 ^ 32 → d.length ≤ 1472 →
    ((s.atServer t rq).bus.transfers.all fun x => x.handle != h) = true →
    exec (.segData t rq h g d) s = .next ((s.atServer t rq).answeredAs rq 7 .state []) ∧
    exec (.segEnd t rq h g) s = .next ((s.atServer t rq).answeredAs rq 8 .state [])) ∧
  (∀ (s v : State) (t : Nat) (rq : Req) (x : Transfer) (g : Nat) (d : Bytes), s.serves t rq → x.handle < 65536 → g < 2 ^ 32 →
    d.length ≤ 1472 → v = s.atServer t rq → v.bus.transfers = [x] →
    (g ≠ x.seg ∨ x.total ≤ g * x.segSize ∨ (x.write = false ∧ d ≠ [])) →
    exec (.segData t rq x.handle g d) s = .next (State.answeredAs
      { v with bus := { v.bus with transfers := [{ x with lastAt := max s.now t }] } } rq 7 .range [])) ∧
  (∀ (s v : State) (t : Nat) (rq : Req) (x : Transfer) (d : Bytes), s.serves t rq → x.handle < 65536 → x.seg < 2 ^ 32 →
    d.length ≤ 1472 → v = s.atServer t rq → v.bus.transfers = [x] → x.write = true → d ≠ [] →
    d.length = min x.segSize (x.total - x.seg * x.segSize) →
    exec (.segData t rq x.handle x.seg d) s = .next (State.answeredAs
      { v with bus := { v.bus with transfers := [{ x with lastAt := max s.now t, seg := x.seg + 1, data := x.data ++ d }] } } rq 7 .ok [])) ∧
  (∀ (s v : State) (t : Nat) (rq : Req) (x : Transfer) (d : Bytes), s.serves t rq → x.handle < 65536 → x.seg < 2 ^ 32 →
    v = s.atServer t rq → v.bus.transfers = [x] → x.write = false → x.segSize = 1456 → x.seg * x.segSize < x.total →
    d = ((x.plan.flatMap (recordNow s x.index) ++ zeros x.total).take x.total).drop (x.seg * x.segSize) →
    (x.plan.flatMap (recordNow s x.index)).length ≤ x.total →
    exec (.segData t rq x.handle x.seg []) s = .next (State.answeredAs
      { v with bus := { v.bus with transfers := [{ x with lastAt := max s.now t, seg := x.seg + 1, data := x.data ++ d.take 1456 }] } }
      rq 7 .ok (d.take 1456))) ∧
  (∀ (s v : State) (t : Nat) (rq : Req) (x : Transfer) (c : Nat), s.serves t rq → x.handle < 65536 → c < 2 ^ 32 →
    v = s.atServer t rq → v.bus.transfers = [x] → (crc32c x.data ≠ c ∨ (x.write = true ∧ x.data.length ≠ x.total)) →
    exec (.segEnd t rq x.handle c) s = .next (State.answeredAs { v with bus := { v.bus with transfers := [] } } rq 8 .range [])) ∧
  (∀ (s v : State) (t : Nat) (rq : Req) (x : Transfer) (n : Nat), s.serves t rq → x.handle < 65536 →
    v = s.atServer t rq → v.bus.transfers = [x] → x.write = false → x.index = Obj.EVT_LOG_DOMAIN → cursorAfter x.data.length x.plan = some n →
    crc32c x.data < 2 ^ 32 →
    exec (.segEnd t rq x.handle (crc32c x.data)) s = .next (State.answeredAs
      { v with bus := { v.bus with transfers := [] }, dict := (v.setObj Obj.EVT_READ_SEQ 0 (n % 2 ^ 32)).dict } rq 8 .ok [])) ∧
  (∀ (s v : State) (t : Nat) (rq : Req) (x : Transfer) (n : Nat), s.serves t rq → x.handle < 65536 →
    v = s.atServer t rq → v.bus.transfers = [x] → x.write = false → x.index = Obj.CAP_DOMAIN → cursorAfter x.data.length x.plan = some n →
    crc32c x.data < 2 ^ 32 →
    exec (.segEnd t rq x.handle (crc32c x.data)) s = .next (State.answeredAs
      { v with
        bus := { v.bus with transfers := [] }, dict := (v.setObj Obj.CAP_READ_FROM 0 (n % 2 ^ 64)).dict
        cap := { v.cap with stopped := v.cap.stopped && decide (n % 2 ^ 64 ≤ s.obj Obj.CAP_READ_FROM) } } rq 8 .ok [])) ∧
  (∀ (s v : State) (t : Nat) (rq : Req) (x : Transfer) (k : Fin 2), s.serves t rq → x.handle < 65536 →
    v = s.atServer t rq → v.bus.transfers = [x] → x.write = true → x.sub = k.val + 1 → x.data.length = x.total → s.pwr.phase = .safeMode →
    crc32c x.data < 2 ^ 32 →
    exec (.segEnd t rq x.handle (crc32c x.data)) s = .next (State.answeredAs
      { v with
        bus := { v.bus with transfers := [] }
        flash := { (s.qspi (qspiWrite (imageAddr k) x.data.length)).flash with images := s.flash.images.set k x.data } } rq 8 .ok [])) ∧
  (∀ (s : State) (t : Nat), exec (.transferClose t) s = .next { s with
    now := max s.now t
    bus := { s.bus with
      subs := s.bus.subs.filter fun x => decide (max s.now t < x.lastHeard + 60 * tickS)
      answered := s.bus.answered.filter fun a => decide (max s.now t < a.at0 + tickS)
      transfers := s.bus.transfers.filter fun x => decide (max s.now t < x.lastAt + 5 * tickS) } })

/-- Subscriptions, merging and EVENT messages. SUBSCRIBE adds or removes a subscription; a wrong action or range is
RANGE, a ninth BUSY; a manager subscribes itself at a Present worker for its part of the range. Subscriptions
silent for 60 s lapse. A worker discards EVENT messages; a manager holds their records, counts one older than
what it sent and sends it at once. When a record's merge time is over, it and those before it go out, ordered by
time and source. -/
def Obligations.EventsReachTheirSubscribers : Prop :=
  (∀ (s : State) (t : Nat) (rq : Req) (a b k : Nat), s.serves t rq → a < 65536 → b < 65536 → k < 256 → (1 < k ∨ b < a) →
    exec (.subscribe t rq a b k) s = .next ((s.atServer t rq).answeredAs rq 9 .range [])) ∧
  (∀ (s v : State) (t : Nat) (rq : Req) (a b : Nat), s.serves t rq → a ≤ b → b < 65536 → v = s.atServer t rq →
    exec (.subscribe t rq a b 0) s = .next (State.answeredAs { v with bus := { v.bus with
      subs := v.bus.subs.filter fun x => !(x.src == rq.src && x.first == a && x.last == b) } } rq 9 .ok [])) ∧
  (∀ (s v : State) (t : Nat) (rq : Req) (a b : Nat) (l : List Subscription), s.serves t rq → a ≤ b → b < 65536 → v = s.atServer t rq →
    l = (v.bus.subs.filter fun x => !(x.src == rq.src && x.first == a && x.last == b)) → 8 ≤ l.length →
    exec (.subscribe t rq a b 1) s = .next (v.answeredAs rq 9 .busy [])) ∧
  (∀ (s v : State) (t : Nat) (rq : Req) (a b : Nat) (l : List Subscription), s.serves t rq → a ≤ b → b < 65536 → v = s.atServer t rq →
    l = (v.bus.subs.filter fun x => !(x.src == rq.src && x.first == a && x.last == b)) → l.length < 8 →
    (s.bus.manager = false ∨ (∀ m : Fin 64, s.bus.members[m].st ≠ .present)) →
    exec (.subscribe t rq a b 1) s = .next (State.answeredAs { v with bus := { v.bus with
      subs := l ++ [{ src := rq.src, first := a, last := b, auth := false, route := none, lastHeard := max s.now t }] } } rq 9 .ok [])) ∧
  (∀ (s v : State) (t : Nat) (rq : Req) (a b : Nat) (l : List Subscription) (m : Fin 64), s.serves t rq → a ≤ b → b < 65536 →
    v = s.atServer t rq → l = (v.bus.subs.filter fun x => !(x.src == rq.src && x.first == a && x.last == b)) → l.length < 8 →
    s.bus.manager = true → s.bus.txq.length < 31 → m.val ≠ s.bus.addr → s.bus.members[m].st = .present →
    (∀ o : Fin 64, o ≠ m → s.bus.members[o].st ≠ .present) → 1024 * m.val ≤ b → a ≤ 1024 * m.val + 1023 →
    exec (.subscribe t rq a b 1) s = .next (State.answeredAs (State.sends { v with bus := { v.bus with
      subs := l ++ [{ src := rq.src, first := a, last := b, auth := false, route := none, lastHeard := max s.now t }] } }
      9 m.val (beBytes 2 (max a (1024 * m.val)) ++ beBytes 2 (min b (1024 * m.val + 1023)) ++ [1, 0, 0, 0])) rq 9 .ok [])) ∧
  (∀ (s : State) (t : Nat), exec (.subscriptionLapse t) s = .next { s with
    now := max s.now t
    bus := { s.bus with subs := s.bus.subs.filter fun x => decide (max s.now t < x.lastHeard + 60 * tickS) } }) ∧
  (∀ (s : State) (t : Nat) (rq : Req) (l : List Bytes), s.receives t rq → l.length < 256 → (l.all fun r => r.length == 32) = true →
    s.bus.manager = false → exec (.event t rq l) s = .next (s.atServer t rq)) ∧
  (∀ (s v : State) (t : Nat) (rq : Req) (l : List Bytes), s.receives t rq → l.length < 256 → (l.all fun r => r.length == 32) = true →
    s.bus.manager = true → v = s.atServer t rq → (l.all fun r => decide (s.bus.mergedTo ≤ evKey (evOfBytes r) / 2 ^ 32)) = true →
    exec (.event t rq l) s = .next { v with bus := { v.bus with
      merge := v.bus.merge ++ (l.map fun r => (evOfBytes r, max s.now t)) } }) ∧
  (∀ (s : State) (t : Nat) (rq : Req) (r : Bytes), s.receives t rq → r.length = 32 → s.bus.manager = true → s.bus.subs = [] →
    evKey (evOfBytes r) / 2 ^ 32 < s.bus.mergedTo →
    exec (.event t rq [r]) s = .next ((s.atServer t rq).bump Obj.FB_EVENTS_LATE)) ∧
  (∀ (s v : State) (t : Nat) (rq : Req) (r : Bytes) (x : Subscription), s.receives t rq → r.length = 32 → s.bus.manager = true →
    s.bus.subs = [x] → max s.now t < x.lastHeard + 60 * tickS → x.auth = false → x.route = none → subCovers x (evOfBytes r) = true → evKey (evOfBytes r) / 2 ^ 32 < s.bus.mergedTo →
    v = (s.atServer t rq).bump Obj.FB_EVENTS_LATE →
    exec (.event t rq [r]) s = .next (v.sends 10 x.src ([1, 0, 0, 0] ++ evBytes (evOfBytes r)))) ∧
  (∀ (s : State) (t : Nat), s.serverUp = false → exec (.eventMerge t) s = .next (s.advance t)) ∧
  (∀ (s : State) (t : Nat), s.serverUp = true → s.log.unsent = [] →
    (s.bus.merge.all fun x => decide (max s.now t < x.2 + s.obj Obj.FB_EVENT_MERGE_MS * tickMs)) = true →
    exec (.eventMerge t) s = .next (s.advance t)) ∧
  (∀ (s v : State) (t : Nat) (x : Subscription) (r q : EvRec) (a b : Nat), s.serverUp = true → s.log.unsent = [] → s.bus.subs = [x] →
    x.auth = false → x.route = none → s.bus.txq.length < 32 → s.bus.merge = [(r, a), (q, b)] → evKey q < evKey r →
    a + s.obj Obj.FB_EVENT_MERGE_MS * tickMs ≤ max s.now t → subCovers x r = true → subCovers x q = true →
    v = { s with now := max s.now t, bus := { s.bus with merge := [], mergedTo := max s.bus.mergedTo (evKey r / 2 ^ 32) } } →
    exec (.eventMerge t) s = .next (v.sends 10 x.src ([2, 0, 0, 0] ++ evBytes q ++ evBytes r)))

/-- STORE writes a snapshot to the older slot. STORE of a snapshot that is too large is RANGE and writes nothing, one
while a write runs is BUSY; else the snapshot, with a sequence number one above the newer copy, goes to the older
slot and the state reads 1. When the write ends, the slot holds the copy if it verified, the state reads 2 or 3
and the event is logged. No other part changes. -/
def Obligations.StoredCopiesAreWritten : Prop :=
  (∀ (s v : State) (t : Nat) (rq : Req), s.serves t rq → v = s.atServer t rq →
    exec (.store t rq) s = .next (
      if 261120 < (snapshot v).bytes then v.answeredAs rq 11 .range []
      else if s.flash.writing.isSome = true then v.answeredAs rq 11 .busy []
      else State.answeredAs
        { v with
          flash := { (s.qspi (qspiWrite (storedAddr (olderSlot s)) (1024 + (snapshot v).bytes))).flash with
            writing := some (olderSlot s, snapshot v), copies := s.flash.copies.set (olderSlot s) none }
          dict := (v.setObj Obj.DICT_STORE_STATE 0 1).dict } rq 11 .ok []) ∧
    (∀ c ∈ newestCopy v, (snapshot v).seq = c.seq + 1)) ∧
  (∀ (s : State) (t : Nat) (good : Bool), s.flash.writing = none → exec (.storeWriteComplete t good) s = .next (s.advance t)) ∧
  (∀ (s : State) (t : Nat) (good : Bool) (i : Fin 2) (c : StoredCopy), s.flash.writing = some (i, c) →
    ∃ u, exec (.storeWriteComplete t good) s = .next u ∧
      u.flash = { (s.qspi [qspiRead (storedAddr i) (1024 + c.bytes)]).flash with
        writing := none, copies := if good then s.flash.copies.set i (some c) else s.flash.copies } ∧
      u.obj Obj.DICT_STORE_STATE = (if good then 2 else 3) ∧ s.objsBut u ((Obj.DICT_STORE_STATE, 0) :: logObjs) ∧
      u = { s with now := max s.now t, flash := u.flash, dict := u.dict, log := u.log, island := u.island })

/-- DISCOVER, heartbeats and roles keep the membership table. A manager answers a query with its own description, a
worker with NOT_MANAGER. A worker tracks a heartbeat from the tracked or a lower address and answers it, 10 µs times
its address later; a manager yields to a lower one. A response makes a row Present, Asleep or Conflict. A heartbeat is
broadcast at a whole second of device time and awaited; an unanswered one is a miss and the third makes the row
Absent. Without heartbeats for 3 s a worker has no manager, and a manager-capable one takes the role, as it does 3 s
after boot; every row is then Absent. -/
def Obligations.ManagersWorkersAndTheirRows : Prop :=
  (∀ (s : State) (t : Nat) (rq : Req) (w : Nat), s.serves t rq →
    exec (.discover t rq (.request 1 w)) s = .next (if s.bus.manager
      then (s.atServer t rq).answeredAs rq 13 .ok (discoverBytes (ownDiscover s false false s.pwr.state))
      else (s.atServer t rq).answeredAs rq 13 .notManager [])) ∧
  (∀ (s : State) (t : Nat) (rq : Req) (k w : Nat), s.serves t rq → 1 < k →
    exec (.discover t rq (.request k w)) s = .next ((s.atServer t rq).answeredAs rq 13 .range [])) ∧
  (∀ (s v : State) (t : Nat) (rq : Req) (w : Nat), s.receives t { rq with dst := s.bus.addr } → (rq.dst = 127 ∨ rq.dst = s.bus.addr) →
    s.obj Obj.FB_AUTH_MODE ≠ 1 → rq.waiting < 16 → s.bus.manager = false → rq.src < 64 → rq.src ≤ s.bus.tracked.getD 63 → rq.dst < 128 →
    v = s.atServer t rq →
    exec (.discover t rq (.request 0 w)) s = .next (State.answeredAs
      { v with
        bus := { v.bus with tracked := some rq.src, heardAt := max s.now t }
        island := { s.island with lastManager := rq.src } } rq 13 .ok (discoverBytes (ownDiscover s false false s.pwr.state))
      (max s.now t + 10 * tickUs * s.bus.addr))) ∧
  (∀ (s : State) (t : Nat) (rq : Req) (w m : Nat), s.receives t rq → s.obj Obj.FB_AUTH_MODE ≠ 1 → rq.waiting < 16 → s.bus.manager = false →
    s.bus.tracked = some m → m < rq.src →
    exec (.discover t rq (.request 0 w)) s = .next ((s.atServer t rq).answeredAs rq 13 .notManager [])) ∧
  (∀ (s : State) (t : Nat) (rq : Req) (w : Nat), s.receives t rq → s.obj Obj.FB_AUTH_MODE ≠ 1 → rq.waiting < 16 → s.bus.manager = true →
    s.bus.addr < rq.src → exec (.discover t rq (.request 0 w)) s = .next (s.atServer t rq)) ∧
  (∀ (s v : State) (t : Nat) (rq : Req) (w : Nat), s.receives t rq → s.obj Obj.FB_AUTH_MODE ≠ 1 → rq.waiting < 16 → s.bus.manager = true →
    rq.src < s.bus.addr → v = s.atServer t rq →
    ∃ u, exec (.discover t rq (.request 0 w)) s = .next u ∧ u.status = .ok ∧ u.bus.manager = false ∧ u.bus.tracked = some rq.src ∧
      u.bus.heardAt = max s.now t ∧ u.island.lastManager = rq.src ∧ u.bus.txq.length = s.bus.txq.length + 1 ∧
      s.objsBut u ((Obj.FB_FRAMES_RX, 0) :: logObjs) ∧
      u = { v with
        status := u.status, value := u.value, dict := u.dict, log := u.log, island := u.island
        bus := { v.bus with manager := false, tracked := some rq.src, heardAt := max s.now t, answered := u.bus.answered, txq := u.bus.txq } }) ∧
  (∀ (s : State) (t : Nat) (rq : Req) (serial rev pwr att seq ts : Nat) (cap mg safe join leaving : Bool), s.receives t rq →
    s.bus.manager = false →
    exec (.discover t rq (.response serial rev pwr cap mg safe join leaving att seq ts)) s = .next ((s.atFrame t).bump Obj.FB_FRAMES_RX)) ∧
  (∀ (s v : State) (t : Nat) (rq : Req) (m : Fin 64) (serial rev pwr att seq ts : Nat) (cap mg safe join : Bool), s.receives t rq →
    s.bus.manager = true → s.bus.subs = [] → m.val = rq.src →
    (s.bus.members[m].st = .absent ∨ ((s.bus.members[m].st = .present ∨ s.bus.members[m].st = .asleep) ∧ s.bus.members[m].serial = serial)) →
    v = s.atServer t rq →
    ∃ u, exec (.discover t rq (.response serial rev pwr cap mg safe join false att seq ts)) s = .next u ∧
      u.bus = { v.bus with members := s.bus.members.set m (rowPresent serial rev pwr cap safe att seq ((s.advance t).devTime / secU)) } ∧
      s.objsBut u ((Obj.FB_FRAMES_RX, 0) :: logObjs) ∧
      (s.bus.members[m].st = .present → u.log = v.log ∧ u.island = s.island) ∧
      u = { v with dict := u.dict, log := u.log, island := u.island, bus := u.bus }) ∧
  (∀ (s v : State) (t : Nat) (rq : Req) (m : Fin 64) (serial rev pwr att seq ts : Nat) (cap mg safe join : Bool), s.receives t rq →
    s.bus.manager = true → m.val = rq.src →
    (s.bus.members[m].st = .absent ∨ (s.bus.members[m].st ≠ .conflict ∧ s.bus.members[m].serial = serial)) → v = s.atServer t rq →
    ∃ u, exec (.discover t rq (.response serial rev pwr cap mg safe join true att seq ts)) s = .next u ∧
      u.bus = { v.bus with members := (s.bus.members.set m
        { rowPresent serial rev pwr cap safe att seq ((s.advance t).devTime / secU) with st := .asleep }) } ∧
      s.objsBut u ((Obj.FB_FRAMES_RX, 0) :: logObjs) ∧
      u = { v with dict := u.dict, log := u.log, island := u.island, bus := u.bus }) ∧
  (∀ (s v : State) (t : Nat) (rq : Req) (m : Fin 64) (serial rev pwr att seq ts : Nat) (cap mg safe join leaving : Bool), s.receives t rq →
    s.bus.manager = true → m.val = rq.src → (s.bus.members[m].st = .present ∨ s.bus.members[m].st = .asleep) →
    s.bus.members[m].serial ≠ serial → v = s.atServer t rq →
    ∃ u, exec (.discover t rq (.response serial rev pwr cap mg safe join leaving att seq ts)) s = .next u ∧
      u.bus = { v.bus with members := s.bus.members.set m { s.bus.members[m] with st := .conflict, misses := 0, answered := true } } ∧
      s.objsBut u ((Obj.FB_FRAMES_RX, 0) :: logObjs) ∧
      u = { v with dict := u.dict, log := u.log, island := u.island, bus := u.bus }) ∧
  (∀ (s : State) (t : Nat), (s.serverUp = false ∨ s.bus.manager = false ∨ wholeSecond (s.advance t) = false) → exec (.heartbeat t) s = .next (s.advance t)) ∧
  (∀ (s v : State) (t : Nat), s.serverUp = true → s.bus.manager = true → s.bus.sendAt = none → s.bus.heartbeatAt = none →
    s.bus.txq.length < 32 → s.obj Obj.FB_AUTH_MODE ≠ 1 → wholeSecond (s.advance t) = true → v = s.atBus t →
    exec (.heartbeat t) s = .next (State.sends { v with bus := { v.bus with
      heartbeatAt := some (max s.now t)
      members := s.bus.members.map fun r => if r.st = .present ∨ r.st = .conflict then { r with answered := false } else r } }
      13 127 ([0, 0, 0, 0] ++ beBytes 10 (time80 (s.advance t).devTime)))) ∧
  (∀ (s : State) (t h : Nat), s.bus.heartbeatAt = some h → max s.now t < h + tickS → exec (.heartbeatMiss t) s = .next (s.advance t)) ∧
  (∀ (s : State) (t h : Nat), s.bus.heartbeatAt = some h → h + tickS ≤ max s.now t → s.serverUp = true → s.bus.manager = true →
    ∃ u, exec (.heartbeatMiss t) s = .next u ∧ (∀ a : Fin 64, u.bus.members[a] = rowMissed s.bus.members[a]) ∧ s.objsBut u logObjs ∧
      u = { s with
        now := max s.now t, dict := u.dict, log := u.log, island := u.island
        bus := { s.bus with heartbeatAt := none, members := u.bus.members } }) ∧
  (∀ (s : State) (t m : Nat), s.bus.tracked = some m → max s.now t < s.bus.heardAt + 3 * tickS →
    exec (.managerLost t) s = .next (s.advance t)) ∧
  (∀ (s v : State) (t m : Nat), s.bus.tracked = some m → s.bus.heardAt + 3 * tickS ≤ max s.now t → s.serverUp = true → s.bus.manager = false →
    s.busQuiet → v = s.atBus t →
    ∃ u, exec (.managerLost t) s = .next u ∧ s.objsBut u logObjs ∧
      u.bus = (if s.bus.mgrCapable
        then { v.bus with tracked := none, manager := true, members := Vector.replicate 64 Member.init, heartbeatAt := none }
        else { v.bus with tracked := none }) ∧
      u = { v with dict := u.dict, log := u.log, island := u.island, bus := u.bus }) ∧
  (∀ (s v : State) (t : Nat), s.serverUp = true → s.bus.mgrCapable = true → s.bus.manager = false → lowerHeard s.bus = false →
    s.pwr.freshAt + 3 * tickS ≤ max s.now t → s.busQuiet → v = s.atBus t →
    ∃ u, exec (.managerRoleTimeout t) s = .next u ∧ s.objsBut u logObjs ∧
      u.bus = { v.bus with tracked := none, manager := true, members := Vector.replicate 64 Member.init, heartbeatAt := none } ∧
      u = { v with dict := u.dict, log := u.log, island := u.island, bus := u.bus }) ∧
  (∀ (s : State) (t : Nat), (s.bus.mgrCapable = false ∨ s.bus.manager = true ∨ lowerHeard s.bus = true ∨ max s.now t < s.pwr.freshAt + 3 * tickS) →
    exec (.managerRoleTimeout t) s = .next (s.advance t))

/-- A manager forwards a request once and answers for it. A worker answers FORWARD with NOT_MANAGER. A manager
refuses target 127, an inner FORWARD or no message with RANGE, an Absent row with UNREACHABLE, one in Conflict
with STATE, and more than 16 or 64 with BUSY; its own address is served at once. Else the inner message goes out
with its own source and TXN_ID. The inner response is relayed with the host's; a late one is discarded. No
response in time is TIMEOUT and counted; an Asleep row is sent to again once Present, or is UNREACHABLE when the
wait is over. -/
def Obligations.ForwardsAndTheirAnswers : Prop :=
  (∀ (s : State) (t : Nat) (rq : Req) (a : Nat) (x : Bytes), s.serves t rq → a < 256 → x.length ≤ 1476 → s.bus.manager = false →
    exec (.forward t rq a x) s = .next ((s.atServer t rq).answeredAs rq 14 .notManager [])) ∧
  (∀ (s : State) (t : Nat) (rq : Req) (a : Nat) (x : Bytes), s.serves t rq → a < 256 → x.length ≤ 1476 → s.bus.manager = true →
    (127 ≤ a ∨ (∀ h ∈ vdpHeader x, h.svc = 14 ∨ h.resp = true)) →
    exec (.forward t rq a x) s = .next ((s.atServer t rq).answeredAs rq 14 .range [])) ∧
  (∀ (s : State) (t : Nat) (rq : Req) (a : Nat) (x : Bytes) (h : Vdp), s.serves t rq → a < 127 → x.length ≤ 1476 → s.bus.manager = true →
    a ≠ s.bus.addr → vdpHeader x = some h → h.svc ≠ 14 → h.resp = false →
    (64 ≤ a ∨ s.bus.members[Fin.ofNat 64 a].st = .absent ∨ s.bus.members[Fin.ofNat 64 a].st = .conflict ∨ 64 ≤ s.bus.forwards.length) →
    exec (.forward t rq a x) s = .next ((s.atServer t rq).answeredAs rq 14
      (if 64 ≤ a ∨ s.bus.members[Fin.ofNat 64 a].st = .absent then .unreachable
       else if s.bus.members[Fin.ofNat 64 a].st = .conflict then .state else .busy) [])) ∧
  (∀ (s v : State) (t : Nat) (rq : Req) (m : Fin 64) (x : Bytes) (h : Vdp), s.serves t rq → x.length ≤ 1476 → s.bus.manager = true →
    m.val ≠ s.bus.addr → vdpHeader x = some h → h.svc ≠ 14 → h.resp = false → h.auth = false →
    (s.bus.members[m].st = .present ∨ s.bus.members[m].st = .asleep) → s.bus.forwards.length < 16 → v = s.atServer t rq →
    exec (.forward t rq m.val x) s = .next (State.sends { v with bus := { v.bus with
      forwards := s.bus.forwards ++ [{
        req := rq, route := none, target := m.val, innerTxn := s.bus.nextTxn, inner := x, sentAt := max s.now t
        waking := s.bus.members[m].st == .asleep }] } } h.svc m.val (vdpBody h x))) ∧
  (∀ (s : State) (t : Nat) (rq : Req) (x : Bytes) (h : Vdp), s.serves t rq → x.length ≤ 1476 → s.bus.manager = true → s.bus.addr < 64 →
    vdpHeader x = some h → h.svc = 1 → h.resp = false → h.auth = false → vdpBody h x = [0x11, 0x08, 0, 0] →
    exec (.forward t rq s.bus.addr x) s = .next ((s.atServer t rq).answeredAs rq 14 .ok
      (answerMsg s.bus.addr { rq with src := h.src, txn := h.txn } 1 .ok (beBytes 2 (s.obj Obj.FB_WAKE_WAIT_MS))))) ∧
  (∀ (s v : State) (t : Nat) (rq : Req) (y : Bytes) (f : Forward) (h g : Vdp), s.serverUp = true → s.bus.manager = true → s.busQuiet →
    innerWf rq y = true → vdpHeader y = some h → h.auth = false → h.dst = s.bus.addr → h.src ≠ s.bus.addr → s.bus.forwards = [f] →
    f.target = h.src → f.innerTxn = h.txn → vdpHeader f.inner = some g → g.auth = false → f.req.auth = false → f.req.inband = false →
    f.route = none → y.length ≤ 1480 → s.bus.txq.length < 32 → v = s.atServer t rq →
    exec (.innerResponse t rq y) s = .next (State.answeredAs { v with bus := { v.bus with forwards := [] } } f.req 14 .ok
      (vdpBytes { resp := true, auth := false, svc := g.svc, length := 20 + (vdpBody h y).length, dst := g.src, src := h.src,
                  status := h.status, txn := g.txn, counter := 0 } ++ vdpBody h y))) ∧
  (∀ (s : State) (t : Nat) (rq : Req) (y : Bytes) (h : Vdp), s.serverUp = true → s.bus.manager = true → s.busQuiet →
    innerWf rq y = true → vdpHeader y = some h → h.auth = false → h.dst = s.bus.addr → h.src ≠ s.bus.addr →
    (s.bus.forwards.all fun f => f.target != h.src || f.innerTxn != h.txn) = true →
    exec (.innerResponse t rq y) s = .next (s.atServer t rq)) ∧
  (∀ (s : State) (t : Nat) (rq : Req) (y : Bytes), innerWf rq y = true → s.serverUp = false →
    exec (.innerResponse t rq y) s = .next (s.advance t) ∧ exec (.fbFwdTimeout t) s = .next (s.advance t) ∧
    exec (.fbWakeWait t) s = .next (s.advance t)) ∧
  (∀ (s : State) (t : Nat), s.serverUp = true → s.busQuiet →
    (s.bus.forwards.all fun f => f.waking || decide (max s.now t < f.sentAt + s.obj Obj.FB_FWD_TIMEOUT_MS * tickMs)) = true →
    exec (.fbFwdTimeout t) s = .next (s.atBus t)) ∧
  (∀ (s v : State) (t : Nat) (f : Forward), s.serverUp = true → s.busQuiet → s.bus.forwards = [f] → f.waking = false →
    f.sentAt + s.obj Obj.FB_FWD_TIMEOUT_MS * tickMs ≤ max s.now t → f.req.auth = false → f.route = none → s.bus.txq.length < 32 →
    v = (s.atBus t).bump Obj.FB_FWD_TIMEOUTS →
    exec (.fbFwdTimeout t) s = .next (State.answeredAs { v with bus := { v.bus with forwards := [] } } f.req 14 .timeout [])) ∧
  (∀ (s : State) (t : Nat), s.serverUp = true → s.busQuiet →
    (s.bus.forwards.all fun f => !f.waking || (decide (targetState s f ≠ .present) &&
      decide (max s.now t < f.sentAt + s.obj Obj.FB_WAKE_WAIT_MS * tickMs))) = true →
    exec (.fbWakeWait t) s = .next (s.atBus t)) ∧
  (∀ (s v : State) (t : Nat) (f : Forward), s.serverUp = true → s.busQuiet → s.bus.forwards = [f] → f.waking = true →
    targetState s f ≠ .present → f.sentAt + s.obj Obj.FB_WAKE_WAIT_MS * tickMs ≤ max s.now t → f.req.auth = false → f.route = none →
    s.bus.txq.length < 32 → v = s.atBus t →
    exec (.fbWakeWait t) s = .next (State.answeredAs { v with bus := { v.bus with forwards := [] } } f.req 14 .unreachable [])) ∧
  (∀ (s v : State) (t : Nat) (f : Forward) (h : Vdp), s.serverUp = true → s.busQuiet → s.bus.forwards = [f] → f.waking = true →
    targetState s f = .present → vdpHeader f.inner = some h → h.auth = false → s.bus.txq.length < 32 → v = s.atBus t →
    exec (.fbWakeWait t) s = .next { v with bus := { v.bus with
      forwards := [{ f with waking := false, sentAt := max s.now t }]
      txq := s.bus.txq ++ [{ urgent := false, dst := f.target, msg := ownMsg s.bus.addr h.svc f.target f.innerTxn (vdpBody h f.inner) }] } })

/-- A frame is sent, collides and is received as the medium allows. With the bus free for 96 bit times, the frame that is
being retried starts, else the oldest response, else the oldest frame. Its end is counted. A collision, which is seen in
a half-cell that the frame drives high and at most 20 ns after it, is counted and, after a jam of 32 bits, backs off by
r slot times, r drawn below 2 to the power min(n, 10); the sixteenth drops the frame. Another half-cell shows none. A received
frame of a wrong length, type or address is discarded; a wrong FCS and a wrong format are counted; a request is
served; the package's own source address is logged as a conflict. -/
def Obligations.FramesOnTheFieldBus : Prop :=
  (∀ (s : State) (t : Nat), busOn s = false → s.bus.sendAt = none → exec (.fbTransmit t) s = .next (s.advance t)) ∧
  (∀ (s : State) (t : Nat), s.serverUp = true → s.busQuiet → (s.bus.backoffUntil ≠ none ∨ max s.now t < s.bus.freeAt + 960 * tickNs ∨ (s.bus.sending = none ∧ s.bus.txq = [])) →
    exec (.fbTransmit t) s = .next (s.atBus t)) ∧
  (∀ (s v : State) (t : Nat) (f : BusFrame), s.serverUp = true → s.busQuiet → s.bus.backoffUntil = none → s.bus.freeAt + 960 * tickNs ≤ max s.now t → s.bus.sending = none →
    (s.bus.txq.find? fun x => x.urgent && decide (x.from0 ≤ max s.now t)) = some f → v = s.atBus t →
    exec (.fbTransmit t) s = .next { v with bus := { v.bus with
      sending := some f, sendAt := some (max s.now t), txq := s.bus.txq.erase f } }) ∧
  (∀ (s v : State) (t : Nat) (f : BusFrame) (l : List BusFrame), s.serverUp = true → s.busQuiet → s.bus.backoffUntil = none →
    s.bus.freeAt + 960 * tickNs ≤ max s.now t → f.from0 ≤ max s.now t →
    s.bus.sending = none → s.bus.txq = f :: l → ((f :: l).all fun x => !x.urgent) = true → v = s.atBus t →
    exec (.fbTransmit t) s = .next { v with bus := { v.bus with sending := some f, sendAt := some (max s.now t), txq := l } }) ∧
  (∀ (s v : State) (t : Nat) (f : BusFrame), s.serverUp = true → s.busQuiet → s.bus.backoffUntil = none → s.bus.freeAt + 960 * tickNs ≤ max s.now t → s.bus.sending = some f →
    v = s.atBus t → exec (.fbTransmit t) s = .next { v with bus := { v.bus with sendAt := some (max s.now t) } }) ∧
  (∀ (s v : State) (t a : Nat) (f : BusFrame), s.serverUp = true → s.bus.sending = some f → s.bus.sendAt = some a →
    a + busTicks f.msg ≤ max s.now t → s.bus.txq = [] → s.log.unsent = [] → v = s.atBus t →
    exec (.fbTransmit t) s = .next { v with
      dict := (s.bump Obj.FB_FRAMES_TX).dict, bus := { v.bus with sending := none, sendAt := none, collisions := 0, freeAt := a + busTicks f.msg } }) ∧
  (∀ (s : State) (t half : Nat), s.bus.sendAt = none → exec (.fbCollision t half) s = .next (s.advance t)) ∧
  (∀ (s : State) (t a half : Nat) (f : BusFrame), s.bus.sending = some f → s.bus.sendAt = some a → max s.now t < a + busTicks f.msg →
    ((busLevels (busFrame s f.dst f.msg)).getD half false = false ∨ max s.now t < a + (half + 1) * 5 * tickNs ∨
      a + ((half + 1) * 5 + 20) * tickNs < max s.now t) →
    exec (.fbCollision t half) s = .next (s.advance t)) ∧
  (∀ (s : State) (t a n half : Nat) (f : BusFrame), s.bus.sending = some f → s.bus.sendAt = some a →
    (busLevels (busFrame s f.dst f.msg)).getD half false = true → a + (half + 1) * 5 * tickNs ≤ max s.now t →
    max s.now t ≤ a + ((half + 1) * 5 + 20) * tickNs → n = s.bus.collisions + 1 → n < 16 →
    ∃ u, exec (.fbCollision t half) s = .next u ∧ s.counted u Obj.FB_COLLISIONS 0 1 ∧
      (1024 ≤ half → s.counted u Obj.FB_LATE_COLLISIONS 0 1) ∧
      (half < 1024 → u.obj Obj.FB_LATE_COLLISIONS = s.obj Obj.FB_LATE_COLLISIONS) ∧
      s.objsBut u [(Obj.FB_COLLISIONS, 0), (Obj.FB_LATE_COLLISIONS, 0)] ∧
      u = { s with
        now := max s.now t, draws := s.draws + 1, dict := u.dict
        bus := { s.bus with
          collisions := n, sendAt := none, freeAt := max s.now t + 320 * tickNs
          backoffUntil := some (max s.now t + 320 * tickNs + (Config.random s.draws % 2 ^ min n 10) * (5120 * tickNs)) } }) ∧
  (∀ (s : State) (t a half : Nat) (f : BusFrame), s.bus.sending = some f → s.bus.sendAt = some a →
    (busLevels (busFrame s f.dst f.msg)).getD half false = true → a + (half + 1) * 5 * tickNs ≤ max s.now t →
    max s.now t ≤ a + ((half + 1) * 5 + 20) * tickNs → 15 ≤ s.bus.collisions →
    ∃ u, exec (.fbCollision t half) s = .next u ∧ s.counted u Obj.FB_COLLISIONS 0 1 ∧ s.counted u Obj.FB_EXCESS_COLLISIONS 0 1 ∧
      s.objsBut u ([(Obj.FB_COLLISIONS, 0), (Obj.FB_LATE_COLLISIONS, 0), (Obj.FB_EXCESS_COLLISIONS, 0)] ++ logObjs) ∧
      u = { s with
        now := max s.now t, dict := u.dict, log := u.log, island := u.island
        bus := { s.bus with sending := none, sendAt := none, collisions := 0, freeAt := max s.now t + 320 * tickNs } }) ∧
  (∀ (s : State) (t : Nat), s.bus.backoffUntil = none → exec (.fbBackoff t) s = .next (s.advance t)) ∧
  (∀ (s : State) (t a : Nat), s.bus.backoffUntil = some a →
    exec (.fbBackoff t) s = .next { s with
      now := max s.now t, bus := { s.bus with backoffUntil := if a ≤ max s.now t then none else some a } }) ∧
  (∀ (s : State) (t : Nat) (x : Bytes), x.length ≤ 16384 → s.serverUp = false → exec (.fbFrameReceived t x) s = .next (s.advance t)) ∧
  (∀ (s : State) (t : Nat) (x : Bytes), x.length ≤ 16384 → s.serverUp = true → s.busQuiet → (x.length < 64 ∨ 1518 < x.length) →
    exec (.fbFrameReceived t x) s = .next (s.atFrame t)) ∧
  (∀ (s : State) (t : Nat) (x : Bytes), 64 ≤ x.length → x.length ≤ 1518 → s.serverUp = true → s.busQuiet → fcsGood x = false →
    exec (.fbFrameReceived t x) s = .next ((s.atFrame t).bump Obj.FB_FCS_ERRORS)) ∧
  (∀ (s : State) (t : Nat) (x : Bytes), 64 ≤ x.length → x.length ≤ 1518 → s.serverUp = true → s.busQuiet → fcsGood x = true →
    (beAt x 12 2 ≠ s.obj Obj.FB_ETHERTYPE ∨ (x.take 6 ≠ nodeMac s.bus.addr ∧ x.take 6 ≠ List.replicate 6 0xFF)) →
    exec (.fbFrameReceived t x) s = .next (s.atFrame t)) ∧
  (∀ (s : State) (t : Nat) (x y : Bytes), 64 ≤ x.length → x.length ≤ 1518 → s.serverUp = true → s.busQuiet → fcsGood x = true →
    beAt x 12 2 = s.obj Obj.FB_ETHERTYPE → x.take 6 = nodeMac s.bus.addr → (x.drop 6).take 6 ≠ nodeMac s.bus.addr →
    y = ((x.take (x.length - 4)).drop 14) → vdpHeader y = none →
    exec (.fbFrameReceived t x) s = .next (((s.atFrame t).bump Obj.FB_FRAMES_RX).bump Obj.VDP_FORMAT_ERRORS)) ∧
  (∀ (s : State) (t : Nat) (x y : Bytes) (h : Vdp), 64 ≤ x.length → x.length ≤ 1518 → s.serverUp = true → s.busQuiet → fcsGood x = true →
    beAt x 12 2 = s.obj Obj.FB_ETHERTYPE → x.take 6 = nodeMac s.bus.addr → (x.drop 6).take 6 ≠ nodeMac s.bus.addr →
    y = ((x.take (x.length - 4)).drop 14) → vdpHeader y = some h → h.dst = s.bus.addr → h.resp = false → h.auth = false → h.svc = 1 →
    vdpBody h y = [0x11, 0x08, 0, 0] → s.obj Obj.FB_AUTH_MODE ≠ 1 → workerRefuses s h.src none = false → s.bus.answered = [] →
    s.bus.txq.length < 32 →
    exec (.fbFrameReceived t x) s = .next ((s.atServer t (reqOf h y 0)).answeredAs (reqOf h y 0) 1 .ok
      (beBytes 2 (s.obj Obj.FB_WAKE_WAIT_MS)))) ∧
  (∀ (s v : State) (t : Nat) (x y : Bytes), 64 ≤ x.length → x.length ≤ 1518 → s.serverUp = true → s.busQuiet → fcsGood x = true →
    beAt x 12 2 = s.obj Obj.FB_ETHERTYPE → x.take 6 = nodeMac s.bus.addr → (x.drop 6).take 6 = nodeMac s.bus.addr →
    y = ((x.take (x.length - 4)).drop 14) → vdpHeader y = none → v = s.atFrame t →
    ∃ u, exec (.fbFrameReceived t x) s = .next u ∧ s.counted u Obj.FB_FRAMES_RX 0 1 ∧ s.counted u Obj.VDP_FORMAT_ERRORS 0 1 ∧
      s.objsBut u ([(Obj.FB_FRAMES_RX, 0), (Obj.VDP_FORMAT_ERRORS, 0)] ++ logObjs) ∧
      (bitAt (s.row Obj.EVT_SOURCE_TABLE Ev.ADDR_CONFLICT) 63 = true → s.log.ring = [] →
        (u.log.ring.map fun e => (e.source, e.p0)) = [(s.bus.addr * 1024 + Ev.ADDR_CONFLICT, s.bus.addr)]) ∧
      u = { v with dict := u.dict, log := u.log, island := u.island })

/-- A frame goes to the active cluster and the engine with the most free threads. The dispatcher's choice for a
region is an active cluster of the region with a free thread, none of the region's other active clusters having
more free threads, and none of those with as many having a lower number; and likewise an engine of that cluster.
A frame that takes its context takes it there. Where no active cluster of the region has a free thread there is
no choice. -/
def Obligations.DispatcherPicksTheFreestCluster : Prop :=
  (∀ (s : State) (r c e : Nat), pickThread s r = some (c, e) → c < 64 ∧ c / 8 = r ∧ clusterUse s c < 64 ∧ e < 8 ∧
    (∀ k : Fin 64, k.val = c → s.pwr.clusters[k] = .active) ∧
    (∀ k : Fin 64, s.pwr.clusters[k] = .active → k.val / 8 = r →
      64 - clusterUse s k.val ≤ 64 - clusterUse s c ∧ (64 - clusterUse s k.val = 64 - clusterUse s c → c ≤ k.val)) ∧
    (∀ k : Fin 8, 8 - engineUse s c k.val ≤ 8 - engineUse s c e ∧ (8 - engineUse s c k.val = 8 - engineUse s c e → e ≤ k.val))) ∧
  (∀ (s : State) (r : Nat), (pickThread s r = none ↔
    ∀ k : Fin 64, s.pwr.clusters[k] = .active → k.val / 8 = r → 64 ≤ clusterUse s k.val)) ∧
  (∀ (s : State) (i c e : Nat) (f : Frame), s.frame? i = some f → pickThread s f.region = some (c, e) →
    ((takeContext i s).frame? i).map (fun g => (g.cluster, g.engine, g.stage)) = some (c, e, .parsing))

/-- TIME_SET sets device time and the selected clock in Free-run, and is STATE elsewhere. A write of TIME_SET outside
Free-run ends with STATE and changes nothing. In Free-run, device time and the selected domain's clock hold the
value written, the correction is 0 and that domain's open pair is gone; the other domain is as before. Both hold
for the command and for a WRITE of the object. -/
def Obligations.TimeSetActsInFreeRunOnly : Prop :=
  (∀ (s : State) (t sec ns : Nat), s.serverUp = true → ns ≤ 999999999 → sec < 2 ^ 48 → s.time.doms[s.time.selected].state ≠ .freeRun →
    exec (.timeSet t sec ns) s = .next { s with now := max s.now t, status := .state }) ∧
  (∀ (s : State) (t sec ns : Nat), s.serverUp = true → ns ≤ 999999999 → sec < 2 ^ 48 → s.time.doms[s.time.selected].state = .freeRun →
    ∃ u, exec (.timeSet t sec ns) s = .next u ∧ u.status = .ok ∧ u.devTime = sec * secU + ns * nsU ∧ u.time.selected = s.time.selected ∧
      clockAt u.time.doms[s.time.selected].clk u.now = sec * secU + ns * nsU ∧ u.deltaAtTime u.now = 0 ∧
      u.time.doms[s.time.selected].pair = none ∧ (∀ y : Fin 2, y ≠ s.time.selected → u.time.doms[y] = s.time.doms[y])) ∧
  (∀ (s : State) (t : Nat) (rq : Req) (x : Bytes), s.serves t rq → x.length = 10 → beNat x % 2 ^ 32 ≤ 999999999 →
    s.time.doms[s.time.selected].state ≠ .freeRun →
    exec (.write t rq Obj.TIME_SET 0 x) s = .next ((s.atServer t rq).answeredAs rq 2 .state [])) ∧
  (∀ (s : State) (t sec ns : Nat) (rq : Req) (x : Bytes), s.serves t rq → x.length = 10 → beNat x = sec * 2 ^ 32 + ns → ns ≤ 999999999 →
    s.time.doms[s.time.selected].state = .freeRun →
    ∃ u, exec (.write t rq Obj.TIME_SET 0 x) s = .next u ∧ u.status = .ok ∧ u.devTime = sec * secU + ns * nsU ∧
      clockAt u.time.doms[s.time.selected].clk u.now = sec * secU + ns * nsU ∧ u.deltaAtTime u.now = 0 ∧
      u.time.doms[s.time.selected].pair = none ∧ (∀ y : Fin 2, y ≠ s.time.selected → u.time.doms[y] = s.time.doms[y]))

/-- Authentication cannot be switched on without the key, nor used to lock the host out. A write of 1 to FB_AUTH_MODE
ends with STATE unless the blob state shows the array key installed, and is accepted if it does. While the mode
is 1 and the key is not installed, requests without a code are served only if they are a READ, a WRITE of
CIPH_ARRAY_KEY_BLOB or a WRITE of FB_AUTH_MODE; every other request is answered with AUTH and has no effect. -/
def Obligations.WithoutTheArrayKeyThreeRequestsAreAccepted : Prop :=
  (∀ (s : State) (t : Nat) (rq : Req), s.receives t rq → workerRefuses s rq.src none = false → rq.waiting < 16 →
    (s.obj Obj.FB_AUTH_MODE ≠ 1 ∨ s.ciph.slots[(241 : Fin 256)].st ≠ .valid) → s.serverUp = true →
    exec (.write t rq Obj.FB_AUTH_MODE 0 [1]) s = .next (
      if s.ciph.blobState[(1 : Fin 3)] = 1 then ((s.atServer t rq).setObj Obj.FB_AUTH_MODE 0 1).answeredAs rq 2 .ok []
      else (s.atServer t rq).answeredAs rq 2 .state []) ∧
    exec (.fbAuthMode t 1) s = .next (if s.ciph.blobState[(1 : Fin 3)] = 1
      then { s with now := max s.now t, status := .ok, dict := (s.setObj Obj.FB_AUTH_MODE 0 1).dict }
      else { s with now := max s.now t, status := .state })) ∧
  (∀ (s : State) (t i j : Nat) (rq : Req), s.receives t rq → workerRefuses s rq.src none = false → rq.waiting < 16 →
    s.obj Obj.FB_AUTH_MODE = 1 → s.ciph.slots[(241 : Fin 256)].st ≠ .valid → i < 65536 → j < 256 →
    ∃ u, exec (.read t rq i j) s = .next u ∧ u.status ≠ .auth) ∧
  (∀ (s : State) (t : Nat) (rq : Req) (d : Bytes), s.receives t rq → workerRefuses s rq.src none = false → rq.waiting < 16 →
    s.obj Obj.FB_AUTH_MODE = 1 → s.ciph.slots[(241 : Fin 256)].st ≠ .valid → d.length = 40 →
    exec (.write t rq Obj.FB_AUTH_MODE 0 [0]) s = .next (((s.atServer t rq).setObj Obj.FB_AUTH_MODE 0 0).answeredAs rq 2 .ok []) ∧
    exec (.write t rq Obj.CIPH_ARRAY_KEY_BLOB 0 d) s = .next (State.answeredAs
      { s.atServer t rq with
        flash := { (s.qspi (qspiWrite (blobAddr 1) 40)).flash with blobs := s.flash.blobs.set 1 d }
        ciph := { s.ciph with blobRun := s.ciph.blobRun.set 1 (some (max s.now t)) } } rq 2 .ok [])) ∧
  (∀ (s : State) (t i j : Nat) (rq : Req) (d : Bytes), s.receives t rq → s.obj Obj.FB_AUTH_MODE = 1 →
    s.ciph.slots[(241 : Fin 256)].st ≠ .valid → i < 65536 → j < 256 → d.length ≤ 9000 → i ≠ Obj.FB_AUTH_MODE → i ≠ Obj.CIPH_ARRAY_KEY_BLOB →
    exec (.write t rq i j d) s = .next ((s.atServer t rq).answeredAs rq 2 .auth [])) ∧
  (∀ (s : State) (t i f n j k h g : Nat) (rq : Req) (l : List (Nat × Nat)) (d : Bytes), s.receives t rq → s.obj Obj.FB_AUTH_MODE = 1 →
    s.ciph.slots[(241 : Fin 256)].st ≠ .valid → i < 65536 → j < 256 → k < 256 → f < 2 ^ 32 → n < 65536 → g < 2 ^ 32 → h < 65536 →
    d.length ≤ 9000 → l.length < 256 → (l.all fun x => decide (x.1 < 65536) && decide (x.2 < 256)) = true →
    exec (.readMulti t rq l) s = .next ((s.atServer t rq).answeredAs rq 3 .auth []) ∧
    exec (.tableRead t rq i f n) s = .next ((s.atServer t rq).answeredAs rq 4 .auth []) ∧
    exec (.tableWrite t rq i f n d) s = .next ((s.atServer t rq).answeredAs rq 5 .auth []) ∧
    exec (.segBegin t rq i j k f) s = .next ((s.atServer t rq).answeredAs rq 6 .auth []) ∧
    exec (.segData t rq h g d) s = .next ((s.atServer t rq).answeredAs rq 7 .auth []) ∧
    exec (.segEnd t rq h g) s = .next ((s.atServer t rq).answeredAs rq 8 .auth []) ∧
    exec (.subscribe t rq h n k) s = .next ((s.atServer t rq).answeredAs rq 9 .auth []) ∧
    exec (.store t rq) s = .next ((s.atServer t rq).answeredAs rq 11 .auth []) ∧
    exec (.restore t rq k) s = .next ((s.atServer t rq).answeredAs rq 12 .auth []) ∧
    exec (.discover t rq (.request k g)) s = .next ((s.atServer t rq).answeredAs rq 13 .auth []) ∧
    exec (.forward t rq j d) s = .next ((s.atServer t rq).answeredAs rq 14 .auth []))

/-- RESTORE 0, 1 and 2 act on the next boots only. Mode 0 sets the flag in retention SRAM that makes the next boot
use the default of every object, and keeps the stored copies; mode 1 clears it; mode 2 erases both copies; every
other mode is RANGE. No value now in force changes. The dictionary step of a boot with the flag set restores
nothing, keeps the copies and clears the flag, and one without a stored copy restores nothing either. -/
def Obligations.RestoreSelectsWhatTheNextBootUses : Prop :=
  (∀ (s v : State) (t : Nat) (rq : Req), s.serves t rq → v = s.atServer t rq →
    exec (.restore t rq 0) s = .next (State.answeredAs { v with island := { s.island with defaultsOnce := true } } rq 12 .ok []) ∧
    exec (.restore t rq 1) s = .next (State.answeredAs { v with island := { s.island with defaultsOnce := false } } rq 12 .ok []) ∧
    exec (.restore t rq 2) s = .next (State.answeredAs
      { v with
        flash := { (s.qspi [qspiErase (storedAddr 0) 0x40000, qspiErase (storedAddr 1) 0x40000]).flash with
          copies := Vector.replicate 2 none } } rq 12 .ok [])) ∧
  (∀ (s : State) (t : Nat) (rq : Req) (m : Nat), s.serves t rq → m < 256 → 2 < m →
    exec (.restore t rq m) s = .next ((s.atServer t rq).answeredAs rq 12 .range [])) ∧
  (∀ (s : State) (t : Nat), s.pwr.phase = .boot 7 → (s.island.defaultsOnce = true ∨ s.flash.copies = Vector.replicate 2 none) →
    ∃ u, exec (.bootStepComplete t .ok) s = .next u ∧ u.island.defaultsOnce = false ∧ u.flash.copies = s.flash.copies ∧
      s.objsBut u ([(Obj.CIPH_BLOB_UNWRAP_FAILS, 0), (Obj.CIPH_KEYS_ERASED, 0)] ++ logObjs ++ hopObjs) ∧ s.tabsBut u [Obj.HOP_OWNER_TABLE])
end

