-- ==== Sys2Proof/Laws/State.lean ====
section
/-! SUPPORT. What each update of the state leaves, field by field. -/
namespace Sys2Proof.Machine

/-! ### advance -/

@[simp] theorem State.advance_pending (s : State) (t : Nat) : (s.advance t).pending = s.pending := rfl
@[simp] theorem State.advance_draws (s : State) (t : Nat) : (s.advance t).draws = s.draws := rfl
@[simp] theorem State.advance_status (s : State) (t : Nat) : (s.advance t).status = s.status := rfl
@[simp] theorem State.advance_value (s : State) (t : Nat) : (s.advance t).value = s.value := rfl
@[simp] theorem State.advance_dict (s : State) (t : Nat) : (s.advance t).dict = s.dict := rfl
@[simp] theorem State.advance_tab (s : State) (t : Nat) : (s.advance t).tab = s.tab := rfl
@[simp] theorem State.advance_il (s : State) (t : Nat) : (s.advance t).il = s.il := rfl
@[simp] theorem State.advance_time (s : State) (t : Nat) : (s.advance t).time = s.time := rfl
@[simp] theorem State.advance_ciph (s : State) (t : Nat) : (s.advance t).ciph = s.ciph := rfl
@[simp] theorem State.advance_pwr (s : State) (t : Nat) : (s.advance t).pwr = s.pwr := rfl
@[simp] theorem State.advance_bus (s : State) (t : Nat) : (s.advance t).bus = s.bus := rfl
@[simp] theorem State.advance_log (s : State) (t : Nat) : (s.advance t).log = s.log := rfl
@[simp] theorem State.advance_cap (s : State) (t : Nat) : (s.advance t).cap = s.cap := rfl
@[simp] theorem State.advance_mon (s : State) (t : Nat) : (s.advance t).mon = s.mon := rfl
@[simp] theorem State.advance_jtag (s : State) (t : Nat) : (s.advance t).jtag = s.jtag := rfl
@[simp] theorem State.advance_rx (s : State) (t : Nat) : (s.advance t).rx = s.rx := rfl
@[simp] theorem State.advance_act (s : State) (t : Nat) : (s.advance t).act = s.act := rfl
@[simp] theorem State.advance_us (s : State) (t : Nat) : (s.advance t).us = s.us := rfl
@[simp] theorem State.advance_bond (s : State) (t : Nat) : (s.advance t).bond = s.bond := rfl
@[simp] theorem State.advance_nextFid (s : State) (t : Nat) : (s.advance t).nextFid = s.nextFid := rfl
@[simp] theorem State.advance_frames (s : State) (t : Nat) : (s.advance t).frames = s.frames := rfl
@[simp] theorem State.advance_usq (s : State) (t : Nat) : (s.advance t).usq = s.usq := rfl
@[simp] theorem State.advance_cpuq (s : State) (t : Nat) : (s.advance t).cpuq = s.cpuq := rfl
@[simp] theorem State.advance_latchedReports (s : State) (t : Nat) : (s.advance t).latchedReports = s.latchedReports := rfl
@[simp] theorem State.advance_oldRows (s : State) (t : Nat) : (s.advance t).oldRows = s.oldRows := rfl
@[simp] theorem State.advance_flumeIn (s : State) (t : Nat) : (s.advance t).flumeIn = s.flumeIn := rfl
@[simp] theorem State.advance_rules (s : State) (t : Nat) : (s.advance t).rules = s.rules := rfl
@[simp] theorem State.advance_hop (s : State) (t : Nat) : (s.advance t).hop = s.hop := rfl
@[simp] theorem State.advance_arb (s : State) (t : Nat) : (s.advance t).arb = s.arb := rfl
@[simp] theorem State.advance_nextOrd (s : State) (t : Nat) : (s.advance t).nextOrd = s.nextOrd := rfl
@[simp] theorem State.advance_mailbox (s : State) (t : Nat) : (s.advance t).mailbox = s.mailbox := rfl
@[simp] theorem State.advance_accepted (s : State) (t : Nat) : (s.advance t).accepted = s.accepted := rfl
@[simp] theorem State.advance_lastUndo (s : State) (t : Nat) : (s.advance t).lastUndo = s.lastUndo := rfl
@[simp] theorem State.advance_undoneNow (s : State) (t : Nat) : (s.advance t).undoneNow = s.undoneNow := rfl
@[simp] theorem State.advance_quotaShort (s : State) (t : Nat) : (s.advance t).quotaShort = s.quotaShort := rfl
@[simp] theorem State.advance_quotaShortAt (s : State) (t : Nat) : (s.advance t).quotaShortAt = s.quotaShortAt := rfl
@[simp] theorem State.advance_sch (s : State) (t : Nat) : (s.advance t).sch = s.sch := rfl
@[simp] theorem State.advance_lanes (s : State) (t : Nat) : (s.advance t).lanes = s.lanes := rfl
@[simp] theorem State.advance_ports (s : State) (t : Nat) : (s.advance t).ports = s.ports := rfl
@[simp] theorem State.advance_prbs (s : State) (t : Nat) : (s.advance t).prbs = s.prbs := rfl
@[simp] theorem State.advance_cli (s : State) (t : Nat) : (s.advance t).cli = s.cli := rfl
@[simp] theorem State.advance_pm (s : State) (t : Nat) : (s.advance t).pm = s.pm := rfl
@[simp] theorem State.advance_compat (s : State) (t : Nat) : (s.advance t).compat = s.compat := rfl
@[simp] theorem State.advance_compatLast (s : State) (t : Nat) : (s.advance t).compatLast = s.compatLast := rfl
@[simp] theorem State.advance_compatDown (s : State) (t : Nat) : (s.advance t).compatDown = s.compatDown := rfl
@[simp] theorem State.advance_nextCont (s : State) (t : Nat) : (s.advance t).nextCont = s.nextCont := rfl
@[simp] theorem State.advance_island (s : State) (t : Nat) : (s.advance t).island = s.island := rfl
@[simp] theorem State.advance_flash (s : State) (t : Nat) : (s.advance t).flash = s.flash := rfl

/-! ### setObj -/

@[simp] theorem State.setObj_pending (s : State) (i j v : Nat) : (s.setObj i j v).pending = s.pending := rfl
@[simp] theorem State.setObj_now (s : State) (i j v : Nat) : (s.setObj i j v).now = s.now := rfl
@[simp] theorem State.setObj_draws (s : State) (i j v : Nat) : (s.setObj i j v).draws = s.draws := rfl
@[simp] theorem State.setObj_status (s : State) (i j v : Nat) : (s.setObj i j v).status = s.status := rfl
@[simp] theorem State.setObj_value (s : State) (i j v : Nat) : (s.setObj i j v).value = s.value := rfl
@[simp] theorem State.setObj_tab (s : State) (i j v : Nat) : (s.setObj i j v).tab = s.tab := rfl
@[simp] theorem State.setObj_il (s : State) (i j v : Nat) : (s.setObj i j v).il = s.il := rfl
@[simp] theorem State.setObj_time (s : State) (i j v : Nat) : (s.setObj i j v).time = s.time := rfl
@[simp] theorem State.setObj_ciph (s : State) (i j v : Nat) : (s.setObj i j v).ciph = s.ciph := rfl
@[simp] theorem State.setObj_pwr (s : State) (i j v : Nat) : (s.setObj i j v).pwr = s.pwr := rfl
@[simp] theorem State.setObj_bus (s : State) (i j v : Nat) : (s.setObj i j v).bus = s.bus := rfl
@[simp] theorem State.setObj_log (s : State) (i j v : Nat) : (s.setObj i j v).log = s.log := rfl
@[simp] theorem State.setObj_cap (s : State) (i j v : Nat) : (s.setObj i j v).cap = s.cap := rfl
@[simp] theorem State.setObj_mon (s : State) (i j v : Nat) : (s.setObj i j v).mon = s.mon := rfl
@[simp] theorem State.setObj_jtag (s : State) (i j v : Nat) : (s.setObj i j v).jtag = s.jtag := rfl
@[simp] theorem State.setObj_rx (s : State) (i j v : Nat) : (s.setObj i j v).rx = s.rx := rfl
@[simp] theorem State.setObj_act (s : State) (i j v : Nat) : (s.setObj i j v).act = s.act := rfl
@[simp] theorem State.setObj_us (s : State) (i j v : Nat) : (s.setObj i j v).us = s.us := rfl
@[simp] theorem State.setObj_bond (s : State) (i j v : Nat) : (s.setObj i j v).bond = s.bond := rfl
@[simp] theorem State.setObj_nextFid (s : State) (i j v : Nat) : (s.setObj i j v).nextFid = s.nextFid := rfl
@[simp] theorem State.setObj_frames (s : State) (i j v : Nat) : (s.setObj i j v).frames = s.frames := rfl
@[simp] theorem State.setObj_usq (s : State) (i j v : Nat) : (s.setObj i j v).usq = s.usq := rfl
@[simp] theorem State.setObj_cpuq (s : State) (i j v : Nat) : (s.setObj i j v).cpuq = s.cpuq := rfl
@[simp] theorem State.setObj_latchedReports (s : State) (i j v : Nat) : (s.setObj i j v).latchedReports = s.latchedReports := rfl
@[simp] theorem State.setObj_oldRows (s : State) (i j v : Nat) : (s.setObj i j v).oldRows = s.oldRows := rfl
@[simp] theorem State.setObj_flumeIn (s : State) (i j v : Nat) : (s.setObj i j v).flumeIn = s.flumeIn := rfl
@[simp] theorem State.setObj_rules (s : State) (i j v : Nat) : (s.setObj i j v).rules = s.rules := rfl
@[simp] theorem State.setObj_hop (s : State) (i j v : Nat) : (s.setObj i j v).hop = s.hop := rfl
@[simp] theorem State.setObj_arb (s : State) (i j v : Nat) : (s.setObj i j v).arb = s.arb := rfl
@[simp] theorem State.setObj_nextOrd (s : State) (i j v : Nat) : (s.setObj i j v).nextOrd = s.nextOrd := rfl
@[simp] theorem State.setObj_mailbox (s : State) (i j v : Nat) : (s.setObj i j v).mailbox = s.mailbox := rfl
@[simp] theorem State.setObj_accepted (s : State) (i j v : Nat) : (s.setObj i j v).accepted = s.accepted := rfl
@[simp] theorem State.setObj_lastUndo (s : State) (i j v : Nat) : (s.setObj i j v).lastUndo = s.lastUndo := rfl
@[simp] theorem State.setObj_undoneNow (s : State) (i j v : Nat) : (s.setObj i j v).undoneNow = s.undoneNow := rfl
@[simp] theorem State.setObj_quotaShort (s : State) (i j v : Nat) : (s.setObj i j v).quotaShort = s.quotaShort := rfl
@[simp] theorem State.setObj_quotaShortAt (s : State) (i j v : Nat) : (s.setObj i j v).quotaShortAt = s.quotaShortAt := rfl
@[simp] theorem State.setObj_sch (s : State) (i j v : Nat) : (s.setObj i j v).sch = s.sch := rfl
@[simp] theorem State.setObj_lanes (s : State) (i j v : Nat) : (s.setObj i j v).lanes = s.lanes := rfl
@[simp] theorem State.setObj_ports (s : State) (i j v : Nat) : (s.setObj i j v).ports = s.ports := rfl
@[simp] theorem State.setObj_prbs (s : State) (i j v : Nat) : (s.setObj i j v).prbs = s.prbs := rfl
@[simp] theorem State.setObj_cli (s : State) (i j v : Nat) : (s.setObj i j v).cli = s.cli := rfl
@[simp] theorem State.setObj_pm (s : State) (i j v : Nat) : (s.setObj i j v).pm = s.pm := rfl
@[simp] theorem State.setObj_compat (s : State) (i j v : Nat) : (s.setObj i j v).compat = s.compat := rfl
@[simp] theorem State.setObj_compatLast (s : State) (i j v : Nat) : (s.setObj i j v).compatLast = s.compatLast := rfl
@[simp] theorem State.setObj_compatDown (s : State) (i j v : Nat) : (s.setObj i j v).compatDown = s.compatDown := rfl
@[simp] theorem State.setObj_nextCont (s : State) (i j v : Nat) : (s.setObj i j v).nextCont = s.nextCont := rfl
@[simp] theorem State.setObj_island (s : State) (i j v : Nat) : (s.setObj i j v).island = s.island := rfl
@[simp] theorem State.setObj_flash (s : State) (i j v : Nat) : (s.setObj i j v).flash = s.flash := rfl

/-! ### setRow -/

@[simp] theorem State.setRow_pending (s : State) (tb r v : Nat) : (s.setRow tb r v).pending = s.pending := rfl
@[simp] theorem State.setRow_now (s : State) (tb r v : Nat) : (s.setRow tb r v).now = s.now := rfl
@[simp] theorem State.setRow_draws (s : State) (tb r v : Nat) : (s.setRow tb r v).draws = s.draws := rfl
@[simp] theorem State.setRow_status (s : State) (tb r v : Nat) : (s.setRow tb r v).status = s.status := rfl
@[simp] theorem State.setRow_value (s : State) (tb r v : Nat) : (s.setRow tb r v).value = s.value := rfl
@[simp] theorem State.setRow_dict (s : State) (tb r v : Nat) : (s.setRow tb r v).dict = s.dict := rfl
@[simp] theorem State.setRow_il (s : State) (tb r v : Nat) : (s.setRow tb r v).il = s.il := rfl
@[simp] theorem State.setRow_time (s : State) (tb r v : Nat) : (s.setRow tb r v).time = s.time := rfl
@[simp] theorem State.setRow_ciph (s : State) (tb r v : Nat) : (s.setRow tb r v).ciph = s.ciph := rfl
@[simp] theorem State.setRow_pwr (s : State) (tb r v : Nat) : (s.setRow tb r v).pwr = s.pwr := rfl
@[simp] theorem State.setRow_bus (s : State) (tb r v : Nat) : (s.setRow tb r v).bus = s.bus := rfl
@[simp] theorem State.setRow_log (s : State) (tb r v : Nat) : (s.setRow tb r v).log = s.log := rfl
@[simp] theorem State.setRow_cap (s : State) (tb r v : Nat) : (s.setRow tb r v).cap = s.cap := rfl
@[simp] theorem State.setRow_mon (s : State) (tb r v : Nat) : (s.setRow tb r v).mon = s.mon := rfl
@[simp] theorem State.setRow_jtag (s : State) (tb r v : Nat) : (s.setRow tb r v).jtag = s.jtag := rfl
@[simp] theorem State.setRow_rx (s : State) (tb r v : Nat) : (s.setRow tb r v).rx = s.rx := rfl
@[simp] theorem State.setRow_act (s : State) (tb r v : Nat) : (s.setRow tb r v).act = s.act := rfl
@[simp] theorem State.setRow_us (s : State) (tb r v : Nat) : (s.setRow tb r v).us = s.us := rfl
@[simp] theorem State.setRow_bond (s : State) (tb r v : Nat) : (s.setRow tb r v).bond = s.bond := rfl
@[simp] theorem State.setRow_nextFid (s : State) (tb r v : Nat) : (s.setRow tb r v).nextFid = s.nextFid := rfl
@[simp] theorem State.setRow_frames (s : State) (tb r v : Nat) : (s.setRow tb r v).frames = s.frames := rfl
@[simp] theorem State.setRow_usq (s : State) (tb r v : Nat) : (s.setRow tb r v).usq = s.usq := rfl
@[simp] theorem State.setRow_cpuq (s : State) (tb r v : Nat) : (s.setRow tb r v).cpuq = s.cpuq := rfl
@[simp] theorem State.setRow_latchedReports (s : State) (tb r v : Nat) : (s.setRow tb r v).latchedReports = s.latchedReports := rfl
@[simp] theorem State.setRow_oldRows (s : State) (tb r v : Nat) : (s.setRow tb r v).oldRows = s.oldRows := rfl
@[simp] theorem State.setRow_flumeIn (s : State) (tb r v : Nat) : (s.setRow tb r v).flumeIn = s.flumeIn := rfl
@[simp] theorem State.setRow_rules (s : State) (tb r v : Nat) : (s.setRow tb r v).rules = s.rules := rfl
@[simp] theorem State.setRow_hop (s : State) (tb r v : Nat) : (s.setRow tb r v).hop = s.hop := rfl
@[simp] theorem State.setRow_arb (s : State) (tb r v : Nat) : (s.setRow tb r v).arb = s.arb := rfl
@[simp] theorem State.setRow_nextOrd (s : State) (tb r v : Nat) : (s.setRow tb r v).nextOrd = s.nextOrd := rfl
@[simp] theorem State.setRow_mailbox (s : State) (tb r v : Nat) : (s.setRow tb r v).mailbox = s.mailbox := rfl
@[simp] theorem State.setRow_accepted (s : State) (tb r v : Nat) : (s.setRow tb r v).accepted = s.accepted := rfl
@[simp] theorem State.setRow_lastUndo (s : State) (tb r v : Nat) : (s.setRow tb r v).lastUndo = s.lastUndo := rfl
@[simp] theorem State.setRow_undoneNow (s : State) (tb r v : Nat) : (s.setRow tb r v).undoneNow = s.undoneNow := rfl
@[simp] theorem State.setRow_quotaShort (s : State) (tb r v : Nat) : (s.setRow tb r v).quotaShort = s.quotaShort := rfl
@[simp] theorem State.setRow_quotaShortAt (s : State) (tb r v : Nat) : (s.setRow tb r v).quotaShortAt = s.quotaShortAt := rfl
@[simp] theorem State.setRow_sch (s : State) (tb r v : Nat) : (s.setRow tb r v).sch = s.sch := rfl
@[simp] theorem State.setRow_lanes (s : State) (tb r v : Nat) : (s.setRow tb r v).lanes = s.lanes := rfl
@[simp] theorem State.setRow_ports (s : State) (tb r v : Nat) : (s.setRow tb r v).ports = s.ports := rfl
@[simp] theorem State.setRow_prbs (s : State) (tb r v : Nat) : (s.setRow tb r v).prbs = s.prbs := rfl
@[simp] theorem State.setRow_cli (s : State) (tb r v : Nat) : (s.setRow tb r v).cli = s.cli := rfl
@[simp] theorem State.setRow_pm (s : State) (tb r v : Nat) : (s.setRow tb r v).pm = s.pm := rfl
@[simp] theorem State.setRow_compat (s : State) (tb r v : Nat) : (s.setRow tb r v).compat = s.compat := rfl
@[simp] theorem State.setRow_compatLast (s : State) (tb r v : Nat) : (s.setRow tb r v).compatLast = s.compatLast := rfl
@[simp] theorem State.setRow_compatDown (s : State) (tb r v : Nat) : (s.setRow tb r v).compatDown = s.compatDown := rfl
@[simp] theorem State.setRow_nextCont (s : State) (tb r v : Nat) : (s.setRow tb r v).nextCont = s.nextCont := rfl
@[simp] theorem State.setRow_island (s : State) (tb r v : Nat) : (s.setRow tb r v).island = s.island := rfl
@[simp] theorem State.setRow_flash (s : State) (tb r v : Nat) : (s.setRow tb r v).flash = s.flash := rfl

/-! ### answer -/

@[simp] theorem State.answer_pending (s : State) (st : Status) : (s.answer st).pending = s.pending := rfl
@[simp] theorem State.answer_now (s : State) (st : Status) : (s.answer st).now = s.now := rfl
@[simp] theorem State.answer_draws (s : State) (st : Status) : (s.answer st).draws = s.draws := rfl
@[simp] theorem State.answer_value (s : State) (st : Status) : (s.answer st).value = s.value := rfl
@[simp] theorem State.answer_dict (s : State) (st : Status) : (s.answer st).dict = s.dict := rfl
@[simp] theorem State.answer_tab (s : State) (st : Status) : (s.answer st).tab = s.tab := rfl
@[simp] theorem State.answer_il (s : State) (st : Status) : (s.answer st).il = s.il := rfl
@[simp] theorem State.answer_time (s : State) (st : Status) : (s.answer st).time = s.time := rfl
@[simp] theorem State.answer_ciph (s : State) (st : Status) : (s.answer st).ciph = s.ciph := rfl
@[simp] theorem State.answer_pwr (s : State) (st : Status) : (s.answer st).pwr = s.pwr := rfl
@[simp] theorem State.answer_bus (s : State) (st : Status) : (s.answer st).bus = s.bus := rfl
@[simp] theorem State.answer_log (s : State) (st : Status) : (s.answer st).log = s.log := rfl
@[simp] theorem State.answer_cap (s : State) (st : Status) : (s.answer st).cap = s.cap := rfl
@[simp] theorem State.answer_mon (s : State) (st : Status) : (s.answer st).mon = s.mon := rfl
@[simp] theorem State.answer_jtag (s : State) (st : Status) : (s.answer st).jtag = s.jtag := rfl
@[simp] theorem State.answer_rx (s : State) (st : Status) : (s.answer st).rx = s.rx := rfl
@[simp] theorem State.answer_act (s : State) (st : Status) : (s.answer st).act = s.act := rfl
@[simp] theorem State.answer_us (s : State) (st : Status) : (s.answer st).us = s.us := rfl
@[simp] theorem State.answer_bond (s : State) (st : Status) : (s.answer st).bond = s.bond := rfl
@[simp] theorem State.answer_nextFid (s : State) (st : Status) : (s.answer st).nextFid = s.nextFid := rfl
@[simp] theorem State.answer_frames (s : State) (st : Status) : (s.answer st).frames = s.frames := rfl
@[simp] theorem State.answer_usq (s : State) (st : Status) : (s.answer st).usq = s.usq := rfl
@[simp] theorem State.answer_cpuq (s : State) (st : Status) : (s.answer st).cpuq = s.cpuq := rfl
@[simp] theorem State.answer_latchedReports (s : State) (st : Status) : (s.answer st).latchedReports = s.latchedReports := rfl
@[simp] theorem State.answer_oldRows (s : State) (st : Status) : (s.answer st).oldRows = s.oldRows := rfl
@[simp] theorem State.answer_flumeIn (s : State) (st : Status) : (s.answer st).flumeIn = s.flumeIn := rfl
@[simp] theorem State.answer_rules (s : State) (st : Status) : (s.answer st).rules = s.rules := rfl
@[simp] theorem State.answer_hop (s : State) (st : Status) : (s.answer st).hop = s.hop := rfl
@[simp] theorem State.answer_arb (s : State) (st : Status) : (s.answer st).arb = s.arb := rfl
@[simp] theorem State.answer_nextOrd (s : State) (st : Status) : (s.answer st).nextOrd = s.nextOrd := rfl
@[simp] theorem State.answer_mailbox (s : State) (st : Status) : (s.answer st).mailbox = s.mailbox := rfl
@[simp] theorem State.answer_accepted (s : State) (st : Status) : (s.answer st).accepted = s.accepted := rfl
@[simp] theorem State.answer_lastUndo (s : State) (st : Status) : (s.answer st).lastUndo = s.lastUndo := rfl
@[simp] theorem State.answer_undoneNow (s : State) (st : Status) : (s.answer st).undoneNow = s.undoneNow := rfl
@[simp] theorem State.answer_quotaShort (s : State) (st : Status) : (s.answer st).quotaShort = s.quotaShort := rfl
@[simp] theorem State.answer_quotaShortAt (s : State) (st : Status) : (s.answer st).quotaShortAt = s.quotaShortAt := rfl
@[simp] theorem State.answer_sch (s : State) (st : Status) : (s.answer st).sch = s.sch := rfl
@[simp] theorem State.answer_lanes (s : State) (st : Status) : (s.answer st).lanes = s.lanes := rfl
@[simp] theorem State.answer_ports (s : State) (st : Status) : (s.answer st).ports = s.ports := rfl
@[simp] theorem State.answer_prbs (s : State) (st : Status) : (s.answer st).prbs = s.prbs := rfl
@[simp] theorem State.answer_cli (s : State) (st : Status) : (s.answer st).cli = s.cli := rfl
@[simp] theorem State.answer_pm (s : State) (st : Status) : (s.answer st).pm = s.pm := rfl
@[simp] theorem State.answer_compat (s : State) (st : Status) : (s.answer st).compat = s.compat := rfl
@[simp] theorem State.answer_compatLast (s : State) (st : Status) : (s.answer st).compatLast = s.compatLast := rfl
@[simp] theorem State.answer_compatDown (s : State) (st : Status) : (s.answer st).compatDown = s.compatDown := rfl
@[simp] theorem State.answer_nextCont (s : State) (st : Status) : (s.answer st).nextCont = s.nextCont := rfl
@[simp] theorem State.answer_island (s : State) (st : Status) : (s.answer st).island = s.island := rfl
@[simp] theorem State.answer_flash (s : State) (st : Status) : (s.answer st).flash = s.flash := rfl

@[simp] theorem State.advance_now (s : State) (t : Nat) : (s.advance t).now = max s.now t := rfl
@[simp] theorem State.answer_status (s : State) (st : Status) : (s.answer st).status = st := rfl

/-! ### after -/

@[simp] theorem State.after_pending (s : State) (t : Nat) (f : State → State) : (s.after t f).pending = s.pending := rfl
@[simp] theorem State.after_now (s : State) (t : Nat) (f : State → State) : (s.after t f).now = max s.now t := rfl
@[simp] theorem State.after_draws (s : State) (t : Nat) (f : State → State) : (s.after t f).draws = (f (s.advance t)).draws := rfl
@[simp] theorem State.after_status (s : State) (t : Nat) (f : State → State) : (s.after t f).status = (f (s.advance t)).status := rfl
@[simp] theorem State.after_value (s : State) (t : Nat) (f : State → State) : (s.after t f).value = (f (s.advance t)).value := rfl
@[simp] theorem State.after_dict (s : State) (t : Nat) (f : State → State) : (s.after t f).dict = (f (s.advance t)).dict := rfl
@[simp] theorem State.after_tab (s : State) (t : Nat) (f : State → State) : (s.after t f).tab = (f (s.advance t)).tab := rfl
@[simp] theorem State.after_il (s : State) (t : Nat) (f : State → State) : (s.after t f).il = (f (s.advance t)).il := rfl
@[simp] theorem State.after_time (s : State) (t : Nat) (f : State → State) : (s.after t f).time = (f (s.advance t)).time := rfl
@[simp] theorem State.after_ciph (s : State) (t : Nat) (f : State → State) : (s.after t f).ciph = (f (s.advance t)).ciph := rfl
@[simp] theorem State.after_pwr (s : State) (t : Nat) (f : State → State) : (s.after t f).pwr = (f (s.advance t)).pwr := rfl
@[simp] theorem State.after_bus (s : State) (t : Nat) (f : State → State) : (s.after t f).bus = (f (s.advance t)).bus := rfl
@[simp] theorem State.after_log (s : State) (t : Nat) (f : State → State) : (s.after t f).log = (f (s.advance t)).log := rfl
@[simp] theorem State.after_cap (s : State) (t : Nat) (f : State → State) : (s.after t f).cap = (f (s.advance t)).cap := rfl
@[simp] theorem State.after_mon (s : State) (t : Nat) (f : State → State) : (s.after t f).mon = (f (s.advance t)).mon := rfl
@[simp] theorem State.after_jtag (s : State) (t : Nat) (f : State → State) : (s.after t f).jtag = s.jtag := rfl
@[simp] theorem State.after_rx (s : State) (t : Nat) (f : State → State) : (s.after t f).rx = (f (s.advance t)).rx := rfl
@[simp] theorem State.after_act (s : State) (t : Nat) (f : State → State) : (s.after t f).act = (f (s.advance t)).act := rfl
@[simp] theorem State.after_us (s : State) (t : Nat) (f : State → State) : (s.after t f).us = (f (s.advance t)).us := rfl
@[simp] theorem State.after_bond (s : State) (t : Nat) (f : State → State) : (s.after t f).bond = (f (s.advance t)).bond := rfl
@[simp] theorem State.after_nextFid (s : State) (t : Nat) (f : State → State) : (s.after t f).nextFid = (f (s.advance t)).nextFid := rfl
@[simp] theorem State.after_frames (s : State) (t : Nat) (f : State → State) : (s.after t f).frames = (f (s.advance t)).frames := rfl
@[simp] theorem State.after_usq (s : State) (t : Nat) (f : State → State) : (s.after t f).usq = (f (s.advance t)).usq := rfl
@[simp] theorem State.after_cpuq (s : State) (t : Nat) (f : State → State) : (s.after t f).cpuq = (f (s.advance t)).cpuq := rfl
@[simp] theorem State.after_latchedReports (s : State) (t : Nat) (f : State → State) : (s.after t f).latchedReports = (f (s.advance t)).latchedReports := rfl
@[simp] theorem State.after_oldRows (s : State) (t : Nat) (f : State → State) : (s.after t f).oldRows = (f (s.advance t)).oldRows := rfl
@[simp] theorem State.after_flumeIn (s : State) (t : Nat) (f : State → State) : (s.after t f).flumeIn = (f (s.advance t)).flumeIn := rfl
@[simp] theorem State.after_rules (s : State) (t : Nat) (f : State → State) : (s.after t f).rules = (f (s.advance t)).rules := rfl
@[simp] theorem State.after_hop (s : State) (t : Nat) (f : State → State) : (s.after t f).hop = (f (s.advance t)).hop := rfl
@[simp] theorem State.after_arb (s : State) (t : Nat) (f : State → State) : (s.after t f).arb = (f (s.advance t)).arb := rfl
@[simp] theorem State.after_nextOrd (s : State) (t : Nat) (f : State → State) : (s.after t f).nextOrd = (f (s.advance t)).nextOrd := rfl
@[simp] theorem State.after_mailbox (s : State) (t : Nat) (f : State → State) : (s.after t f).mailbox = (f (s.advance t)).mailbox := rfl
@[simp] theorem State.after_accepted (s : State) (t : Nat) (f : State → State) : (s.after t f).accepted = (f (s.advance t)).accepted := rfl
@[simp] theorem State.after_lastUndo (s : State) (t : Nat) (f : State → State) : (s.after t f).lastUndo = (f (s.advance t)).lastUndo := rfl
@[simp] theorem State.after_undoneNow (s : State) (t : Nat) (f : State → State) : (s.after t f).undoneNow = (f (s.advance t)).undoneNow := rfl
@[simp] theorem State.after_quotaShort (s : State) (t : Nat) (f : State → State) : (s.after t f).quotaShort = (f (s.advance t)).quotaShort := rfl
@[simp] theorem State.after_quotaShortAt (s : State) (t : Nat) (f : State → State) : (s.after t f).quotaShortAt = (f (s.advance t)).quotaShortAt := rfl
@[simp] theorem State.after_sch (s : State) (t : Nat) (f : State → State) : (s.after t f).sch = (f (s.advance t)).sch := rfl
@[simp] theorem State.after_lanes (s : State) (t : Nat) (f : State → State) : (s.after t f).lanes = (f (s.advance t)).lanes := rfl
@[simp] theorem State.after_ports (s : State) (t : Nat) (f : State → State) : (s.after t f).ports = (f (s.advance t)).ports := rfl
@[simp] theorem State.after_prbs (s : State) (t : Nat) (f : State → State) : (s.after t f).prbs = (f (s.advance t)).prbs := rfl
@[simp] theorem State.after_cli (s : State) (t : Nat) (f : State → State) : (s.after t f).cli = (f (s.advance t)).cli := rfl
@[simp] theorem State.after_pm (s : State) (t : Nat) (f : State → State) : (s.after t f).pm = (f (s.advance t)).pm := rfl
@[simp] theorem State.after_compat (s : State) (t : Nat) (f : State → State) : (s.after t f).compat = (f (s.advance t)).compat := rfl
@[simp] theorem State.after_compatLast (s : State) (t : Nat) (f : State → State) : (s.after t f).compatLast = (f (s.advance t)).compatLast := rfl
@[simp] theorem State.after_compatDown (s : State) (t : Nat) (f : State → State) : (s.after t f).compatDown = (f (s.advance t)).compatDown := rfl
@[simp] theorem State.after_nextCont (s : State) (t : Nat) (f : State → State) : (s.after t f).nextCont = (f (s.advance t)).nextCont := rfl
@[simp] theorem State.after_island (s : State) (t : Nat) (f : State → State) : (s.after t f).island = (f (s.advance t)).island := rfl
@[simp] theorem State.after_flash (s : State) (t : Nat) (f : State → State) : (s.after t f).flash = (f (s.advance t)).flash := rfl
@[simp] theorem State.afterTap_pending (s : State) (t : Nat) (f : State → State) : (s.afterTap t f).pending = s.pending := rfl
@[simp] theorem State.afterTap_now (s : State) (t : Nat) (f : State → State) : (s.afterTap t f).now = max s.now t := rfl

/-! ### objects and rows read through the other updates -/

@[simp] theorem State.obj_advance (s : State) (t i j : Nat) : (s.advance t).obj i j = s.obj i j := rfl
@[simp] theorem State.row_advance (s : State) (t tb r : Nat) : (s.advance t).row tb r = s.row tb r := rfl
@[simp] theorem State.obj_answer (s : State) (st : Status) (i j : Nat) : (s.answer st).obj i j = s.obj i j := rfl
@[simp] theorem State.row_answer (s : State) (st : Status) (tb r : Nat) : (s.answer st).row tb r = s.row tb r := rfl

/-! ### outcomes -/

theorem done_eq (t : Nat) (s : State) (f : State → State) : done t s f = .next (s.after t f) := rfl
theorem doneTap_eq (t : Nat) (s : State) (f : State → State) : doneTap t s f = .next (s.afterTap t f) := rfl

/-- A command with well-formed operands completes. -/
theorem doneIf_true (wf : Bool) (t : Nat) (s : State) (f : State → State) (h : wf = true) :
    doneIf wf t s f = .next (s.after t f) := by simp [doneIf, h, done]

/-- Everything a command under `doneIf` can do. -/
theorem doneIf_cases (wf : Bool) (t : Nat) (s : State) (f : State → State) :
    (wf = true ∧ doneIf wf t s f = .next (s.after t f)) ∨ (wf = false ∧ doneIf wf t s f = .fault .illFormed) := by
  cases wf <;> simp [doneIf, done]

end Sys2Proof.Machine
end

