-- ==== Sys2Proof/Laws/Events.lean ====
section
/-! SUPPORT. What logging an event can change: the event log, the always-on island and the counters of the log. -/
namespace Sys2Proof.Machine

/-- `u` differs from `s` at most in the dictionary's values, the event log and the always-on island. -/
def State.logsOnly (s u : State) : Prop := u = { s with dict := u.dict, log := u.log, island := u.island }

theorem State.logsOnly_refl (s : State) : s.logsOnly s := rfl

theorem State.logsOnly_trans {a b c : State} (h : a.logsOnly b) (h2 : b.logsOnly c) : a.logsOnly c := by
  have e := congrArg (fun x : State => ({ x with dict := c.dict, log := c.log, island := c.island } : State)) h
  exact Eq.trans h2 e

theorem State.setObj_logsOnly (s : State) (i j v : Nat) : s.logsOnly (s.setObj i j v) := rfl
theorem State.bump_logsOnly (s : State) (i j n : Nat) : s.logsOnly (s.bump i j n) := rfl

theorem State.logIsland_logsOnly (s : State) (l : EvLog) (i : Island) : s.logsOnly { s with log := l, island := i } := rfl
theorem State.log_logsOnly (s : State) (l : EvLog) : s.logsOnly { s with log := l } := rfl

theorem State.bumpIf_logsOnly (s : State) (b : Prop) [Decidable b] (i : Nat) : s.logsOnly (if b then s.bump i else s) := by
  split
  · exact State.bump_logsOnly _ _ _ _
  · rfl

theorem State.writeRec_logsOnly (s : State) (r : EvRec) : s.logsOnly (s.writeRec r) := by
  unfold State.writeRec
  simp only []
  exact State.logsOnly_trans (State.logsOnly_trans (State.bumpIf_logsOnly _ _ _) (State.bump_logsOnly _ _ _ _))
    (State.logIsland_logsOnly _ _ _)

theorem State.holdRec_logsOnly (s : State) (r : EvRec) : s.logsOnly (s.holdRec r) := by
  unfold State.holdRec; split <;> rfl

theorem State.alert_logsOnly (s : State) (a b : Nat) : s.logsOnly (s.alert a b) := by
  unfold State.alert; split <;> rfl

theorem foldl_logsOnly {α : Type} (f : State → α → State) (h : ∀ (s : State) (a : α), s.logsOnly (f s a)) (l : List α) (s : State) :
    s.logsOnly (l.foldl f s) := by
  induction l generalizing s with
  | nil => rfl
  | cons a l ih => exact State.logsOnly_trans (h s a) (ih (f s a))

theorem State.logWith_logsOnly (s : State) (src : Nat) (b : Bool) (ps : List Nat) : s.logsOnly (s.logWith src b ps) := by
  unfold State.logWith
  simp only []
  have h : s.logsOnly (State.alert { s with island := { s.island with lastTime := s.eventTime } } src
      (fld (s.row Obj.EVT_SOURCE_TABLE src) 62 61)) :=
    State.logsOnly_trans (b := { s with island := { s.island with lastTime := s.eventTime } }) rfl (State.alert_logsOnly _ _ _)
  split
  · exact State.logsOnly_trans h (State.bump_logsOnly _ _ _ _)
  · split
    · exact State.logsOnly_trans h (foldl_logsOnly _ State.writeRec_logsOnly _ _)
    · exact State.logsOnly_trans h (foldl_logsOnly _ State.holdRec_logsOnly _ _)

/-- Everything that logging an event can change. -/
theorem State.ev_logsOnly (s : State) (src : Nat) (ps : List Nat) : s.logsOnly (s.ev src ps) :=
  State.logWith_logsOnly s src false ps

theorem State.evHeld_logsOnly (s : State) (src : Nat) (ps : List Nat) : s.logsOnly (s.evHeld src ps) := by
  unfold State.evHeld
  simp only []
  have h : s.logsOnly (State.alert { s with island := { s.island with lastTime := s.eventTime } } src
      (fld (s.row Obj.EVT_SOURCE_TABLE src) 62 61)) :=
    State.logsOnly_trans (b := { s with island := { s.island with lastTime := s.eventTime } }) rfl (State.alert_logsOnly _ _ _)
  split
  · exact State.logsOnly_trans h (State.bump_logsOnly _ _ _ _)
  · exact State.logsOnly_trans h (foldl_logsOnly _ State.holdRec_logsOnly _ _)

theorem State.evOnce_logsOnly (s : State) (src e : Nat) (ps : List Nat) : s.logsOnly (s.evOnce src e ps) := by
  unfold State.evOnce
  simp only []
  split
  · exact State.logWith_logsOnly _ _ _ _
  split
  · exact State.log_logsOnly _ _
  · exact State.logsOnly_trans (State.log_logsOnly _ _) (State.logWith_logsOnly _ _ _ _)

end Sys2Proof.Machine
end

