-- ==== Sys2Proof/Laws/Store.lean ====
section
/-! SUPPORT. Laws of the sparse stores: a read after a write, other keys untouched, and the canonical form kept. -/
namespace Sys2Proof.Machine

theorem stGet_stIns (d k v q : Nat) (m : Store) :
    stGet d (stIns m k v) q = if q = k then v else stGet d m q := by
  induction m with
  | nil => simp only [stIns, stGet]
  | cons e m ih =>
    obtain ⟨a, b⟩ := e
    simp only [stIns]
    split
    · simp only [stGet]
    · split
      · subst_vars; simp only [stGet]; split <;> rfl
      · simp only [stGet, ih]
        split
        · rename_i h1 h2 h3; subst h3; simp [Ne.symm h2]
        · rfl

theorem stGet_stDel (d k q : Nat) (m : Store) :
    stGet d (stDel m k) q = if q = k then d else stGet d m q := by
  induction m with
  | nil => simp [stDel, stGet]
  | cons e m ih =>
    obtain ⟨a, b⟩ := e
    simp only [stDel]
    split
    · rename_i h; subst h; rw [ih]
      by_cases hq : q = k <;> simp [stGet, hq]
    · rename_i h
      simp only [stGet, ih]
      by_cases hq : q = k
      · subst hq; simp [h]
      · simp [hq]

/-- A read after a write gives the value written at its key and the old value at every other key. -/
theorem stGet_stSet (d k v q : Nat) (m : Store) :
    stGet d (stSet d m k v) q = if q = k then v else stGet d m q := by
  unfold stSet
  split
  · rename_i h; subst h; exact stGet_stDel v k q m
  · exact stGet_stIns d k v q m

/-- A write at one key leaves every other key, whatever the defaults. -/
theorem stGet_stSet_other (d d' k v q : Nat) (m : Store) (h : q ≠ k) :
    stGet d (stSet d' m k v) q = stGet d m q := by
  unfold stSet
  split
  · rw [stGet_stDel]; simp [h]
  · rw [stGet_stIns]; simp [h]

/-- Every key of a store is above a bound. -/
def stAbove (b : Nat) (m : Store) : Prop := ∀ e ∈ m, b < e.1

theorem stWf_cons (df : Nat → Nat) (k v : Nat) (m : Store) :
    stWf df ((k, v) :: m) = true ↔ v ≠ df k ∧ stAbove k m ∧ stWf df m = true := by
  induction m generalizing k v with
  | nil => simp [stWf, stAbove]
  | cons e m ih =>
    obtain ⟨a, b⟩ := e
    have h := ih a b
    simp only [stWf, Bool.and_eq_true, bne_iff_ne, decide_eq_true_eq, h]
    constructor
    · rintro ⟨⟨h1, h2⟩, h3, h4, h5⟩
      refine ⟨h1, ?_, h3, h4, h5⟩
      intro x hx
      rcases List.mem_cons.1 hx with rfl | hx
      · exact h2
      · exact Nat.lt_trans h2 (h4 x hx)
    · rintro ⟨h1, h2, h3, h4, h5⟩
      exact ⟨⟨h1, h2 (a, b) (List.mem_cons_self ..)⟩, h3, h4, h5⟩

theorem stAbove_stDel (b k : Nat) (m : Store) (h : stAbove b m) : stAbove b (stDel m k) := by
  induction m with
  | nil => exact h
  | cons e m ih =>
    obtain ⟨a, c⟩ := e
    have hm : stAbove b m := fun x hx => h x (List.mem_cons_of_mem _ hx)
    simp only [stDel]
    split
    · exact ih hm
    · intro x hx
      rcases List.mem_cons.1 hx with rfl | hx
      · exact h _ (List.mem_cons_self ..)
      · exact ih hm x hx

theorem stAbove_stIns (b k v : Nat) (m : Store) (hb : b < k) (h : stAbove b m) : stAbove b (stIns m k v) := by
  induction m with
  | nil => intro x hx; simp only [stIns, List.mem_singleton] at hx; subst hx; exact hb
  | cons e m ih =>
    obtain ⟨a, c⟩ := e
    have hm : stAbove b m := fun x hx => h x (List.mem_cons_of_mem _ hx)
    simp only [stIns]
    split
    · intro x hx
      rcases List.mem_cons.1 hx with rfl | hx
      · exact hb
      · exact h x hx
    · split
      · intro x hx
        rcases List.mem_cons.1 hx with rfl | hx
        · exact hb
        · exact hm x hx
      · intro x hx
        rcases List.mem_cons.1 hx with rfl | hx
        · exact h _ (List.mem_cons_self ..)
        · exact ih hm x hx

theorem stWf_stDel (df : Nat → Nat) (k : Nat) (m : Store) (h : stWf df m = true) : stWf df (stDel m k) = true := by
  induction m with
  | nil => exact h
  | cons e m ih =>
    obtain ⟨a, c⟩ := e
    rw [stWf_cons] at h
    simp only [stDel]
    split
    · exact ih h.2.2
    · rw [stWf_cons]; exact ⟨h.1, stAbove_stDel a k m h.2.1, ih h.2.2⟩

theorem stWf_stIns (df : Nat → Nat) (k v : Nat) (m : Store) (hv : v ≠ df k) (h : stWf df m = true) :
    stWf df (stIns m k v) = true := by
  induction m with
  | nil => simp [stIns, stWf, hv]
  | cons e m ih =>
    obtain ⟨a, c⟩ := e
    have h' := (stWf_cons df a c m).1 h
    simp only [stIns]
    split
    · rename_i hk
      rw [stWf_cons]
      refine ⟨hv, ?_, h⟩
      intro x hx
      rcases List.mem_cons.1 hx with rfl | hx
      · exact hk
      · exact Nat.lt_trans hk (h'.2.1 x hx)
    · split
      · rename_i _ hk; subst hk; rw [stWf_cons]; exact ⟨hv, h'.2.1, h'.2.2⟩
      · rename_i h1 h2
        rw [stWf_cons]
        exact ⟨h'.1, stAbove_stIns a k v m (by omega) h'.2.1, ih h'.2.2⟩

/-- A write keeps the canonical form. -/
theorem stWf_stSet (df : Nat → Nat) (k v : Nat) (m : Store) (h : stWf df m = true) :
    stWf df (stSet (df k) m k v) = true := by
  unfold stSet
  split
  · exact stWf_stDel df k m h
  · rename_i hv; exact stWf_stIns df k v m hv h

/-! ### The dictionary and the tables -/

@[simp] theorem State.obj_setObj_same (s : State) (i j v : Nat) : (s.setObj i j v).obj i j = v := by
  simp [State.obj, State.setObj, stGet_stSet]

/-- A write of one object leaves every other object. -/
theorem State.obj_setObj_other (s : State) (i j v a b : Nat) (h : a * 256 + b ≠ i * 256 + j) :
    (s.setObj i j v).obj a b = s.obj a b := by
  simp only [State.obj, State.setObj]; exact stGet_stSet_other _ _ _ _ _ _ h

@[simp] theorem State.row_setRow_same (s : State) (tb r v : Nat) : (s.setRow tb r v).row tb r = v := by
  simp [State.row, State.setRow, stGet_stSet]

/-- A write of one row leaves every other row. -/
theorem State.row_setRow_other (s : State) (tb r v a b : Nat) (h : tabKey a b ≠ tabKey tb r) :
    (s.setRow tb r v).row a b = s.row a b := by
  simp only [State.row, State.setRow]; exact stGet_stSet_other _ _ _ _ _ _ h

@[simp] theorem State.row_setObj (s : State) (i j v a b : Nat) : (s.setObj i j v).row a b = s.row a b := rfl
@[simp] theorem State.obj_setRow (s : State) (tb r v a b : Nat) : (s.setRow tb r v).obj a b = s.obj a b := rfl

theorem State.dict_wf_setObj (s : State) (i j v : Nat) (h : stWf dictDflt s.dict = true) :
    stWf dictDflt (s.setObj i j v).dict = true := stWf_stSet dictDflt _ v s.dict h

theorem State.tab_wf_setRow (s : State) (tb r v : Nat) (h : stWf tabDflt s.tab = true) :
    stWf tabDflt (s.setRow tb r v).tab = true := stWf_stSet tabDflt _ v s.tab h

end Sys2Proof.Machine
end

