-- ==== Sys2Proof/Laws/Frames.lean ====
section
/-! SUPPORT. Which objects and rows the shared operations can move, and indexed parts read after an update. -/
namespace Sys2Proof.Machine

/-! ### Indexed parts -/

@[simp] theorem vmod_get {α : Type} {n : Nat} (v : Vector α n) (i : Fin n) (f : α → α) : (vmod v i f)[i] = f v[i] := by
  simp [vmod]

theorem vmod_get_ne {α : Type} {n : Nat} (v : Vector α n) (i j : Fin n) (f : α → α) (h : j ≠ i) :
    (vmod v i f)[j] = v[j] := by
  have h' : i.val ≠ j.val := fun e => h (Fin.ext e.symm)
  simp [vmod, Vector.getElem_set_ne, h']

@[simp] theorem State.modRx_rx (s : State) (ch : Fin 4) (f : Rx → Rx) : (s.modRx ch f).rx[ch] = f s.rx[ch] := vmod_get _ _ _
@[simp] theorem State.modAct_act (s : State) (ch : Fin 4) (f : Act → Act) : (s.modAct ch f).act[ch] = f s.act[ch] := vmod_get _ _ _
@[simp] theorem State.modUs_us (s : State) (ch : Fin 4) (f : Us → Us) : (s.modUs ch f).us[ch] = f s.us[ch] := vmod_get _ _ _

/-! ### Objects -/

theorem State.objsBut_refl (s : State) (l : List (Nat × Nat)) : s.objsBut s l := fun _ _ _ _ => rfl

theorem State.objsBut_of_dict {s u : State} (h : u.dict = s.dict) (l : List (Nat × Nat)) : s.objsBut u l := by
  intro i j _ _; simp only [State.obj, h]

theorem State.objsBut_trans {a b c : State} {l : List (Nat × Nat)} (h : a.objsBut b l) (h2 : b.objsBut c l) : a.objsBut c l :=
  fun i j hj hn => (h2 i j hj hn).trans (h i j hj hn)

theorem State.objsBut_mono {a b : State} {l m : List (Nat × Nat)} (h : a.objsBut b l) (hs : ∀ x ∈ l, x ∈ m) : a.objsBut b m :=
  fun i j hj hn => h i j hj fun hi => hn (hs _ hi)

theorem objKey_ne {i j a b : Nat} (hj : j < 256) (hb : b < 256) (h : (i, j) ≠ (a, b)) : i * 256 + j ≠ a * 256 + b := by
  intro e
  have : j = b := by omega
  have : i = a := by omega
  simp_all

theorem State.objsBut_setObj (s : State) (i j v : Nat) (hj : j < 256) : s.objsBut (s.setObj i j v) [(i, j)] := by
  intro a b hb hn
  refine State.obj_setObj_other s i j v a b (objKey_ne hb hj ?_)
  simpa using hn

theorem State.objsBut_bump (s : State) (i j n : Nat) (hj : j < 256) : s.objsBut (s.bump i j n) [(i, j)] :=
  State.objsBut_setObj s i j _ hj

@[simp] theorem State.obj_bump_same (s : State) (i j n : Nat) : (s.bump i j n).obj i j = min (counterMax i) (s.obj i j + n) := by
  simp [State.bump]

theorem State.counted_bump (s : State) (i j n : Nat) : s.counted (s.bump i j n) i j n := by simp [State.counted]

theorem State.bumpIf_objsBut (s : State) (b : Prop) [Decidable b] :
    s.objsBut (if b then s.bump Obj.EVT_OVERWRITTEN else s) logObjs := by
  split
  · exact State.objsBut_mono (State.objsBut_bump _ _ 0 1 (by decide)) (by simp [logObjs])
  · exact State.objsBut_refl _ _

theorem State.writeRec_objsBut (s : State) (r : EvRec) : s.objsBut (s.writeRec r) logObjs := by
  unfold State.writeRec
  simp only []
  intro i j hj hn
  refine Eq.trans (State.objsBut_mono (State.objsBut_bump _ Obj.EVT_RECORDS 0 1 (by decide))
    (m := logObjs) (by simp [logObjs]) i j hj hn) ?_
  exact State.bumpIf_objsBut s _ i j hj hn

theorem State.holdRec_objsBut (s : State) (r : EvRec) : s.objsBut (s.holdRec r) logObjs := by
  unfold State.holdRec; split <;> exact State.objsBut_of_dict rfl _

theorem foldl_objsBut {α : Type} (f : State → α → State) (l : List (Nat × Nat))
    (h : ∀ (s : State) (a : α), s.objsBut (f s a) l) (m : List α) (s : State) : s.objsBut (m.foldl f s) l := by
  induction m generalizing s with
  | nil => exact State.objsBut_refl _ _
  | cons a m ih => exact State.objsBut_trans (h s a) (ih (f s a))

theorem State.alert_dict (s : State) (a b : Nat) : (s.alert a b).dict = s.dict := by
  unfold State.alert; split <;> rfl

theorem State.logWith_objsBut (s : State) (src : Nat) (b : Bool) (ps : List Nat) : s.objsBut (s.logWith src b ps) logObjs := by
  unfold State.logWith
  simp only []
  have h : s.objsBut (State.alert { s with island := { s.island with lastTime := s.eventTime } } src
      (fld (s.row Obj.EVT_SOURCE_TABLE src) 62 61)) logObjs :=
    State.objsBut_of_dict (State.alert_dict _ _ _) _
  split
  · exact State.objsBut_trans h (State.objsBut_mono (State.objsBut_bump _ _ 0 1 (by decide)) (by simp [logObjs]))
  · split
    · exact State.objsBut_trans h (foldl_objsBut _ _ State.writeRec_objsBut _ _)
    · exact State.objsBut_trans h (foldl_objsBut _ _ State.holdRec_objsBut _ _)

/-- Logging an event moves at most the three counters of the log. -/
theorem State.ev_objsBut (s : State) (src : Nat) (ps : List Nat) : s.objsBut (s.ev src ps) logObjs :=
  State.logWith_objsBut s src false ps

theorem State.evOnce_objsBut (s : State) (src e : Nat) (ps : List Nat) : s.objsBut (s.evOnce src e ps) logObjs := by
  unfold State.evOnce
  simp only []
  split
  · exact State.logWith_objsBut _ _ _ _
  split
  · exact State.objsBut_of_dict rfl _
  · exact State.objsBut_trans (State.objsBut_of_dict rfl _) (State.logWith_objsBut _ _ _ _)

theorem State.evHeld_objsBut (s : State) (src : Nat) (ps : List Nat) : s.objsBut (s.evHeld src ps) logObjs := by
  unfold State.evHeld
  simp only []
  have h : s.objsBut (State.alert { s with island := { s.island with lastTime := s.eventTime } } src
      (fld (s.row Obj.EVT_SOURCE_TABLE src) 62 61)) logObjs :=
    State.objsBut_of_dict (State.alert_dict _ _ _) _
  split
  · exact State.objsBut_trans h (State.objsBut_mono (State.objsBut_bump _ _ 0 1 (by decide)) (by simp [logObjs]))
  · exact State.objsBut_trans h (foldl_objsBut _ _ State.holdRec_objsBut _ _)

/-- An object that is no counter of the log reads as before after an event. -/
theorem State.obj_ev (s : State) (src : Nat) (ps : List Nat) (i j : Nat) (hj : j < 256) (h : (i, j) ∉ logObjs) :
    (s.ev src ps).obj i j = s.obj i j := State.ev_objsBut s src ps i j hj h

end Sys2Proof.Machine
end

