-- ==== Sys2Proof/Tests/Slice0.lean ====
section
/-! SUPPORT. Tests: what the commands answer to values that the spec works out, the ill-formed operands that each check refuses,
and for every statement with hypotheses a state that meets them. -/
namespace Sys2Proof.Tests
open Sys2Proof Sys2Proof.Machine

set_option maxRecDepth 100000
set_option Elab.async false
set_option exponentiation.threshold 400

/-! ### Operands that no wire, frame or service can carry, one for each check of `Instr.wf` -/

/-- A directive at the upper end of every field. -/
def dirTop : Directive := { tid := 1023, seq := 255, rsv := 63, content := 2 ^ 288 - 1, code := 2 ^ 64 - 1 }
/-- What the sublayer counted in no traffic. -/
def report0 : PcsReport := { codewords := 0, corrected := 0, uncorrectable := 0, symbols := 0, errorBlocks := 0 }
/-- A request at the upper end of every field. -/
def rqTop : Req :=
  { src := 126, dst := 127, txn := 65535, inband := true, auth := true, counter := 2 ^ 64 - 1, code := zeros 8, waiting := 99 }

theorem test_wf_directive_fields :
    (Instr.profile 0 0 dirTop).wf = true ∧
    ([{ dirTop with tid := 1024 }, { dirTop with seq := 256 }, { dirTop with rsv := 64 }, { dirTop with content := 2 ^ 288 },
      { dirTop with code := 2 ^ 64 }].all fun d => !(Instr.profile 0 0 d).wf) = true := by decide +kernel

theorem test_wf_every_directive :
    (let d := { dirTop with tid := 1024 }
     [Instr.announceWindow 0 0 d, .assignTerminalId 0 0 d, .rangingTime 0 0 d, .registrationNonce 0 0 d, .keyControl 0 0 d,
      .disable 0 0 d, .enable 0 0 d, .deactivate 0 0 d, .sleepAllow 0 0 d, .timeOfDay 0 0 d, .adjustTransmit 0 0 d,
      .channelHandover 0 0 d, .bondingControl 0 0 d, .acknowledge 0 0 d].all fun c => !c.wf) = true := by decide +kernel

theorem test_wf_request_fields :
    (Instr.store 0 rqTop).wf = true ∧
    ([{ rqTop with src := 127 }, { rqTop with dst := 128 }, { rqTop with txn := 65536 }, { rqTop with counter := 2 ^ 64 },
      { rqTop with code := [] }, { rqTop with auth := false }].all fun q => !(Instr.store 0 q).wf) = true := by decide +kernel

theorem test_wf_every_request :
    (let q := { rqTop with src := 127 }
     [Instr.read 0 q 0 0, .write 0 q 0 0 [], .readMulti 0 q [], .tableRead 0 q 0 0 0, .tableWrite 0 q 0 0 0 [], .segBegin 0 q 0 0 0 0,
      .segData 0 q 0 0 [], .segEnd 0 q 0 0, .subscribe 0 q 0 0 0, .event 0 q [], .restore 0 q 0, .discover 0 q (.request 0 0),
      .forward 0 q 0 []].all fun c => !c.wf) = true := by decide +kernel

theorem test_wf_service_operands :
    ([Instr.read 0 rqTop 65536 0, .read 0 rqTop 0 256, .write 0 rqTop 65536 0 [], .write 0 rqTop 0 256 [], .write 0 rqTop 0 0 (zeros 9001),
      .readMulti 0 rqTop (List.replicate 256 (0, 0)), .readMulti 0 rqTop [(65536, 0)], .readMulti 0 rqTop [(0, 256)],
      .tableRead 0 rqTop 65536 0 0, .tableRead 0 rqTop 0 (2 ^ 32) 0, .tableRead 0 rqTop 0 0 65536, .tableWrite 0 rqTop 65536 0 0 [],
      .tableWrite 0 rqTop 0 (2 ^ 32) 0 [], .tableWrite 0 rqTop 0 0 65536 [], .tableWrite 0 rqTop 0 0 0 (zeros 9001)].all
      fun c => !c.wf) = true := by decide +kernel

theorem test_wf_transfer_operands :
    ([Instr.segBegin 0 rqTop 65536 0 0 0, .segBegin 0 rqTop 0 256 0 0, .segBegin 0 rqTop 0 0 256 0, .segBegin 0 rqTop 0 0 0 (2 ^ 32),
      .segData 0 rqTop 65536 0 [], .segData 0 rqTop 0 (2 ^ 32) [], .segData 0 rqTop 0 0 (zeros 9001), .segEnd 0 rqTop 65536 0,
      .segEnd 0 rqTop 0 (2 ^ 32), .subscribe 0 rqTop 65536 0 0, .subscribe 0 rqTop 0 65536 0, .subscribe 0 rqTop 0 0 256,
      .event 0 rqTop (List.replicate 256 (zeros 32)), .event 0 rqTop [zeros 31], .restore 0 rqTop 256, .forward 0 rqTop 256 [],
      .forward 0 rqTop 0 (zeros 9001)].all fun c => !c.wf) = true := by decide +kernel

theorem test_wf_frames_and_messages :
    ([Instr.fbFrameReceived 0 (zeros 16385), .innerResponse 0 rqTop [], .innerResponse 0 rqTop (zeros 20),
      .windowComplete 0 (.host 0 (zeros 65) 0 0 0 true), .windowComplete 0 (.cpu (zeros 16001) none 0),
      .windowComplete 0 (.cpu [] none (2 ^ 94)), .lastByte 0 0 (zeros 16001) true, .oversize 0 0 (zeros 16001)].all
      fun c => !c.wf) = true := by decide +kernel

theorem test_wf_lists_and_numbers :
    ([Instr.alignmentMarker 0 0 (List.replicate 40 0) [], .alignmentMarker 0 0 [] (List.replicate 40 0), .hopAllocation 0 0 [(10, 0)], .hopAllocation 0 0 [(0, 1024)], .hopFree 0 (2 ^ 24) 0 0,
      .hopFree 0 0 1024 0, .hopFree 0 0 0 16, .handOver 0 (2 ^ 24) 0 0 0, .handOver 0 0 1024 0 0, .handOver 0 0 0 1024 0,
      .handOver 0 0 0 0 16, .memEccUncorrectable 0 9 0 .essential, .memEccUncorrectable 0 0 (2 ^ 64) .essential,
      .memEccUncorrectable 0 0 0 (.latencyRow 2112), .memEccCorrected 0 9 0, .memEccCorrected 0 0 (2 ^ 64)].all
      fun c => !c.wf) = true := by decide +kernel

theorem test_wf_samples_and_jobs :
    ([Instr.laneLocked 0 0 (2 ^ 32) 0, .laneLocked 0 0 0 (2 ^ 32), .alignmentLost 0 0 4 report0, .periodBoundary 0 0 9 [0], .gcmSeal 0 0 [] [] [],
      .gcmOpen 0 0 [] [] [] (zeros 16), .gcmOpen 0 0 (zeros 12) [] [] (zeros 8), .cmacVerify 0 0 [] (zeros 9),
      .contextRestore 0 (zeros 103), .governorWindow 0 [], .governorWindow 0 (List.replicate 8 7680001), .tempSample 0 [],
      .tempSample 0 (List.replicate 13 32768), .tempSample 0 (List.replicate 13 (-32769)), .railSample 0 [],
      .railSample 0 (List.replicate 8 65536)].all fun c => !c.wf) = true := by decide +kernel

theorem test_wf_codewords_and_boot :
    ([Instr.codewordDecoded 0 0 0 720 (zeros 2160) 0, .codewordDecoded 0 0 0 1 (zeros 2159) 0,
      .codewordDecoded 0 0 0 1 (zeros 2160) (2 ^ 86400), .bootStepComplete 0 (.headers (2 ^ 32) 0),
      .bootStepComplete 0 (.headers 0 (2 ^ 32))].all fun c => !c.wf) = true := by decide +kernel

/-! ### Values that the spec works out -/

/-- The worked example of the carrier area: 300 grants and 2 directives. -/
theorem test_carrier_area_line_byte : lineByte (16 + 8 * 300 + 48 * 2) = 2760 := by decide +kernel

/-- The worked example of codeword capacity: a chain of 1,300 slots. -/
theorem test_chain_information_bytes : infoBytes 20800 = 18400 := by decide +kernel

/-- The worked example of the bucket map of group 12 after CH1 leaves Up. -/
theorem test_bucket_map_moves_one_member :
    (bucketMap [0, 1, 3] [0, 1, 3]).getD 22 9 = 1 ∧ (bucketMap [0, 1, 3] [0, 3]).getD 22 9 = 3 ∧
    (bucketMap [0, 1, 3] [0, 3]).getD 17 9 = 3 := by decide +kernel

/-- The worked example of Cipher and keys: the IV of carrier 3 in upstream frame S + 12. -/
theorem test_carrier_iv : carrierIv 0x12D689 1 true 0x0C07 3 = beBytes 12 0x000000025AD12C301C000C00 := by decide +kernel

/-- The worked example of the shapers: 1 and 2 Gb/s. -/
theorem test_shaper_increment : rateInc 1000000 = 1431655765 ∧ rateInc 2000000 = 2863311530 := by decide +kernel

/-- The worked example of staggered power: worker 40 takes slot 11, workers 1-3 slot 1, worker 4 slot 2. -/
theorem test_stagger_slots : staggerSlot 40 0 = 11 ∧ staggerSlot 1 0 = 1 ∧ staggerSlot 3 0 = 1 ∧ staggerSlot 4 0 = 2 := by decide +kernel

/-- The worked example of staggered power: the inner READ takes 5.76 µs on the bus. -/
theorem test_frame_of_a_read_on_the_bus : busTicks (zeros 24) = 5760 * tickNs := by decide +kernel

/-- The worked example of event records: the parameters of `GUARD_TRIP` and the array source of package 5. -/
theorem test_guard_trip_parameters :
    p64 0x12D689 ++ [pI32 (-40), 1] = [0, 0x0012D689, 0xFFFFFFD8, 1] ∧ 5 * 1024 + (Ev.GUARD_TRIP + 2) = 0x1492 := by decide +kernel

/-- Table 16-3: the enabling objects. -/
theorem test_enabling_objects :
    enablingObj Obj.DS_RX_INVERT = 0x2000 ∧ enablingObj Obj.US_TX_INVERT = 0x2100 ∧ enablingObj Obj.HL_MODE = 0x4000 ∧
    enablingObj Obj.MAC_MIN_FRAGMENT = 0x4012 := by decide +kernel

/-- The check value of CRC-32C over "123456789", and of the Ethernet FCS. -/
theorem test_crc_check_values :
    crc32c [0x31, 0x32, 0x33, 0x34, 0x35, 0x36, 0x37, 0x38, 0x39] = 0xE3069283 ∧
    crc32Eth [0x31, 0x32, 0x33, 0x34, 0x35, 0x36, 0x37, 0x38, 0x39] = 0xCBF43926 := by decide +kernel

/-- No row of the opcode table gives bits, so no word spells a command. -/
theorem test_no_word_is_a_command : decodeTableWord 16 0xFFFF = none ∧ State.reset.withFetchWord 16 0xFFFF = State.reset := ⟨rfl, rfl⟩


/-! ### Witnesses of the hypotheses of the statements -/


/-! ### Small states for the witnesses -/

/-- The package up in Run, right after reset. -/
def up : State := { State.reset with pwr := { Pwr.init with phase := .up } }
/-- Sets an object. -/
def wobj (i j v : Nat) (s : State) : State := s.setObj i j v
/-- A change of one receiver. -/
def wrx (ch : Fin 4) (f : Rx → Rx) (s : State) : State := s.modRx ch f
/-- Channel 2 with its receiver enabled, in a state. -/
def rxIn (st : RxState) : State := wrx 2 (fun r => { r with st := st }) (wobj Obj.DS_RX_ENABLE 3 1 up)
def wil (f : Il → Il) (s : State) : State := { s with il := f s.il }


def cand0 : Cand := { pos := 100, arrival := 7, presync := false, sfc := 9, sfcPos := 100, ids := (1, 2), hdr := none, cw1 := none, recorded := false, member := false, qualified := none }
def candHdr : Hdr := { sfc := 10, chId := 1, heId := 2, grants := 0, directives := 0, tod := false, keySwitch := false, profChanged := false, crcOk := true }
def candQ : Cand := { cand0 with presync := true, recorded := true, hdr := some candHdr, cw1 := some (false, 14) }
def frame0 : RxFrame := { pos := 100, arrival := 7, measured := true, markOk := true, hdr := some candHdr, used := false, bad := true, tc := [], ks := 0, nextCw := 1, badCws := [], mapDone := false, dirsDone := false, walk := 16, walkEnded := false, cidx := 0, cur := none, jumped := false, todSeen := false }
/-- A used frame whose walk stands at an idle carrier of no payload. -/
def frameIdle : RxFrame := { frame0 with used := true, bad := false, walk := 0, tc := beBytes 8 (0xFFFF * 2 ^ 32 + hec14 (0xFFFF * 2 ^ 32)) }

/-- A channel's activation changed. -/
def wact (ch : Fin 4) (f : Act → Act) (s : State) : State := s.modAct ch f
def wus (ch : Fin 4) (f : Us → Us) (s : State) : State := s.modUs ch f
/-- Channel 2 in Sync with head end 7, in an activation state. -/
def chIn (st : ActState) : State := wact 2 (fun a => { a with st := st }) (wrx 2 (fun r => { r with st := .sync, heId := 7, chId := 1, sfc := 100 }) up)
/-- A directive with its code under a key. -/
def dirOf (tid ty seq c : Nat) (key : Bytes) : Directive := { tid := tid, seq := seq, rsv := 0, content := c, code := cmac64 key (dirBytes tid ty seq 0 c) }
def key32 : Bytes := List.replicate 32 0x5A
/-- Operating with terminal ID 9 and a confirmed session. -/
def oper : State := (wact 2 (fun a => { a with tid := 9, session := .confirmed, eqd := 1000 }) (chIn .operating)).modSlot (chanSlot 225 2) fun _ => { Slot.empty with st := .valid, len256 := true, key := key32 }
def rang : State := wact 2 (fun a => { a with st := .ranging, tRange := some 77 }) oper
def rangNone : State := (wact 2 (fun a => { a with tid := 9 }) (chIn .ranging)).modSlot (slotIdx 240) fun _ => { Slot.empty with st := .valid, len256 := true, key := key32 }
def opTwo : State := wact 1 (fun a => { a with st := .standby }) (wrx 1 (fun r => { r with st := .sync, heId := 7, chId := 3 }) oper)
def profC : Nat := 2 * 2 ^ 286 + 2 ^ 285 + 128 * 2 ^ 274 + 64 * 2 ^ 266 + 5 * 2 ^ 202 + 6 * 2 ^ 138
def annC : Nat := 110 * 2 ^ 237 + 3 * 2 ^ 229 + 9 * 2 ^ 213 + 1 * 2 ^ 211 + 24883200 * 2 ^ 178
def adjC : Nat := 0xFFFF * 2 ^ 272 + 102 * 2 ^ 221 + 2 ^ 219 + 3 * 2 ^ 217
def hoC : Nat := 3 * 2 ^ 286 + 55 * 2 ^ 276 + 24883200 * 2 ^ 244 + 8100 * 2 ^ 193
def assC : Nat := serialNumber * 2 ^ 224 + 44 * 2 ^ 214
def rtC : Nat := 24883200 * 2 ^ 256 + 123 * 2 ^ 224 + 99 * 2 ^ 173
def keyC : Nat := 0xFFFE * 2 ^ 272 + 2 * 2 ^ 270 + 2 ^ 267 + 17 * 2 ^ 258 + 12345 * 2 ^ 64
/-- An unwrap whose result needs no evaluation of the cipher: the initial value alone wraps the empty key. -/
def kun : KeyUnwrap := { ch := 2, flow := 5, index := 1, tag := 9, len256 := true, wrapped := kwIv, kek := zeros 32, startedAt := 0, seq := 4 }
theorem beNat_fold_lt (l : Bytes) (a k : Nat) (h : a < 256 ^ k) :
    l.foldl (fun a (b : Byte) => a * 256 + b.toNat) a < 256 ^ (k + l.length) := by
  induction l generalizing a k with
  | nil => simpa using h
  | cons b l ih =>
    have := ih (a * 256 + b.toNat) (k + 1) (by have := b.isLt; rw [Nat.pow_succ]; omega)
    simpa [Nat.add_assoc, Nat.add_comm 1] using this
theorem cmac64_lt (k m : Bytes) : cmac64 k m < 2 ^ 64 := by
  have h := beNat_fold_lt ((cmac k m).take 8) 0 0 (by decide)
  have h8 : ((cmac k m).take 8).length ≤ 8 := by rw [List.length_take]; omega
  have hp : 256 ^ (0 + ((cmac k m).take 8).length) ≤ 256 ^ 8 := Nat.pow_le_pow_right (by decide) (by omega)
  exact Nat.lt_of_lt_of_le h (Nat.le_trans hp (by decide))
/-- What lets a channel hear a directive that carries its own code: the all-zero key or the confirmed management key. -/
def canHear (s : State) (ch : Fin 4) (tid ty seq k : Nat) (key : Bytes) : Bool :=
  decide (tid < 1024 ∧ seq < 256 ∧ s.rx[ch].st = .sync ∧ (tid = 1023 ∨ tid = s.act[ch].tid) ∧ s.inSleep = false ∧ s.running = true ∧
    (s.act[ch].dups.all fun e => !(e.1 == ty && e.2.1 == seq)) = true ∧ key.isEmpty = false ∧
    ((k = 0 ∧ key = zeros 32 ∧ (tid = 1023 ∨ s.act[ch].session = .none)) ∨
     (k = 2 ∧ tid ≠ 1023 ∧ s.act[ch].session = .confirmed ∧ mgmtKey s ch = key)))
theorem dirWf_parts {tid ty seq c : Nat} {key : Bytes} (h1 : tid < 1024) (h2 : seq < 256) (hc : c < 2 ^ 288)
    (h : cmac64 key (dirBytes tid ty seq 0 c) < 2 ^ 64) : dirWf (dirOf tid ty seq c key) = true := by
  have a := decide_eq_true h1
  have b := decide_eq_true h2
  have d := decide_eq_true hc
  have e := decide_eq_true h
  change (decide (tid < 1024) && decide (seq < 256) && decide (0 < 64) && decide (c < 2 ^ 288) &&
    decide (cmac64 key (dirBytes tid ty seq 0 c) < 2 ^ 64)) = true
  rw [a, b, d, e]; rfl
theorem hears_dirOf {s : State} {ch : Fin 4} {tid ty seq c k : Nat} {key : Bytes} (hc : c < 2 ^ 288)
    (h : canHear s ch tid ty seq k key = true) : s.hears ch ty (dirOf tid ty seq c key) k := by
  obtain ⟨h1, h2, h3, h4, h5, h6, h7, h8, h9⟩ := of_decide_eq_true h
  clear h
  refine ⟨?_, h3, ?_, h5, h6, ?_, ?_, h7⟩
  · have := cmac64_lt key (dirBytes tid ty seq 0 c)
    exact dirWf_parts h1 h2 hc this
  · simpa [dirAddressed, dirOf] using h4
  · omega
  · rcases h9 with ⟨rfl, rfl, h⟩ | ⟨rfl, hn, h, rfl⟩
    · unfold codeKey
      simp only [dirOf, h8, Bool.not_false, Bool.true_and, beq_self_eq_true, if_true]
      split
      · rfl
      · next hn =>
        have h' := h.resolve_left hn
        rw [h']
    · unfold codeKey
      simp only [dirOf, hn, if_false, h8, Bool.not_false, Bool.true_and, beq_self_eq_true, if_true]
      rw [h]
theorem dirWf_dirOf {tid ty seq c : Nat} {key : Bytes} (h1 : tid < 1024) (h2 : seq < 256) (hc : c < 2 ^ 288) :
    dirWf (dirOf tid ty seq c key) = true := by
  have := cmac64_lt key (dirBytes tid ty seq 0 c)
  exact dirWf_parts h1 h2 hc this
theorem codeKey_pending_dirOf {tid ty seq c : Nat} {mgmt pend : Bytes} (h : tid ≠ 1023) (hp : pend.isEmpty = false) :
    codeKey .pending mgmt pend ty (dirOf tid ty seq c pend) = some 1 := by
  unfold codeKey
  simp only [dirOf, h, if_false, hp, Bool.not_false, Bool.true_and, beq_self_eq_true, if_true]
theorem serialNumber_lt : serialNumber < 2 ^ 64 := by
  have := Config.serialNumber.isLt
  unfold serialNumber; omega
theorem content_parts (x k n : Nat) (hk : 0 < k) (hx : x < n) :
    ∃ c, c < n * (1024 * k) ∧ c / (1024 * k) = x ∧ c / k % 1024 = 44 := by
  refine ⟨(x * 1024 + 44) * k, ?_, ?_, ?_⟩
  · rw [← Nat.mul_assoc]; exact Nat.mul_lt_mul_of_pos_right (by omega) hk
  · rw [Nat.mul_comm 1024 k, ← Nat.div_div_eq_div_mul, Nat.mul_div_cancel _ hk]; omega
  · rw [Nat.mul_div_cancel _ hk]; omega
theorem content_serial : ∃ c, c < 2 ^ 288 ∧ fld c 287 224 = serialNumber ∧ fld c 223 214 = 44 := by
  obtain ⟨c, h1, h2, h3⟩ := content_parts serialNumber (2 ^ 214) (2 ^ 64) (by decide) serialNumber_lt
  refine ⟨c, Nat.lt_of_lt_of_le h1 (by decide), ?_, ?_⟩
  · unfold fld
    rw [show (2 : Nat) ^ 224 = 1024 * 2 ^ 214 by decide, h2]
    exact Nat.mod_eq_of_lt serialNumber_lt
  · unfold fld; exact h3

def todC : Nat := 1000 * 2 ^ 240 + 999999999 * 2 ^ 208 + 5 * 2 ^ 192 + 7 * 2 ^ 160
def usedAt (m : Bool) (s : State) : State := wrx 2 (fun r => { r with lastUsed := some (100, 4, m), calibrated := true }) s
def tod2 : State := wact 2 (fun a => { a with rtdValid := true, rtd := 100000 }) (usedAt true (wobj Obj.TIME_DOM_SOURCE 2 3 (chIn .operating)))
def bondC : Nat := 63 * 2 ^ 282 + 0b1010 * 2 ^ 276 + 1 * 2 ^ 274 + 2000 * 2 ^ 256
def await1 : UpDir := { type := 0x82, seq := 200, content := 5, sends := 1, sentAt := 0 }
def pendS : State := wact 2 (fun a => { a with session := .pending }) (rang.modSlot (chanSlot 227 2) fun _ => { Slot.empty with st := .valid, len256 := true, key := key32 })
/-- A power write under way, to register 0x2A7 of device 0x29. -/
def opt0 : OptWrite := { device := 0x29, register := 0xA7, data := 3 }
def inInit : State := wus 2 (fun u => { u with profs := u.profs.set 3 { u.profs[3] with valid := true } }) (wobj Obj.ACT_ENABLE 3 1 (chIn .initial))
def hov : Handover := { target := 1, sfc := 50, tid := 44, eqd := 10, reached := true }

/-- A grant word with its HEC. -/
def gword (alloc fl start size prof : Nat) : Nat := let v := alloc * 2 ^ 50 + fl * 2 ^ 46 + start * 2 ^ 29 + size * 2 ^ 13 + prof * 2 ^ 11; v + hec10 v
def map1 (w : Nat) : MapIn := { sfc := 101, arrival := 1000, words := [(w, false)], measured := true, chId := 1 }
def prof4 : BurstProfile := { valid := true, stale := false, p := 4, guardSlots := 1, pattern := 5, delimiter := 6 }
def upOp : State := wus 2 (fun u => { u with profs := u.profs.set 1 prof4 }) oper
def grant0 : Grant := { allocId := 9, report := false, directiveSlot := false, ranging := false, forcedWake := false, start := 5, size := 16, profile := 1, hecOk := true, fecBad := false }
def chain0 : Chain := { kind := .data, tid := 9, sfc := 100, chId := 1, grants := [(grant0, 3)], startSlot := 5, slots := 16, p := 4, guardSlots := 1, pattern := 5, delimiter := 6, frameStart := 0, measured := true, period := 0, all := false, riseAt := 20000, endAt := 30000, delay := 0, sealedAt := some 50, dsOk := true, emergency := false, directive := none, dirBytes := [], bonds := [], filled := false, content := [], taken := [], reports := 0, carriers := 0, payload := 0, idle := 0, fragments := 0 }
def chainAnn : Chain := { chain0 with kind := .announce, delay := 77 }
def chainFull : Chain := { chain0 with filled := true, content := zeros 8, riseAt := 5 }

def wgrp (g : Fin 64) (f : Group → Group) (s : State) : State := s.modGroup g f
/-- Group 63, round-robin, Active on channels 1 and 2, that expects sequence 4095. -/
def grp : State := wgrp 63 (fun x => { x with valid := true, st := .active, mode := 1, members := 6, up := 6, expValid := true, expected := 4095 }) up
def fr (fid : Nat) : Frame := { Frame.blank fid 79 8 with handles := [3], owner := 95 }
def fr7 : State := { grp with frames := [fr 7, fr 8] }
def hf : HeldFrame := { seq := 4, fid := 7, at0 := 0 }

def wfr (f : Frame) (s : State) : State := { s with frames := s.frames ++ [f] }
def portUp (p : Fin 8) (s : State) : State := s.modPort p fun o => { o with st := .up, ctStart := 60 }
def bytes60 (ty : Nat) : Bytes := zeros 12 ++ beBytes 2 ty ++ zeros 46
/-- Frame 7 of host port 5 beside frame 8, at a stage. -/
def f7 (st : Stage) : Frame := { Frame.blank 7 5 5 with data := bytes60 0x0800, stage := st, cluster := 63, fcs := some true, handles := [4], owner := 5, order := some (1, 2) }
def withF (f : Frame) : State := wfr (fr 8) (wfr f up)
def anyRule : Nat := 2 ^ 1470 + 3 * 2 ^ 125 + 2 ^ 35
/-- A state with a row of a table. -/
def wrow (tb r v : Nat) (s : State) : State := s.setRow tb r v

/-- Buffer 5 of pool 4, held by owner 90. -/
def hbuf : Nat := 4 * 2 ^ 21 + 5
def held : State := setBuf hbuf 2 90 (setBuf (hbuf + 1) 2 90 up)
def warb (i : Fin 23) (f : Arb → Arb) (s : State) : State := s.modArb i f
def arb22 : State := warb 22 (fun a => { a with credit := (Vector.replicate 16 3).set 8 4 }) up

/-- A frame in host class 8p + c. -/
def qf (k : Nat) : QFrame := { fid := 7, queue := 2048 + k, data := zeros 60, total := 60, flow := 0, bond := none, hash := 0, seqValid := false, seq := 0, colour := 1, at0 := 0, ts := none, tag := 0, handles := [], chMask := 0, flume := none, ingress := 0, ptpOff := none, udpOff := none, oneStep := 0, express := false, fromPort := false, src := 0 }
def tx0 : Tx := { frame := qf 47, cls := 7, len := 64, startedAt := 0, stamp := 0, uncal := false, cutThrough := false, committed := true, staged := 64, stomp := 0, stompAt := 0, undoOf := none, sent := 0, overrun := false, closedAt := none }
def hq5 : State := { portUp 5 up with sch := { up.sch with hq := [qf 3, qf 47, qf 40] } }
def wport (p : Fin 8) (f : Port → Port) (s : State) : State := s.modPort p f
def gcl0 : Gcl := { entries := [(0x7F, 500), (0xFF, 500)], length := 2, cycle := 1000, anchor := 0 }
def wgate (p : Fin 8) (f : PortGates → PortGates) (s : State) : State := s.modGates p f
def gclS : State := wobj Obj.GCL_LENGTH 6 1 (wobj Obj.GCL_CYCLE_NS 6 1000000000 (wrow Obj.GCL_SHADOW 1280 (0x7F * 2 ^ 56 + 16) up))

/-- Port 5 of 25 Gb/s on its lane, enabled or not. -/
def port25 (st : PortState) : State := wport 5 (fun o => { o with st := st }) (wobj Obj.MAC_PORT_TYPE 6 2 (wobj Obj.HL_MODE 6 2 (wobj Obj.HL_ENABLE 6 1 up)))

def wcli (c : Fin 8) (f : Cli → Cli) (s : State) : State := s.modCli c f
/-- Client 5 enabled with one member on channel 2, on lane 5 in mode 16. -/
def cli5 : State := wobj Obj.HL_MODE 6 16 (wrow Obj.CLI_MEMBER_TABLE 20 (2 ^ 63 + 2 * 2 ^ 61 + 300 * 2 ^ 45) (wrow Obj.CLI_TABLE 5 (2 ^ 63 + 5 * 2 ^ 58 + 6 * 2 ^ 50 + 250 * 2 ^ 39 + 125 * 2 ^ 31) (chIn .operating)))
def cli5on : State := wcli 5 (fun x => { x with started := true, st := 1 }) cli5
def hdrC : Nat := contHeader 77 0 false 0 0 false 0 0
def cin (n : Nat) (d : Bytes) : FlumeIn := { fid := 7, client := 5, ch := n, data := d, bad := false, at0 := 0 }
def cin0 : FlumeIn := cin 2 (beBytes 16 hdrC ++ [1, 2])
def part0 : CliPart := { member := 0, gfc := 77, nextNo := 1, at0 := 0, data := 5, bytes := 1, full := true, jc := 0, ais := false, pointer := 0 }
def wpm (e : Fin 12) (f : PmEntity → PmEntity) (s : State) : State := s.modPm e f
def sec0 : PmSec := { second := 899, errored := 3, es := true, ses := false, uas := false, words := Vector.replicate 8 1 }
def at910 : State := { up with time := { up.time with doms := up.time.doms.set 0 { up.time.doms[0] with clk := { at0 := 0, val := 909 * secU, rate := 0 }, state := .locked } } }

def wdom (x : Fin 2) (f : Dom → Dom) (s : State) : State := s.modDom x f
def tse (k : Nat) (c : Bool) : TsEntry := { id := 9, complete := c, kind := k, port := 3, domain := 0, uncal := false, gap := false, notSent := false, tag := 5, ptpSeq := 0, ptpType := 0, ptpValid := false, burstOffset := 0, stamp := 77 }
def wtime (f : TimeSt → TimeSt) (s : State) : State := { s with time := f s.time }
def tlGood : Nat := let b := 1000 * 2 ^ 80 + 2 * 2 ^ 78 + 44 * 2 ^ 32; b + crc16Tlink b

def wslot (i : Fin 256) (st : SlotState) (s : State) : State := s.modSlot i fun _ => { Slot.empty with st := st, len256 := true, flow := 5, key := key32, txCh := 3, newest := true }
def wblob (w : Fin 3) (b : Nat) (s : State) : State := { s with flash := { s.flash with blobs := s.flash.blobs.set w (beBytes 40 b) }, ciph := { s.ciph with blobRun := s.ciph.blobRun.set w (some 0) } }
def job0 : Job := { id := 7, kind := .cmacGenerate, slot := 241, iv := [], aad := [], data := [1, 2], tag := [], blocksLeft := 64, exported := false }
def wjobs (l : List Job) (s : State) : State := { s with ciph := { s.ciph with jobs := l } }
def key241 : State := wslot 241 .valid up

def wpwr (f : Pwr → Pwr) (s : State) : State := { s with pwr := f s.pwr }
def wisl (f : Island → Island) (s : State) : State := { s with island := f s.island }
def inPhase (p : Phase) (x : PwrState) : State := wpwr (fun w => { w with phase := p, state := x, target := x, phaseAt := 0 }) up
def wmon (f : Mon → Mon) (s : State) : State := { s with mon := f s.mon }
def wjtag (h : Bool) (i : JtagInstr) : State := { up with jtag := { held := h, instr := i, boundary := 0x15, shift := 3 } }
/-- Region 5 governed between 2 and 8, the others fixed at 8; cluster 43 gated or all active. -/
def gov5 : State := wobj Obj.GOV_MIN 1 8 (wobj Obj.GOV_MIN 2 8 (wobj Obj.GOV_MIN 3 8 (wobj Obj.GOV_MIN 4 8 (wobj Obj.GOV_MIN 5 8 (wobj Obj.GOV_MIN 7 8 (wobj Obj.GOV_MIN 8 8 (wpwr (fun w => { w with govActing := true }) up)))))))
def gov43 : State := wpwr (fun w => { w with clusters := w.clusters.set 43 .gated }) gov5
def wcl (c : Fin 64) (v : ClusterState) : State := wpwr (fun w => { w with clusters := w.clusters.set c v }) up
def temps (v : Int) : List Int := List.replicate 13 v
def rails : List Nat := [750, 800, 900, 1200, 1100, 1800, 1800, 1800]
def railsOk : State := wmon (fun m => { m with railState := Vector.replicate 8 1 }) up
def gmv : State := wpwr (fun w => { w with regions := (w.regions.set 5 { w.regions[5] with limited := true, msWindows := 9, msLow := false }).set 2 { w.regions[2] with msWindows := 9 } }) (wobj Obj.GOV_MIN 3 1 (gov5))

/-- A request of host 64 to the package at address 0. -/
def rq0 : Req := { src := 64, dst := 0, txn := 7, inband := false, auth := false, counter := 0, code := [], waiting := 0 }
def wbus (f : Bus → Bus) (s : State) : State := { s with bus := f s.bus }
def mgr : State := wbus (fun b => { b with manager := true }) up
def ans0 : Answered := { src := 64, txn := 7, reply := [1, 2], status := .range, route := none, at0 := 3 }
def wcix (f : Ciph → Ciph) (s : State) : State := { s with ciph := f s.ciph }
def keyed241 : State := wobj Obj.FB_AUTH_MODE 0 1 (wcix (fun c => { c with slots := c.slots.set 241 { c.slots[(241 : Fin 256)] with st := .valid } }) mgr)
def rows2 : Bytes := [0, 0, 0, 0, 0, 0, 0, 16, 0, 0, 0, 0, 0, 0, 0, 17]
def tr0 : Transfer := { handle := 9, src := 64, index := Obj.EVT_LOG_DOMAIN, sub := 0, write := false, total := 32, seg := 0, segSize := 1456, data := [], plan := [(3, 32)], lastAt := 0 }
def tr1 : Transfer := { tr0 with index := Obj.BOOT_IMAGE_DOMAIN, sub := 1, write := true, total := 3, plan := [] }
def wtr (x : Transfer) (s : State) : State := wbus (fun b => { b with transfers := [x] }) s
def safe : State := { up with pwr := { up.pwr with phase := .safeMode } }
def capRow : ObjRow := ⟨Obj.CAP_CLEAR, 0, 0, .u8, .cmd, 0, none⟩
def latRow : ObjRow := ⟨Obj.LAT_CONFIG, 2112, 1, .table, .rws, 0, none⟩
def sub0 : Subscription := { src := 64, first := 0, last := 65535, auth := false, route := none, lastHeard := 0 }
def wsubs (l : List Subscription) (s : State) : State := wbus (fun b => { b with subs := l }) s
def rec0 : EvRec := { time := 5, source := 1024, retained := false, timeHeld := false, rateLimited := false, continued := false, severity := 1, seq := 3, p0 := 1, p1 := 2, p2 := 3, p3 := 4 }
def rec1 : EvRec := { rec0 with source := 1023 }
def wmem (m : Fin 64) (f : Member → Member) (s : State) : State := wbus (fun b => { b with members := b.members.set m (f b.members[m]) }) s
def rqFrom (a : Nat) : Req := { rq0 with src := a }
def wflash (f : Flash → Flash) (s : State) : State := { s with flash := f s.flash }
def mgr5 : State := wbus (fun b => { b with addr := 5 }) mgr
def rq5 (a : Nat) : Req := { rq0 with src := a, dst := 5 }
/-- A READ of `FB_WAKE_WAIT_MS` from host 70 to node 2. -/
def readMsg : Bytes := ownMsg 70 1 2 9 [0x11, 0x08, 0, 0]
def readHdr : Vdp := { resp := false, auth := false, svc := 1, length := 24, dst := 2, src := 70, status := 0, txn := 9, counter := 0 }
def fwd0 : Forward := { req := rq0, route := none, target := 2, innerTxn := 44, inner := readMsg, sentAt := 0, waking := false }
def respMsg : Bytes := answerMsg 2 { rq0 with src := 0, txn := 44 } 1 .ok [3, 232]
def respHdr : Vdp := { resp := true, auth := false, svc := 1, length := 22, dst := 0, src := 2, status := 0, txn := 44, counter := 0 }
def respRq : Req := { src := 2, dst := 0, txn := 44, inband := false, auth := false, counter := 0, code := [], waiting := 0 }
def wfwd (f : Forward) : State := wbus (fun b => { b with forwards := [f] }) mgr
def bf (u : Bool) (n : Nat) : BusFrame := { urgent := u, dst := n, msg := zeros 20 }
def onBus (c : Nat) : State := wbus (fun b => { b with sending := some (bf true 3), sendAt := some 0, collisions := c }) up
/-- Frames to the package at address 0 from node 70 or from its own address, whose payload is no message. -/
def busBytes (src : Nat) (msg : Bytes) : Bytes :=
  let d := nodeMac 0 ++ nodeMac src ++ [0x88, 0xB5] ++ msg ++ zeros (46 - msg.length)
  d ++ (beBytes 4 (crc32Eth d)).reverse
def frNone : Bytes := busBytes 70 []
def frSelf : Bytes := busBytes 0 []
def frRead : Bytes := busBytes 70 (ownMsg 70 1 0 9 [0x11, 0x08, 0, 0])
def frBad : Bytes := zeros 64

def wtimeD (x : Fin 2) (f : Dom → Dom) (s : State) : State := { s with time := { s.time with doms := s.time.doms.set x (f s.time.doms[x]) } }
def cl7 : State := wpwr (fun w => { w with clusters := (w.clusters.set 9 .active).set 12 .active }) up

/-- The inner link in service, a replay under way, and lane 3 that missed its last marker. -/
def up2 : State := wil (fun x => { x with st := 2 }) up
def flits : State := wil (fun x => { x with dirs := x.dirs.set 1 { x.dirs[1] with replay := 2, kept := [[9], [7]] } }) up2
def lanes3 : State := wil (fun x => { x with dirs := x.dirs.set 1 { x.dirs[1] with missed := [3] } }) up2
def marks3 : List (BitVec 257) :=
  (List.range 40).map fun k => if k = 3 then 0 else BitVec.ofNat 257 (2 ^ 256 + markerFields k 0 * 2 ^ 234)
/-- A chain that waits for its seal, and one whose first slot takes a directive. -/
def unsealed (k : Chain) : State := wact 2 (fun a => { a with upq := [await1] }) (wus 2 (fun u => { u with chains := [k] }) upOp)
def chainDir : Chain := { chain0 with sealedAt := none, slots := 64, grants := [({ grant0 with directiveSlot := true, size := 64 }, 3)] }
/-- Frame 7 asks for a sack-hoist entry at region 2, from region 4. -/
def hoist3 : State := withF { f7 .hoistAsk with region := 2, askFrom := 4 }
/-- Port 5 loses its alignment and its signal in one period. -/
def outranked : State := { port25 .up with pending := [.laneSignalLoss (1000 * tickMs) 5] }
/-- Client 5 with one container in. -/
def withIn (g : FlumeIn) : State := { cli5on with flumeIn := [g] }

def w_StepTakesOneCommand_1_s : State := { up with pending := [.clamp 5] }
def w_InnerLinkComesUp_2_s : State := wil (fun x => { x with st := 1 }) State.reset
def w_InnerLinkComesUp_3_s : State := wil (fun x => { x with st := 1, checked := true }) State.reset
def w_InnerLinkReplaysAndRepairs_1_s : State := wil (fun x => { x with st := 2 }) up
def w_InnerLinkReplaysAndRepairs_2_s : State := wil (fun x => { x with st := 2 }) up
def w_InnerLinkReplaysAndRepairs_4_s : State := wil (fun x => { x with st := 2 }) up
def w_InnerLinkReplaysAndRepairs_5_s : State := wil (fun x => { x with st := 3, dirs := x.dirs.set 1 { IlDir.init with active := (List.range 38).erase 3, spares := [39], failed := 8, repairs := [(3, 38, 4)] } }) up
def w_LossOfSignalAndLock_1_s : State := rxIn .hunt
def w_LossOfSignalAndLock_2_s : State := rxIn .presync
def w_LossOfSignalAndLock_3_s : State := rxIn .noSignal
def w_ReceiverWritesActOnTheirChannel_3_s : State := rxIn .presync
def w_ReceiverWritesActOnTheirChannel_4_s : State := rxIn .presync
def w_CandidatesStartAndEnd_1_s : State := wrx 2 (fun r => { r with cands := [cand0], barred := [(50, 0)] }) (rxIn .hunt)
def w_CandidatesStartAndEnd_2_s : State := wrx 2 (fun r => { r with cands := [cand0] }) (rxIn .hunt)
def w_AGoodCandidateEntersSync_1_s : State := wrx 2 (fun r => { r with cands := [candQ], latched := some (1, 2) }) (rxIn .presync)
def w_CodewordsAndCarriersAreCounted_1_s : State := wrx 2 (fun r => { r with rxq := [frame0] }) (rxIn .sync)
def w_CodewordsAndCarriersAreCounted_2_s : State := wrx 2 (fun r => { r with cands := [candQ] }) (rxIn .presync)
def w_CodewordsAndCarriersAreCounted_3_s : State := wrx 2 (fun r => { r with rxq := [frameIdle] }) (rxIn .sync)
def w_DirectivesThatScheduleForALaterFrame_1_s : State := chIn .initial
def w_DirectivesThatScheduleForALaterFrame_2_s : State := chIn .standby
def w_DirectivesThatMoveTheState_1_s : State := chIn .announced
def w_DirectivesThatMoveTheState_4_s : State := chIn .emergencyStop
def w_SessionAndDataKeys_2_s : State := { wact 2 (fun a => { a with regNonce := some (3, 4) }) oper with ciph := { oper.ciph with derive := oper.ciph.derive.set 2 (some { keys := List.replicate 64 7, startedAt := 0 }) } }
def w_SessionAndDataKeys_4_s : State := { oper with ciph := { oper.ciph with unwraps := [kun] } }
def w_SessionAndDataKeys_5_s : State := { oper with ciph := { oper.ciph with staged := oper.ciph.staged.set 2 (some { flow := 3, index := 1, tag := 9, bytes := [], frames := 0 }) } }
def w_SessionAndDataKeys_5_st : Staged := { flow := 3, index := 1, tag := 9, bytes := [], frames := 0 }
def w_SessionAndDataKeys_6_s : State := wact 2 (fun a => { a with session := .renewing, renewAt := some 0 }) oper
def w_DirectivesOfSleepTimeAndBonding_1_s : State := wobj Obj.PWR_HE_SLEEP_PERMIT 0 1 oper
def w_DirectivesOfSleepTimeAndBonding_3_s : State := usedAt false (chIn .operating)
def w_DirectivesOfSleepTimeAndBonding_4_src : Int := ((1000 * secU + 999999999 * nsU + 5 * 2 ^ 24 : Nat) : Int) + ((100000 * 2 ^ 40 * 10000 / 995328 : Nat) : Int) * ((2 ^ 31 : Nat) + 7) / (2 ^ 32 : Nat)
def w_DirectivesOfSleepTimeAndBonding_6_s : State := wact 2 (fun a => { a with await := [await1] }) oper
def w_ActivationTimersAndWrites_3_s : State := wact 2 (fun a => { a with tAnnounce := some 5 }) (chIn .announced)
def w_ActivationTimersAndWrites_4_s : State := wact 2 (fun a => { a with tRange := some 5 }) rang
def w_ActivationTimersAndWrites_5_s : State := wact 2 (fun a => { a with tLost := some 5 }) (chIn .intermittent)
def w_ActivationTimersAndWrites_6_s : State := { wact 2 (fun a => { a with token := 65535 }) up with island := { up.island with silence := up.island.silence.set 2 true } }
def w_ActivationTimersAndWrites_8_s : State := wact 2 (fun a => { a with optPending := some opt0 }) up
def w_ActivationTimersAndWrites_9_s : State := wact 2 (fun a => { a with optPending := some opt0 }) up
def w_EvaluationResendAndHandover_2_s : State := wrx 2 (fun r => { r with st := .hunt }) oper
def w_EvaluationResendAndHandover_3_s : State := wact 2 (fun a => { a with await := [await1], frames := 9 }) oper
def w_EvaluationResendAndHandover_4_s : State := wact 2 (fun a => { a with await := [{ await1 with sends := 3 }], frames := 9 }) oper
def w_EvaluationResendAndHandover_5_s : State := wact 2 (fun a => { a with eqdq := [{ immediate := false, sfc := 0, delta := true, value := -1000, source := 2, power := none }] }) oper
def w_EvaluationResendAndHandover_5_e : EqdChange := { immediate := false, sfc := 0, delta := true, value := -1000, source := 2, power := none }
def w_EvaluationResendAndHandover_6_s : State := wact 2 (fun a => { a with handover := some hov }) opTwo
def w_EvaluationResendAndHandover_7_s : State := wact 1 (fun a => { a with incoming := some (2, hov, true) }) opTwo
def w_GrantsBecomeBursts_1_s : State := wus 2 (fun u => { u with maps := [map1 (gword 9 0 97184 16 1)] }) upOp
def w_GrantsBecomeBursts_2_s : State := wus 2 (fun u => { u with maps := [map1 1] }) upOp
def w_GrantsBecomeBursts_3_s : State := wus 2 (fun u => { u with chains := [{ chain0 with sealedAt := none, riseAt := 6 * tickUs + 5 }] }) upOp
def w_GrantsBecomeBursts_6_s : State := wus 2 (fun u => { u with chains := [chain0] }) upOp
def w_GrantsBecomeBursts_7_s : State := wus 2 (fun u => { u with chains := [chainAnn] }) upOp
def w_GrantsBecomeBursts_8_s : State := wus 2 (fun u => { u with chains := [chainFull] }) upOp
def w_GrantsBecomeBursts_9_s : State := wus 2 (fun u => { u with burst := some chainFull, fallAt := 5, pben := true }) upOp
def w_EmissionGuardTripsAndReleases_1_s : State := wus 2 (fun u => { u with windows := [(5, 5)] }) up
def w_EmissionGuardTripsAndReleases_2_s : State := wus 2 (fun u => { u with windows := [(6, 9)] }) up
def w_EmissionGuardTripsAndReleases_3_s : State := wus 2 (fun u => { u with latched := some 0 }) up
def w_EmissionGuardTripsAndReleases_4_s : State := { up with island := { up.island with silence := up.island.silence.set 2 true } }
def w_BondingGroupsAndReorder_1_s : State := wgrp 63 (fun x => { x with held := [hf] }) fr7
def w_BondingGroupsAndReorder_3_s : State := wgrp 63 (fun x => { x with dirty := some true, up := 2 }) grp
def w_BondingGroupsAndReorder_4_s : State := { fr7 with bond := { fr7.bond with presented := [(7, 63, true, 4095)] } }
def w_BondingGroupsAndReorder_5_s : State := { fr7 with bond := { fr7.bond with presented := [(7, 63, true, 2046)] } }
def w_BondingGroupsAndReorder_6_s : State := wgrp 63 (fun x => { x with held := [hf] }) fr7
def w_BondingGroupsAndReorder_7_s : State := wgrp 63 (fun x => { x with change := some (0, 2000) }) grp
def w_WindowsContextsAndLookups_1_s : State := portUp 5 up
def w_WindowsContextsAndLookups_2_s : State := portUp 5 up
def w_WindowsContextsAndLookups_3_s : State := withF (f7 .waiting)
def w_WindowsContextsAndLookups_4_s : State := wrow Obj.RULE_TABLE 3 anyRule (withF { f7 .parsing with generation := 0 })
def w_WindowsContextsAndLookups_5_s : State := wrow Obj.EM_TABLE (8 * emBucket 3 77 + 2) (77 * 2 ^ 192 + 5 * 2 ^ 64 + 2 ^ 63 + 3 * 2 ^ 59) (withF { f7 .lookup with emWait := some (3, 77) })
def w_WindowsContextsAndLookups_6_s : State := withF { f7 .lookup with emWait := some (3, 77) }
def w_WindowsContextsAndLookups_7_s : State := withF (f7 .program)
def w_LateChecksAndUndo_1_s : State := withF (f7 .program)
def w_LateChecksAndUndo_5_s : State := withF (f7 .waiting)
def w_LateChecksAndUndo_6_s : State := withF { f7 .awaiting with complete := true, fcs := none }
def w_LateChecksAndUndo_7_s : State := withF { f7 .awaiting with complete := true, fcs := none }
def w_LateChecksAndUndo_8_s : State := wrx 2 (fun r => { r with verdicts := [{ fid := 7, flow := 3, keyIndex := 1, good := true, noKey := false, client := none, part := 0 }] }) (withF { f7 .program with tagsOpen := 2 })
def w_LateChecksAndUndo_8_v : Verdict := { fid := 7, flow := 3, keyIndex := 1, good := true, noKey := false, client := none, part := 0 }
def w_LateChecksAndUndo_10_s : State := withF { f7 .awaiting with complete := true, fcs := none }
def w_LateChecksAndUndo_11_s : State := withF { f7 .program with complete := true }
def w_CommitAndCutThrough_1_s : State := withF (f7 .awaiting)
def w_CommitAndCutThrough_2_s : State := withF { f7 .ready with complete := true }
def w_CommitAndCutThrough_3_s : State := withF { f7 .ready with complete := true, flow := 9, action := 2 * 2 ^ 125 + 7 * 2 ^ 119 + 255 * 2 ^ 111 + 9 * 2 ^ 95 }
def w_CommitAndCutThrough_3_f : Frame := { f7 .ready with complete := true, flow := 9, action := 2 * 2 ^ 125 + 7 * 2 ^ 119 + 255 * 2 ^ 111 + 9 * 2 ^ 95 }
def w_CommitAndCutThrough_4_s : State := wrow Obj.CTX_SOURCE_TABLE 5 (2 ^ 37) (portUp 7 (withF { f7 .ready with complete := true, action := 2 ^ 125 + 7 * 2 ^ 122 + 3 * 2 ^ 119 }))
def w_CommitAndCutThrough_4_w : State := (wrow Obj.CTX_SOURCE_TABLE 5 (2 ^ 37) (portUp 7 (withF { f7 .ready with complete := true, action := 2 ^ 125 + 7 * 2 ^ 122 + 3 * 2 ^ 119 }))).advance 5
def w_CommitAndCutThrough_4_f : Frame := { f7 .ready with complete := true, action := 2 ^ 125 + 7 * 2 ^ 122 + 3 * 2 ^ 119 }
def w_RuleGenerationsAndAgeing_2_s : State := { up with rules := { up.rules with draining := true } }
def w_RuleGenerationsAndAgeing_4_s : State := wrow Obj.RULE_TABLE 9 (2 ^ 1471 + 5) (wrow Obj.RULE_TABLE 3 anyRule { up with rules := { up.rules with draining := true } })
def w_RuleGenerationsAndAgeing_5_s : State := { withF { f7 .program with generation := 1 } with rules := { up.rules with draining := true } }
def w_RuleGenerationsAndAgeing_6_s : State := wrow Obj.EM_TABLE 9 (2 ^ 63) (wrow Obj.EM_TABLE 8 (2 ^ 63 + 2 ^ 62 + 0xFFFFFFFF) (wobj Obj.EM_AGE_S 0 1 up))
def w_HopperGrantsFreesAndHandOvers_2_s : State := { up with hop := { up.hop with counts := up.hop.counts.set 4 0 } }
def w_HopperGrantsFreesAndHandOvers_8_s : State := { held with hop := { held.hop with lists := held.hop.lists.set 18 { pushed := [1], next := 8, last := 32768, rebuilding := true, waiting := [] } } }
def w_PromotionSpillAndMemoryErrors_1_s : State := withF (f7 .program)
def w_PromotionSpillAndMemoryErrors_2_s : State := setBuf 4 1 5 (withF { f7 .program with handles := [4, 9] })
def w_PromotionSpillAndMemoryErrors_3_s : State := let s := setBuf 4 2 160 (withF (f7 .program)); { s with hop := { s.hop with spills := [{ old := 4, new := 2 * 2 ^ 21, owner := 160 }] } }
def w_PromotionSpillAndMemoryErrors_4_s : State := wrow Obj.EM_TABLE 1048575 (2 ^ 63 + 5) up
def w_PromotionSpillAndMemoryErrors_6_s : State := { up with pwr := { up.pwr with phase := .asleep, state := .off } }
def w_ArbitersPickBrakeAndDrain_4_s : State := warb 22 (fun a => { a with winner := some 8 }) up
def w_ArbitersPickBrakeAndDrain_6_s : State := warb 22 (fun a => { a with brakeAt := some 1, drained := true }) up
def w_ArbitersPickBrakeAndDrain_8_s : State := warb 13 (fun a => { a with brakeAt := some 1 }) up
def w_PortsSelectSendAndSample_3_s : State := wport 5 (fun o => { o with tx := some { tx0 with cutThrough := true, committed := false } }) up
def w_PortsSelectSendAndSample_4_s : State := wport 5 (fun o => { o with tx := some tx0, clean := 1048574 }) up
def w_PortsSelectSendAndSample_5_s : State := wport 5 (fun o => { o with tx := some tx0, clean := 1048575, ctStart := 513 }) up
def w_PortsSelectSendAndSample_6_s : State := wport 5 (fun o => { o with tx := some { tx0 with stomp := 2 } }) up
def w_PortsSelectSendAndSample_7_s : State := wport 5 (fun o => { o with tx := some tx0 }) up
def w_PortsSelectSendAndSample_8_s : State := wport 5 (fun o => { o with tx := some { tx0 with stomp := 1 } }) up
def w_GateListsCommitAndChange_1_s : State := wobj Obj.GCL_BASE_TIME 6 (5 * 2 ^ 32) gclS
def w_GateListsCommitAndChange_3_s : State := wgate 5 (fun x => { x with pending := some gcl0 }) gclS
def w_GateListsCommitAndChange_5_s : State := wgate 5 (fun x => { x with pending := some gcl0, changeAt := 0 }) (wobj Obj.GATE_ENABLE 6 1 up)
def w_GateListsCommitAndChange_6_s : State := wgate 5 (fun x => { x with pending := some gcl0, changeAt := 1 }) up
def w_GateListsCommitAndChange_7_s : State := wgate 5 (fun x => { x with active := some gcl0, overlap := some (3, 1) }) (wobj Obj.GATE_ENABLE 6 1 up)
def w_GateListsCommitAndChange_8_s : State := wport 5 (fun o => { o with tx := some tx0 }) (wgate 5 (fun x => { x with active := some gcl0 }) (wobj Obj.GATE_ENABLE 6 1 up))
def w_LinkStatesOfAPort_1_s : State := port25 .disabled
def w_LinkStatesOfAPort_3_s : State := port25 .aligning
def w_LinkStatesOfAPort_4_s : State := port25 .disabled
def w_LinkStatesOfAPort_5_s : State := port25 .noSignal
def w_LinkStatesOfAPort_6_s : State := port25 .aligning
def w_LinkStatesOfAPort_7_s : State := port25 .aligning
def w_LinkStatesOfAPort_8_s : State := port25 .remoteFault
def w_LinkStatesOfAPort_9_s : State := port25 .up
def w_LinkStatesOfAPort_11_s : State := port25 .up
def w_LinkStatesOfAPort_12_s : State := port25 .up
def w_LinkStatesOfAPort_13_s : State := port25 .aligning
def w_StartThresholdKeepsItsBounds_2_s : State := wport 7 (fun o => { o with ctStart := 100 }) up
def w_StartThresholdKeepsItsBounds_3_s : State := wport 7 (fun o => { o with ctStart := 9000 }) up
def w_PreemptionAndLaneTest_1_s : State := wport 7 (fun o => { o with preempt := 1 }) (portUp 7 up)
def w_PreemptionAndLaneTest_3_s : State := wport 7 (fun o => { o with preempt := 1 }) (portUp 7 up)
def w_PreemptionAndLaneTest_4_s : State := portUp 7 (wobj Obj.MAC_PREEMPT_ENABLE 8 1 up)
def w_PreemptionAndLaneTest_5_s : State := portUp 7 up
def w_PreemptionAndLaneTest_10_s : State := { wrow Obj.HL_PRBS_TABLE 11 (2 ^ 58) (wrx 3 (fun r => { r with cdr := true }) up) with prbs := up.prbs.set 11 { up.prbs[11] with locked := true } }
def w_PreemptionAndLaneTest_14_s : State := wobj Obj.HL_MODE 8 21 (wobj Obj.HL_ENABLE 8 1 up)
def w_PreemptionAndLaneTest_15_s : State := wobj Obj.HL_MODE 8 21 (wobj Obj.HL_ENABLE 8 1 up)
def w_PreemptionAndLaneTest_16_s : State := wrow Obj.CLI_TABLE 7 (2 ^ 63 + 7 * 2 ^ 58) (wobj Obj.HL_MODE 8 21 (wobj Obj.HL_ENABLE 8 1 up))
def w_ClientPeriodsAndContainers_2_s : State := { cli5on with rx := up.rx }
def w_ClientPeriodsAndContainers_3_s : State := wcli 5 (fun x => { x with usOnes := 1, r := 6 }) cli5on
def w_ClientPeriodsAndContainers_5_s : State := { cli5on with flumeIn := [cin 1 []] }
def w_ClientPeriodsAndContainers_6_s : State := { cli5on with flumeIn := [cin 2 []] }
def w_ClientPeriodsAndContainers_7_s : State := { cli5on with flumeIn := [cin0] }
def w_ClientPeriodsAndContainers_8_s : State := wcli 5 (fun x => { x with parts := [part0] }) cli5on
def w_ClientPeriodsAndContainers_9_s : State := wcli 5 (fun x => { x with parts := [part0] }) cli5on
def w_ClientPeriodsAndContainers_10_s : State := wcli 5 (fun x => { x with st := 2, running := true }) cli5on
def w_PerformanceSecondsAndBins_1_s : State := { at910 with tab := cli5.tab }
def w_PerformanceSecondsAndBins_2_s : State := wpm 9 (fun x => { x with held := [{ sec0 with second := 898 }] }) at910
def w_PerformanceSecondsAndBins_3_s : State := wpm 9 (fun x => { x with held := [sec0] }) at910
def w_PerformanceSecondsAndBins_5_s : State := { cli5on with compat := { cli5on.compat with ch := cli5on.compat.ch.set 0 (Vector.replicate 6 9) } }
def w_DomainsLoseHoldAndSwitch_2_s : State := wobj Obj.TIME_SELECT 0 0 (wdom 1 (fun d => { d with state := .locking, integral := 5 }) up)
def w_DomainsLoseHoldAndSwitch_3_s : State := wobj Obj.TIME_SELECT 0 0 (wdom 1 (fun d => { d with state := .holdover }) up)
def w_DomainsLoseHoldAndSwitch_4_s : State := wdom 1 (fun d => { d with state := .holdover }) up
def w_DomainsLoseHoldAndSwitch_6_s : State := wdom 0 (fun d => { d with state := .locked }) up
def w_DomainsLoseHoldAndSwitch_12_s : State := wobj Obj.TIME_SELECT 0 0 (wdom 1 (fun d => { d with state := .locked }) up)
def w_PulsesTimeLinkAndStampQueue_1_s : State := wobj Obj.PPS_OUT_ENABLE 0 1 (wdom 0 (fun d => { d with state := .locked }) up)
def w_PulsesTimeLinkAndStampQueue_2_s : State := wobj Obj.PPS_OUT_ENABLE 0 0 up
def w_PulsesTimeLinkAndStampQueue_3_s : State := wobj Obj.PPS_IN_ENABLE 0 1 up
def w_PulsesTimeLinkAndStampQueue_4_s : State := wobj Obj.PPS_IN_ENABLE 0 0 up
def w_PulsesTimeLinkAndStampQueue_5_s : State := wobj Obj.PPS_IN_ENABLE 0 1 (wtime (fun x => { x with ppsInLast := some 0 }) up)
def w_PulsesTimeLinkAndStampQueue_6_s : State := wtime (fun x => { x with ppsInFaulted := true }) up
def w_PulsesTimeLinkAndStampQueue_8_s : State := wobj Obj.TLINK_ENABLE 0 1 { up with bus := { up.bus with manager := true } }
def w_PulsesTimeLinkAndStampQueue_12_s : State := wtime (fun x => { x with tlFault := true }) up
def w_PulsesTimeLinkAndStampQueue_13_s : State := { up with bus := { up.bus with manager := true } }
def w_PulsesTimeLinkAndStampQueue_14_s : State := wtime (fun x => { x with tlLastGood := some 0 }) up
def w_PulsesTimeLinkAndStampQueue_15_s : State := wtime (fun x => { x with tsq := [tse 4 true, tse 2 false, tse 3 true] }) up
def w_PulsesTimeLinkAndStampQueue_16_s : State := wtime (fun x => { x with tsq := [tse 4 true, tse 2 false] }) up
def w_PulsesTimeLinkAndStampQueue_18_s : State := wobj Obj.TIME_PTP_PORTS 0 0x84 up
def w_PulsesTimeLinkAndStampQueue_19_s : State := wobj Obj.TIME_PTP_PORTS 0 0x84 up
def w_SlotErrorsBlobsAndUnlock_1_s : State := wslot 223 .valid up
def w_SlotErrorsBlobsAndUnlock_2_s : State := wslot 224 .valid up
def w_SlotErrorsBlobsAndUnlock_3_s : State := wslot 223 .locked up
def w_SlotErrorsBlobsAndUnlock_6_s : State := wblob 2 5 up
def w_SlotErrorsBlobsAndUnlock_7_s : State := wblob 2 0 up
def w_SlotErrorsBlobsAndUnlock_8_s : State := wslot 242 .valid (wblob 2 5 up)
def w_SlotErrorsBlobsAndUnlock_10_s : State := wobj Obj.ACT_ENABLE 4 1 up
def w_SlotErrorsBlobsAndUnlock_11_s : State := wslot 223 .locked up
def w_CipherJobsRunToTheirResults_1_s : State := wslot 242 .valid up
def w_CipherJobsRunToTheirResults_2_s : State := wslot 244 .fixed up
def w_CipherJobsRunToTheirResults_3_s : State := wslot 239 .valid up
def w_CipherJobsRunToTheirResults_7_s : State := wcix (fun c => { c with lane := some (7, 0) }) (wjobs [{ job0 with id := 6, exported := true }, { job0 with blocksLeft := 65 }] up)
def w_CipherJobsRunToTheirResults_8_s : State := wcix (fun c => { c with lane := some (7, 0) }) (wjobs [job0] key241)
def w_CipherJobsRunToTheirResults_9_s : State := wcix (fun c => { c with lane := some (7, 0) }) (wjobs [job0] key241)
def w_CipherJobsRunToTheirResults_10_s : State := wjobs [{ job0 with exported := true }] key241
def w_RestartsKeepWhatTheSpecKeeps_1_s : State := wil (fun i => { i with st := 1 }) State.reset
def w_RestartsKeepWhatTheSpecKeeps_3_s : State := wpwr (fun x => { x with loaderAt := some 0 }) State.reset
def w_RestartsKeepWhatTheSpecKeeps_4_s : State := wpwr (fun x => { x with pwrGood := #v[true, false, false, false] }) (wisl (fun i => { i with pwrEn := #v[true, true, false, false] }) (inPhase (.exit 1) .run))
def w_RestartsKeepWhatTheSpecKeeps_5_s : State := inPhase (.exit 4) .sleep
def w_RestartsKeepWhatTheSpecKeeps_10_s : State := wpwr (fun x => { x with pwrGood := Vector.replicate 4 false }) up
def w_RestartsKeepWhatTheSpecKeeps_11_s : State := wus 2 (fun u => { u with latched := some 3, failSafe := false }) up
def w_RestartsKeepWhatTheSpecKeeps_13_s : State := wisl (fun i => { i with attempts := 2 }) up
def w_RestartsKeepWhatTheSpecKeeps_14_s : State := wisl (fun i => { i with attempts := 2 }) up
def w_PowerEntriesAndExits_3_s : State := inPhase (.entry 3) .sleep
def w_PowerEntriesAndExits_4_s : State := inPhase (.entry 1) .off
def w_PowerEntriesAndExits_5_s : State := { inPhase (.entry 2) .off with frames := [f7 .program] }
def w_PowerEntriesAndExits_6_s : State := inPhase (.entry 2) .off
def w_PowerEntriesAndExits_7_s : State := inPhase (.entry 2) .off
def w_PowerEntriesAndExits_8_s : State := { inPhase (.entry 2) .off with frames := [fr 8] }
def w_PowerEntriesAndExits_9_s : State := inPhase (.entry 4) .off
def w_PowerEntriesAndExits_10_s : State := inPhase (.entry 5) .sleep
def w_PowerEntriesAndExits_12_s : State := inPhase (.entry 5) .deepSleep
def w_PowerEntriesAndExits_13_s : State := wisl (fun i => { i with wakeLatch := 2, oscEn := false }) (inPhase (.entry 5) .sleep)
def w_PowerEntriesAndExits_14_s : State := wpwr (fun x => { x with pwrGood := #v[true, true, true, false] }) (inPhase (.exit 1) .off)
def w_PowerEntriesAndExits_15_s : State := wisl (fun i => { i with pwrEn := #v[true, true, false, false] }) (wpwr (fun x => { x with pwrGood := #v[true, false, false, false] }) (inPhase (.exit 1) .off))
def w_PowerEntriesAndExits_16_s : State := inPhase (.exit 2) .sleep
def w_PowerEntriesAndExits_17_s : State := inPhase (.exit 2) .off
def w_PowerEntriesAndExits_18_s : State := inPhase (.exit 3) .sleep
def w_PowerEntriesAndExits_19_s : State := inPhase (.exit 4) .sleep
def w_PowerEntriesAndExits_20_s : State := wil (fun i => { i with st := 1 }) (inPhase (.exit 4) .deepSleep)
def w_PowerEntriesAndExits_21_s : State := inPhase .stagger .off
def w_PowerEntriesAndExits_22_s : State := wpwr (fun x => { x with allow := x.allow.set 2 (some 5) }) oper
def w_WakeSourcesActInTheirStates_1_s : State := inPhase .asleep .sleep
def w_WakeSourcesActInTheirStates_2_s : State := wisl (fun i => { i with wasManager := true }) (inPhase .asleep .off)
def w_WakeSourcesActInTheirStates_3_s : State := inPhase .asleep .deepSleep
def w_WakeSourcesActInTheirStates_4_s : State := inPhase (.entry 1) .off
def w_WakeSourcesActInTheirStates_6_s : State := wobj Obj.PWR_WAKE_ENABLE 0 2 (inPhase .asleep .sleep)
def w_WakeSourcesActInTheirStates_7_s : State := wobj Obj.PWR_WAKE_ENABLE 0 2 (inPhase .asleep .off)
def w_WakeSourcesActInTheirStates_8_s : State := wobj Obj.PWR_WAKE_TIMER_MS 0 1 (wobj Obj.PWR_WAKE_ENABLE 0 4 (inPhase .asleep .sleep))
def w_WakeSourcesActInTheirStates_9_s : State := wobj Obj.PWR_WAKE_TIMER_MS 0 1 (inPhase .asleep .sleep)
def w_WakeSourcesActInTheirStates_10_s : State := wobj Obj.PWR_LANE_WAKE_MASK 0 128 (wobj Obj.PWR_WAKE_ENABLE 0 8 (inPhase .asleep .sleep))
def w_WakeSourcesActInTheirStates_11_s : State := wobj Obj.PWR_LANE_WAKE_MASK 0 127 (inPhase .asleep .sleep)
def w_GovernorKeepsItsBounds_6_s : State := wpwr (fun w => { w with regions := w.regions.set 5 { w.regions[5] with lowRun := 9 } }) gov5
def w_GovernorKeepsItsBounds_7_s : State := wcl 63 .loading
def w_GovernorKeepsItsBounds_8_s : State := wcl 63 .stopping
def w_StartsFromPowerToRun_3_s : State := inPhase .vaonWait .run
def w_StartsFromPowerToRun_5_s : State := wisl (fun i => { i with attempts := 2 }) State.reset
def w_StartsFromPowerToRun_6_s : State := wisl (fun i => { i with attempts := 3 }) State.reset
def w_StartsFromPowerToRun_7_s : State := inPhase (.boot 2) .run
def w_StartsFromPowerToRun_8_s : State := wmon (fun m => { m with temps := m.temps.set 12 900 }) (inPhase (.boot 2) .run)
def w_StartsFromPowerToRun_9_s : State := inPhase (.boot 3) .run
def w_StartsFromPowerToRun_10_s : State := inPhase (.boot 3) .run
def w_StartsFromPowerToRun_11_s : State := inPhase (.boot 4) .run
def w_StartsFromPowerToRun_12_s : State := wpwr (fun x => { x with imageSeqs := (3, 7) }) (inPhase (.boot 5) .run)
def w_StartsFromPowerToRun_13_s : State := inPhase (.boot 5) .run
def w_StartsFromPowerToRun_14_s : State := inPhase (.boot 6) .run
def w_StartsFromPowerToRun_15_s : State := inPhase (.boot 6) .run
def w_StartsFromPowerToRun_16_s : State := wisl (fun i => { i with defaultsOnce := true }) (inPhase (.boot 7) .run)
def w_StartsFromPowerToRun_17_s : State := wobj Obj.ENG_IMAGE_SELECT 0 1 (inPhase (.boot 8) .run)
def w_MonitorsSampleAndLifeRecord_1_s : State := inPhase .asleep .off
def w_MonitorsSampleAndLifeRecord_4_s : State := wmon (fun m => { m with alarm := true }) up
def w_MonitorsSampleAndLifeRecord_6_s : State := inPhase .asleep .off
def w_MonitorsSampleAndLifeRecord_8_s : State := wmon (fun m => { m with railOut := m.railOut.set 7 1 }) railsOk
def w_MonitorsSampleAndLifeRecord_9_s : State := wmon (fun m => { m with lifeMs := Vector.replicate 4 3, lifeN := 12, lifeTj := -5 }) up
def w_TestAccessPortLeavesThePackage_1_s : State := wjtag true .idcode
def w_TestAccessPortLeavesThePackage_2_s : State := wjtag true .idcode
def w_TestAccessPortLeavesThePackage_3_s : State := wjtag false .clamp
def w_TestAccessPortLeavesThePackage_4_s : State := wjtag false .extest
def w_TestAccessPortLeavesThePackage_5_s : State := wjtag false .extest
def w_TestAccessPortLeavesThePackage_6_s : State := wjtag false .clamp
def w_TestAccessPortLeavesThePackage_7_s : State := wjtag false .idcode
def w_RequestsMeetTheChecksInOrder_3_s : State := wbus (fun b => { b with answered := [ans0] }) mgr
def w_RequestsMeetTheChecksInOrder_5_s : State := wobj Obj.FB_AUTH_MODE 0 1 mgr
def w_RequestsMeetTheChecksInOrder_6_s : State := wbus (fun b => { b with tracked := some 3 }) up
def w_ObjectsReadAndWrittenByRequests_2_s : State := wobj Obj.FB_COLLISIONS 0 9 up
def w_ObjectsReadAndWrittenByRequests_8_s : State := wobj Obj.DS_RX_ENABLE 4 1 up
def w_ObjectsReadAndWrittenByRequests_12_s : State := wcix (fun c => { c with blobState := c.blobState.set 1 1 }) up
def w_RowsAndSeveralObjectsByRequests_2_s : State := wobj Obj.FB_COLLISIONS 0 300 up
def w_DomainsMoveInSegments_4_s : State := wbus (fun b => { b with transfers := [tr0, tr0, tr0, tr0] }) up
def w_DomainsMoveInSegments_5_s : State := wbus (fun b => { b with transfers := [tr0, tr0, tr0], nextHandle := 65535 }) up
def w_DomainsMoveInSegments_5_v : State := State.atServer (wbus (fun b => { b with transfers := [tr0, tr0, tr0], nextHandle := 65535 }) up) 5 rq0
def w_DomainsMoveInSegments_6_v : State := safe.atServer 5 rq0
def w_DomainsMoveInSegments_7_s : State := wtr tr0 up
def w_DomainsMoveInSegments_8_s : State := wtr tr0 up
def w_DomainsMoveInSegments_8_v : State := (wtr tr0 up).atServer 5 rq0
def w_DomainsMoveInSegments_9_s : State := wtr tr1 up
def w_DomainsMoveInSegments_9_v : State := (wtr tr1 up).atServer 5 rq0
def w_DomainsMoveInSegments_10_s : State := wtr tr0 up
def w_DomainsMoveInSegments_10_v : State := (wtr tr0 up).atServer 5 rq0
def w_DomainsMoveInSegments_11_s : State := wtr tr0 up
def w_DomainsMoveInSegments_11_v : State := (wtr tr0 up).atServer 5 rq0
def w_DomainsMoveInSegments_12_s : State := wtr { tr0 with data := zeros 32 } up
def w_DomainsMoveInSegments_12_v : State := (wtr { tr0 with data := zeros 32 } up).atServer 5 rq0
def w_DomainsMoveInSegments_13_s : State := wtr { tr0 with data := zeros 32, index := Obj.CAP_DOMAIN } up
def w_DomainsMoveInSegments_13_v : State := (wtr { tr0 with data := zeros 32, index := Obj.CAP_DOMAIN } up).atServer 5 rq0
def w_DomainsMoveInSegments_14_s : State := wtr { tr1 with data := [1, 2, 3] } safe
def w_DomainsMoveInSegments_14_v : State := (wtr { tr1 with data := [1, 2, 3] } safe).atServer 5 rq0
def w_EventsReachTheirSubscribers_2_s : State := wsubs [sub0] up
def w_EventsReachTheirSubscribers_2_v : State := (wsubs [sub0] up).atServer 5 rq0
def w_EventsReachTheirSubscribers_3_s : State := wsubs (List.replicate 8 sub0) up
def w_EventsReachTheirSubscribers_3_v : State := (wsubs (List.replicate 8 sub0) up).atServer 5 rq0
def w_EventsReachTheirSubscribers_4_s : State := wsubs [sub0] up
def w_EventsReachTheirSubscribers_4_v : State := (wsubs [sub0] up).atServer 5 rq0
def w_EventsReachTheirSubscribers_5_s : State := wmem 3 (fun m => { m with st := .present }) mgr
def w_EventsReachTheirSubscribers_5_v : State := (wmem 3 (fun m => { m with st := .present }) mgr).atServer 5 rq0
def w_EventsReachTheirSubscribers_8_v : State := mgr.atServer 5 (rqFrom 3)
def w_EventsReachTheirSubscribers_9_s : State := wbus (fun b => { b with mergedTo := 2 ^ 60 }) mgr
def w_EventsReachTheirSubscribers_10_s : State := wbus (fun b => { b with mergedTo := 2 ^ 60, subs := [sub0] }) mgr
def w_EventsReachTheirSubscribers_10_v : State := State.bump ((wbus (fun b => { b with mergedTo := 2 ^ 60, subs := [sub0] }) mgr).atServer 5 (rqFrom 3)) Obj.FB_EVENTS_LATE
def w_EventsReachTheirSubscribers_12_s : State := wbus (fun b => { b with merge := [(rec0, 0)] }) mgr
def w_EventsReachTheirSubscribers_13_s : State := wbus (fun b => { b with merge := [(rec0, 0), (rec1, 9)], subs := [sub0] }) mgr
def w_EventsReachTheirSubscribers_13_v : State := { wbus (fun b => { b with merge := [], subs := [sub0], mergedTo := evKey rec0 / 2 ^ 32 }) mgr with now := 10 * tickMs }
def w_StoredCopiesAreWritten_1_v : State := up.atServer 5 rq0
def w_StoredCopiesAreWritten_3_s : State := wflash (fun f => { f with writing := some (1, { layout := 0, seq := 8, dict := [], tab := [], bytes := 40 }) }) up
def w_ManagersWorkersAndTheirRows_3_s : State := wbus (fun b => { b with tracked := some 6 }) up
def w_ManagersWorkersAndTheirRows_3_v : State := (wbus (fun b => { b with tracked := some 6 }) up).atServer 5 { rqFrom 3 with dst := 127 }
def w_ManagersWorkersAndTheirRows_4_s : State := wbus (fun b => { b with tracked := some 2 }) up
def w_ManagersWorkersAndTheirRows_6_v : State := mgr5.atServer 5 (rq5 3)
def w_ManagersWorkersAndTheirRows_8_v : State := mgr.atServer 5 (rqFrom 63)
def w_ManagersWorkersAndTheirRows_9_v : State := mgr.atServer 5 (rqFrom 63)
def w_ManagersWorkersAndTheirRows_10_s : State := wmem 63 (fun r => { r with st := .asleep, serial := 9 }) mgr
def w_ManagersWorkersAndTheirRows_10_v : State := (wmem 63 (fun r => { r with st := .asleep, serial := 9 }) mgr).atServer 5 (rqFrom 63)
def w_ManagersWorkersAndTheirRows_12_s : State := wmem 63 (fun r => { r with st := .present, serial := 9 }) mgr
def w_ManagersWorkersAndTheirRows_12_v : State := (wmem 63 (fun r => { r with st := .present, serial := 9 }) mgr).atBus 5
def w_ManagersWorkersAndTheirRows_13_s : State := wbus (fun b => { b with heartbeatAt := some 0 }) mgr
def w_ManagersWorkersAndTheirRows_14_s : State := wmem 63 (fun r => { r with st := .present, misses := 2, answered := false }) (wmem 62 (fun r => { r with st := .conflict, misses := 1, answered := false }) (wbus (fun b => { b with heartbeatAt := some 0 }) mgr))
def w_ManagersWorkersAndTheirRows_15_s : State := wbus (fun b => { b with tracked := some 2 }) up
def w_ManagersWorkersAndTheirRows_16_s : State := wbus (fun b => { b with tracked := some 2 }) up
def w_ManagersWorkersAndTheirRows_16_v : State := (wbus (fun b => { b with tracked := some 2 }) up).atBus (3 * tickS)
def w_ManagersWorkersAndTheirRows_17_v : State := up.atBus (3 * tickS)
def w_ForwardsAndTheirAnswers_3_s : State := wmem 2 (fun r => { r with st := .conflict }) mgr
def w_ForwardsAndTheirAnswers_4_s : State := wmem 2 (fun r => { r with st := .asleep }) mgr
def w_ForwardsAndTheirAnswers_4_v : State := (wmem 2 (fun r => { r with st := .asleep }) mgr).atServer 5 rq0
def w_ForwardsAndTheirAnswers_6_s : State := wfwd fwd0
def w_ForwardsAndTheirAnswers_6_v : State := (wfwd fwd0).atServer 5 respRq
def w_ForwardsAndTheirAnswers_9_s : State := wfwd fwd0
def w_ForwardsAndTheirAnswers_10_s : State := wfwd fwd0
def w_ForwardsAndTheirAnswers_10_v : State := State.bump ((wfwd fwd0).atBus (100 * tickMs)) Obj.FB_FWD_TIMEOUTS
def w_ForwardsAndTheirAnswers_11_s : State := wfwd { fwd0 with waking := true }
def w_ForwardsAndTheirAnswers_12_s : State := wfwd { fwd0 with waking := true }
def w_ForwardsAndTheirAnswers_12_v : State := (wfwd { fwd0 with waking := true }).atBus (1000 * tickMs)
def w_ForwardsAndTheirAnswers_13_s : State := wmem 2 (fun r => { r with st := .present }) (wfwd { fwd0 with waking := true })
def w_ForwardsAndTheirAnswers_13_v : State := (wmem 2 (fun r => { r with st := .present }) (wfwd { fwd0 with waking := true })).atBus 5
def w_FramesOnTheFieldBus_3_s : State := wbus (fun b => { b with txq := [bf false 1, bf true 2, bf true 3] }) up
def w_FramesOnTheFieldBus_3_v : State := (wbus (fun b => { b with txq := [bf false 1, bf true 2, bf true 3] }) up).atBus 5
def w_FramesOnTheFieldBus_4_s : State := wbus (fun b => { b with txq := [bf false 1, bf false 2] }) up
def w_FramesOnTheFieldBus_4_v : State := (wbus (fun b => { b with txq := [bf false 1, bf false 2] }) up).atBus 5
def w_FramesOnTheFieldBus_5_s : State := wbus (fun b => { b with sending := some (bf true 3), sendAt := none }) up
def w_FramesOnTheFieldBus_5_v : State := (wbus (fun b => { b with sending := some (bf true 3), sendAt := none }) up).atBus 5
def w_FramesOnTheFieldBus_6_s : State := onBus 3
def w_FramesOnTheFieldBus_6_v : State := (onBus 3).atBus (busTicks (zeros 20))
def w_FramesOnTheFieldBus_9_s : State := onBus 14
def w_FramesOnTheFieldBus_10_s : State := onBus 15
def w_FramesOnTheFieldBus_12_s : State := wbus (fun b => { b with backoffUntil := some 5 }) up
def w_FramesOnTheFieldBus_16_s : State := wobj Obj.FB_ETHERTYPE 0 0x88B6 up
def w_FramesOnTheFieldBus_19_v : State := up.atBus 5
def w_DispatcherPicksTheFreestCluster_3_s : State := { cl7 with frames := [{ fr 7 with region := 1 }] }
def w_TimeSetActsInFreeRunOnly_1_s : State := wtimeD 0 (fun d => { d with state := .locked }) up
def w_TimeSetActsInFreeRunOnly_3_s : State := wtimeD 0 (fun d => { d with state := .locked }) up
def w_WithoutTheArrayKeyThreeRequestsAreAccepted_2_s : State := wobj Obj.FB_AUTH_MODE 0 1 mgr
def w_WithoutTheArrayKeyThreeRequestsAreAccepted_3_s : State := wobj Obj.FB_AUTH_MODE 0 1 mgr
def w_WithoutTheArrayKeyThreeRequestsAreAccepted_4_s : State := wobj Obj.FB_AUTH_MODE 0 1 mgr
def w_WithoutTheArrayKeyThreeRequestsAreAccepted_5_s : State := wobj Obj.FB_AUTH_MODE 0 1 mgr
def w_RestoreSelectsWhatTheNextBootUses_1_v : State := up.atServer 5 rq0
def w_RestoreSelectsWhatTheNextBootUses_3_s : State := wisl (fun i => { i with defaultsOnce := true }) (inPhase (.boot 7) .run)

theorem test_witness_StepRunsTheFrontCommand_2 :
    (up.pending = []) := by decide +kernel

theorem test_witness_CommandsLeaveTheQueueAndNeverTurnTimeBack_1 : ∃ u, exec (.clamp 5) up = .next u := ⟨_, rfl⟩

theorem test_witness_StepTakesOneCommand_1 :
    (w_StepTakesOneCommand_1_s.queueWf = true) := by decide +kernel

theorem test_witness_InvariantKeptByEveryStep_1 :
    (State.reset.Inv) := by decide +kernel

theorem test_witness_InnerLinkComesUp_1 :
    (ilBringUp State.reset = true) ∧
    (State.reset.il.st = 0) := by decide +kernel

theorem test_witness_InnerLinkComesUp_2 :
    (w_InnerLinkComesUp_2_s.il.st = 1) ∧
    (w_InnerLinkComesUp_2_s.il.checked = false) ∧
    ((laneSet (0x21#40 : BitVec 40)).length ≤ 2) ∧
    ((laneSet (0x8000000000#40 : BitVec 40)).length ≤ 2) := by decide +kernel

theorem test_witness_InnerLinkComesUp_3 :
    (w_InnerLinkComesUp_3_s.il.st = 1) ∧
    (w_InnerLinkComesUp_3_s.il.checked = true) := by decide +kernel

theorem test_witness_InnerLinkReplaysAndRepairs_1 :
    (2 ≤ up2.il.st) ∧
    (flitWf (zeros 1212 : Bytes) [] = true) ∧
    (up2.il.dirs[(1 : Fin 2)].replay = 0) := by decide +kernel

theorem test_witness_InnerLinkReplaysAndRepairs_2 :
    (2 ≤ w_InnerLinkReplaysAndRepairs_2_s.il.st) ∧
    (flitWf (zeros 1148 : Bytes) ([1] : Bytes) = true) ∧
    (w_InnerLinkReplaysAndRepairs_2_s.il.dirs[(1 : Fin 2)].replay = 0) ∧
    (flitGood (flitArrives (flitOf (zeros 1148 : Bytes)) ([1] : Bytes)) = false) := by decide +kernel

theorem test_witness_InnerLinkReplaysAndRepairs_3 :
    (2 ≤ flits.il.st) ∧
    (flitWf (zeros 1180 : Bytes) [] = true) ∧
    (flits.il.dirs[(1 : Fin 2)].replay = (1 : Nat) + 1) ∧
    (flits.il.dirs[(1 : Fin 2)].kept[(1 : Nat)]? = some ([7] : Bytes)) := by decide +kernel

theorem test_witness_InnerLinkReplaysAndRepairs_4 :
    (2 ≤ lanes3.il.st) ∧
    (marks3.length = 40) ∧
    ((List.replicate 40 64 : List Nat).length = 40) ∧
    ((3 : Nat) ∈ lanes3.il.dirs[(1 : Fin 2)].active) ∧
    (lanes3.il.dirs[(1 : Fin 2)].active.Nodup) ∧
    (lanes3.il.dirs[(1 : Fin 2)].spares = (38 : Nat) :: ([39] : List Nat)) ∧
    (lanes3.il.dirs[(1 : Fin 2)].missed.contains (3 : Nat) = true) ∧
    (markerGood (3 : Nat) lanes3.il.dirs[(1 : Fin 2)].markNo (marks3.getD (3 : Nat) 0) = false) ∧
    ((lanes3.il.dirs[(1 : Fin 2)].active.all fun j =>
      j == (3 : Nat) || (markerGood j lanes3.il.dirs[(1 : Fin 2)].markNo (marks3.getD j 0) && decide ((List.replicate 40 64 : List Nat).getD j 0 ≤ 64))) = true) := by decide +kernel

theorem test_witness_InnerLinkReplaysAndRepairs_5 :
    (w_InnerLinkReplaysAndRepairs_5_s.il.st = 3) ∧
    (4 ≤ (4 : Nat)) ∧
    (w_InnerLinkReplaysAndRepairs_5_s.il.dirs[(1 : Fin 2)].repairs = [((3 : Nat), (38 : Nat), (4 : Nat))]) ∧
    ((∀ e : Fin 2, e ≠ (1 : Fin 2) → w_InnerLinkReplaysAndRepairs_5_s.il.dirs[e].repairs = [])) := by decide +kernel

theorem test_witness_InnerLinkReplaysAndRepairs_6 :
    (up.island.oscEn = true) ∧
    ((up.island.oscCalAt.all fun c => decide (c + tickS ≤ max up.now (5 : Nat))) = true) := by decide +kernel

theorem test_witness_LossOfSignalAndLock_1 :
    (rxRuns w_LossOfSignalAndLock_1_s (2 : Fin 4) = true) ∧
    ((w_LossOfSignalAndLock_1_s.rx[(2 : Fin 4)].st = .hunt ∨ w_LossOfSignalAndLock_1_s.rx[(2 : Fin 4)].st = .presync)) := by decide +kernel

theorem test_witness_LossOfSignalAndLock_2 :
    (rxRuns w_LossOfSignalAndLock_2_s (2 : Fin 4) = true) ∧
    ((w_LossOfSignalAndLock_2_s.rx[(2 : Fin 4)].st = .hunt ∨ w_LossOfSignalAndLock_2_s.rx[(2 : Fin 4)].st = .presync)) := by decide +kernel

theorem test_witness_LossOfSignalAndLock_3 :
    (rxRuns w_LossOfSignalAndLock_3_s (2 : Fin 4) = true) ∧
    (w_LossOfSignalAndLock_3_s.rx[(2 : Fin 4)].st = .noSignal) := by decide +kernel

theorem test_witness_ReceiverWritesActOnTheirChannel_1 :
    (up.serverUp = true) ∧
    (up.chanPowered (2 : Fin 4) = true) ∧
    (prbsHolds up (2 : Fin 4) = false) ∧
    (up.rx[(2 : Fin 4)].st = .disabled) ∧
    (up.rx[(2 : Fin 4)].psd = false) := by decide +kernel

theorem test_witness_ReceiverWritesActOnTheirChannel_2 :
    (up.serverUp = true) ∧
    (1 < (2 : Nat)) := by decide +kernel

theorem test_witness_ReceiverWritesActOnTheirChannel_3 :
    (w_ReceiverWritesActOnTheirChannel_3_s.serverUp = true) ∧
    (w_ReceiverWritesActOnTheirChannel_3_s.rx[(2 : Fin 4)].st = .presync) := by decide +kernel

theorem test_witness_ReceiverWritesActOnTheirChannel_4 :
    (w_ReceiverWritesActOnTheirChannel_4_s.serverUp = true) ∧
    ((0 : Nat) ≠ 1) := by decide +kernel

theorem test_witness_CandidatesStartAndEnd_1 :
    (w_CandidatesStartAndEnd_1_s.rx[(2 : Fin 4)].st = .hunt) ∧
    (markMatches w_CandidatesStartAndEnd_1_s (2 : Fin 4) (0xB4E62C197A53D08E#64 : BitVec 64) = true) ∧
    ((w_CandidatesStartAndEnd_1_s.rx[(2 : Fin 4)].cands.all fun c => c.pos + frameSymbols != (200 : Nat) && c.pos != (200 : Nat)) = true) ∧
    (w_CandidatesStartAndEnd_1_s.rx[(2 : Fin 4)].cands.length < 4) ∧
    ((w_CandidatesStartAndEnd_1_s.rx[(2 : Fin 4)].barred.all fun b => b.1 != (200 : Nat) % frameSymbols || decide (b.2 + 16 * tickFrame ≤ max w_CandidatesStartAndEnd_1_s.now (5 : Nat))) = true) := by decide +kernel

theorem test_witness_CandidatesStartAndEnd_2 :
    (w_CandidatesStartAndEnd_2_s.rx[(2 : Fin 4)].st = .hunt) ∧
    (w_CandidatesStartAndEnd_2_s.rx[(2 : Fin 4)].cands.find? (fun cand0 => cand0.pos + frameSymbols == (6220900 : Nat)) = some cand0) ∧
    (cand0.presync = false) := by decide +kernel

theorem test_witness_AGoodCandidateEntersSync_1 :
    (w_AGoodCandidateEntersSync_1_s.rx[(2 : Fin 4)].st = .presync) ∧
    (w_AGoodCandidateEntersSync_1_s.rx[(2 : Fin 4)].cands = [candQ]) ∧
    (w_AGoodCandidateEntersSync_1_s.rx[(2 : Fin 4)].window = false) ∧
    (candQ.presync = true) ∧
    (candQ.recorded = true) ∧
    (candQ.qualified = none) ∧
    (candQ.hdr = some candHdr) ∧
    (candQ.cw1 = some (false, (14 : Nat))) ∧
    (candHdr.crcOk = true) ∧
    (candHdr.sfc = (candQ.sfc + 1) % 2 ^ 51) ∧
    ((candHdr.chId, candHdr.heId) = candQ.ids) ∧
    (w_AGoodCandidateEntersSync_1_s.rx[(2 : Fin 4)].latched = some candQ.ids) := by decide +kernel

theorem test_witness_CodewordsAndCarriersAreCounted_1 :
    (w_CodewordsAndCarriersAreCounted_1_s.rx[(2 : Fin 4)].st = .sync) ∧
    (w_CodewordsAndCarriersAreCounted_1_s.rx[(2 : Fin 4)].rxq = [frame0]) ∧
    (frame0.pos = (100 : Nat)) ∧
    (frame0.nextCw = (1 : Nat)) ∧
    (0 < (1 : Nat)) ∧
    ((1 : Nat) < 719) ∧
    (codewordWf (1 : Nat) (zeros 2160 : Bytes) (0 : Nat) = true) ∧
    (frame0.used = false) ∧
    (frame0.hdr = some candHdr) ∧
    (frame0.cur = none) ∧
    ((decodeLine w_CodewordsAndCarriersAreCounted_1_s 2 1 (zeros 2160) 0 : Decoded) = decodeLine w_CodewordsAndCarriersAreCounted_1_s (2 : Fin 4) (1 : Nat) (zeros 2160 : Bytes) (0 : Nat)) := by decide +kernel

theorem test_witness_CodewordsAndCarriersAreCounted_2 :
    (w_CodewordsAndCarriersAreCounted_2_s.rx[(2 : Fin 4)].st = .presync) ∧
    (codewordWf 1 (zeros 2160 : Bytes) (0 : Nat) = true) ∧
    ((decodeLine w_CodewordsAndCarriersAreCounted_2_s 2 1 (zeros 2160) 0 : Decoded) = decodeLine w_CodewordsAndCarriersAreCounted_2_s (2 : Fin 4) 1 (zeros 2160 : Bytes) (0 : Nat)) ∧
    (w_CodewordsAndCarriersAreCounted_2_s.rx[(2 : Fin 4)].cands.any (fun x => x.pos == (100 : Nat) && x.presync) = true) := by decide +kernel

theorem test_witness_CodewordsAndCarriersAreCounted_3 :
    (w_CodewordsAndCarriersAreCounted_3_s.rx[(2 : Fin 4)].st = .sync) ∧
    (w_CodewordsAndCarriersAreCounted_3_s.rx[(2 : Fin 4)].rxq = [frameIdle]) ∧
    (frameIdle.used = true) ∧
    (frameIdle.walkEnded = false) ∧
    (frameIdle.cur = none) ∧
    (frameIdle.hdr = some candHdr) ∧
    (frameIdle.walk + 8 ≤ frameIdle.tc.length) ∧
    (fecBad frameIdle frameIdle.walk 8 = false) ∧
    (hec14 (beAt frameIdle.tc frameIdle.walk 8) = fld (beAt frameIdle.tc frameIdle.walk 8) 13 0) ∧
    (fld (beAt frameIdle.tc frameIdle.walk 8) 47 32 = 0xFFFF) ∧
    (frameIdle.walk + 8 + fld (beAt frameIdle.tc frameIdle.walk 8) 63 50 ≤ tcBytes) := by decide +kernel

theorem test_witness_DirectivesThatScheduleForALaterFrame_1 :
    (w_DirectivesThatScheduleForALaterFrame_1_s.hears (2 : Fin 4) 1 (dirOf 1023 1 3 profC (zeros 32) : Directive) (0 : Nat)) ∧
    ((dirOf 1023 1 3 profC (zeros 32) : Directive).tid = 1023) ∧
    (bitAt (dirOf 1023 1 3 profC (zeros 32) : Directive).content 285 = true) ∧
    (4 ≤ fld (dirOf 1023 1 3 profC (zeros 32) : Directive).content 281 274) ∧
    (fld (dirOf 1023 1 3 profC (zeros 32) : Directive).content 281 274 ≤ 128) ∧
    (1 ≤ fld (dirOf 1023 1 3 profC (zeros 32) : Directive).content 273 266) ∧
    (fld (dirOf 1023 1 3 profC (zeros 32) : Directive).content 273 266 ≤ 64) := ⟨hears_dirOf (by decide +kernel) (by decide +kernel), by decide +kernel⟩

theorem test_witness_DirectivesThatScheduleForALaterFrame_2 :
    (w_DirectivesThatScheduleForALaterFrame_2_s.hears (2 : Fin 4) 2 (dirOf 1023 2 3 annC (zeros 32) : Directive) (0 : Nat)) ∧
    ((dirOf 1023 2 3 annC (zeros 32) : Directive).tid = 1023) ∧
    ((w_DirectivesThatScheduleForALaterFrame_2_s.act[(2 : Fin 4)].st = .standby ∨ (w_DirectivesThatScheduleForALaterFrame_2_s.act[(2 : Fin 4)].st = .announced ∧ bitAt (dirOf 1023 2 3 annC (zeros 32) : Directive).content 210 = true))) ∧
    (0 < fld (dirOf 1023 2 3 annC (zeros 32) : Directive).content 236 229) ∧
    (fld (dirOf 1023 2 3 annC (zeros 32) : Directive).content 209 178 ≤ eqdMax) := ⟨hears_dirOf (by decide +kernel) (by decide +kernel), by decide +kernel⟩

theorem test_witness_DirectivesThatScheduleForALaterFrame_3 :
    (oper.hears (2 : Fin 4) 12 (dirOf 9 12 3 adjC key32 : Directive) (2 : Nat)) ∧
    ((dirOf 9 12 3 adjC key32 : Directive).tid ≠ 1023) ∧
    (oper.act[(2 : Fin 4)].st = .operating) ∧
    (oper.act[(2 : Fin 4)].eqdq = []) ∧
    (oper.act[(2 : Fin 4)].upq.length < 8) ∧
    (0 ≤ (oper.act[(2 : Fin 4)].eqd : Int) + toS 16 (fld (dirOf 9 12 3 adjC key32 : Directive).content 287 272)) ∧
    ((oper.act[(2 : Fin 4)].eqd : Int) + toS 16 (fld (dirOf 9 12 3 adjC key32 : Directive).content 287 272) ≤ (eqdMax : Int)) := ⟨hears_dirOf (by decide +kernel) (by decide +kernel), by decide +kernel⟩

theorem test_witness_DirectivesThatScheduleForALaterFrame_4 :
    (opTwo.hears (2 : Fin 4) 13 (dirOf 9 13 3 hoC key32 : Directive) (2 : Nat)) ∧
    ((dirOf 9 13 3 hoC key32 : Directive).tid ≠ 1023) ∧
    (opTwo.act[(2 : Fin 4)].st = .operating) ∧
    (opTwo.act[(2 : Fin 4)].upq.length < 8) ∧
    (fld (dirOf 9 13 3 hoC key32 : Directive).content 285 276 ≠ 1023) ∧
    (fld (dirOf 9 13 3 hoC key32 : Directive).content 275 244 ≤ eqdMax) ∧
    (handoverTarget opTwo (2 : Fin 4) (fld (dirOf 9 13 3 hoC key32 : Directive).content 287 286) = some (1 : Fin 4)) ∧
    (inBondGroup opTwo (2 : Fin 4) = false) ∧
    (2 ≤ sfcDist (fld (dirOf 9 13 3 hoC key32 : Directive).content 243 193) (dirContext opTwo (2 : Fin 4) 13 (dirOf 9 13 3 hoC key32 : Directive)).sfc) ∧
    (sfcDist (fld (dirOf 9 13 3 hoC key32 : Directive).content 243 193) (dirContext opTwo (2 : Fin 4) 13 (dirOf 9 13 3 hoC key32 : Directive)).sfc ≤ 8000) := ⟨hears_dirOf (by decide +kernel) (by decide +kernel), by decide +kernel⟩

theorem test_witness_DirectivesThatMoveTheState_1 :
    ∃ c : Nat, (w_DirectivesThatMoveTheState_1_s.hears (2 : Fin 4) 3 (dirOf 1023 3 3 c (zeros 32) : Directive) (0 : Nat)) ∧
    ((dirOf 1023 3 3 c (zeros 32) : Directive).tid = 1023) ∧
    ((w_DirectivesThatMoveTheState_1_s.act[(2 : Fin 4)].st = .announced ∨ w_DirectivesThatMoveTheState_1_s.act[(2 : Fin 4)].st = .ranging)) ∧
    (w_DirectivesThatMoveTheState_1_s.island.silence[(2 : Fin 4)] = false) ∧
    (stopSet w_DirectivesThatMoveTheState_1_s (2 : Fin 4) = false) ∧
    (fld (dirOf 1023 3 3 c (zeros 32) : Directive).content 287 224 = serialNumber) ∧
    (fld (dirOf 1023 3 3 c (zeros 32) : Directive).content 223 214 ≠ 1023) := by
  have g : canHear w_DirectivesThatMoveTheState_1_s 2 1023 3 3 0 (zeros 32) = true := by decide +kernel
  obtain ⟨c, h1, h2, h3⟩ := content_serial
  exact ⟨c, hears_dirOf h1 g, rfl, by decide +kernel, by decide +kernel, by decide +kernel, h2, by show fld c 223 214 ≠ 1023; rw [h3]; decide⟩

theorem test_witness_DirectivesThatMoveTheState_2 :
    (rang.hears (2 : Fin 4) 4 (dirOf 9 4 3 rtC key32 : Directive) (2 : Nat)) ∧
    ((dirOf 9 4 3 rtC key32 : Directive).tid ≠ 1023) ∧
    ((2 : Nat) = 2) ∧
    ((rang.act[(2 : Fin 4)].st = .ranging ∨ rang.act[(2 : Fin 4)].st = .operating)) ∧
    (rang.island.silence[(2 : Fin 4)] = false) ∧
    (stopSet rang (2 : Fin 4) = false) ∧
    (fld (dirOf 9 4 3 rtC key32 : Directive).content 287 256 ≤ eqdMax) ∧
    (rang.act[(2 : Fin 4)].eqdq = []) ∧
    (rang.act[(2 : Fin 4)].upq.length < 8) := ⟨hears_dirOf (by decide +kernel) (by decide +kernel), by decide +kernel⟩

theorem test_witness_DirectivesThatMoveTheState_3 :
    ∃ c : Nat, (oper.hears (2 : Fin 4) 7 (dirOf 1023 7 3 c (zeros 32) : Directive) (0 : Nat)) ∧
    (oper.island.silence[(2 : Fin 4)] = false) ∧
    (oper.act[(2 : Fin 4)].st ≠ .emergencyStop) ∧
    (oper.act[(2 : Fin 4)].st ≠ .silenced) ∧
    (fld (dirOf 1023 7 3 c (zeros 32) : Directive).content 287 224 = serialNumber) := by
  have g : canHear oper 2 1023 7 3 0 (zeros 32) = true := by decide +kernel
  obtain ⟨c, h1, h2, h3⟩ := content_serial
  exact ⟨c, hears_dirOf h1 g, by decide +kernel, by decide +kernel, by decide +kernel, h2⟩

theorem test_witness_DirectivesThatMoveTheState_4 :
    ∃ c : Nat, (w_DirectivesThatMoveTheState_4_s.hears (2 : Fin 4) 8 (dirOf 1023 8 3 c (zeros 32) : Directive) (0 : Nat)) ∧
    ((dirOf 1023 8 3 c (zeros 32) : Directive).tid = 1023) ∧
    (w_DirectivesThatMoveTheState_4_s.act[(2 : Fin 4)].st = .emergencyStop) ∧
    (w_DirectivesThatMoveTheState_4_s.island.silence[(2 : Fin 4)] = false) ∧
    (fld (dirOf 1023 8 3 c (zeros 32) : Directive).content 287 224 = serialNumber) := by
  have g : canHear w_DirectivesThatMoveTheState_4_s 2 1023 8 3 0 (zeros 32) = true := by decide +kernel
  obtain ⟨c, h1, h2, h3⟩ := content_serial
  exact ⟨c, hears_dirOf h1 g, rfl, by decide +kernel, by decide +kernel, h2⟩

theorem test_witness_DirectivesThatMoveTheState_5 :
    (oper.hears (2 : Fin 4) 9 (dirOf 9 9 3 (33 * 2 ^ 280) key32 : Directive) (2 : Nat)) ∧
    ((oper.act[(2 : Fin 4)].st = .announced ∨ oper.act[(2 : Fin 4)].st = .ranging ∨ oper.act[(2 : Fin 4)].st = .operating)) ∧
    (oper.island.silence[(2 : Fin 4)] = false) ∧
    (stopSet oper (2 : Fin 4) = false) := ⟨hears_dirOf (by decide +kernel) (by decide +kernel), by decide +kernel⟩

theorem test_witness_SessionAndDataKeys_1 :
    (rangNone.hears (2 : Fin 4) 5 (dirOf 9 5 3 (0xABCDEF * 2 ^ 200) (zeros 32) : Directive) (0 : Nat)) ∧
    ((dirOf 9 5 3 (0xABCDEF * 2 ^ 200) (zeros 32) : Directive).tid ≠ 1023) ∧
    (rangNone.act[(2 : Fin 4)].st = .ranging) ∧
    (rangNone.act[(2 : Fin 4)].session = .none) ∧
    (rangNone.ciph.slots[chanSlot 227 (2 : Fin 4)].st ≠ .valid) ∧
    (secretInstalled rangNone = true) := ⟨hears_dirOf (by decide +kernel) (by decide +kernel), by decide +kernel⟩

theorem test_witness_SessionAndDataKeys_2 :
    (w_SessionAndDataKeys_2_s.ciph.derive[(2 : Fin 4)] = some ({ keys := List.replicate 64 7, startedAt := 0 } : Derivation)) ∧
    (w_SessionAndDataKeys_2_s.act[(2 : Fin 4)].regNonce = some ((3 : Nat), (4 : Nat))) ∧
    (({ keys := List.replicate 64 7, startedAt := 0 } : Derivation).startedAt + 20 * tickUs ≤ max w_SessionAndDataKeys_2_s.now (20 * tickUs : Nat)) ∧
    (w_SessionAndDataKeys_2_s.act[(2 : Fin 4)].renewing = false) ∧
    (w_SessionAndDataKeys_2_s.act[(2 : Fin 4)].upq.length < 8) := by decide +kernel

theorem test_witness_SessionAndDataKeys_3 :
    (oper.hears (2 : Fin 4) 6 (dirOf 9 6 3 keyC key32 : Directive) (2 : Nat)) ∧
    ((dirOf 9 6 3 keyC key32 : Directive).tid ≠ 1023) ∧
    (oper.act[(2 : Fin 4)].st = .operating) ∧
    (fld (dirOf 9 6 3 keyC key32 : Directive).content 287 272 ≠ 0xFFFF) ∧
    (fld (dirOf 9 6 3 keyC key32 : Directive).content 271 270 ≠ 0) ∧
    (fld (dirOf 9 6 3 keyC key32 : Directive).content 271 270 ≠ 3) ∧
    (fld (dirOf 9 6 3 keyC key32 : Directive).content 269 268 = 0) ∧
    (bitAt (dirOf 9 6 3 keyC key32 : Directive).content 267 = true) ∧
    (bitAt (dirOf 9 6 3 keyC key32 : Directive).content 266 = false) := ⟨hears_dirOf (by decide +kernel) (by decide +kernel), by decide +kernel⟩

theorem test_witness_SessionAndDataKeys_4 :
    (w_SessionAndDataKeys_4_s.ciph.unwraps = kun :: ([] : List KeyUnwrap)) ∧
    (kun.startedAt + 2 * tickUs ≤ max w_SessionAndDataKeys_4_s.now (2 * tickUs : Nat)) ∧
    (keyUnwrap kun.kek kun.wrapped = some ([] : Bytes)) ∧
    (installSlot w_SessionAndDataKeys_4_s kun.flow kun.index = some (0 : Fin 256)) ∧
    (w_SessionAndDataKeys_4_s.act[kun.ch].upq.length < 8) := by decide +kernel

theorem test_witness_SessionAndDataKeys_5 :
    (w_SessionAndDataKeys_5_s.ciph.staged[(2 : Fin 4)] = some w_SessionAndDataKeys_5_st) := by decide +kernel

theorem test_witness_SessionAndDataKeys_6 :
    (w_SessionAndDataKeys_6_s.running = true) ∧
    (w_SessionAndDataKeys_6_s.act[(2 : Fin 4)].renewAt = some (0 : Nat)) ∧
    (w_SessionAndDataKeys_6_s.act[(2 : Fin 4)].session = .renewing) ∧
    ((0 : Nat) + tickS ≤ max w_SessionAndDataKeys_6_s.now tickS) := by decide +kernel

theorem test_witness_DirectivesOfSleepTimeAndBonding_1 :
    (w_DirectivesOfSleepTimeAndBonding_1_s.hears (2 : Fin 4) 10 (dirOf 9 10 3 (2 ^ 287 + 30 * 2 ^ 256) key32 : Directive) (2 : Nat)) ∧
    ((dirOf 9 10 3 (2 ^ 287 + 30 * 2 ^ 256) key32 : Directive).tid ≠ 1023) ∧
    (w_DirectivesOfSleepTimeAndBonding_1_s.act[(2 : Fin 4)].st = .operating) ∧
    (w_DirectivesOfSleepTimeAndBonding_1_s.act[(2 : Fin 4)].upq.length < 8) ∧
    (w_DirectivesOfSleepTimeAndBonding_1_s.flag Obj.PWR_HE_SLEEP_PERMIT = true) ∧
    ((bitAt (dirOf 9 10 3 (2 ^ 287 + 30 * 2 ^ 256) key32 : Directive).content 287 = false ∨ fld (dirOf 9 10 3 (2 ^ 287 + 30 * 2 ^ 256) key32 : Directive).content 271 256 ≠ 0)) := ⟨hears_dirOf (by decide +kernel) (by decide +kernel), by decide +kernel⟩

theorem test_witness_DirectivesOfSleepTimeAndBonding_2 :
    (oper.hears (2 : Fin 4) 10 (dirOf 9 10 3 (2 ^ 287) key32 : Directive) (2 : Nat)) ∧
    ((dirOf 9 10 3 (2 ^ 287) key32 : Directive).tid ≠ 1023) ∧
    (oper.act[(2 : Fin 4)].st = .operating) ∧
    (oper.act[(2 : Fin 4)].upq.length < 8) ∧
    (oper.flag Obj.PWR_HE_SLEEP_PERMIT = false) := ⟨hears_dirOf (by decide +kernel) (by decide +kernel), by decide +kernel⟩

theorem test_witness_DirectivesOfSleepTimeAndBonding_3 :
    (w_DirectivesOfSleepTimeAndBonding_3_s.hears (2 : Fin 4) 11 (dirOf 1023 11 3 todC (zeros 32) : Directive) (0 : Nat)) ∧
    ((dirOf 1023 11 3 todC (zeros 32) : Directive).tid = 1023) ∧
    (fld (dirOf 1023 11 3 todC (zeros 32) : Directive).content 239 208 ≤ 999999999) ∧
    ((dirContext w_DirectivesOfSleepTimeAndBonding_3_s (2 : Fin 4) 11 (dirOf 1023 11 3 todC (zeros 32) : Directive)).measured = false) := ⟨hears_dirOf (by decide +kernel) (by decide +kernel), by decide +kernel⟩

theorem test_witness_DirectivesOfSleepTimeAndBonding_4 :
    (tod2.hears (2 : Fin 4) 11 (dirOf 1023 11 3 todC (zeros 32) : Directive) (0 : Nat)) ∧
    ((dirOf 1023 11 3 todC (zeros 32) : Directive).tid = 1023) ∧
    (fld (dirOf 1023 11 3 todC (zeros 32) : Directive).content 239 208 ≤ 999999999) ∧
    ((dirContext tod2 (2 : Fin 4) 11 (dirOf 1023 11 3 todC (zeros 32) : Directive)).measured = true) ∧
    ((dirContext tod2 (2 : Fin 4) 11 (dirOf 1023 11 3 todC (zeros 32) : Directive)).tod = true) ∧
    ((dirContext tod2 (2 : Fin 4) 11 (dirOf 1023 11 3 todC (zeros 32) : Directive)).firstTod = true) ∧
    ((dirContext tod2 (2 : Fin 4) 11 (dirOf 1023 11 3 todC (zeros 32) : Directive)).jumped = false) ∧
    (tod2.rx[(2 : Fin 4)].calibrated = true) ∧
    (tod2.act[(2 : Fin 4)].rtdValid = true) ∧
    (tod2.obj Obj.TIME_DOM_SOURCE (sub (1 : Fin 2)) = (2 : Fin 4).val + 1) ∧
    (tod2.obj Obj.TIME_DOM_SOURCE (sub (1 - (1 : Fin 2))) ≠ (2 : Fin 4).val + 1) ∧
    (tod2.time.doms[(1 : Fin 2)].state = .freeRun) ∧
    (tod2.time.doms[(1 : Fin 2)].pair = none) ∧
    ((tod2.time.doms[(1 : Fin 2)].headEnd = none ∨ tod2.time.doms[(1 : Fin 2)].headEnd = some tod2.rx[(2 : Fin 4)].heId)) ∧
    (w_DirectivesOfSleepTimeAndBonding_4_src = ((fld (dirOf 1023 11 3 todC (zeros 32) : Directive).content 287 240 * secU + fld (dirOf 1023 11 3 todC (zeros 32) : Directive).content 239 208 * nsU + fld (dirOf 1023 11 3 todC (zeros 32) : Directive).content 207 192 * 2 ^ 24 : Nat) : Int) + (((tod2.act[(2 : Fin 4)].rtd * 2 ^ 40 * 10000 / 995328 : Nat) : Int) - epsMean tod2 (2 : Fin 4)) * ((2 ^ 31 : Nat) + toS 32 (fld (dirOf 1023 11 3 todC (zeros 32) : Directive).content 191 160)) / (2 ^ 32 : Nat)) := ⟨hears_dirOf (by decide +kernel) (by decide +kernel), by decide +kernel⟩

theorem test_witness_DirectivesOfSleepTimeAndBonding_5 :
    (opTwo.hears (2 : Fin 4) 14 (dirOf 9 14 3 bondC key32 : Directive) (2 : Nat)) ∧
    ((dirOf 9 14 3 bondC key32 : Directive).tid ≠ 1023) ∧
    (opTwo.act[(2 : Fin 4)].st = .operating) ∧
    (opTwo.act[(2 : Fin 4)].upq.length < 8) ∧
    (opTwo.flag Obj.BOND_ENABLE = true) ∧
    (fld (dirOf 9 14 3 bondC key32 : Directive).content 287 282 = (63 : Fin 64).val) ∧
    (fld (dirOf 9 14 3 bondC key32 : Directive).content 281 280 = 0) ∧
    (fld (dirOf 9 14 3 bondC key32 : Directive).content 275 274 < 2) ∧
    (50 ≤ fld (dirOf 9 14 3 bondC key32 : Directive).content 271 256) ∧
    (fld (dirOf 9 14 3 bondC key32 : Directive).content 271 256 ≤ 2000) ∧
    (2 ≤ popCount 4 (fld (dirOf 9 14 3 bondC key32 : Directive).content 279 276)) ∧
    (((chans (fld (dirOf 9 14 3 bondC key32 : Directive).content 279 276)).any fun c => (mapChannel opTwo opTwo.rx[(2 : Fin 4)].heId c).isNone) = false) ∧
    (bitAt (namedMembers opTwo (2 : Fin 4) (dirOf 9 14 3 bondC key32 : Directive).content) (2 : Fin 4).val = true) ∧
    (opTwo.bond.groups[(63 : Fin 64)].valid = false) := ⟨hears_dirOf (by decide +kernel) (by decide +kernel), by decide +kernel⟩

theorem test_witness_DirectivesOfSleepTimeAndBonding_6 :
    (w_DirectivesOfSleepTimeAndBonding_6_s.hears (2 : Fin 4) 15 (dirOf 9 15 3 (0x82 * 2 ^ 280 + 200 * 2 ^ 272) key32 : Directive) (2 : Nat)) ∧
    ((dirOf 9 15 3 (0x82 * 2 ^ 280 + 200 * 2 ^ 272) key32 : Directive).tid ≠ 1023) ∧
    ((w_DirectivesOfSleepTimeAndBonding_6_s.act[(2 : Fin 4)].st = .ranging ∨ w_DirectivesOfSleepTimeAndBonding_6_s.act[(2 : Fin 4)].st = .operating)) ∧
    (w_DirectivesOfSleepTimeAndBonding_6_s.act[(2 : Fin 4)].await = [await1]) ∧
    (w_DirectivesOfSleepTimeAndBonding_6_s.act[(2 : Fin 4)].upq = []) ∧
    (await1.type = fld (dirOf 9 15 3 (0x82 * 2 ^ 280 + 200 * 2 ^ 272) key32 : Directive).content 287 280) ∧
    (await1.seq = fld (dirOf 9 15 3 (0x82 * 2 ^ 280 + 200 * 2 ^ 272) key32 : Directive).content 279 272) ∧
    (w_DirectivesOfSleepTimeAndBonding_6_s.pwr.heWait ≠ some (2 : Fin 4)) := ⟨hears_dirOf (by decide +kernel) (by decide +kernel), by decide +kernel⟩

theorem test_witness_DirectivesOfSleepTimeAndBonding_7 :
    (dirWf (dirOf 9 15 3 0 key32 : Directive) = true) ∧
    (pendS.rx[(2 : Fin 4)].st = .sync) ∧
    (dirAddressed pendS (2 : Fin 4) (dirOf 9 15 3 0 key32 : Directive) = true) ∧
    (pendS.inSleep = false) ∧
    (pendS.running = true) ∧
    ((dirOf 9 15 3 0 key32 : Directive).tid ≠ 1023) ∧
    (pendS.act[(2 : Fin 4)].session = .pending) ∧
    (pendS.act[(2 : Fin 4)].st = .ranging) ∧
    (codeKey .pending (mgmtKey pendS (2 : Fin 4)) (pendKey pendS (2 : Fin 4)) 15 (dirOf 9 15 3 0 key32 : Directive) = some 1) := by
  refine ⟨dirWf_dirOf (by decide) (by decide) (by decide), ?_, ?_, ?_, ?_, by decide, ?_, ?_, codeKey_pending_dirOf (by decide) (by decide +kernel)⟩ <;> decide +kernel

theorem test_witness_ActivationTimersAndWrites_1 :
    (up.serverUp = true) ∧
    ((0 : Nat) ≤ 1) := by decide +kernel

theorem test_witness_ActivationTimersAndWrites_2 :
    (up.serverUp = true) ∧
    (1 < (2 : Nat)) := by decide +kernel

theorem test_witness_ActivationTimersAndWrites_3 :
    (w_ActivationTimersAndWrites_3_s.running = true) ∧
    (w_ActivationTimersAndWrites_3_s.act[(2 : Fin 4)].st = .announced) ∧
    (w_ActivationTimersAndWrites_3_s.act[(2 : Fin 4)].tAnnounce = some (5 : Nat)) ∧
    ((5 : Nat) ≤ max w_ActivationTimersAndWrites_3_s.now (5 : Nat)) ∧
    (w_ActivationTimersAndWrites_3_s.island.silence[(2 : Fin 4)] = false) ∧
    (stopSet w_ActivationTimersAndWrites_3_s (2 : Fin 4) = false) := by decide +kernel

theorem test_witness_ActivationTimersAndWrites_4 :
    (w_ActivationTimersAndWrites_4_s.running = true) ∧
    (w_ActivationTimersAndWrites_4_s.act[(2 : Fin 4)].st = .ranging) ∧
    (w_ActivationTimersAndWrites_4_s.act[(2 : Fin 4)].tRange = some (5 : Nat)) ∧
    ((5 : Nat) ≤ max w_ActivationTimersAndWrites_4_s.now (5 : Nat)) ∧
    (w_ActivationTimersAndWrites_4_s.island.silence[(2 : Fin 4)] = false) ∧
    (stopSet w_ActivationTimersAndWrites_4_s (2 : Fin 4) = false) := by decide +kernel

theorem test_witness_ActivationTimersAndWrites_5 :
    (w_ActivationTimersAndWrites_5_s.running = true) ∧
    (w_ActivationTimersAndWrites_5_s.act[(2 : Fin 4)].st = .intermittent) ∧
    (w_ActivationTimersAndWrites_5_s.act[(2 : Fin 4)].tLost = some (5 : Nat)) ∧
    ((5 : Nat) ≤ max w_ActivationTimersAndWrites_5_s.now (5 : Nat)) ∧
    (w_ActivationTimersAndWrites_5_s.island.silence[(2 : Fin 4)] = false) ∧
    (stopSet w_ActivationTimersAndWrites_5_s (2 : Fin 4) = false) := by decide +kernel

theorem test_witness_ActivationTimersAndWrites_6 :
    (w_ActivationTimersAndWrites_6_s.serverUp = true) ∧
    (w_ActivationTimersAndWrites_6_s.act[(2 : Fin 4)].token ≠ 0) := by decide +kernel

theorem test_witness_ActivationTimersAndWrites_7 :
    (up.serverUp = true) ∧
    ((65535 : Nat) ≠ up.act[(2 : Fin 4)].token) := by decide +kernel

theorem test_witness_ActivationTimersAndWrites_8 :
    (w_ActivationTimersAndWrites_8_s.act[(2 : Fin 4)].optPending = some opt0) := by decide +kernel

theorem test_witness_ActivationTimersAndWrites_9 :
    (w_ActivationTimersAndWrites_9_s.act[(2 : Fin 4)].optPending = some opt0) := by decide +kernel

theorem test_witness_EvaluationResendAndHandover_1 :
    (inInit.running = true) ∧
    (inInit.act[(2 : Fin 4)].st = .initial) ∧
    (inInit.rx[(2 : Fin 4)].st = .sync) ∧
    (inInit.flag Obj.ACT_ENABLE (sub (2 : Fin 4)) = true) ∧
    (profileStored inInit (2 : Fin 4) = true) ∧
    (inInit.act[(2 : Fin 4)].dirq = []) ∧
    (inInit.act[(2 : Fin 4)].disabled = false) ∧
    (inInit.act[(2 : Fin 4)].trip = none) ∧
    (inInit.act[(2 : Fin 4)].handover = none) ∧
    (inInit.act[(2 : Fin 4)].incoming = none) ∧
    (inInit.act[(2 : Fin 4)].await = []) ∧
    (inInit.act[(2 : Fin 4)].renewAt = none) ∧
    (inInit.ciph.staged[(2 : Fin 4)] = none) ∧
    (inInit.island.silence[(2 : Fin 4)] = false) ∧
    (stopSet inInit (2 : Fin 4) = false) := by decide +kernel

theorem test_witness_EvaluationResendAndHandover_2 :
    (w_EvaluationResendAndHandover_2_s.running = true) ∧
    (w_EvaluationResendAndHandover_2_s.act[(2 : Fin 4)].st = .operating) ∧
    (w_EvaluationResendAndHandover_2_s.rx[(2 : Fin 4)].st ≠ .sync) ∧
    (0 < w_EvaluationResendAndHandover_2_s.obj Obj.ACT_T_LOST (sub (2 : Fin 4))) ∧
    (w_EvaluationResendAndHandover_2_s.act[(2 : Fin 4)].dirq = []) ∧
    (w_EvaluationResendAndHandover_2_s.act[(2 : Fin 4)].disabled = false) ∧
    (w_EvaluationResendAndHandover_2_s.act[(2 : Fin 4)].trip = none) ∧
    (w_EvaluationResendAndHandover_2_s.act[(2 : Fin 4)].handover = none) ∧
    (w_EvaluationResendAndHandover_2_s.act[(2 : Fin 4)].incoming = none) ∧
    (w_EvaluationResendAndHandover_2_s.act[(2 : Fin 4)].await = []) ∧
    (w_EvaluationResendAndHandover_2_s.act[(2 : Fin 4)].renewAt = none) ∧
    (w_EvaluationResendAndHandover_2_s.ciph.staged[(2 : Fin 4)] = none) ∧
    (w_EvaluationResendAndHandover_2_s.island.silence[(2 : Fin 4)] = false) ∧
    (stopSet w_EvaluationResendAndHandover_2_s (2 : Fin 4) = false) := by decide +kernel

theorem test_witness_EvaluationResendAndHandover_3 :
    (w_EvaluationResendAndHandover_3_s.running = true) ∧
    (w_EvaluationResendAndHandover_3_s.act[(2 : Fin 4)].await = [await1]) ∧
    (await1.sentAt + 8 < w_EvaluationResendAndHandover_3_s.act[(2 : Fin 4)].frames) ∧
    (await1.sends < 3) ∧
    (w_EvaluationResendAndHandover_3_s.act[(2 : Fin 4)].upq.length < 8) := by decide +kernel

theorem test_witness_EvaluationResendAndHandover_4 :
    (w_EvaluationResendAndHandover_4_s.running = true) ∧
    (w_EvaluationResendAndHandover_4_s.act[(2 : Fin 4)].await = [({ await1 with sends := 3 } : UpDir)]) ∧
    (({ await1 with sends := 3 } : UpDir).sentAt + 8 < w_EvaluationResendAndHandover_4_s.act[(2 : Fin 4)].frames) ∧
    (3 ≤ ({ await1 with sends := 3 } : UpDir).sends) ∧
    (w_EvaluationResendAndHandover_4_s.pwr.heWait ≠ some (2 : Fin 4)) := by decide +kernel

theorem test_witness_EvaluationResendAndHandover_5 :
    (w_EvaluationResendAndHandover_5_s.rx[(2 : Fin 4)].st = .sync) ∧
    (w_EvaluationResendAndHandover_5_s.act[(2 : Fin 4)].eqdq = [w_EvaluationResendAndHandover_5_e]) ∧
    (sfcLe w_EvaluationResendAndHandover_5_e.sfc w_EvaluationResendAndHandover_5_s.us[(2 : Fin 4)].curSfc = true) ∧
    (eqdValue w_EvaluationResendAndHandover_5_s.act[(2 : Fin 4)].eqd w_EvaluationResendAndHandover_5_e = some (0 : Nat)) ∧
    (w_EvaluationResendAndHandover_5_e.power = none) := by decide +kernel

theorem test_witness_EvaluationResendAndHandover_6 :
    (w_EvaluationResendAndHandover_6_s.running = true) ∧
    (w_EvaluationResendAndHandover_6_s.act[(2 : Fin 4)].handover = some hov) ∧
    (hov.target ≠ (2 : Fin 4)) ∧
    (w_EvaluationResendAndHandover_6_s.act[hov.target].st = .standby) ∧
    (hov.reached = true) ∧
    (w_EvaluationResendAndHandover_6_s.act[(2 : Fin 4)].st = .operating) ∧
    (w_EvaluationResendAndHandover_6_s.act[(2 : Fin 4)].incoming = none) ∧
    (w_EvaluationResendAndHandover_6_s.island.silence[(2 : Fin 4)] = false) ∧
    (stopSet w_EvaluationResendAndHandover_6_s (2 : Fin 4) = false) := by decide +kernel

theorem test_witness_EvaluationResendAndHandover_7 :
    (w_EvaluationResendAndHandover_7_s.running = true) ∧
    (w_EvaluationResendAndHandover_7_s.act[(1 : Fin 4)].handover = none) ∧
    (w_EvaluationResendAndHandover_7_s.act[(1 : Fin 4)].incoming = some ((2 : Fin 4), hov, true)) ∧
    (w_EvaluationResendAndHandover_7_s.act[(1 : Fin 4)].st = .standby) ∧
    (w_EvaluationResendAndHandover_7_s.island.silence[(1 : Fin 4)] = false) ∧
    (stopSet w_EvaluationResendAndHandover_7_s (1 : Fin 4) = false) := by decide +kernel

theorem test_witness_GrantsBecomeBursts_1 :
    ((linePeriod w_GrantsBecomeBursts_1_s 2 : Nat) = linePeriod w_GrantsBecomeBursts_1_s (2 : Fin 4)) ∧
    (w_GrantsBecomeBursts_1_s.us[(2 : Fin 4)].maps = (map1 (gword 9 0 97184 16 1) : MapIn) :: ([] : List MapIn)) ∧
    ((map1 (gword 9 0 97184 16 1) : MapIn).words = [((gword 9 0 97184 16 1 : Nat), false)]) ∧
    (parseGrant ((gword 9 0 97184 16 1 : Nat), false) = (parseGrant (gword 9 0 97184 16 1, false) : Grant)) ∧
    (profileAt w_GrantsBecomeBursts_1_s (2 : Fin 4) (parseGrant (gword 9 0 97184 16 1, false) : Grant).profile = prof4) ∧
    (w_GrantsBecomeBursts_1_s.act[(2 : Fin 4)].st = .operating) ∧
    (w_GrantsBecomeBursts_1_s.act[(2 : Fin 4)].tid ≠ 1023) ∧
    (w_GrantsBecomeBursts_1_s.act[(2 : Fin 4)].announce = none) ∧
    (w_GrantsBecomeBursts_1_s.act[(2 : Fin 4)].handover = none) ∧
    (w_GrantsBecomeBursts_1_s.act[(2 : Fin 4)].incoming = none) ∧
    (asleepUp w_GrantsBecomeBursts_1_s = false) ∧
    ((parseGrant (gword 9 0 97184 16 1, false) : Grant).hecOk = true) ∧
    ((parseGrant (gword 9 0 97184 16 1, false) : Grant).allocId = w_GrantsBecomeBursts_1_s.act[(2 : Fin 4)].tid) ∧
    ((parseGrant (gword 9 0 97184 16 1, false) : Grant).ranging = false) ∧
    (16 ≤ (parseGrant (gword 9 0 97184 16 1, false) : Grant).size) ∧
    (grantInRange (parseGrant (gword 9 0 97184 16 1, false) : Grant) = true) ∧
    (profileOk prof4 = true) ∧
    (prof4.p + 1 ≤ (parseGrant (gword 9 0 97184 16 1, false) : Grant).start) ∧
    (w_GrantsBecomeBursts_1_s.us[(2 : Fin 4)].lastEnd ≤ startOf (linePeriod w_GrantsBecomeBursts_1_s 2 : Nat) (map1 (gword 9 0 97184 16 1) : MapIn).arrival w_GrantsBecomeBursts_1_s.act[(2 : Fin 4)].eqd + slotTicks (linePeriod w_GrantsBecomeBursts_1_s 2 : Nat) (parseGrant (gword 9 0 97184 16 1, false) : Grant).start - slotTicks (linePeriod w_GrantsBecomeBursts_1_s 2 : Nat) (prof4.p + 1)) := by decide +kernel

theorem test_witness_GrantsBecomeBursts_2 :
    (w_GrantsBecomeBursts_2_s.us[(2 : Fin 4)].maps = (map1 1 : MapIn) :: ([] : List MapIn)) ∧
    ((map1 1 : MapIn).words = [((1 : Nat), false)]) ∧
    (w_GrantsBecomeBursts_2_s.act[(2 : Fin 4)].announce = none) ∧
    ((parseGrant ((1 : Nat), false)).hecOk = false) := by decide +kernel

theorem test_witness_GrantsBecomeBursts_3 :
    (w_GrantsBecomeBursts_3_s.us[(2 : Fin 4)].chains = [({ chain0 with sealedAt := none, riseAt := 6 * tickUs + 5 } : Chain)]) ∧
    (({ chain0 with sealedAt := none, riseAt := 6 * tickUs + 5 } : Chain).sealedAt = none) ∧
    ((({ chain0 with sealedAt := none, riseAt := 6 * tickUs + 5 } : Chain).kind = .data ∨ ({ chain0 with sealedAt := none, riseAt := 6 * tickUs + 5 } : Chain).kind = .reportOnly)) ∧
    (({ chain0 with sealedAt := none, riseAt := 6 * tickUs + 5 } : Chain).riseAt ≤ max w_GrantsBecomeBursts_3_s.now (5 : Nat) + 6 * tickUs) ∧
    (asleepUp w_GrantsBecomeBursts_3_s = false) ∧
    ((w_GrantsBecomeBursts_3_s.act[(2 : Fin 4)].upq = [] ∨ (({ chain0 with sealedAt := none, riseAt := 6 * tickUs + 5 } : Chain).grants.all fun g => !g.1.directiveSlot) = true)) := by decide +kernel

theorem test_witness_GrantsBecomeBursts_4 :
    ((unsealed chainDir).us[(2 : Fin 4)].chains = [chainDir]) ∧
    (chainDir.sealedAt = none) ∧
    (chainDir.kind = .data) ∧
    (chainDir.riseAt ≤ max (unsealed chainDir).now (5 : Nat) + 6 * tickUs) ∧
    (asleepUp (unsealed chainDir) = false) ∧
    ((unsealed chainDir).act[(2 : Fin 4)].upq = await1 :: ([] : List UpDir)) ∧
    ((chainDir.grants.any fun g => g.1.directiveSlot) = true) ∧
    (chainRoom chainDir 56 = true) := by decide +kernel

theorem test_witness_GrantsBecomeBursts_5 :
    ((unsealed { chainAnn with sealedAt := none }).us[(2 : Fin 4)].chains = [({ chainAnn with sealedAt := none } : Chain)]) ∧
    (({ chainAnn with sealedAt := none } : Chain).sealedAt = none) ∧
    (({ chainAnn with sealedAt := none } : Chain).kind = .announce) ∧
    (({ chainAnn with sealedAt := none } : Chain).riseAt ≤ max (unsealed { chainAnn with sealedAt := none }).now (5 : Nat) + 6 * tickUs) ∧
    (asleepUp (unsealed { chainAnn with sealedAt := none }) = false) := by decide +kernel

theorem test_witness_GrantsBecomeBursts_6 :
    (w_GrantsBecomeBursts_6_s.us[(2 : Fin 4)].chains = [chain0]) ∧
    (chain0.sealedAt = some (50 : Nat)) ∧
    (nextSeal w_GrantsBecomeBursts_6_s = some ((2 : Fin 4), chain0, (50 : Nat))) ∧
    (chain0.kind = .data) ∧
    (chain0.grants = [(grant0, (3 : Nat))]) ∧
    (grant0.directiveSlot = false) ∧
    (grant0.size = chain0.slots) ∧
    (grant0.start = chain0.startSlot) ∧
    (16 ≤ chain0.slots) ∧
    (chain0.dirBytes = []) ∧
    (w_GrantsBecomeBursts_6_s.usq = []) ∧
    ((∀ c : Fin 4, w_GrantsBecomeBursts_6_s.us[c].openFrags = [])) := by decide +kernel

theorem test_witness_GrantsBecomeBursts_7 :
    (w_GrantsBecomeBursts_7_s.us[(2 : Fin 4)].chains = [chainAnn]) ∧
    (chainAnn.sealedAt = some (50 : Nat)) ∧
    (nextSeal w_GrantsBecomeBursts_7_s = some ((2 : Fin 4), chainAnn, (50 : Nat))) ∧
    (chainAnn.kind = .announce) := by decide +kernel

theorem test_witness_GrantsBecomeBursts_8 :
    (w_GrantsBecomeBursts_8_s.us[(2 : Fin 4)].burst = none) ∧
    (w_GrantsBecomeBursts_8_s.us[(2 : Fin 4)].chains = chainFull :: ([] : List Chain)) ∧
    (chainFull.filled = true) ∧
    (chainFull.riseAt ≤ max w_GrantsBecomeBursts_8_s.now (5 : Nat)) ∧
    (chainAllowed w_GrantsBecomeBursts_8_s (2 : Fin 4) chainFull = true) := by decide +kernel

theorem test_witness_GrantsBecomeBursts_9 :
    (w_GrantsBecomeBursts_9_s.us[(2 : Fin 4)].burst = some chainFull) ∧
    (w_GrantsBecomeBursts_9_s.us[(2 : Fin 4)].fallAt ≤ max w_GrantsBecomeBursts_9_s.now (5 : Nat)) := by decide +kernel

theorem test_witness_EmissionGuardTripsAndReleases_1 :
    ((w_EmissionGuardTripsAndReleases_1_s.us[(2 : Fin 4)].windows.any fun w => decide (w.1 ≤ max w_EmissionGuardTripsAndReleases_1_s.now (5 : Nat)) && decide (max w_EmissionGuardTripsAndReleases_1_s.now (5 : Nat) ≤ w.2)) = true) := by decide +kernel

theorem test_witness_EmissionGuardTripsAndReleases_2 :
    ((w_EmissionGuardTripsAndReleases_2_s.us[(2 : Fin 4)].windows.any fun w => decide (w.1 ≤ max w_EmissionGuardTripsAndReleases_2_s.now (5 : Nat)) && decide (max w_EmissionGuardTripsAndReleases_2_s.now (5 : Nat) ≤ w.2)) = false) ∧
    (outsideBefore (w_EmissionGuardTripsAndReleases_2_s.advance (5 : Nat)) (2 : Fin 4) = false) := by decide +kernel

theorem test_witness_EmissionGuardTripsAndReleases_3 :
    (w_EmissionGuardTripsAndReleases_3_s.us[(2 : Fin 4)].latched = some (0 : Nat)) ∧
    ((0 : Nat) + tickS ≤ max w_EmissionGuardTripsAndReleases_3_s.now tickS) ∧
    (w_EmissionGuardTripsAndReleases_3_s.island.silence[(2 : Fin 4)] = false) := by decide +kernel

theorem test_witness_EmissionGuardTripsAndReleases_4 :
    (w_EmissionGuardTripsAndReleases_4_s.island.silence[(2 : Fin 4)] = true) := by decide +kernel

theorem test_witness_BondingGroupsAndReorder_1 :
    (w_BondingGroupsAndReorder_1_s.serverUp = true) := by decide +kernel

theorem test_witness_BondingGroupsAndReorder_2 :
    (up.serverUp = true) ∧
    (1 < (2 : Nat)) := by decide +kernel

theorem test_witness_BondingGroupsAndReorder_3 :
    (w_BondingGroupsAndReorder_3_s.bond.groups[(63 : Fin 64)].dirty = some true) ∧
    (w_BondingGroupsAndReorder_3_s.bond.groups[(63 : Fin 64)].held = []) := by decide +kernel

theorem test_witness_BondingGroupsAndReorder_4 :
    (w_BondingGroupsAndReorder_4_s.bond.presented = ((7 : Nat), (63 : Fin 64).val, true, (4095 : Nat)) :: ([] : List (Nat × Nat × Bool × Nat))) ∧
    (w_BondingGroupsAndReorder_4_s.bond.groups[(63 : Fin 64)].valid = true) ∧
    (groupLive w_BondingGroupsAndReorder_4_s.bond.groups[(63 : Fin 64)] = true) ∧
    (w_BondingGroupsAndReorder_4_s.bond.groups[(63 : Fin 64)].expValid = true) ∧
    (w_BondingGroupsAndReorder_4_s.bond.groups[(63 : Fin 64)].held = []) ∧
    (seqDist w_BondingGroupsAndReorder_4_s.bond.groups[(63 : Fin 64)].expected (4095 : Nat) = 0) := by decide +kernel

theorem test_witness_BondingGroupsAndReorder_5 :
    (w_BondingGroupsAndReorder_5_s.bond.presented = ((7 : Nat), (63 : Fin 64).val, true, (2046 : Nat)) :: ([] : List (Nat × Nat × Bool × Nat))) ∧
    (w_BondingGroupsAndReorder_5_s.bond.groups[(63 : Fin 64)].valid = true) ∧
    (groupLive w_BondingGroupsAndReorder_5_s.bond.groups[(63 : Fin 64)] = true) ∧
    (w_BondingGroupsAndReorder_5_s.bond.groups[(63 : Fin 64)].expValid = true) ∧
    (w_BondingGroupsAndReorder_5_s.bond.groups[(63 : Fin 64)].held = []) ∧
    (0 < seqDist w_BondingGroupsAndReorder_5_s.bond.groups[(63 : Fin 64)].expected (2046 : Nat)) ∧
    (seqDist w_BondingGroupsAndReorder_5_s.bond.groups[(63 : Fin 64)].expected (2046 : Nat) < 2048) ∧
    (heldFrames w_BondingGroupsAndReorder_5_s < 16384) := by decide +kernel

theorem test_witness_BondingGroupsAndReorder_6 :
    (w_BondingGroupsAndReorder_6_s.bond.groups[(63 : Fin 64)].held = [hf]) ∧
    ((∀ k : Fin 64, k ≠ (63 : Fin 64) → w_BondingGroupsAndReorder_6_s.bond.groups[k].held = [])) ∧
    (hf.at0 + w_BondingGroupsAndReorder_6_s.bond.groups[(63 : Fin 64)].timeout * tickUs ≤ max w_BondingGroupsAndReorder_6_s.now (250 * tickUs : Nat)) := by decide +kernel

theorem test_witness_BondingGroupsAndReorder_7 :
    (w_BondingGroupsAndReorder_7_s.bond.groups[(63 : Fin 64)].change = some ((0 : Nat), (2000 : Nat))) ∧
    (w_BondingGroupsAndReorder_7_s.bond.groups[(63 : Fin 64)].held = []) := by decide +kernel

theorem test_witness_WindowsContextsAndLookups_1 :
    (w_WindowsContextsAndLookups_1_s.ingressOpen = true) ∧
    (w_WindowsContextsAndLookups_1_s.ports[(5 : Fin 8)].st = .up) ∧
    (looped w_WindowsContextsAndLookups_1_s (5 : Fin 8) = false) ∧
    (w_WindowsContextsAndLookups_1_s.flag Obj.MAC_PREEMPT_ENABLE (sub (5 : Fin 8)) = false) ∧
    (60 ≤ (bytes60 0x0800 : Bytes).length) ∧
    ((bytes60 0x0800 : Bytes).length ≤ 64) ∧
    ((bytes60 0x0800 : Bytes).length + 4 ≤ w_WindowsContextsAndLookups_1_s.obj Obj.MAC_MAX_FRAME (sub (5 : Fin 8))) ∧
    (beAt (bytes60 0x0800 : Bytes) 12 2 ≠ 0x8808) ∧
    (w_WindowsContextsAndLookups_1_s.frame? w_WindowsContextsAndLookups_1_s.nextFid = none) ∧
    (waitingOf w_WindowsContextsAndLookups_1_s (5 : Fin 8).val < waitLimit w_WindowsContextsAndLookups_1_s (5 : Fin 8).val) := by decide +kernel

theorem test_witness_WindowsContextsAndLookups_2 :
    (w_WindowsContextsAndLookups_2_s.ingressOpen = true) ∧
    (w_WindowsContextsAndLookups_2_s.ports[(5 : Fin 8)].st = .up) ∧
    (looped w_WindowsContextsAndLookups_2_s (5 : Fin 8) = false) ∧
    (60 ≤ (bytes60 0x8808 : Bytes).length) ∧
    ((bytes60 0x8808 : Bytes).length ≤ 64) ∧
    (beAt (bytes60 0x8808 : Bytes) 12 2 = 0x8808) := by decide +kernel

theorem test_witness_WindowsContextsAndLookups_3 :
    (w_WindowsContextsAndLookups_3_s.ingressOpen = true) ∧
    (earliest ((regionHeads w_WindowsContextsAndLookups_3_s (0 : Fin 8).val).filter fun x => mayTake w_WindowsContextsAndLookups_3_s x.src (0 : Fin 8).val) = some (f7 .waiting : Frame)) ∧
    (w_WindowsContextsAndLookups_3_s.frame? (f7 .waiting : Frame).fid = some (f7 .waiting : Frame)) ∧
    ((f7 .waiting : Frame).region = (0 : Fin 8).val) ∧
    ((f7 .waiting : Frame).stage = .waiting) ∧
    ((f7 .waiting : Frame).pass = 0) ∧
    ((f7 .waiting : Frame).src < 80) ∧
    (failedCause (f7 .waiting : Frame) = none) ∧
    ((f7 .waiting : Frame).reentry = false) ∧
    (pickThread w_WindowsContextsAndLookups_3_s (0 : Fin 8).val = some ((0 : Nat), (0 : Nat))) ∧
    ((0 : Nat) < 64) := by decide +kernel

theorem test_witness_WindowsContextsAndLookups_4 :
    (w_WindowsContextsAndLookups_4_s.frame? (7 : Nat) = some ({ f7 .parsing with generation := 0 } : Frame)) ∧
    (({ f7 .parsing with generation := 0 } : Frame).stage = .parsing) ∧
    (({ f7 .parsing with generation := 0 } : Frame).cpuEgress = none) ∧
    (({ f7 .parsing with generation := 0 } : Frame).lcDrop = false) ∧
    (ruleLookup w_WindowsContextsAndLookups_4_s ({ f7 .parsing with generation := 0 } : Frame).generation ({ f7 .parsing with generation := 0 } : Frame).key = some ((3 : Nat), anyRule)) := by decide +kernel

theorem test_witness_WindowsContextsAndLookups_5 :
    (w_WindowsContextsAndLookups_5_s.frame? (7 : Nat) = some ({ f7 .lookup with emWait := some (3, 77) } : Frame)) ∧
    (({ f7 .lookup with emWait := some (3, 77) } : Frame).stage = .lookup) ∧
    (({ f7 .lookup with emWait := some (3, 77) } : Frame).emWait = some ((3 : Nat), (77 : Nat))) ∧
    (emFind w_WindowsContextsAndLookups_5_s (3 : Nat) (77 : Nat) = some (8 * emBucket 3 77 + 2 : Nat)) := by decide +kernel

theorem test_witness_WindowsContextsAndLookups_6 :
    (w_WindowsContextsAndLookups_6_s.frame? (7 : Nat) = some ({ f7 .lookup with emWait := some (3, 77) } : Frame)) ∧
    (({ f7 .lookup with emWait := some (3, 77) } : Frame).stage = .lookup) ∧
    (({ f7 .lookup with emWait := some (3, 77) } : Frame).emWait = some ((3 : Nat), (77 : Nat))) ∧
    (emFind w_WindowsContextsAndLookups_6_s (3 : Nat) (77 : Nat) = none) := by decide +kernel

theorem test_witness_WindowsContextsAndLookups_7 :
    (w_WindowsContextsAndLookups_7_s.frame? (7 : Nat) = some (f7 .program : Frame)) ∧
    ((f7 .program : Frame).stage = .program) ∧
    ((f7 .program : Frame).complete = false) ∧
    ((f7 .program : Frame).pass = 0) ∧
    (failedCause (f7 .program : Frame) = none) ∧
    (journalSize { (f7 .program : Frame) with info := (62 * 2 ^ 112 + 9 : Nat) } ≤ 64) := by decide +kernel

theorem test_witness_LateChecksAndUndo_1 :
    (([1, 2] : Bytes).length ≤ 16000) ∧
    (w_LateChecksAndUndo_1_s.frame? (7 : Nat) = some (f7 .program : Frame)) ∧
    ((f7 .program : Frame).src < 8) ∧
    ((f7 .program : Frame).complete = false) ∧
    ((f7 .program : Frame).oversize = false) ∧
    ((f7 .program : Frame).data.length + ([1, 2] : Bytes).length + 4 ≤ maxFrame w_LateChecksAndUndo_1_s (f7 .program : Frame).inPort) ∧
    ((true = true ∨ w_LateChecksAndUndo_1_s.flag Obj.MAC_PREEMPT_ENABLE ((f7 .program : Frame).inPort + 1) = false)) ∧
    (((f7 .program : Frame).stage = .lookup ∨ (f7 .program : Frame).stage = .program)) ∧
    (failedCause (f7 .program : Frame) = none) ∧
    ((f7 .program : Frame).reentry = false) ∧
    ((f7 .program : Frame).ends = []) := by decide +kernel

theorem test_witness_LateChecksAndUndo_2 :
    ((zeros 16000 : Bytes).length ≤ 16000) ∧
    (w_LateChecksAndUndo_5_s.frame? (7 : Nat) = some (f7 .waiting : Frame)) ∧
    ((f7 .waiting : Frame).src < 8) ∧
    ((f7 .waiting : Frame).inPort < 8) ∧
    ((f7 .waiting : Frame).complete = false) ∧
    ((f7 .waiting : Frame).oversize = false) ∧
    ((f7 .waiting : Frame).stage = .waiting) ∧
    (w_LateChecksAndUndo_5_s.notUndone (7 : Nat)) ∧
    (maxFrame w_LateChecksAndUndo_5_s (f7 .waiting : Frame).inPort < (f7 .waiting : Frame).data.length + (zeros 16000 : Bytes).length + 4) := by decide +kernel

theorem test_witness_LateChecksAndUndo_3 :
    (([1, 2] : Bytes).length ≤ 16000) ∧
    ((withF { f7 .program with oversize := true }).frame? (7 : Nat) = some ({ f7 .program with oversize := true } : Frame)) ∧
    (({ f7 .program with oversize := true } : Frame).src < 8) ∧
    (({ f7 .program with oversize := true } : Frame).complete = false) ∧
    (({ f7 .program with oversize := true } : Frame).oversize = true) ∧
    (({ f7 .program with oversize := true } : Frame).stage ≠ .orphan) := by decide +kernel

theorem test_witness_LateChecksAndUndo_4 :
    (([1, 2] : Bytes).length ≤ 16000) ∧
    (up.frame? (7 : Nat) = none) := by decide +kernel

theorem test_witness_LateChecksAndUndo_5 :
    ((zeros 16000 : Bytes).length ≤ 16000) ∧
    (w_LateChecksAndUndo_5_s.frame? (7 : Nat) = some (f7 .waiting : Frame)) ∧
    ((f7 .waiting : Frame).src < 8) ∧
    ((f7 .waiting : Frame).complete = false) ∧
    ((f7 .waiting : Frame).oversize = false) ∧
    ((f7 .waiting : Frame).stage = .waiting) ∧
    ((f7 .waiting : Frame).inPort < 8) ∧
    (w_LateChecksAndUndo_5_s.notUndone (7 : Nat)) ∧
    (maxFrame w_LateChecksAndUndo_5_s (f7 .waiting : Frame).inPort ≤ (f7 .waiting : Frame).data.length + (zeros 16000 : Bytes).length) := by decide +kernel

theorem test_witness_LateChecksAndUndo_6 :
    (w_LateChecksAndUndo_6_s.frame? (7 : Nat) = some ({ f7 .awaiting with complete := true, fcs := none } : Frame)) ∧
    (({ f7 .awaiting with complete := true, fcs := none } : Frame).src < 8) ∧
    (({ f7 .awaiting with complete := true, fcs := none } : Frame).inPort < 8) ∧
    (({ f7 .awaiting with complete := true, fcs := none } : Frame).complete = true) ∧
    (({ f7 .awaiting with complete := true, fcs := none } : Frame).cut = false) ∧
    (({ f7 .awaiting with complete := true, fcs := none } : Frame).fcs = none) ∧
    (({ f7 .awaiting with complete := true, fcs := none } : Frame).stage = .awaiting) ∧
    (({ f7 .awaiting with complete := true, fcs := none } : Frame).reentry = false) ∧
    (failedCause { ({ f7 .awaiting with complete := true, fcs := none } : Frame) with fcs := some true } = none) ∧
    (openChecks { ({ f7 .awaiting with complete := true, fcs := none } : Frame) with fcs := some true } = 0) := by decide +kernel

theorem test_witness_LateChecksAndUndo_7 :
    (w_LateChecksAndUndo_7_s.frame? (7 : Nat) = some ({ f7 .awaiting with complete := true, fcs := none } : Frame)) ∧
    (({ f7 .awaiting with complete := true, fcs := none } : Frame).plain) ∧
    (({ f7 .awaiting with complete := true, fcs := none } : Frame).src < 8) ∧
    (({ f7 .awaiting with complete := true, fcs := none } : Frame).inPort < 8) ∧
    (({ f7 .awaiting with complete := true, fcs := none } : Frame).complete = true) ∧
    (({ f7 .awaiting with complete := true, fcs := none } : Frame).cut = false) ∧
    (({ f7 .awaiting with complete := true, fcs := none } : Frame).fcs = none) ∧
    (holdsCtx ({ f7 .awaiting with complete := true, fcs := none } : Frame) = true) ∧
    (({ f7 .awaiting with complete := true, fcs := none } : Frame).stage ≠ .ready) ∧
    (w_LateChecksAndUndo_7_s.notUndone (7 : Nat)) := by decide +kernel

theorem test_witness_LateChecksAndUndo_8 :
    (w_LateChecksAndUndo_8_s.rx[(2 : Fin 4)].verdicts = w_LateChecksAndUndo_8_v :: ([] : List Verdict)) ∧
    (w_LateChecksAndUndo_8_v.noKey = false) ∧
    (w_LateChecksAndUndo_8_v.good = true) ∧
    (w_LateChecksAndUndo_8_v.client = none) ∧
    (w_LateChecksAndUndo_8_s.frame? w_LateChecksAndUndo_8_v.fid = some ({ f7 .program with tagsOpen := 2 } : Frame)) ∧
    (({ f7 .program with tagsOpen := 2 } : Frame).stage = .program) ∧
    (failedCause ({ f7 .program with tagsOpen := 2 } : Frame) = none) ∧
    (({ f7 .program with tagsOpen := 2 } : Frame).reentry = false) := by decide +kernel

theorem test_witness_LateChecksAndUndo_9 :
    (up.rx[(2 : Fin 4)].verdicts = []) := by decide +kernel

theorem test_witness_LateChecksAndUndo_10 :
    (w_LateChecksAndUndo_10_s.frame? (7 : Nat) = some ({ f7 .awaiting with complete := true, fcs := none } : Frame)) ∧
    (({ f7 .awaiting with complete := true, fcs := none } : Frame).plain) ∧
    (holdsCtx ({ f7 .awaiting with complete := true, fcs := none } : Frame) = true) ∧
    (({ f7 .awaiting with complete := true, fcs := none } : Frame).stage ≠ .ready) ∧
    (({ f7 .awaiting with complete := true, fcs := none } : Frame).pass = 0) ∧
    (openChecks ({ f7 .awaiting with complete := true, fcs := none } : Frame) ≠ 0) ∧
    (({ f7 .awaiting with complete := true, fcs := none } : Frame).ctxAt + w_LateChecksAndUndo_10_s.obj Obj.CTX_TIMEOUT_US * tickUs ≤ max w_LateChecksAndUndo_10_s.now tickS) := by decide +kernel

theorem test_witness_LateChecksAndUndo_11 :
    (w_LateChecksAndUndo_11_s.frame? (7 : Nat) = some ({ f7 .program with complete := true } : Frame)) ∧
    (({ f7 .program with complete := true } : Frame).plain) ∧
    (ctxRunning ({ f7 .program with complete := true } : Frame) = true) ∧
    (({ f7 .program with complete := true } : Frame).ctxAt + w_LateChecksAndUndo_11_s.obj Obj.CTX_PROGRAM_LIMIT * tickCore ≤ max w_LateChecksAndUndo_11_s.now tickS) := by decide +kernel

theorem test_witness_CommitAndCutThrough_1 :
    (sourceOldest w_CommitAndCutThrough_1_s (5 : Fin 80).val = some (f7 .awaiting : Frame)) ∧
    ((f7 .awaiting : Frame).stage ≠ .ready) := by decide +kernel

theorem test_witness_CommitAndCutThrough_2 :
    (sourceOldest w_CommitAndCutThrough_2_s (5 : Fin 80).val = some ({ f7 .ready with complete := true } : Frame)) ∧
    (w_CommitAndCutThrough_2_s.frame? ({ f7 .ready with complete := true } : Frame).fid = some ({ f7 .ready with complete := true } : Frame)) ∧
    (({ f7 .ready with complete := true } : Frame).plain) ∧
    (({ f7 .ready with complete := true } : Frame).src = (5 : Fin 80).val) ∧
    (({ f7 .ready with complete := true } : Frame).stage = .ready) ∧
    (({ f7 .ready with complete := true } : Frame).action = 0) ∧
    (({ f7 .ready with complete := true } : Frame).marked = false) ∧
    (({ f7 .ready with complete := true } : Frame).passColour = none) ∧
    (({ f7 .ready with complete := true } : Frame).emRow = none) ∧
    (({ f7 .ready with complete := true } : Frame).emWait = none) := by decide +kernel

theorem test_witness_CommitAndCutThrough_3 :
    (sourceOldest w_CommitAndCutThrough_3_s (5 : Fin 80).val = some w_CommitAndCutThrough_3_f) ∧
    (w_CommitAndCutThrough_3_s.frame? w_CommitAndCutThrough_3_f.fid = some w_CommitAndCutThrough_3_f) ∧
    (w_CommitAndCutThrough_3_f.plain) ∧
    (w_CommitAndCutThrough_3_f.src = (5 : Fin 80).val) ∧
    (w_CommitAndCutThrough_3_f.stage = .ready) ∧
    ((2047 : Nat) < 2048) ∧
    (w_CommitAndCutThrough_3_f.action = 2 * 2 ^ 125 + (2047 : Nat) % 8 * 2 ^ 119 + (2047 : Nat) / 8 * 2 ^ 111 + w_CommitAndCutThrough_3_f.flow * 2 ^ 95) ∧
    (w_CommitAndCutThrough_3_f.flow < 2 ^ 16) ∧
    (w_CommitAndCutThrough_3_f.marked = false) ∧
    (w_CommitAndCutThrough_3_f.passColour = none) ∧
    (w_CommitAndCutThrough_3_f.emRow = none) ∧
    (w_CommitAndCutThrough_3_f.emWait = none) ∧
    (w_CommitAndCutThrough_3_f.colour ≤ 1) ∧
    (w_CommitAndCutThrough_3_f.oneStep = 0) ∧
    (queueDepth w_CommitAndCutThrough_3_s (2047 : Nat) + w_CommitAndCutThrough_3_f.data.length ≤ queueLimit w_CommitAndCutThrough_3_s (2047 : Nat) 1) := by decide +kernel

theorem test_witness_CommitAndCutThrough_4 :
    (w_CommitAndCutThrough_4_s.running = true) ∧
    (w_CommitAndCutThrough_4_s.frame? (7 : Nat) = some w_CommitAndCutThrough_4_f) ∧
    (w_CommitAndCutThrough_4_f.src < 80) ∧
    (actHost w_CommitAndCutThrough_4_f.action = 8 * (7 : Fin 8).val + (3 : Fin 8).val) ∧
    (ctReady (w_CommitAndCutThrough_4_s.advance (5 : Nat)) w_CommitAndCutThrough_4_f (64 : Nat) = true) ∧
    (w_CommitAndCutThrough_4_s.ports[(7 : Fin 8)].st = .up) ∧
    (preemptActive (w_CommitAndCutThrough_4_s.advance (5 : Nat)) (7 : Fin 8) = false) ∧
    (w_CommitAndCutThrough_4_s.ports[(7 : Fin 8)].tx = none) ∧
    (w_CommitAndCutThrough_4_s.ports[(7 : Fin 8)].held = none) ∧
    (classEmpty w_CommitAndCutThrough_4_s (7 : Fin 8) (3 : Fin 8).val = true) ∧
    ((w_CommitAndCutThrough_4_s.sch.rowChanges.all fun x => decide (tickOf (max w_CommitAndCutThrough_4_s.now (5 : Nat)) ≤ x.1)) = true) ∧
    (selectClass (7 : Fin 8) false [7, 6, 5, 4, 3, 2, 1, 0] (some ((3 : Fin 8).val, fld (classRow w_CommitAndCutThrough_4_s (7 : Fin 8) (3 : Fin 8).val) 45 32, if w_CommitAndCutThrough_4_f.complete then egressLen w_CommitAndCutThrough_4_f.data.length else fld (classRow w_CommitAndCutThrough_4_s (7 : Fin 8) (3 : Fin 8).val) 45 32)) (w_CommitAndCutThrough_4_s.advance (5 : Nat)) = (some (3 : Fin 8).val, w_CommitAndCutThrough_4_w)) := by decide +kernel

theorem test_witness_CommitAndCutThrough_5 :
    ((withF (f7 .awaiting)).running = true) ∧
    ((withF (f7 .awaiting)).sch.rowChanges = []) ∧
    ((withF (f7 .awaiting)).frame? (7 : Nat) = some (f7 .awaiting : Frame)) ∧
    (ctReady ((withF (f7 .awaiting)).advance (5 : Nat)) (f7 .awaiting : Frame) (64 : Nat) = false) := by decide +kernel

theorem test_witness_RuleGenerationsAndAgeing_1 :
    (up.serverUp = true) ∧
    (up.rules.draining = false) := by decide +kernel

theorem test_witness_RuleGenerationsAndAgeing_2 :
    (w_RuleGenerationsAndAgeing_2_s.serverUp = true) ∧
    (w_RuleGenerationsAndAgeing_2_s.rules.draining = true) := by decide +kernel

theorem test_witness_RuleGenerationsAndAgeing_3 :
    (up.serverUp = true) ∧
    ((0 : Nat) ≠ 1) := by decide +kernel

theorem test_witness_RuleGenerationsAndAgeing_4 :
    (w_RuleGenerationsAndAgeing_4_s.rules.draining = true) ∧
    (drainCount w_RuleGenerationsAndAgeing_4_s = 0) ∧
    (w_RuleGenerationsAndAgeing_4_s.storesWf = true) ∧
    (w_RuleGenerationsAndAgeing_4_s.rules.active ≤ 1) := by decide +kernel

theorem test_witness_RuleGenerationsAndAgeing_5 :
    (w_RuleGenerationsAndAgeing_5_s.rules.draining = true) ∧
    (drainCount w_RuleGenerationsAndAgeing_5_s ≠ 0) := by decide +kernel

theorem test_witness_RuleGenerationsAndAgeing_6 :
    (w_RuleGenerationsAndAgeing_6_s.running = true) ∧
    (0 < w_RuleGenerationsAndAgeing_6_s.obj Obj.EM_AGE_S) ∧
    (w_RuleGenerationsAndAgeing_6_s.storesWf = true) := by decide +kernel

theorem test_witness_HopperGrantsFreesAndHandOvers_1 :
    (up.running = true) ∧
    ((9 : Nat) < 10) ∧
    (ownerUsed (90 : Nat) = true) ∧
    (up.hop.reqs[(4 : Fin 5)] = []) ∧
    (up.arb[portArb (4 : Fin 5)].brakeAt = none) ∧
    (admissible up (90 : Nat) (4 : Fin 5).val = true) ∧
    ((popPool (4 : Fin 5).val ((9 : Nat) % 8) up).1 = some (4 * 2 ^ 21 : Nat)) := by decide +kernel

theorem test_witness_HopperGrantsFreesAndHandOvers_2 :
    (w_HopperGrantsFreesAndHandOvers_2_s.running = true) ∧
    ((9 : Nat) < 10) ∧
    (ownerUsed (90 : Nat) = true) ∧
    (w_HopperGrantsFreesAndHandOvers_2_s.hop.reqs[(4 : Fin 5)] = []) ∧
    (w_HopperGrantsFreesAndHandOvers_2_s.arb[portArb (4 : Fin 5)].brakeAt = none) ∧
    (admissible w_HopperGrantsFreesAndHandOvers_2_s (90 : Nat) (4 : Fin 5).val = false) ∧
    (hopFallsBack w_HopperGrantsFreesAndHandOvers_2_s { requester := (9 : Nat), owner := (90 : Nat), region := (9 : Nat) % 8, use := .outside } (4 : Fin 5).val = false) := by decide +kernel

theorem test_witness_HopperGrantsFreesAndHandOvers_3 :
    ((4 * 2 ^ 21 + 5 : Nat) < 2 ^ 24) ∧
    ((90 : Nat) < 1024) ∧
    ((15 : Nat) < 16) ∧
    (bufExists held (4 * 2 ^ 21 + 5 : Nat) = true) ∧
    ((bufState held (4 * 2 ^ 21 + 5 : Nat) = 1 ∨ bufState held (4 * 2 ^ 21 + 5 : Nat) = 2)) ∧
    (bufOwner held (4 * 2 ^ 21 + 5 : Nat) = (90 : Nat)) ∧
    (held.hop.lists[listOf held (poolOf (4 * 2 ^ 21 + 5 : Nat)) (idxOf (4 * 2 ^ 21 + 5 : Nat))].rebuilding = false) ∧
    ((held.hop.spills.all fun x => x.old != (4 * 2 ^ 21 + 5 : Nat)) = true) := by decide +kernel

theorem test_witness_HopperGrantsFreesAndHandOvers_4 :
    ((4 * 2 ^ 21 + 7 : Nat) < 2 ^ 24) ∧
    ((90 : Nat) < 1024) ∧
    ((15 : Nat) < 16) ∧
    (bufExists held (4 * 2 ^ 21 + 7 : Nat) = true) ∧
    (bufState held (4 * 2 ^ 21 + 7 : Nat) = 0) ∧
    (held.hop.lists[listOf held (poolOf (4 * 2 ^ 21 + 7 : Nat)) (idxOf (4 * 2 ^ 21 + 7 : Nat))].rebuilding = false) := by decide +kernel

theorem test_witness_HopperGrantsFreesAndHandOvers_5 :
    ((4 * 2 ^ 21 + 5 : Nat) < 2 ^ 24) ∧
    ((1023 : Nat) < 1024) ∧
    ((15 : Nat) < 16) ∧
    (bufExists held (4 * 2 ^ 21 + 5 : Nat) = true) ∧
    ((bufState held (4 * 2 ^ 21 + 5 : Nat) = 1 ∨ bufState held (4 * 2 ^ 21 + 5 : Nat) = 2)) ∧
    (bufOwner held (4 * 2 ^ 21 + 5 : Nat) ≠ (1023 : Nat)) ∧
    (held.hop.lists[listOf held (poolOf (4 * 2 ^ 21 + 5 : Nat)) (idxOf (4 * 2 ^ 21 + 5 : Nat))].rebuilding = false) := by decide +kernel

theorem test_witness_HopperGrantsFreesAndHandOvers_6 :
    ((4 * 2 ^ 21 + 5 : Nat) < 2 ^ 24) ∧
    ((90 : Nat) < 1024) ∧
    ((96 : Nat) < 1024) ∧
    ((0 : Nat) < 16) ∧
    (bufExists held (4 * 2 ^ 21 + 5 : Nat) = true) ∧
    ((bufState held (4 * 2 ^ 21 + 5 : Nat) = 1 ∨ bufState held (4 * 2 ^ 21 + 5 : Nat) = 2)) ∧
    (bufOwner held (4 * 2 ^ 21 + 5 : Nat) = (90 : Nat)) ∧
    (ownerUsed (96 : Nat) = true) ∧
    (bitAt (held.row Obj.HOP_OWNER_TABLE (96 : Nat)) 126 = false) := by decide +kernel

theorem test_witness_HopperGrantsFreesAndHandOvers_7 :
    ((4 * 2 ^ 21 + 5 : Nat) < 2 ^ 24) ∧
    ((91 : Nat) < 1024) ∧
    ((96 : Nat) < 1024) ∧
    ((0 : Nat) < 16) ∧
    (bufOwner held (4 * 2 ^ 21 + 5 : Nat) ≠ (91 : Nat)) := by decide +kernel

theorem test_witness_HopperGrantsFreesAndHandOvers_8 :
    (w_HopperGrantsFreesAndHandOvers_8_s.hop.lists[(18 : Fin 19)].rebuilding = true) ∧
    (w_HopperGrantsFreesAndHandOvers_8_s.hop.lists[(18 : Fin 19)].waiting = []) ∧
    (w_HopperGrantsFreesAndHandOvers_8_s.hop.bad = []) := by decide +kernel

theorem test_witness_PromotionSpillAndMemoryErrors_1 :
    (w_PromotionSpillAndMemoryErrors_1_s.running = true) ∧
    (w_PromotionSpillAndMemoryErrors_1_s.frame? (7 : Nat) = some (f7 .program : Frame)) ∧
    ((f7 .program : Frame).handles = [(4 : Nat)]) ∧
    (poolOf (4 : Nat) = 0) ∧
    ((f7 .program : Frame).asking = false) ∧
    ((f7 .program : Frame).stage ≠ .orphan) ∧
    ((f7 .program : Frame).src < 8) ∧
    ((f7 .program : Frame).complete = false) := by decide +kernel

theorem test_witness_PromotionSpillAndMemoryErrors_2 :
    (w_PromotionSpillAndMemoryErrors_2_s.frame? (7 : Nat) = some ({ f7 .program with handles := [4, 9] } : Frame)) ∧
    (({ f7 .program with handles := [4, 9] } : Frame).handles = [(4 : Nat), (9 : Nat)]) ∧
    ((bufState w_PromotionSpillAndMemoryErrors_2_s (4 : Nat) = 1 ∨ bufState w_PromotionSpillAndMemoryErrors_2_s (4 : Nat) = 2)) ∧
    (freeWaits w_PromotionSpillAndMemoryErrors_2_s (4 : Nat) = false) := by decide +kernel

theorem test_witness_PromotionSpillAndMemoryErrors_3 :
    (w_PromotionSpillAndMemoryErrors_3_s.hop.spills = ({ old := 4, new := 2 * 2 ^ 21, owner := 160 } : Spill) :: ([] : List Spill)) ∧
    ((bufState w_PromotionSpillAndMemoryErrors_3_s ({ old := 4, new := 2 * 2 ^ 21, owner := 160 } : Spill).old = 1 ∨ bufState w_PromotionSpillAndMemoryErrors_3_s ({ old := 4, new := 2 * 2 ^ 21, owner := 160 } : Spill).old = 2)) ∧
    (freeWaits w_PromotionSpillAndMemoryErrors_3_s ({ old := 4, new := 2 * 2 ^ 21, owner := 160 } : Spill).old = false) := by decide +kernel

theorem test_witness_PromotionSpillAndMemoryErrors_4 :
    (sensing w_PromotionSpillAndMemoryErrors_4_s = true) ∧
    ((8 : Nat) ≤ 8) ∧
    ((7 : Nat) < 2 ^ 64) ∧
    ((1048575 : Nat) < 1048576) := by decide +kernel

theorem test_witness_PromotionSpillAndMemoryErrors_5 :
    (sensing up = true) ∧
    ((8 : Nat) ≤ 8) ∧
    ((7 : Nat) < 2 ^ 64) := by decide +kernel

theorem test_witness_PromotionSpillAndMemoryErrors_6 :
    (sensing w_PromotionSpillAndMemoryErrors_6_s = false) ∧
    ((8 : Nat) ≤ 8) ∧
    ((7 : Nat) < 2 ^ 64) := by decide +kernel

theorem test_witness_ArbitersPickBrakeAndDrain_1 :
    (up.running = true) := by decide +kernel

theorem test_witness_ArbitersPickBrakeAndDrain_2 :
    (arb22.running = true) ∧
    (((22 : Fin 23).val < 9 ∨ 21 < (22 : Fin 23).val)) ∧
    (arb22.arb[(22 : Fin 23)].winner = none) ∧
    (arb22.arb[(22 : Fin 23)].brakeAt = none) ∧
    (laneBusy arb22 (22 : Fin 23) = false) ∧
    (arbRequests arb22 (22 : Fin 23) (0x183#16 : BitVec 16) (8 : Fin 16).val = true) ∧
    ((∀ q : Fin 16, arbLimit arb22 (22 : Fin 23) q.val = 0 ∨ arb22.arb[(22 : Fin 23)].wait[q] < arbLimit arb22 (22 : Fin 23) q.val)) ∧
    ((∀ q : Fin 16, q = (8 : Fin 16) ∨ arbRequests arb22 (22 : Fin 23) (0x183#16 : BitVec 16) q.val = false ∨ arb22.arb[(22 : Fin 23)].credit[q] < arb22.arb[(22 : Fin 23)].credit[(8 : Fin 16)])) := by decide +kernel

theorem test_witness_ArbitersPickBrakeAndDrain_3 :
    (hoist3.running = true) ∧
    (14 ≤ (16 : Fin 23).val) ∧
    ((16 : Fin 23).val ≤ 21) ∧
    (hoist3.arb[(16 : Fin 23)].winner = none) ∧
    (hoist3.arb[(16 : Fin 23)].brakeAt = none) ∧
    (hoistAsker hoist3 ((16 : Fin 23).val - 14) (4 : Fin 16).val = some ({ f7 .hoistAsk with region := 2, askFrom := 4 } : Frame)) ∧
    (hoist3.frame? ({ f7 .hoistAsk with region := 2, askFrom := 4 } : Frame).fid = some ({ f7 .hoistAsk with region := 2, askFrom := 4 } : Frame)) ∧
    (arbRequests hoist3 (16 : Fin 23) (0x10#16 : BitVec 16) (4 : Fin 16).val = true) ∧
    (hoistDepth hoist3 ({ f7 .hoistAsk with region := 2, askFrom := 4 } : Frame).region < 256) ∧
    ((∀ q : Fin 16, arbLimit hoist3 (16 : Fin 23) q.val = 0 ∨ hoist3.arb[(16 : Fin 23)].wait[q] < arbLimit hoist3 (16 : Fin 23) q.val)) ∧
    ((∀ q : Fin 16, q = (4 : Fin 16) ∨ arbRequests hoist3 (16 : Fin 23) (0x10#16 : BitVec 16) q.val = false ∨ hoist3.arb[(16 : Fin 23)].credit[q] < hoist3.arb[(16 : Fin 23)].credit[(4 : Fin 16)])) := by decide +kernel

theorem test_witness_ArbitersPickBrakeAndDrain_4 :
    (w_ArbitersPickBrakeAndDrain_4_s.running = true) ∧
    (arbNextCycle (22 : Fin 23) = true) ∧
    (w_ArbitersPickBrakeAndDrain_4_s.arb[(22 : Fin 23)].winner = some (8 : Nat)) ∧
    ((8 : Nat) < 16) ∧
    ((∀ q : Fin 16, arbRequests w_ArbitersPickBrakeAndDrain_4_s (22 : Fin 23) 0 q.val = false)) := by decide +kernel

theorem test_witness_ArbitersPickBrakeAndDrain_5 :
    (up.serverUp = true) ∧
    (up.arb[(22 : Fin 23)].brakeAt = none) := by decide +kernel

theorem test_witness_ArbitersPickBrakeAndDrain_6 :
    (w_ArbitersPickBrakeAndDrain_6_s.serverUp = true) := by decide +kernel

theorem test_witness_ArbitersPickBrakeAndDrain_7 :
    (up.serverUp = true) ∧
    (1 < (2 : Nat)) := by decide +kernel

theorem test_witness_ArbitersPickBrakeAndDrain_8 :
    (w_ArbitersPickBrakeAndDrain_8_s.arb[(13 : Fin 23)].brakeAt = some (1 : Nat)) ∧
    (w_ArbitersPickBrakeAndDrain_8_s.arb[(13 : Fin 23)].drained = false) ∧
    (arbIdle (w_ArbitersPickBrakeAndDrain_8_s.advance (3 * tickCore : Nat)) (13 : Fin 23) = true) := by decide +kernel

theorem test_witness_PortsSelectSendAndSample_1 :
    (hq5.running = true) ∧
    (hq5.ports[(5 : Fin 8)].st = .up) ∧
    (hq5.ports[(5 : Fin 8)].tx = none) ∧
    (hq5.ports[(5 : Fin 8)].held = none) ∧
    (hq5.flag Obj.MAC_PREEMPT_ENABLE (sub (5 : Fin 8)) = false) ∧
    (hq5.flag Obj.GATE_ENABLE (sub (5 : Fin 8)) = false) ∧
    ((7 : Nat) ≤ 7) ∧
    ((hq5.sch.rowChanges.all fun x => decide (tickOf (max hq5.now (tickUs : Nat)) ≤ x.1)) = true) ∧
    (classHead (hq5.advance (tickUs : Nat)) (5 : Fin 8) (7 : Nat) = some (qf 47 : QFrame)) ∧
    ((∀ d : Fin 8, (7 : Nat) < d.val → classHead (hq5.advance (tickUs : Nat)) (5 : Fin 8) d.val = none)) ∧
    (min (depthOf (qf 47 : QFrame)) hq5.ports[(5 : Fin 8)].ctStart ≤ 32768) ∧
    (bitAt (classRow hq5 (5 : Fin 8) (7 : Nat)) 63 = true) ∧
    (bitAt (gatesSeen (hq5.advance (tickUs : Nat)) (5 : Fin 8)) (7 : Nat) = true) ∧
    (shaperOn hq5 (2304 + 8 * (5 : Fin 8).val + (7 : Nat)) = false) ∧
    (shaperOn hq5 (2368 + (5 : Fin 8).val) = false) ∧
    (shaperJustReset (hq5.advance (tickUs : Nat)) (2304 + 8 * (5 : Fin 8).val + (7 : Nat)) = none) ∧
    (shaperJustReset (hq5.advance (tickUs : Nat)) (2368 + (5 : Fin 8).val) = none) ∧
    ((qf 47 : QFrame).ptpOff = none) ∧
    ((qf 47 : QFrame).ts = none) ∧
    (((qf 47 : QFrame).handles.any fun h => bufState hq5 h == 3) = false) := by decide +kernel

theorem test_witness_PortsSelectSendAndSample_2 :
    (up.ports[(5 : Fin 8)].st = .disabled) ∧
    (up.sch.rowChanges = []) := by decide +kernel

theorem test_witness_PortsSelectSendAndSample_3 :
    (w_PortsSelectSendAndSample_3_s.ports[(5 : Fin 8)].tx = some ({ tx0 with cutThrough := true, committed := false } : Tx)) ∧
    (({ tx0 with cutThrough := true, committed := false } : Tx).cutThrough = true) ∧
    (({ tx0 with cutThrough := true, committed := false } : Tx).committed = false) ∧
    (({ tx0 with cutThrough := true, committed := false } : Tx).stomp = 0) := by decide +kernel

theorem test_witness_PortsSelectSendAndSample_4 :
    (w_PortsSelectSendAndSample_4_s.ports[(5 : Fin 8)].tx = some tx0) ∧
    (tx0.cutThrough = false) ∧
    (tx0.stomp = 0) ∧
    (tx0.len ≤ w_PortsSelectSendAndSample_4_s.obj Obj.MAC_MAX_FRAME (sub (5 : Fin 8))) ∧
    (w_PortsSelectSendAndSample_4_s.flag Obj.MAC_PREEMPT_ENABLE (sub (5 : Fin 8)) = false) ∧
    (w_PortsSelectSendAndSample_4_s.ports[(5 : Fin 8)].clean + 1 ≠ 1048576) := by decide +kernel

theorem test_witness_PortsSelectSendAndSample_5 :
    (w_PortsSelectSendAndSample_5_s.ports[(5 : Fin 8)].tx = some tx0) ∧
    (tx0.cutThrough = false) ∧
    (tx0.stomp = 0) ∧
    (w_PortsSelectSendAndSample_5_s.ports[(5 : Fin 8)].clean + 1 = 1048576) ∧
    (w_PortsSelectSendAndSample_5_s.obj Obj.MAC_CT_START_MIN (sub (5 : Fin 8)) < w_PortsSelectSendAndSample_5_s.ports[(5 : Fin 8)].ctStart) := by decide +kernel

theorem test_witness_PortsSelectSendAndSample_6 :
    (w_PortsSelectSendAndSample_6_s.ports[(5 : Fin 8)].tx = some ({ tx0 with stomp := 2 } : Tx)) ∧
    (({ tx0 with stomp := 2 } : Tx).stomp = 2) ∧
    (({ tx0 with stomp := 2 } : Tx).frame.ts = none) := by decide +kernel

theorem test_witness_PortsSelectSendAndSample_7 :
    (w_PortsSelectSendAndSample_7_s.ports[(5 : Fin 8)].tx = some tx0) ∧
    (tx0.stomp = 0) := by decide +kernel

theorem test_witness_PortsSelectSendAndSample_8 :
    (w_PortsSelectSendAndSample_8_s.ports[(5 : Fin 8)].tx = some ({ tx0 with stomp := 1 } : Tx)) ∧
    (({ tx0 with stomp := 1 } : Tx).stomp ≠ 0) := by decide +kernel

theorem test_witness_PortsSelectSendAndSample_9 :
    (hq5.running = true) := by decide +kernel

theorem test_witness_GateListsCommitAndChange_1 :
    (w_GateListsCommitAndChange_1_s.serverUp = true) ∧
    (w_GateListsCommitAndChange_1_s.obj Obj.GCL_LENGTH (sub (5 : Fin 8)) = (1 : Nat)) ∧
    (w_GateListsCommitAndChange_1_s.obj Obj.GCL_CYCLE_NS (sub (5 : Fin 8)) = (1000000000 : Nat)) ∧
    (1 ≤ (1 : Nat)) ∧
    ((1 : Nat) ≤ 256) ∧
    (1 ≤ (1000000000 : Nat)) ∧
    ((1000000000 : Nat) ≤ 1000000000) ∧
    ((((shadowList w_GateListsCommitAndChange_1_s (5 : Fin 8)).take (1 : Nat)).all fun e => decide (16 ≤ e.2) && decide (e.2 ≤ 1000000000)) = true) ∧
    (w_GateListsCommitAndChange_1_s.sch.gates[(5 : Fin 8)].pending = none) ∧
    ((w_GateListsCommitAndChange_1_s.advance (5 : Nat)).devTime + 10000 * nsU ≤ time80Ns (w_GateListsCommitAndChange_1_s.obj Obj.GCL_BASE_TIME (sub (5 : Fin 8))) * nsU) := by decide +kernel

theorem test_witness_GateListsCommitAndChange_2 :
    (gclS.serverUp = true) ∧
    (gclS.obj Obj.GCL_LENGTH (sub (5 : Fin 8)) = (1 : Nat)) ∧
    (gclS.obj Obj.GCL_CYCLE_NS (sub (5 : Fin 8)) = (1000000000 : Nat)) ∧
    (1 ≤ (1 : Nat)) ∧
    ((1 : Nat) ≤ 256) ∧
    (1 ≤ (1000000000 : Nat)) ∧
    ((1000000000 : Nat) ≤ 1000000000) ∧
    ((((shadowList gclS (5 : Fin 8)).take (1 : Nat)).all fun e => decide (16 ≤ e.2) && decide (e.2 ≤ 1000000000)) = true) ∧
    (gclS.sch.gates[(5 : Fin 8)].pending = none) ∧
    (time80Ns (gclS.obj Obj.GCL_BASE_TIME (sub (5 : Fin 8))) = (0 : Nat)) ∧
    (((0 : Nat) + (0 : Nat) * (1000000000 : Nat)) * nsU < (gclS.advance (5 : Nat)).devTime + 10000 * nsU) ∧
    ((gclS.advance (5 : Nat)).devTime + 10000 * nsU ≤ ((0 : Nat) + ((0 : Nat) + 1) * (1000000000 : Nat)) * nsU) := by decide +kernel

theorem test_witness_GateListsCommitAndChange_3 :
    (w_GateListsCommitAndChange_3_s.serverUp = true) ∧
    (w_GateListsCommitAndChange_3_s.obj Obj.GCL_LENGTH (sub (5 : Fin 8)) = (1 : Nat)) ∧
    (w_GateListsCommitAndChange_3_s.obj Obj.GCL_CYCLE_NS (sub (5 : Fin 8)) = (1000000000 : Nat)) ∧
    (1 ≤ (1 : Nat)) ∧
    ((1 : Nat) ≤ 256) ∧
    (1 ≤ (1000000000 : Nat)) ∧
    ((1000000000 : Nat) ≤ 1000000000) ∧
    ((((shadowList w_GateListsCommitAndChange_3_s (5 : Fin 8)).take (1 : Nat)).all fun e => decide (16 ≤ e.2) && decide (e.2 ≤ 1000000000)) = true) ∧
    (w_GateListsCommitAndChange_3_s.sch.gates[(5 : Fin 8)].pending.isSome = true) := by decide +kernel

theorem test_witness_GateListsCommitAndChange_4 :
    (gclS.serverUp = true) ∧
    (((2 : Nat) ≠ 1 ∨ gclS.obj Obj.GCL_LENGTH (sub (5 : Fin 8)) = 0 ∨ 256 < gclS.obj Obj.GCL_LENGTH (sub (5 : Fin 8)) ∨ gclS.obj Obj.GCL_CYCLE_NS (sub (5 : Fin 8)) = 0 ∨
      1000000000 < gclS.obj Obj.GCL_CYCLE_NS (sub (5 : Fin 8)) ∨
      (((shadowList gclS (5 : Fin 8)).take (gclS.obj Obj.GCL_LENGTH (sub (5 : Fin 8)))).any fun e => decide (e.2 < 16) || decide (1000000000 < e.2)) = true)) := by decide +kernel

theorem test_witness_GateListsCommitAndChange_5 :
    (w_GateListsCommitAndChange_5_s.running = true) ∧
    (w_GateListsCommitAndChange_5_s.sch.gates[(5 : Fin 8)].pending = some gcl0) ∧
    (w_GateListsCommitAndChange_5_s.sch.gates[(5 : Fin 8)].active = none) ∧
    (w_GateListsCommitAndChange_5_s.sch.gates[(5 : Fin 8)].changeAt * (nsU : Int) ≤ ((w_GateListsCommitAndChange_5_s.advance (5 : Nat)).devTime : Int)) ∧
    (w_GateListsCommitAndChange_5_s.ports[(5 : Fin 8)].tx = none) := by decide +kernel

theorem test_witness_GateListsCommitAndChange_6 :
    (((w_GateListsCommitAndChange_6_s.advance (5 : Nat)).devTime : Int) < w_GateListsCommitAndChange_6_s.sch.gates[(5 : Fin 8)].changeAt * (nsU : Int)) := by decide +kernel

theorem test_witness_GateListsCommitAndChange_7 :
    (w_GateListsCommitAndChange_7_s.running = true) ∧
    (w_GateListsCommitAndChange_7_s.ports[(5 : Fin 8)].tx = none) := by decide +kernel

theorem test_witness_GateListsCommitAndChange_8 :
    (w_GateListsCommitAndChange_8_s.running = true) ∧
    (w_GateListsCommitAndChange_8_s.ports[(5 : Fin 8)].tx = some tx0) ∧
    (tx0.overrun = false) ∧
    (bitAt w_GateListsCommitAndChange_8_s.sch.gates[(5 : Fin 8)].gates tx0.cls = true) ∧
    (gatesAt (w_GateListsCommitAndChange_8_s.advance (5 : Nat)) (5 : Fin 8) ((w_GateListsCommitAndChange_8_s.advance (5 : Nat)).devTime : Int) = (0x7F : Nat)) ∧
    (bitAt (0x7F : Nat) tx0.cls = false) ∧
    (allSent (w_GateListsCommitAndChange_8_s.advance (5 : Nat)) (5 : Fin 8) tx0 = false) ∧
    (closePoint (w_GateListsCommitAndChange_8_s.advance (5 : Nat)) (5 : Fin 8) tx0 = none) := by decide +kernel

theorem test_witness_LinkStatesOfAPort_1 :
    (w_LinkStatesOfAPort_1_s.serverUp = true) ∧
    (w_LinkStatesOfAPort_1_s.ports[(5 : Fin 8)].st = .disabled) ∧
    (enableChecks w_LinkStatesOfAPort_1_s (5 : Fin 8) = true) ∧
    (lanesLocked w_LinkStatesOfAPort_1_s (5 : Fin 8) = false) ∧
    (((memberLanes w_LinkStatesOfAPort_1_s (5 : Fin 8)).any fun k => laneTesting w_LinkStatesOfAPort_1_s k) = false) := by decide +kernel

theorem test_witness_LinkStatesOfAPort_2 :
    (up.serverUp = true) ∧
    ((1 < (1 : Nat) ∨ ((1 : Nat) = 1 ∧ enableChecks up (5 : Fin 8) = false))) := by decide +kernel

theorem test_witness_LinkStatesOfAPort_3 :
    (w_LinkStatesOfAPort_3_s.serverUp = true) ∧
    (w_LinkStatesOfAPort_3_s.ports[(5 : Fin 8)].st ≠ .up) ∧
    (w_LinkStatesOfAPort_3_s.ports[(5 : Fin 8)].st ≠ .disabled) := by decide +kernel

theorem test_witness_LinkStatesOfAPort_4 :
    (w_LinkStatesOfAPort_4_s.running = true) ∧
    ((2 ^ 32 - 1 : Nat) < 2 ^ 32) ∧
    ((0 : Nat) < 2 ^ 32) ∧
    (laneOn w_LinkStatesOfAPort_4_s (5 : Fin 8) = true) ∧
    (laneOwner w_LinkStatesOfAPort_4_s (5 : Fin 8) = none) := by decide +kernel

theorem test_witness_LinkStatesOfAPort_5 :
    (w_LinkStatesOfAPort_5_s.running = true) ∧
    ((2 ^ 32 - 1 : Nat) < 2 ^ 32) ∧
    ((0 : Nat) < 2 ^ 32) ∧
    (laneOn w_LinkStatesOfAPort_5_s (5 : Fin 8) = true) ∧
    (laneOwner w_LinkStatesOfAPort_5_s (5 : Fin 8) = some (5 : Fin 8)) ∧
    (w_LinkStatesOfAPort_5_s.ports[(5 : Fin 8)].st = .noSignal) ∧
    (((memberLanes w_LinkStatesOfAPort_5_s (5 : Fin 8)).any fun j => laneTesting w_LinkStatesOfAPort_5_s j) = false) ∧
    (w_LinkStatesOfAPort_5_s.leads (5 : Nat) (5 : Fin 8) 5) ∧
    (((memberLanes w_LinkStatesOfAPort_5_s (5 : Fin 8)).all fun j => decide (j = (5 : Fin 8)) || w_LinkStatesOfAPort_5_s.lanes[j].locked && w_LinkStatesOfAPort_5_s.flag Obj.HL_ENABLE (sub j)) = true) := by decide +kernel

theorem test_witness_LinkStatesOfAPort_6 :
    (w_LinkStatesOfAPort_6_s.running = true) ∧
    (reportWf report0 = true) ∧
    (w_LinkStatesOfAPort_6_s.ports[(5 : Fin 8)].st = .aligning) ∧
    (w_LinkStatesOfAPort_6_s.leads (5 : Nat) (5 : Fin 8) 8) ∧
    (w_LinkStatesOfAPort_6_s.flag Obj.MAC_PREEMPT_ENABLE (sub (5 : Fin 8)) = false) := by decide +kernel

theorem test_witness_LinkStatesOfAPort_7 :
    (w_LinkStatesOfAPort_7_s.running = true) ∧
    (reportWf report0 = true) ∧
    (w_LinkStatesOfAPort_7_s.ports[(5 : Fin 8)].st = .aligning) ∧
    (w_LinkStatesOfAPort_7_s.leads (5 : Nat) (5 : Fin 8) 9) := by decide +kernel

theorem test_witness_LinkStatesOfAPort_8 :
    ((3 : Nat) < 4) ∧
    (reportWf report0 = true) ∧
    (lossWord (3 : Nat) = some (6 : Nat)) ∧
    (w_LinkStatesOfAPort_8_s.ports[(5 : Fin 8)].st = .remoteFault) ∧
    (w_LinkStatesOfAPort_8_s.leads (5 : Nat) (5 : Fin 8) 7) := by decide +kernel

theorem test_witness_LinkStatesOfAPort_9 :
    (reportWf report0 = true) ∧
    (w_LinkStatesOfAPort_9_s.ports[(5 : Fin 8)].st = .up) ∧
    (w_LinkStatesOfAPort_9_s.leads (5 : Nat) (5 : Fin 8) 7) ∧
    (w_LinkStatesOfAPort_9_s.ports[(5 : Fin 8)].preempt ≠ 1) ∧
    (w_LinkStatesOfAPort_9_s.ports[(5 : Fin 8)].tx = none) ∧
    (w_LinkStatesOfAPort_9_s.ports[(5 : Fin 8)].held = none) ∧
    ((w_LinkStatesOfAPort_9_s.frames.all fun f => f.src != (5 : Fin 8).val) = true) := by decide +kernel

theorem test_witness_LinkStatesOfAPort_10 :
    (outranked.ports[(5 : Fin 8)].st = .up) ∧
    (¬ outranked.leads (1000 * tickMs : Nat) (5 : Fin 8) 9) := by decide +kernel

theorem test_witness_LinkStatesOfAPort_11 :
    (w_LinkStatesOfAPort_11_s.ports[(5 : Fin 8)].st = .up) ∧
    (w_LinkStatesOfAPort_11_s.leads (5 : Nat) (5 : Fin 8) 9) ∧
    (w_LinkStatesOfAPort_11_s.ports[(5 : Fin 8)].preempt ≠ 1) ∧
    (w_LinkStatesOfAPort_11_s.ports[(5 : Fin 8)].tx = none) ∧
    (w_LinkStatesOfAPort_11_s.ports[(5 : Fin 8)].held = none) ∧
    ((w_LinkStatesOfAPort_11_s.frames.all fun f => f.src != (5 : Fin 8).val) = true) := by decide +kernel

theorem test_witness_LinkStatesOfAPort_12 :
    (laneOwner w_LinkStatesOfAPort_12_s (5 : Fin 8) = some (5 : Fin 8)) ∧
    (w_LinkStatesOfAPort_12_s.obj Obj.HL_LOOPBACK (sub (5 : Fin 8)) ≠ 1) ∧
    (w_LinkStatesOfAPort_12_s.ports[(5 : Fin 8)].st = .up) ∧
    (w_LinkStatesOfAPort_12_s.leads (5 : Nat) (5 : Fin 8) 4) ∧
    (w_LinkStatesOfAPort_12_s.ports[(5 : Fin 8)].preempt ≠ 1) ∧
    (w_LinkStatesOfAPort_12_s.ports[(5 : Fin 8)].tx = none) ∧
    (w_LinkStatesOfAPort_12_s.ports[(5 : Fin 8)].held = none) ∧
    ((w_LinkStatesOfAPort_12_s.frames.all fun f => f.src != (5 : Fin 8).val) = true) := by decide +kernel

theorem test_witness_LinkStatesOfAPort_13 :
    (w_LinkStatesOfAPort_13_s.ports[(5 : Fin 8)].st = .aligning) ∧
    (w_LinkStatesOfAPort_13_s.ports[(5 : Fin 8)].stAt + w_LinkStatesOfAPort_13_s.obj Obj.MAC_ALIGN_TIMEOUT_MS (sub (5 : Fin 8)) * tickMs ≤ max w_LinkStatesOfAPort_13_s.now (1000 * tickMs : Nat)) ∧
    (w_LinkStatesOfAPort_13_s.leads (1000 * tickMs : Nat) (5 : Fin 8) 6) := by decide +kernel

theorem test_witness_StartThresholdKeepsItsBounds_1 :
    (up.serverUp = true) ∧
    (64 ≤ up.obj Obj.MAC_CT_START_MIN (sub (7 : Fin 8))) ∧
    (up.obj Obj.MAC_CT_START_MIN (sub (7 : Fin 8)) ≤ (4096 : Nat)) ∧
    ((4096 : Nat) ≤ up.obj Obj.MAC_CT_START_MAX (sub (7 : Fin 8))) ∧
    (up.obj Obj.MAC_CT_START_MAX (sub (7 : Fin 8)) ≤ 16000) := by decide +kernel

theorem test_witness_StartThresholdKeepsItsBounds_2 :
    (w_StartThresholdKeepsItsBounds_2_s.serverUp = true) ∧
    (64 ≤ (512 : Nat)) ∧
    ((512 : Nat) ≤ w_StartThresholdKeepsItsBounds_2_s.obj Obj.MAC_CT_START_INIT (sub (7 : Fin 8))) ∧
    (w_StartThresholdKeepsItsBounds_2_s.obj Obj.MAC_CT_START_INIT (sub (7 : Fin 8)) ≤ w_StartThresholdKeepsItsBounds_2_s.obj Obj.MAC_CT_START_MAX (sub (7 : Fin 8))) ∧
    (w_StartThresholdKeepsItsBounds_2_s.obj Obj.MAC_CT_START_MAX (sub (7 : Fin 8)) ≤ 16000) := by decide +kernel

theorem test_witness_StartThresholdKeepsItsBounds_3 :
    (w_StartThresholdKeepsItsBounds_3_s.serverUp = true) ∧
    (64 ≤ w_StartThresholdKeepsItsBounds_3_s.obj Obj.MAC_CT_START_MIN (sub (7 : Fin 8))) ∧
    (w_StartThresholdKeepsItsBounds_3_s.obj Obj.MAC_CT_START_MIN (sub (7 : Fin 8)) ≤ w_StartThresholdKeepsItsBounds_3_s.obj Obj.MAC_CT_START_INIT (sub (7 : Fin 8))) ∧
    (w_StartThresholdKeepsItsBounds_3_s.obj Obj.MAC_CT_START_INIT (sub (7 : Fin 8)) ≤ (16000 : Nat)) ∧
    ((16000 : Nat) ≤ 16000) := by decide +kernel

theorem test_witness_StartThresholdKeepsItsBounds_4 :
    (up.serverUp = true) ∧
    (((63 : Nat) < up.obj Obj.MAC_CT_START_MIN (sub (7 : Fin 8)) ∨ up.obj Obj.MAC_CT_START_MAX (sub (7 : Fin 8)) < (63 : Nat))) := by decide +kernel

theorem test_witness_StartThresholdKeepsItsBounds_5 :
    (up.serverUp = true) ∧
    (((63 : Nat) < 64 ∨ up.obj Obj.MAC_CT_START_INIT (sub (7 : Fin 8)) < (63 : Nat))) := by decide +kernel

theorem test_witness_StartThresholdKeepsItsBounds_6 :
    (up.serverUp = true) ∧
    (((16001 : Nat) < up.obj Obj.MAC_CT_START_INIT (sub (7 : Fin 8)) ∨ 16000 < (16001 : Nat))) := by decide +kernel

theorem test_witness_PreemptionAndLaneTest_1 :
    (w_PreemptionAndLaneTest_1_s.ports[(7 : Fin 8)].preempt = 1) ∧
    (w_PreemptionAndLaneTest_1_s.ports[(7 : Fin 8)].st = .up) := by decide +kernel

theorem test_witness_PreemptionAndLaneTest_2 :
    (max up.now (5 : Nat) < up.ports[(7 : Fin 8)].verifyAt + 3 * verifyTicks up (7 : Fin 8)) := by decide +kernel

theorem test_witness_PreemptionAndLaneTest_3 :
    (w_PreemptionAndLaneTest_3_s.ports[(7 : Fin 8)].preempt = 1) ∧
    (w_PreemptionAndLaneTest_3_s.ports[(7 : Fin 8)].st = .up) ∧
    (0 < w_PreemptionAndLaneTest_3_s.obj Obj.MAC_VERIFY_TIME_MS (sub (7 : Fin 8))) ∧
    (w_PreemptionAndLaneTest_3_s.ports[(7 : Fin 8)].verifyAt + 3 * verifyTicks w_PreemptionAndLaneTest_3_s (7 : Fin 8) ≤ max w_PreemptionAndLaneTest_3_s.now (tickS : Nat)) := by decide +kernel

theorem test_witness_PreemptionAndLaneTest_4 :
    (w_PreemptionAndLaneTest_4_s.serverUp = true) ∧
    (w_PreemptionAndLaneTest_4_s.ports[(7 : Fin 8)].st = .up) ∧
    (w_PreemptionAndLaneTest_4_s.flag Obj.MAC_PREEMPT_ENABLE (sub (7 : Fin 8)) = true) ∧
    (w_PreemptionAndLaneTest_4_s.flag Obj.MAC_VERIFY_DISABLE (sub (7 : Fin 8)) = false) := by decide +kernel

theorem test_witness_PreemptionAndLaneTest_5 :
    (w_PreemptionAndLaneTest_5_s.serverUp = true) ∧
    ((2 : Nat) ≠ 1) := by decide +kernel

theorem test_witness_PreemptionAndLaneTest_6 :
    (up.serverUp = true) ∧
    ((0xFCF018EC : Nat) < 2 ^ 32) ∧
    (tapsOk (0xFCF018EC : Nat) = true) := by decide +kernel

theorem test_witness_PreemptionAndLaneTest_7 :
    (up.serverUp = true) ∧
    (tapsOk (0xFCF018EB : Nat) = false) := by decide +kernel

theorem test_witness_PreemptionAndLaneTest_8 :
    (up.serverUp = true) ∧
    ((2 : Nat) ≤ 2) ∧
    (laneOwner up (7 : Fin 8) = none) := by decide +kernel

theorem test_witness_PreemptionAndLaneTest_9 :
    (up.serverUp = true) ∧
    (2 < (3 : Nat)) := by decide +kernel

theorem test_witness_PreemptionAndLaneTest_10 :
    (genRuns w_PreemptionAndLaneTest_10_s (11 : Fin 12) = false) ∧
    (chkRuns w_PreemptionAndLaneTest_10_s (11 : Fin 12) = true) ∧
    (checkBits (fld (w_PreemptionAndLaneTest_10_s.row Obj.HL_PRBS_TABLE (11 : Fin 12).val) 57 54) (rowPam w_PreemptionAndLaneTest_10_s (11 : Fin 12)) (prbsSees w_PreemptionAndLaneTest_10_s (11 : Fin 12) ([5] : Bytes))
      { bits := 0, errors := 0, losses := 0, changes := [], x := w_PreemptionAndLaneTest_10_s.prbs[(11 : Fin 12)] } = (checkBits (fld (w_PreemptionAndLaneTest_10_s.row Obj.HL_PRBS_TABLE 11) 57 54) (rowPam w_PreemptionAndLaneTest_10_s 11) (prbsSees w_PreemptionAndLaneTest_10_s 11 [5]) { bits := 0, errors := 0, losses := 0, changes := [], x := w_PreemptionAndLaneTest_10_s.prbs[11] } : Check)) := by decide +kernel

theorem test_witness_PreemptionAndLaneTest_11 :
    (isSsprq (1 : Nat) = false) ∧
    (Prbs.init.flip = 0) ∧
    (({ Prbs.init with locked := true } : Prbs).locked = true) ∧
    (({ Prbs.init with locked := true } : Prbs).chk = Prbs.init.gen) ∧
    ((({ Prbs.init with locked := true } : Prbs).errs.filter id).length < 128) := by decide +kernel

theorem test_witness_PreemptionAndLaneTest_12 :
    (genRuns up (11 : Fin 12) = false) ∧
    (chkRuns up (11 : Fin 12) = false) := by decide +kernel

theorem test_witness_PreemptionAndLaneTest_13 :
    (max up.now (5 : Nat) < up.lanes[(7 : Fin 8)].lostAt + 125 * tickUs) := by decide +kernel

theorem test_witness_PreemptionAndLaneTest_14 :
    (laneOn w_PreemptionAndLaneTest_14_s (7 : Fin 8) = true) ∧
    (clientMode (w_PreemptionAndLaneTest_14_s.obj Obj.HL_MODE (sub (7 : Fin 8))) = true) ∧
    (w_PreemptionAndLaneTest_14_s.lanes[(7 : Fin 8)].lostAt + 125 * tickUs ≤ max w_PreemptionAndLaneTest_14_s.now (tickS : Nat)) := by decide +kernel

theorem test_witness_PreemptionAndLaneTest_15 :
    (laneOn w_PreemptionAndLaneTest_15_s (7 : Fin 8) = true) ∧
    ((w_PreemptionAndLaneTest_15_s.obj Obj.HL_MODE (sub (7 : Fin 8)) = 20 ∨ w_PreemptionAndLaneTest_15_s.obj Obj.HL_MODE (sub (7 : Fin 8)) = 21)) := by decide +kernel

theorem test_witness_PreemptionAndLaneTest_16 :
    (laneOn w_PreemptionAndLaneTest_16_s (7 : Fin 8) = true) ∧
    ((w_PreemptionAndLaneTest_16_s.obj Obj.HL_MODE (sub (7 : Fin 8)) = 20 ∨ w_PreemptionAndLaneTest_16_s.obj Obj.HL_MODE (sub (7 : Fin 8)) = 21)) := by decide +kernel

theorem test_witness_ClientPeriodsAndContainers_1 :
    (cli5.running = true) ∧
    (cli5.cliOn (5 : Fin 8).val = true) ∧
    (cli5.cli[(5 : Fin 8)].started = false) ∧
    (([1, 128] : Bytes).length = ((9 : Nat) + 7) / 8) := by decide +kernel

theorem test_witness_ClientPeriodsAndContainers_2 :
    (w_ClientPeriodsAndContainers_2_s.running = true) ∧
    (w_ClientPeriodsAndContainers_2_s.cliOn (5 : Fin 8).val = true) ∧
    (w_ClientPeriodsAndContainers_2_s.cli[(5 : Fin 8)].started = true) ∧
    (cliM w_ClientPeriodsAndContainers_2_s (5 : Fin 8) = 1) ∧
    (cliLos w_ClientPeriodsAndContainers_2_s (5 : Fin 8) = true) ∧
    (w_ClientPeriodsAndContainers_2_s.cli[(5 : Fin 8)].usOnes = 0) ∧
    (w_ClientPeriodsAndContainers_2_s.rx[memberCh w_ClientPeriodsAndContainers_2_s (5 : Fin 8) 0].st ≠ .sync) := by decide +kernel

theorem test_witness_ClientPeriodsAndContainers_3 :
    (w_ClientPeriodsAndContainers_3_s.running = true) ∧
    (w_ClientPeriodsAndContainers_3_s.cliOn (5 : Fin 8).val = true) ∧
    (w_ClientPeriodsAndContainers_3_s.cli[(5 : Fin 8)].started = true) ∧
    (cliM w_ClientPeriodsAndContainers_3_s (5 : Fin 8) = 1) ∧
    (cliLos w_ClientPeriodsAndContainers_3_s (5 : Fin 8) = true) ∧
    (w_ClientPeriodsAndContainers_3_s.cli[(5 : Fin 8)].usOnes = 1) ∧
    (w_ClientPeriodsAndContainers_3_s.rx[memberCh w_ClientPeriodsAndContainers_3_s (5 : Fin 8) 0].st = .sync) ∧
    (w_ClientPeriodsAndContainers_3_s.act[memberCh w_ClientPeriodsAndContainers_3_s (5 : Fin 8) 0].st = .operating) ∧
    (flumePeriods w_ClientPeriodsAndContainers_3_s (flumeNo (5 : Fin 8) 0) = []) := by decide +kernel

theorem test_witness_ClientPeriodsAndContainers_4 :
    ((cli5on.flumeIn.find? fun x => x.client == (5 : Fin 8).val && !verdictOpen cli5on x) = none) := by decide +kernel

theorem test_witness_ClientPeriodsAndContainers_5 :
    ((withIn (cin 1 (beBytes 16 hdrC))).running = true) ∧
    (((withIn (cin 1 (beBytes 16 hdrC))).flumeIn.find? fun x => x.client == (5 : Fin 8).val && !verdictOpen (withIn (cin 1 (beBytes 16 hdrC))) x) = some (cin 1 (beBytes 16 hdrC) : FlumeIn)) ∧
    ((withIn (cin 1 (beBytes 16 hdrC))).cliOn (5 : Fin 8).val = true) ∧
    ((withIn (cin 1 (beBytes 16 hdrC))).cli[(5 : Fin 8)].st ≠ 0) ∧
    (16 ≤ (cin 1 (beBytes 16 hdrC) : FlumeIn).data.length) ∧
    (crc16Tlink (beAt (cin 1 (beBytes 16 hdrC) : FlumeIn).data 0 16) = beAt (cin 1 (beBytes 16 hdrC) : FlumeIn).data 0 16 % 2 ^ 16) ∧
    (memberOf (withIn (cin 1 (beBytes 16 hdrC))) (5 : Fin 8) (cin 1 (beBytes 16 hdrC) : FlumeIn).ch = none) ∧
    (fld (beAt (cin 1 (beBytes 16 hdrC) : FlumeIn).data 0 16) 104 103 < cliM (withIn (cin 1 (beBytes 16 hdrC))) (5 : Fin 8)) := by decide +kernel

theorem test_witness_ClientPeriodsAndContainers_6 :
    (w_ClientPeriodsAndContainers_6_s.running = true) ∧
    ((w_ClientPeriodsAndContainers_6_s.flumeIn.find? fun x => x.client == (5 : Fin 8).val && !verdictOpen w_ClientPeriodsAndContainers_6_s x) = some (cin 2 [])) ∧
    (w_ClientPeriodsAndContainers_6_s.cliOn (5 : Fin 8).val = true) ∧
    (w_ClientPeriodsAndContainers_6_s.cli[(5 : Fin 8)].st ≠ 0) ∧
    ((cin 2 []).data.length < 16 ∨ crc16Tlink (beAt (cin 2 []).data 0 16) ≠ beAt (cin 2 []).data 0 16 % 2 ^ 16) ∧
    (∀ m : Nat, memberOf w_ClientPeriodsAndContainers_6_s (5 : Fin 8) (cin 2 []).ch = some m → curPart w_ClientPeriodsAndContainers_6_s (5 : Fin 8) m = none ∧
      (w_ClientPeriodsAndContainers_6_s.cli[(5 : Fin 8)].heard.find? fun e => e.1 == m) = none) := by
  have h0 : memberOf w_ClientPeriodsAndContainers_6_s (5 : Fin 8) (cin 2 []).ch = some 0 := by decide +kernel
  refine ⟨by decide +kernel, by decide +kernel, by decide +kernel, by decide +kernel, Or.inl (by decide), fun m h => ?_⟩
  cases Option.some.inj (h0.symm.trans h)
  decide +kernel

theorem test_witness_ClientPeriodsAndContainers_7 :
    (w_ClientPeriodsAndContainers_7_s.running = true) ∧
    ((w_ClientPeriodsAndContainers_7_s.flumeIn.find? fun x => x.client == (5 : Fin 8).val && !verdictOpen w_ClientPeriodsAndContainers_7_s x) = some cin0) ∧
    (w_ClientPeriodsAndContainers_7_s.cliOn (5 : Fin 8).val = true) ∧
    (w_ClientPeriodsAndContainers_7_s.cli[(5 : Fin 8)].st ≠ 0) ∧
    (memberOf w_ClientPeriodsAndContainers_7_s (5 : Fin 8) cin0.ch = some (0 : Nat)) ∧
    (16 ≤ cin0.data.length) ∧
    (cin0.bad = false) ∧
    (beAt cin0.data 0 16 = hdrC) ∧
    (crc16Tlink hdrC = hdrC % 2 ^ 16) ∧
    (fld hdrC 104 103 = (0 : Nat)) ∧
    (fld hdrC 111 106 = 0) ∧
    (bitAt hdrC 105 = false) ∧
    (curPart w_ClientPeriodsAndContainers_7_s (5 : Fin 8) (0 : Nat) = none) ∧
    (partSettled (w_ClientPeriodsAndContainers_7_s.advance (5 : Nat)) (5 : Fin 8) (0 : Nat) (fld hdrC 127 112) = false) := by decide +kernel

theorem test_witness_ClientPeriodsAndContainers_8 :
    (cliM w_ClientPeriodsAndContainers_8_s (5 : Fin 8) = 1) ∧
    ((w_ClientPeriodsAndContainers_8_s.cli[(5 : Fin 8)].parts.all fun p => decide (max w_ClientPeriodsAndContainers_8_s.now (250 * tickUs - 1 : Nat) < p.at0 + 250 * tickUs)) = true) := by decide +kernel

theorem test_witness_ClientPeriodsAndContainers_9 :
    (w_ClientPeriodsAndContainers_9_s.running = true) ∧
    (cliM w_ClientPeriodsAndContainers_9_s (5 : Fin 8) = 1) ∧
    (w_ClientPeriodsAndContainers_9_s.cli[(5 : Fin 8)].parts = [part0]) ∧
    (part0.at0 + 250 * tickUs ≤ max w_ClientPeriodsAndContainers_9_s.now (250 * tickUs : Nat)) ∧
    (w_ClientPeriodsAndContainers_9_s.cli[(5 : Fin 8)].st = 1) ∧
    (lostNow (w_ClientPeriodsAndContainers_9_s.advance (250 * tickUs : Nat)) (5 : Fin 8) part0.gfc = false) := by decide +kernel

theorem test_witness_ClientPeriodsAndContainers_10 :
    (w_ClientPeriodsAndContainers_10_s.cli[(5 : Fin 8)].st = 2) ∧
    (w_ClientPeriodsAndContainers_10_s.cli[(5 : Fin 8)].running = true) ∧
    ((playFill (w_ClientPeriodsAndContainers_10_s.advance (5 : Nat)) (5 : Fin 8) = 0 ∨ 1000 * (fld (w_ClientPeriodsAndContainers_10_s.cliRow (5 : Fin 8).val) 38 31 + 250) < playFill (w_ClientPeriodsAndContainers_10_s.advance (5 : Nat)) (5 : Fin 8))) := by decide +kernel

theorem test_witness_PerformanceSecondsAndBins_1 :
    (w_PerformanceSecondsAndBins_1_s.pwr.phase = .up) ∧
    (w_PerformanceSecondsAndBins_1_s.time.doms[w_PerformanceSecondsAndBins_1_s.time.selected].state = .locked) := by decide +kernel

theorem test_witness_PerformanceSecondsAndBins_2 :
    (w_PerformanceSecondsAndBins_2_s.running = true) ∧
    (w_PerformanceSecondsAndBins_2_s.pm[(9 : Fin 12)].held = [({ sec0 with second := 898 } : PmSec)]) ∧
    (w_PerformanceSecondsAndBins_2_s.pm[(9 : Fin 12)].quarter.cur = none) ∧
    (w_PerformanceSecondsAndBins_2_s.pm[(9 : Fin 12)].day.cur = none) ∧
    (w_PerformanceSecondsAndBins_2_s.pm[(9 : Fin 12)].quarter.recent = []) ∧
    (w_PerformanceSecondsAndBins_2_s.pm[(9 : Fin 12)].day.recent = []) ∧
    (({ sec0 with second := 898 } : PmSec).second + 11 ≤ taiSecond (w_PerformanceSecondsAndBins_2_s.advance (5 : Nat))) ∧
    (taiSecond (w_PerformanceSecondsAndBins_2_s.advance (5 : Nat)) < ({ sec0 with second := 898 } : PmSec).second / 900 * 900 + 910) ∧
    ((∀ k : Fin 12, k ≠ (9 : Fin 12) → w_PerformanceSecondsAndBins_2_s.pm[k].held = [] ∧ w_PerformanceSecondsAndBins_2_s.pm[k].quarter.cur = none ∧ w_PerformanceSecondsAndBins_2_s.pm[k].day.cur = none)) := by decide +kernel

theorem test_witness_PerformanceSecondsAndBins_3 :
    (w_PerformanceSecondsAndBins_3_s.serverUp = true) := by decide +kernel

theorem test_witness_PerformanceSecondsAndBins_4 :
    (up.serverUp = true) ∧
    ((0 : Nat) ≠ 1) := by decide +kernel

theorem test_witness_PerformanceSecondsAndBins_5 :
    (w_PerformanceSecondsAndBins_5_s.running = true) := by decide +kernel

theorem test_witness_DomainsLoseHoldAndSwitch_1 :
    ((∀ x : Fin 2, (up.time.doms[x].state = .freeRun ∨ up.time.doms[x].state = .holdover) ∧ up.time.doms[x].pair = none)) := by decide +kernel

theorem test_witness_DomainsLoseHoldAndSwitch_2 :
    (w_DomainsLoseHoldAndSwitch_2_s.running = true) ∧
    (w_DomainsLoseHoldAndSwitch_2_s.obj Obj.TIME_SELECT ≠ 2) ∧
    (w_DomainsLoseHoldAndSwitch_2_s.time.doms[(1 : Fin 2)].state = .locking) ∧
    (w_DomainsLoseHoldAndSwitch_2_s.time.doms[(1 : Fin 2)].pair = none) ∧
    (w_DomainsLoseHoldAndSwitch_2_s.time.doms[1 - (1 : Fin 2)].state = .freeRun) ∧
    (w_DomainsLoseHoldAndSwitch_2_s.time.doms[1 - (1 : Fin 2)].pair = none) ∧
    (w_DomainsLoseHoldAndSwitch_2_s.time.doms[(1 : Fin 2)].lastUsable + w_DomainsLoseHoldAndSwitch_2_s.obj Obj.TIME_SRC_TIMEOUT_S (sub (1 : Fin 2)) * tickS ≤ max w_DomainsLoseHoldAndSwitch_2_s.now (100 * tickS : Nat)) := by decide +kernel

theorem test_witness_DomainsLoseHoldAndSwitch_3 :
    (w_DomainsLoseHoldAndSwitch_3_s.running = true) ∧
    (w_DomainsLoseHoldAndSwitch_3_s.obj Obj.TIME_SELECT ≠ 2) ∧
    (w_DomainsLoseHoldAndSwitch_3_s.time.doms[(1 : Fin 2)].state = .holdover) ∧
    (w_DomainsLoseHoldAndSwitch_3_s.time.doms[(1 : Fin 2)].holdoverAt + w_DomainsLoseHoldAndSwitch_3_s.obj Obj.TIME_HOLDOVER_S (sub (1 : Fin 2)) * tickS ≤ max w_DomainsLoseHoldAndSwitch_3_s.now (100000 * tickS : Nat)) := by decide +kernel

theorem test_witness_DomainsLoseHoldAndSwitch_4 :
    ((w_DomainsLoseHoldAndSwitch_4_s.time.doms[(1 : Fin 2)].state ≠ .holdover ∨
    max w_DomainsLoseHoldAndSwitch_4_s.now (5 : Nat) < w_DomainsLoseHoldAndSwitch_4_s.time.doms[(1 : Fin 2)].holdoverAt + w_DomainsLoseHoldAndSwitch_4_s.obj Obj.TIME_HOLDOVER_S (sub (1 : Fin 2)) * tickS)) := by decide +kernel

theorem test_witness_DomainsLoseHoldAndSwitch_5 :
    (up.serverUp = true) ∧
    ((999999999 < (0 : Nat) ∨ 2 ^ 48 ≤ (2 ^ 48 : Nat))) := by decide +kernel

theorem test_witness_DomainsLoseHoldAndSwitch_6 :
    (w_DomainsLoseHoldAndSwitch_6_s.serverUp = true) ∧
    ((999999999 : Nat) ≤ 999999999) ∧
    ((7 : Nat) < 2 ^ 48) ∧
    (w_DomainsLoseHoldAndSwitch_6_s.time.doms[w_DomainsLoseHoldAndSwitch_6_s.time.selected].state ≠ .freeRun) := by decide +kernel

theorem test_witness_DomainsLoseHoldAndSwitch_7 :
    (up.serverUp = true) ∧
    ((999999999 : Nat) ≤ 999999999) ∧
    ((2 ^ 48 - 1 : Nat) < 2 ^ 48) ∧
    (up.time.selected = (0 : Fin 2)) ∧
    (up.time.doms[(0 : Fin 2)].state = .freeRun) ∧
    ((∀ p : Fin 8, up.sch.gates[p].active = none ∧ up.sch.gates[p].pending = none ∧ up.ports[p].tx = none)) := by decide +kernel

theorem test_witness_DomainsLoseHoldAndSwitch_8 :
    (up.serverUp = true) ∧
    (2 < (3 : Nat)) := by decide +kernel

theorem test_witness_DomainsLoseHoldAndSwitch_9 :
    (up.serverUp = true) ∧
    (up.time.selected ≠ (1 : Fin 2)) := by decide +kernel

theorem test_witness_DomainsLoseHoldAndSwitch_10 :
    (up.serverUp = true) ∧
    (up.time.selected = (0 : Fin 2)) := by decide +kernel

theorem test_witness_DomainsLoseHoldAndSwitch_11 :
    (up.serverUp = true) ∧
    (6 < (7 : Nat)) := by decide +kernel

theorem test_witness_DomainsLoseHoldAndSwitch_12 :
    (w_DomainsLoseHoldAndSwitch_12_s.serverUp = true) ∧
    ((5 : Nat) ≤ 6) ∧
    (5 ≤ (5 : Nat)) ∧
    (w_DomainsLoseHoldAndSwitch_12_s.obj Obj.TIME_DOM_SOURCE (sub (1 : Fin 2)) ≠ (5 : Nat)) ∧
    (w_DomainsLoseHoldAndSwitch_12_s.time.doms[(1 : Fin 2)].state = .locked) ∧
    (900 * tickS ≤ max w_DomainsLoseHoldAndSwitch_12_s.now (900 * tickS : Nat) - w_DomainsLoseHoldAndSwitch_12_s.time.doms[(1 : Fin 2)].lockedAt) ∧
    (w_DomainsLoseHoldAndSwitch_12_s.obj Obj.TIME_SELECT ≠ 2) := by decide +kernel

theorem test_witness_DomainsLoseHoldAndSwitch_13 :
    (up.serverUp = true) ∧
    ((0 : Nat) ≤ 6) ∧
    (up.obj Obj.TIME_DOM_SOURCE (sub (1 : Fin 2)) = (0 : Nat)) := by decide +kernel

theorem test_witness_PulsesTimeLinkAndStampQueue_1 :
    (w_PulsesTimeLinkAndStampQueue_1_s.running = true) ∧
    (w_PulsesTimeLinkAndStampQueue_1_s.flag Obj.PPS_OUT_ENABLE = true) ∧
    (wholeSecond (w_PulsesTimeLinkAndStampQueue_1_s.advance (5 : Nat)) = true) ∧
    ((w_PulsesTimeLinkAndStampQueue_1_s.flag Obj.PPS_OUT_SQUELCH = false ∨ w_PulsesTimeLinkAndStampQueue_1_s.time.doms[w_PulsesTimeLinkAndStampQueue_1_s.time.selected].state = .locked ∨ w_PulsesTimeLinkAndStampQueue_1_s.time.doms[w_PulsesTimeLinkAndStampQueue_1_s.time.selected].state = .holdover)) ∧
    (w_PulsesTimeLinkAndStampQueue_1_s.obj Obj.PPS_OUT_ADJ_PS = 0) ∧
    ((w_PulsesTimeLinkAndStampQueue_1_s.time.ppsOutRise.all fun r => decide (r + 500 * tickMs ≤ max w_PulsesTimeLinkAndStampQueue_1_s.now (5 : Nat))) = true) := by decide +kernel

theorem test_witness_PulsesTimeLinkAndStampQueue_2 :
    ((w_PulsesTimeLinkAndStampQueue_2_s.flag Obj.PPS_OUT_ENABLE = false ∨ wholeSecond (w_PulsesTimeLinkAndStampQueue_2_s.advance (5 : Nat)) = false ∨ (w_PulsesTimeLinkAndStampQueue_2_s.flag Obj.PPS_OUT_SQUELCH = true ∧
      (w_PulsesTimeLinkAndStampQueue_2_s.time.doms[w_PulsesTimeLinkAndStampQueue_2_s.time.selected].state = .freeRun ∨ w_PulsesTimeLinkAndStampQueue_2_s.time.doms[w_PulsesTimeLinkAndStampQueue_2_s.time.selected].state = .locking)))) := by decide +kernel

theorem test_witness_PulsesTimeLinkAndStampQueue_3 :
    (w_PulsesTimeLinkAndStampQueue_3_s.running = true) ∧
    (w_PulsesTimeLinkAndStampQueue_3_s.flag Obj.PPS_IN_ENABLE = true) ∧
    (w_PulsesTimeLinkAndStampQueue_3_s.obj Obj.PPS_IN_ADJ_PS = 0) ∧
    ((w_PulsesTimeLinkAndStampQueue_3_s.time.ppsInLast.all fun r => decide (r + 900 * tickMs ≤ max w_PulsesTimeLinkAndStampQueue_3_s.now (5 : Nat))) = true) ∧
    ((∀ x : Fin 2, w_PulsesTimeLinkAndStampQueue_3_s.obj Obj.TIME_DOM_SOURCE (sub x) ≠ 6)) := by decide +kernel

theorem test_witness_PulsesTimeLinkAndStampQueue_4 :
    ((w_PulsesTimeLinkAndStampQueue_4_s.flag Obj.PPS_IN_ENABLE = false ∨
    (w_PulsesTimeLinkAndStampQueue_4_s.time.ppsInLast.any fun r => decide (max w_PulsesTimeLinkAndStampQueue_4_s.now (5 : Nat) < r + 900 * tickMs)) = true)) := by decide +kernel

theorem test_witness_PulsesTimeLinkAndStampQueue_5 :
    (w_PulsesTimeLinkAndStampQueue_5_s.time.ppsInLast = some (0 : Nat)) ∧
    (w_PulsesTimeLinkAndStampQueue_5_s.flag Obj.PPS_IN_ENABLE = true) ∧
    (w_PulsesTimeLinkAndStampQueue_5_s.time.ppsInFaulted = false) ∧
    ((w_PulsesTimeLinkAndStampQueue_5_s.running = true ∨ w_PulsesTimeLinkAndStampQueue_5_s.inSleep = true)) ∧
    ((0 : Nat) + 1100 * tickMs ≤ max w_PulsesTimeLinkAndStampQueue_5_s.now (1100 * tickMs : Nat)) := by decide +kernel

theorem test_witness_PulsesTimeLinkAndStampQueue_6 :
    (w_PulsesTimeLinkAndStampQueue_6_s.time.ppsInFaulted = true) := by decide +kernel

theorem test_witness_PulsesTimeLinkAndStampQueue_7 :
    (wholeSecond (up.advance (tickMs : Nat)) = false) := by decide +kernel

theorem test_witness_PulsesTimeLinkAndStampQueue_8 :
    (w_PulsesTimeLinkAndStampQueue_8_s.running = true) ∧
    (w_PulsesTimeLinkAndStampQueue_8_s.bus.manager = true) ∧
    (w_PulsesTimeLinkAndStampQueue_8_s.flag Obj.TLINK_ENABLE = true) ∧
    (wholeSecond (w_PulsesTimeLinkAndStampQueue_8_s.advance (5 : Nat)) = true) := by decide +kernel

theorem test_witness_PulsesTimeLinkAndStampQueue_9 :
    ((up.bus.manager = false ∨ up.flag Obj.TLINK_ENABLE = false)) ∧
    (wholeSecond (up.advance (5 : Nat)) = true) := by decide +kernel

theorem test_witness_PulsesTimeLinkAndStampQueue_10 :
    ((5 : Nat) < 2 ^ 128) := by decide +kernel

theorem test_witness_PulsesTimeLinkAndStampQueue_11 :
    (up.running = true) ∧
    (up.bus.manager = false) ∧
    ((List.replicate 129 5 : List Nat).length = 129) ∧
    (∀ m : Nat, tlinkRead (List.replicate 129 5) = some m → m % 2 ^ 16 ≠ crc16Tlink m) := by
  refine ⟨by decide +kernel, by decide +kernel, rfl, fun m h => ?_⟩
  have h0 : tlinkRead (List.replicate 129 5) = none := by decide +kernel
  rw [h0] at h
  cases h

theorem test_witness_PulsesTimeLinkAndStampQueue_12 :
    (w_PulsesTimeLinkAndStampQueue_12_s.running = true) ∧
    (w_PulsesTimeLinkAndStampQueue_12_s.bus.manager = false) ∧
    ((tlinkCells tlGood : List Nat).length = 129) ∧
    (tlinkRead (tlinkCells tlGood : List Nat) = some (tlGood : Nat)) ∧
    ((tlGood : Nat) % 2 ^ 16 = crc16Tlink (tlGood : Nat)) ∧
    ((∀ x : Fin 2, w_PulsesTimeLinkAndStampQueue_12_s.obj Obj.TIME_DOM_SOURCE (sub x) ≠ 5)) := by decide +kernel

theorem test_witness_PulsesTimeLinkAndStampQueue_13 :
    (w_PulsesTimeLinkAndStampQueue_13_s.bus.manager = true) ∧
    ((List.replicate 129 5 : List Nat).length = 129) := by decide +kernel

theorem test_witness_PulsesTimeLinkAndStampQueue_14 :
    (w_PulsesTimeLinkAndStampQueue_14_s.time.tlLastGood = some (0 : Nat)) ∧
    (w_PulsesTimeLinkAndStampQueue_14_s.bus.manager = false) ∧
    (w_PulsesTimeLinkAndStampQueue_14_s.time.tlFault = false) ∧
    ((w_PulsesTimeLinkAndStampQueue_14_s.running = true ∨ w_PulsesTimeLinkAndStampQueue_14_s.inSleep = true)) ∧
    ((0 : Nat) + 1100 * tickMs ≤ max w_PulsesTimeLinkAndStampQueue_14_s.now (1100 * tickMs : Nat)) := by decide +kernel

theorem test_witness_PulsesTimeLinkAndStampQueue_15 :
    (w_PulsesTimeLinkAndStampQueue_15_s.serverUp = true) ∧
    ((w_PulsesTimeLinkAndStampQueue_15_s.time.tsq.find? fun x => tsHostKind x.kind && x.complete) = some (tse 3 true : TsEntry)) := by decide +kernel

theorem test_witness_PulsesTimeLinkAndStampQueue_16 :
    (w_PulsesTimeLinkAndStampQueue_16_s.serverUp = true) ∧
    ((w_PulsesTimeLinkAndStampQueue_16_s.time.tsq.all fun x => !(tsHostKind x.kind && x.complete)) = true) := by decide +kernel

theorem test_witness_PulsesTimeLinkAndStampQueue_17 :
    (ptpDue ((wtime (fun x => { x with ptpSyncAt := some 5 }) up).advance (9 : Nat)) (wtime (fun x => { x with ptpSyncAt := some 5 }) up).time.ptpSyncAt (tickS / 16) = false) := by decide +kernel

theorem test_witness_PulsesTimeLinkAndStampQueue_18 :
    (w_PulsesTimeLinkAndStampQueue_18_s.running = true) ∧
    (ptpDue (w_PulsesTimeLinkAndStampQueue_18_s.advance (5 : Nat)) w_PulsesTimeLinkAndStampQueue_18_s.time.ptpSyncAt (tickS / 16) = true) := by decide +kernel

theorem test_witness_PulsesTimeLinkAndStampQueue_19 :
    (w_PulsesTimeLinkAndStampQueue_19_s.running = true) ∧
    (ptpDue (w_PulsesTimeLinkAndStampQueue_19_s.advance (5 : Nat)) w_PulsesTimeLinkAndStampQueue_19_s.time.ptpAnnAt (tickS / 8) = true) := by decide +kernel

theorem test_witness_SlotErrorsBlobsAndUnlock_1 :
    ((223 : Fin 256).val < 224) ∧
    (w_SlotErrorsBlobsAndUnlock_1_s.ciph.slots[(223 : Fin 256)].st = .valid) := by decide +kernel

theorem test_witness_SlotErrorsBlobsAndUnlock_2 :
    (224 ≤ (224 : Fin 256).val) ∧
    (w_SlotErrorsBlobsAndUnlock_2_s.ciph.slots[(224 : Fin 256)].st = .valid) := by decide +kernel

theorem test_witness_SlotErrorsBlobsAndUnlock_3 :
    ((223 : Fin 256).val < 224) ∧
    (w_SlotErrorsBlobsAndUnlock_3_s.ciph.slots[(223 : Fin 256)].st ≠ .valid) := by decide +kernel

theorem test_witness_SlotErrorsBlobsAndUnlock_4 :
    (up.serverUp = true) ∧
    ((zeros 40 : Bytes).length = 40) := by decide +kernel

theorem test_witness_SlotErrorsBlobsAndUnlock_5 :
    (up.serverUp = true) ∧
    ((zeros 39 : Bytes).length ≠ 40) := by decide +kernel

theorem test_witness_SlotErrorsBlobsAndUnlock_6 :
    (w_SlotErrorsBlobsAndUnlock_6_s.ciph.blobRun[(2 : Fin 3)] = some (0 : Nat)) ∧
    (max w_SlotErrorsBlobsAndUnlock_6_s.now (2 * tickUs - 1 : Nat) < (0 : Nat) + 2 * tickUs) := by decide +kernel

theorem test_witness_SlotErrorsBlobsAndUnlock_7 :
    (w_SlotErrorsBlobsAndUnlock_7_s.ciph.blobRun[(2 : Fin 3)] = some (0 : Nat)) ∧
    ((0 : Nat) + 2 * tickUs ≤ max w_SlotErrorsBlobsAndUnlock_7_s.now (2 * tickUs : Nat)) ∧
    (beNat w_SlotErrorsBlobsAndUnlock_7_s.flash.blobs[(2 : Fin 3)] = 0) ∧
    (w_SlotErrorsBlobsAndUnlock_7_s.ciph.slots[blobSlot (2 : Fin 3)].st = .free) := by decide +kernel

theorem test_witness_SlotErrorsBlobsAndUnlock_8 :
    (w_SlotErrorsBlobsAndUnlock_8_s.ciph.blobRun[(2 : Fin 3)] = some (0 : Nat)) ∧
    ((0 : Nat) + 2 * tickUs ≤ max w_SlotErrorsBlobsAndUnlock_8_s.now (2 * tickUs : Nat)) ∧
    (beNat w_SlotErrorsBlobsAndUnlock_8_s.flash.blobs[(2 : Fin 3)] ≠ 0) ∧
    (w_SlotErrorsBlobsAndUnlock_8_s.ciph.slots[blobSlot (2 : Fin 3)].st = .valid) := by decide +kernel

theorem test_witness_SlotErrorsBlobsAndUnlock_9 :
    (up.serverUp = true) ∧
    ((zeros 32 : Bytes).length = 32) ∧
    ((∀ c : Fin 4, up.flag Obj.ACT_ENABLE (sub c) = false)) := by decide +kernel

theorem test_witness_SlotErrorsBlobsAndUnlock_10 :
    (w_SlotErrorsBlobsAndUnlock_10_s.serverUp = true) ∧
    ((zeros 32 : Bytes).length = 32) ∧
    (w_SlotErrorsBlobsAndUnlock_10_s.flag Obj.ACT_ENABLE (sub (3 : Fin 4)) = true) := by decide +kernel

theorem test_witness_SlotErrorsBlobsAndUnlock_11 :
    (w_SlotErrorsBlobsAndUnlock_11_s.serverUp = true) ∧
    ((5 : Nat) < 0xFFFF) := by decide +kernel

theorem test_witness_SlotErrorsBlobsAndUnlock_12 :
    (up.serverUp = true) ∧
    (0xFFFF ≤ (65535 : Nat)) := by decide +kernel

theorem test_witness_CipherJobsRunToTheirResults_1 :
    ((zeros 12 : Bytes).length = 12) ∧
    (w_CipherJobsRunToTheirResults_1_s.ciph.slots[slotIdx 242].st = .valid) ∧
    (contextsUsed w_CipherJobsRunToTheirResults_1_s < 64) := by decide +kernel

theorem test_witness_CipherJobsRunToTheirResults_2 :
    ((zeros 12 : Bytes).length = 12) ∧
    ((zeros 16 : Bytes).length = 16) ∧
    ((w_CipherJobsRunToTheirResults_2_s.ciph.slots[slotIdx 244].st = .valid ∨ w_CipherJobsRunToTheirResults_2_s.ciph.slots[slotIdx 244].st = .fixed)) ∧
    (contextsUsed w_CipherJobsRunToTheirResults_2_s < 64) := by decide +kernel

theorem test_witness_CipherJobsRunToTheirResults_3 :
    (((239 : Fin 256).val = 241 ∨ (239 : Fin 256).val = 255 ∨ (224 ≤ (239 : Fin 256).val ∧ (239 : Fin 256).val < 240 ∧ ((239 : Fin 256).val % 4 = 1 ∨ (239 : Fin 256).val % 4 = 3)))) ∧
    (w_CipherJobsRunToTheirResults_3_s.ciph.slots[(239 : Fin 256)].st = .valid) ∧
    (contextsUsed w_CipherJobsRunToTheirResults_3_s < 64) := by decide +kernel

theorem test_witness_CipherJobsRunToTheirResults_4 :
    (((zeros 8 : Bytes).length = 8 ∨ (zeros 8 : Bytes).length = 16)) ∧
    (((241 : Fin 256).val = 241 ∨ (241 : Fin 256).val = 255 ∨ (224 ≤ (241 : Fin 256).val ∧ (241 : Fin 256).val < 240 ∧ ((241 : Fin 256).val % 4 = 1 ∨ (241 : Fin 256).val % 4 = 3)))) ∧
    (key241.ciph.slots[(241 : Fin 256)].st = .valid) ∧
    (contextsUsed key241 < 64) := by decide +kernel

theorem test_witness_CipherJobsRunToTheirResults_5 :
    ((zeros 12 : Bytes).length = 12) ∧
    ((241 : Fin 256).val ≠ 242) := by decide +kernel

theorem test_witness_CipherJobsRunToTheirResults_6 :
    (w_CipherJobsRunToTheirResults_7_s.ciph.lane = some (({ job0 with blocksLeft := 65 } : Job).id, (0 : Nat))) ∧
    ((w_CipherJobsRunToTheirResults_7_s.ciph.jobs.find? fun x => x.id == ({ job0 with blocksLeft := 65 } : Job).id && !x.exported) = some ({ job0 with blocksLeft := 65 } : Job)) ∧
    (max w_CipherJobsRunToTheirResults_7_s.now (5 : Nat) < (0 : Nat) + (8 + min ({ job0 with blocksLeft := 65 } : Job).blocksLeft 64) * tickCore) := by decide +kernel

theorem test_witness_CipherJobsRunToTheirResults_7 :
    (w_CipherJobsRunToTheirResults_7_s.ciph.lane = some (({ job0 with blocksLeft := 65 } : Job).id, (0 : Nat))) ∧
    ((w_CipherJobsRunToTheirResults_7_s.ciph.jobs.find? fun x => x.id == ({ job0 with blocksLeft := 65 } : Job).id && !x.exported) = some ({ job0 with blocksLeft := 65 } : Job)) ∧
    (64 < ({ job0 with blocksLeft := 65 } : Job).blocksLeft) ∧
    ((0 : Nat) + 72 * tickCore ≤ max w_CipherJobsRunToTheirResults_7_s.now (tickUs : Nat)) := by decide +kernel

theorem test_witness_CipherJobsRunToTheirResults_8 :
    (w_CipherJobsRunToTheirResults_8_s.ciph.lane = some (job0.id, (0 : Nat))) ∧
    ((w_CipherJobsRunToTheirResults_8_s.ciph.jobs.find? fun x => x.id == job0.id && !x.exported) = some job0) ∧
    (job0.blocksLeft ≤ 64) ∧
    ((0 : Nat) + (8 + job0.blocksLeft) * tickCore ≤ max w_CipherJobsRunToTheirResults_8_s.now (tickUs : Nat)) := by decide +kernel

theorem test_witness_CipherJobsRunToTheirResults_9 :
    ((w_CipherJobsRunToTheirResults_9_s.ciph.jobs.find? fun x => x.id == (7 : Nat) && !x.exported) = some job0) := by decide +kernel

theorem test_witness_CipherJobsRunToTheirResults_10 :
    ((zeros 104 : Bytes).length = 104) ∧
    (contextsUsed w_CipherJobsRunToTheirResults_10_s < 64) := by decide +kernel

theorem test_witness_RestartsKeepWhatTheSpecKeeps_1 :
    (w_RestartsKeepWhatTheSpecKeeps_1_s.il.st = 1) ∧
    (w_RestartsKeepWhatTheSpecKeeps_1_s.il.relAt + tickMs ≤ max w_RestartsKeepWhatTheSpecKeeps_1_s.now tickMs) := by decide +kernel

theorem test_witness_RestartsKeepWhatTheSpecKeeps_2 :
    (State.reset.pwr.initWdAt = some (0 : Nat)) ∧
    (booting State.reset = true) ∧
    ((0 : Nat) + 4 * tickS ≤ max State.reset.now (4 * tickS : Nat)) := by decide +kernel

theorem test_witness_RestartsKeepWhatTheSpecKeeps_3 :
    (w_RestartsKeepWhatTheSpecKeeps_3_s.pwr.loaderAt = some (0 : Nat)) ∧
    ((0 : Nat) + 600 * tickS ≤ max w_RestartsKeepWhatTheSpecKeeps_3_s.now (600 * tickS : Nat)) := by decide +kernel

theorem test_witness_RestartsKeepWhatTheSpecKeeps_4 :
    (w_RestartsKeepWhatTheSpecKeeps_4_s.pwr.phase = .exit (1 : Nat)) ∧
    (w_RestartsKeepWhatTheSpecKeeps_4_s.pwr.state = .run) ∧
    (w_RestartsKeepWhatTheSpecKeeps_4_s.pwr.phaseAt + readyLimit .run (1 : Nat) ≤ max w_RestartsKeepWhatTheSpecKeeps_4_s.now (8 * tickMs : Nat)) ∧
    ((w_RestartsKeepWhatTheSpecKeeps_4_s.island.pwrEn = Vector.replicate 4 true ∨ (ramping w_RestartsKeepWhatTheSpecKeeps_4_s).isSome = true)) := by decide +kernel

theorem test_witness_RestartsKeepWhatTheSpecKeeps_5 :
    (w_RestartsKeepWhatTheSpecKeeps_5_s.pwr.phase = .exit (4 : Nat)) ∧
    (w_RestartsKeepWhatTheSpecKeeps_5_s.pwr.state ≠ .run) ∧
    (w_RestartsKeepWhatTheSpecKeeps_5_s.pwr.phaseAt + readyLimit w_RestartsKeepWhatTheSpecKeeps_5_s.pwr.state (4 : Nat) ≤ max w_RestartsKeepWhatTheSpecKeeps_5_s.now (1700 * tickUs : Nat)) ∧
    ((w_RestartsKeepWhatTheSpecKeeps_5_s.island.pwrEn = Vector.replicate 4 true ∨ (ramping w_RestartsKeepWhatTheSpecKeeps_5_s).isSome = true)) := by decide +kernel

theorem test_witness_RestartsKeepWhatTheSpecKeeps_6 :
    (inRun up = true) := by decide +kernel

theorem test_witness_RestartsKeepWhatTheSpecKeeps_7 :
    (inRun up = true) := by decide +kernel

theorem test_witness_RestartsKeepWhatTheSpecKeeps_8 :
    ((inRun up = true ∨ up.pwr.phase = .safeMode)) ∧
    (pwrEnPin (up.advance (5 : Nat)) (3 : Fin 4) = true) ∧
    (up.pwr.pwrGood[(3 : Fin 4)] = true) := by decide +kernel

theorem test_witness_RestartsKeepWhatTheSpecKeeps_9 :
    (booting State.reset = true) ∧
    (State.reset.island.pwrEn[(3 : Fin 4)] = true) ∧
    (State.reset.pwr.pwrGood[(3 : Fin 4)] = true) := by decide +kernel

theorem test_witness_RestartsKeepWhatTheSpecKeeps_10 :
    ((pwrEnPin (w_RestartsKeepWhatTheSpecKeeps_10_s.advance (5 : Nat)) (3 : Fin 4) = false ∨ w_RestartsKeepWhatTheSpecKeeps_10_s.pwr.pwrGood[(3 : Fin 4)] = false)) := by decide +kernel

theorem test_witness_RestartsKeepWhatTheSpecKeeps_11 :
    (watchdogDue (w_RestartsKeepWhatTheSpecKeeps_11_s.advance (2 * tickS : Nat)) = true) := by decide +kernel

theorem test_witness_RestartsKeepWhatTheSpecKeeps_12 :
    (inRun State.reset = false) := by decide +kernel

theorem test_witness_RestartsKeepWhatTheSpecKeeps_13 :
    (w_RestartsKeepWhatTheSpecKeeps_13_s.serverUp = true) := by decide +kernel

theorem test_witness_RestartsKeepWhatTheSpecKeeps_14 :
    (w_RestartsKeepWhatTheSpecKeeps_14_s.serverUp = true) := by decide +kernel

theorem test_witness_RestartsKeepWhatTheSpecKeeps_15 :
    (up.serverUp = true) ∧
    ((2 : Nat) ≠ 1) := by decide +kernel

theorem test_witness_RestartsKeepWhatTheSpecKeeps_16 :
    (up.pwr.phase = .up) ∧
    (max up.now (5 : Nat) < up.pwr.phaseAt + up.obj Obj.PWR_WDT_MS * tickMs) := by decide +kernel

theorem test_witness_PowerEntriesAndExits_1 :
    (up.serverUp = true) ∧
    (up.pwr.phase = .up) ∧
    (up.pwr.state ≠ .idle) ∧
    (up.island.wakeBits = 0) ∧
    (((.sleep : PwrState) = .sleep ∨ (.sleep : PwrState) = .deepSleep ∨ (.sleep : PwrState) = .off)) := by decide +kernel

theorem test_witness_PowerEntriesAndExits_2 :
    (up.serverUp = true) ∧
    (((5 : Nat) = 1 ∨ 5 ≤ (5 : Nat))) := by decide +kernel

theorem test_witness_PowerEntriesAndExits_3 :
    (w_PowerEntriesAndExits_3_s.serverUp = true) ∧
    (w_PowerEntriesAndExits_3_s.pwr.phase = .entry (3 : Nat)) ∧
    ((.off : PwrState) ≠ .idle) := by decide +kernel

theorem test_witness_PowerEntriesAndExits_4 :
    (w_PowerEntriesAndExits_4_s.pwr.phase = .entry 1) := by decide +kernel

theorem test_witness_PowerEntriesAndExits_5 :
    (w_PowerEntriesAndExits_5_s.pwr.phase = .entry 2) ∧
    ((w_PowerEntriesAndExits_5_s.frames.any holdsCtx) = true) := by decide +kernel

theorem test_witness_PowerEntriesAndExits_6 :
    (w_PowerEntriesAndExits_6_s.pwr.phase = .entry 2) ∧
    ((w_PowerEntriesAndExits_6_s.frames.any holdsCtx) = false) := by decide +kernel

theorem test_witness_PowerEntriesAndExits_7 :
    (w_PowerEntriesAndExits_7_s.pwr.phase = .entry 2) ∧
    (max w_PowerEntriesAndExits_7_s.now (200 * tickUs - 1 : Nat) < w_PowerEntriesAndExits_7_s.pwr.phaseAt + 200 * tickUs) := by decide +kernel

theorem test_witness_PowerEntriesAndExits_8 :
    (w_PowerEntriesAndExits_8_s.pwr.phase = .entry 2) ∧
    (w_PowerEntriesAndExits_8_s.pwr.phaseAt + 200 * tickUs ≤ max w_PowerEntriesAndExits_8_s.now (200 * tickUs : Nat)) ∧
    ((w_PowerEntriesAndExits_8_s.frames.all fun f => !holdsCtx f) = true) := by decide +kernel

theorem test_witness_PowerEntriesAndExits_9 :
    (w_PowerEntriesAndExits_9_s.pwr.phase = .entry 4) := by decide +kernel

theorem test_witness_PowerEntriesAndExits_10 :
    (w_PowerEntriesAndExits_10_s.pwr.phase = .entry 5) ∧
    (w_PowerEntriesAndExits_10_s.pwr.target = .sleep) ∧
    (w_PowerEntriesAndExits_10_s.island.wakeLatch = 0) ∧
    (w_PowerEntriesAndExits_10_s.pwr.pending = none) := by decide +kernel

theorem test_witness_PowerEntriesAndExits_11 :
    (w_PowerEntriesAndExits_12_s.pwr.phase = .entry 5) ∧
    (w_PowerEntriesAndExits_12_s.pwr.target = .deepSleep) ∧
    (max w_PowerEntriesAndExits_12_s.now (5 : Nat) < w_PowerEntriesAndExits_12_s.pwr.phaseAt + 200 * tickUs) := by decide +kernel

theorem test_witness_PowerEntriesAndExits_12 :
    (w_PowerEntriesAndExits_12_s.pwr.phase = .entry 5) ∧
    (w_PowerEntriesAndExits_12_s.pwr.target = .deepSleep) ∧
    (w_PowerEntriesAndExits_12_s.island.wakeLatch = 0) ∧
    (w_PowerEntriesAndExits_12_s.pwr.pending = none) ∧
    (w_PowerEntriesAndExits_12_s.pwr.phaseAt + 200 * tickUs ≤ max w_PowerEntriesAndExits_12_s.now (tickMs : Nat)) := by decide +kernel

theorem test_witness_PowerEntriesAndExits_13 :
    (w_PowerEntriesAndExits_13_s.pwr.phase = .entry 5) ∧
    (w_PowerEntriesAndExits_13_s.pwr.target = .sleep) ∧
    (w_PowerEntriesAndExits_13_s.island.wakeLatch ≠ 0) := by decide +kernel

theorem test_witness_PowerEntriesAndExits_14 :
    (w_PowerEntriesAndExits_14_s.pwr.phase = .exit 1) ∧
    (w_PowerEntriesAndExits_14_s.pwr.phaseAt ≤ max w_PowerEntriesAndExits_14_s.now (5 : Nat)) ∧
    (ramping w_PowerEntriesAndExits_14_s = some (3 : Fin 4)) ∧
    (w_PowerEntriesAndExits_14_s.island.pwrEn = Vector.replicate 4 true) := by decide +kernel

theorem test_witness_PowerEntriesAndExits_15 :
    (w_PowerEntriesAndExits_15_s.pwr.phase = .exit 1) ∧
    (w_PowerEntriesAndExits_15_s.pwr.phaseAt ≤ max w_PowerEntriesAndExits_15_s.now (5 : Nat)) ∧
    ((2 : Fin 4).val = (1 : Fin 4).val + 1) ∧
    ((∀ k : Fin 4, w_PowerEntriesAndExits_15_s.island.pwrEn[k] = decide (k.val < (2 : Fin 4).val))) ∧
    ((∀ k : Fin 4, w_PowerEntriesAndExits_15_s.pwr.pwrGood[k] = decide (k.val < (1 : Fin 4).val))) := by decide +kernel

theorem test_witness_PowerEntriesAndExits_16 :
    (w_PowerEntriesAndExits_16_s.pwr.phase = .exit 2) ∧
    (w_PowerEntriesAndExits_16_s.pwr.phaseAt ≤ max w_PowerEntriesAndExits_16_s.now (5 : Nat)) ∧
    ((w_PowerEntriesAndExits_16_s.pwr.state = .sleep ∨ w_PowerEntriesAndExits_16_s.pwr.state = .deepSleep)) := by decide +kernel

theorem test_witness_PowerEntriesAndExits_17 :
    (w_PowerEntriesAndExits_17_s.pwr.phase = .exit 2) ∧
    (w_PowerEntriesAndExits_17_s.pwr.phaseAt ≤ max w_PowerEntriesAndExits_17_s.now (5 : Nat)) ∧
    (w_PowerEntriesAndExits_17_s.pwr.state = .off) := by decide +kernel

theorem test_witness_PowerEntriesAndExits_18 :
    (w_PowerEntriesAndExits_18_s.pwr.phase = .exit 3) ∧
    (w_PowerEntriesAndExits_18_s.pwr.phaseAt ≤ max w_PowerEntriesAndExits_18_s.now (5 : Nat)) ∧
    (w_PowerEntriesAndExits_18_s.pwr.state = .sleep) := by decide +kernel

theorem test_witness_PowerEntriesAndExits_19 :
    (w_PowerEntriesAndExits_19_s.pwr.phase = .exit 4) ∧
    (w_PowerEntriesAndExits_19_s.pwr.phaseAt ≤ max w_PowerEntriesAndExits_19_s.now (5 : Nat)) ∧
    (w_PowerEntriesAndExits_19_s.pwr.state = .sleep) ∧
    (w_PowerEntriesAndExits_19_s.pwr.pending = none) := by decide +kernel

theorem test_witness_PowerEntriesAndExits_20 :
    (w_PowerEntriesAndExits_20_s.pwr.phase = .exit 4) ∧
    (w_PowerEntriesAndExits_20_s.pwr.state = .deepSleep) ∧
    (w_PowerEntriesAndExits_20_s.il.st < 2) := by decide +kernel

theorem test_witness_PowerEntriesAndExits_21 :
    (w_PowerEntriesAndExits_21_s.pwr.phase = .stagger) := by decide +kernel

theorem test_witness_PowerEntriesAndExits_22 :
    ((fins 4).find? (fun c => w_PowerEntriesAndExits_22_s.pwr.allow[c].isSome && w_PowerEntriesAndExits_22_s.act[c].st == .operating) = some (2 : Fin 4)) ∧
    (w_PowerEntriesAndExits_22_s.pwr.quietSince + w_PowerEntriesAndExits_22_s.obj Obj.PWR_HE_QUIET_MS * tickMs ≤ max w_PowerEntriesAndExits_22_s.now (1000 * tickS : Nat)) ∧
    (quietNow w_PowerEntriesAndExits_22_s = true) ∧
    (w_PowerEntriesAndExits_22_s.pwr.heWait = none) ∧
    ((w_PowerEntriesAndExits_22_s.frames.any ctxWaits) = false) ∧
    (w_PowerEntriesAndExits_22_s.act[(2 : Fin 4)].upq = []) := by decide +kernel

theorem test_witness_PowerEntriesAndExits_23 :
    (up.pwr.state = .run) ∧
    (quietNow up = true) ∧
    (up.pwr.idleSince + up.obj Obj.PWR_IDLE_ENTRY_US * tickUs ≤ max up.now (1000 * tickS : Nat)) ∧
    ((up.frames.any fun f => holdsCtx f || ctxWaits f) = false) ∧
    (up.ciph.jobs = []) ∧
    (jobLaneIdle (up.advance (1000 * tickS : Nat)) = true) := by decide +kernel

theorem test_witness_WakeSourcesActInTheirStates_1 :
    (w_WakeSourcesActInTheirStates_1_s.pwr.phase = .asleep) ∧
    (w_WakeSourcesActInTheirStates_1_s.pwr.state = .sleep) := by decide +kernel

theorem test_witness_WakeSourcesActInTheirStates_2 :
    (w_WakeSourcesActInTheirStates_2_s.pwr.phase = .asleep) ∧
    ((w_WakeSourcesActInTheirStates_2_s.pwr.state = .deepSleep ∨ w_WakeSourcesActInTheirStates_2_s.pwr.state = .off)) ∧
    (w_WakeSourcesActInTheirStates_2_s.island.wasManager = true) := by decide +kernel

theorem test_witness_WakeSourcesActInTheirStates_3 :
    (w_WakeSourcesActInTheirStates_3_s.pwr.phase = .asleep) ∧
    ((w_WakeSourcesActInTheirStates_3_s.pwr.state = .deepSleep ∨ w_WakeSourcesActInTheirStates_3_s.pwr.state = .off)) ∧
    (w_WakeSourcesActInTheirStates_3_s.island.wasManager = false) := by decide +kernel

theorem test_witness_WakeSourcesActInTheirStates_4 :
    (w_WakeSourcesActInTheirStates_4_s.pwr.phase = .entry (1 : Nat)) ∧
    ((w_WakeSourcesActInTheirStates_4_s.pwr.target = .sleep ∨ w_WakeSourcesActInTheirStates_4_s.pwr.target = .deepSleep ∨ w_WakeSourcesActInTheirStates_4_s.pwr.target = .off)) := by decide +kernel

theorem test_witness_WakeSourcesActInTheirStates_5 :
    (up.pwr.phase = .up) := by decide +kernel

theorem test_witness_WakeSourcesActInTheirStates_6 :
    (w_WakeSourcesActInTheirStates_6_s.pwr.phase = .asleep) ∧
    (w_WakeSourcesActInTheirStates_6_s.pwr.state = .sleep) ∧
    (bitAt (w_WakeSourcesActInTheirStates_6_s.obj Obj.PWR_WAKE_ENABLE) 1 = true) := by decide +kernel

theorem test_witness_WakeSourcesActInTheirStates_7 :
    (w_WakeSourcesActInTheirStates_7_s.pwr.phase = .asleep) ∧
    ((w_WakeSourcesActInTheirStates_7_s.pwr.state = .off ∨ bitAt (w_WakeSourcesActInTheirStates_7_s.obj Obj.PWR_WAKE_ENABLE) 1 = false)) := by decide +kernel

theorem test_witness_WakeSourcesActInTheirStates_8 :
    (w_WakeSourcesActInTheirStates_8_s.pwr.phase = .asleep) ∧
    (w_WakeSourcesActInTheirStates_8_s.pwr.state = .sleep) ∧
    (w_WakeSourcesActInTheirStates_8_s.pwr.heSleep = none) ∧
    (w_WakeSourcesActInTheirStates_8_s.obj Obj.PWR_WAKE_TIMER_MS ≠ 0) ∧
    (bitAt (w_WakeSourcesActInTheirStates_8_s.obj Obj.PWR_WAKE_ENABLE) 2 = true) ∧
    (islandMs (w_WakeSourcesActInTheirStates_8_s.advance (7699009900991 : Nat)) w_WakeSourcesActInTheirStates_8_s.pwr.entryAt (w_WakeSourcesActInTheirStates_8_s.obj Obj.PWR_WAKE_TIMER_MS) = true) := by decide +kernel

theorem test_witness_WakeSourcesActInTheirStates_9 :
    (w_WakeSourcesActInTheirStates_9_s.pwr.heSleep = none) ∧
    ((w_WakeSourcesActInTheirStates_9_s.obj Obj.PWR_WAKE_TIMER_MS = 0 ∨ islandMs (w_WakeSourcesActInTheirStates_9_s.advance (7699009900990 : Nat)) w_WakeSourcesActInTheirStates_9_s.pwr.entryAt (w_WakeSourcesActInTheirStates_9_s.obj Obj.PWR_WAKE_TIMER_MS) = false)) := by decide +kernel

theorem test_witness_WakeSourcesActInTheirStates_10 :
    (w_WakeSourcesActInTheirStates_10_s.pwr.phase = .asleep) ∧
    (w_WakeSourcesActInTheirStates_10_s.pwr.state = .sleep) ∧
    (w_WakeSourcesActInTheirStates_10_s.lanes[(7 : Fin 8)].signal = false) ∧
    (bitAt (w_WakeSourcesActInTheirStates_10_s.obj Obj.PWR_LANE_WAKE_MASK) (7 : Fin 8).val = true) ∧
    (bitAt (w_WakeSourcesActInTheirStates_10_s.obj Obj.PWR_WAKE_ENABLE) 3 = true) := by decide +kernel

theorem test_witness_WakeSourcesActInTheirStates_11 :
    (w_WakeSourcesActInTheirStates_11_s.pwr.phase = .asleep) ∧
    (w_WakeSourcesActInTheirStates_11_s.pwr.state = .sleep) ∧
    (w_WakeSourcesActInTheirStates_11_s.lanes[(7 : Fin 8)].signal = false) ∧
    (bitAt (w_WakeSourcesActInTheirStates_11_s.obj Obj.PWR_LANE_WAKE_MASK) (7 : Fin 8).val = false) := by decide +kernel

theorem test_witness_GovernorKeepsItsBounds_1 :
    (up.running = true) ∧
    (up.pwr.freshAt + tickS ≤ max up.now tickS) := by decide +kernel

theorem test_witness_GovernorKeepsItsBounds_2 :
    (max up.now (tickS - 1 : Nat) < up.pwr.freshAt + tickS) := by decide +kernel

theorem test_witness_GovernorKeepsItsBounds_3 :
    ((List.replicate 8 7680000 : List Nat).length = 8) ∧
    (((List.replicate 8 7680000 : List Nat).all fun b => decide (b ≤ 7680000)) = true) ∧
    (up.pwr.govActing = false) := by decide +kernel

theorem test_witness_GovernorKeepsItsBounds_4 :
    (([0, 0, 0, 0, 0, 7680000, 0, 0] : List Nat).length = 8) ∧
    ((([0, 0, 0, 0, 0, 7680000, 0, 0] : List Nat).all fun b => decide (b ≤ 7680000)) = true) ∧
    (gov43.running = true) ∧
    (gov43.pwr.govActing = true) ∧
    (gov43.frames = []) ∧
    (([0, 0, 0, 0, 0, 7680000, 0, 0] : List Nat).getD (5 : Fin 8).val 0 = (7680000 : Nat)) ∧
    (clustersIn gov43 (5 : Fin 8) .gated = (43 : Fin 64) :: ([] : List (Fin 64))) ∧
    (busyOver (7680000 : Nat) (clustersIn gov43 (5 : Fin 8) .active).length (gov43.obj Obj.GOV_UP_PCT) = true) ∧
    (activeCount gov43 (5 : Fin 8) < govMaxOf gov43 (5 : Fin 8)) ∧
    (govMinOf gov43 (5 : Fin 8) ≠ govMaxOf gov43 (5 : Fin 8)) ∧
    ((∀ h : Fin 8, h ≠ (5 : Fin 8) → govMinOf gov43 h = govMaxOf gov43 h ∧ activeCount gov43 h = govMaxOf gov43 h ∧ ([0, 0, 0, 0, 0, 7680000, 0, 0] : List Nat).getD h.val 0 = 0 ∧ gov43.pwr.regions[h].limited = false)) := by decide +kernel

theorem test_witness_GovernorKeepsItsBounds_5 :
    (([0, 0, 0, 0, 0, 7680000, 0, 0] : List Nat).length = 8) ∧
    ((([0, 0, 0, 0, 0, 7680000, 0, 0] : List Nat).all fun b => decide (b ≤ 7680000)) = true) ∧
    (gov5.running = true) ∧
    (gov5.pwr.govActing = true) ∧
    (gov5.frames = []) ∧
    (([0, 0, 0, 0, 0, 7680000, 0, 0] : List Nat).getD (5 : Fin 8).val 0 = (7680000 : Nat)) ∧
    (busyOver (7680000 : Nat) (clustersIn gov5 (5 : Fin 8) .active).length (gov5.obj Obj.GOV_UP_PCT) = true) ∧
    (activeCount gov5 (5 : Fin 8) = govMaxOf gov5 (5 : Fin 8)) ∧
    (govMinOf gov5 (5 : Fin 8) ≠ govMaxOf gov5 (5 : Fin 8)) ∧
    (gov5.pwr.regions[(5 : Fin 8)].limited = false) ∧
    ((∀ h : Fin 8, h ≠ (5 : Fin 8) → govMinOf gov5 h = govMaxOf gov5 h ∧ activeCount gov5 h = govMaxOf gov5 h ∧ ([0, 0, 0, 0, 0, 7680000, 0, 0] : List Nat).getD h.val 0 = 0 ∧ gov5.pwr.regions[h].limited = false)) := by decide +kernel

theorem test_witness_GovernorKeepsItsBounds_6 :
    ((List.replicate 8 0 : List Nat).length = 8) ∧
    (((List.replicate 8 0 : List Nat).all fun b => b == 0) = true) ∧
    (w_GovernorKeepsItsBounds_6_s.running = true) ∧
    (w_GovernorKeepsItsBounds_6_s.pwr.govActing = true) ∧
    (w_GovernorKeepsItsBounds_6_s.frames = []) ∧
    (govMinOf w_GovernorKeepsItsBounds_6_s (5 : Fin 8) < activeCount w_GovernorKeepsItsBounds_6_s (5 : Fin 8)) ∧
    (govMinOf w_GovernorKeepsItsBounds_6_s (5 : Fin 8) < govMaxOf w_GovernorKeepsItsBounds_6_s (5 : Fin 8)) ∧
    (2 ≤ activeCount w_GovernorKeepsItsBounds_6_s (5 : Fin 8)) ∧
    (clustersIn w_GovernorKeepsItsBounds_6_s (5 : Fin 8) .active ≠ []) ∧
    (0 < w_GovernorKeepsItsBounds_6_s.obj Obj.GOV_DOWN_PCT) ∧
    (w_GovernorKeepsItsBounds_6_s.pwr.regions[(5 : Fin 8)].lowRun = 9) ∧
    (w_GovernorKeepsItsBounds_6_s.pwr.regions[(5 : Fin 8)].limited = false) ∧
    ((∀ h : Fin 8, h ≠ (5 : Fin 8) → govMinOf w_GovernorKeepsItsBounds_6_s h = govMaxOf w_GovernorKeepsItsBounds_6_s h ∧ activeCount w_GovernorKeepsItsBounds_6_s h = govMaxOf w_GovernorKeepsItsBounds_6_s h ∧ w_GovernorKeepsItsBounds_6_s.pwr.regions[h].limited = false)) := by decide +kernel

theorem test_witness_GovernorKeepsItsBounds_7 :
    (w_GovernorKeepsItsBounds_7_s.pwr.clusters[(63 : Fin 64)] = .loading) := by decide +kernel

theorem test_witness_GovernorKeepsItsBounds_8 :
    (w_GovernorKeepsItsBounds_8_s.pwr.clusters[(63 : Fin 64)] = .stopping) ∧
    (clusterUse w_GovernorKeepsItsBounds_8_s (63 : Fin 64).val = 0) := by decide +kernel

theorem test_witness_GovernorKeepsItsBounds_9 :
    ((up.pwr.clusters[(63 : Fin 64)] ≠ .stopping ∨ clusterUse up (63 : Fin 64).val ≠ 0)) := by decide +kernel

theorem test_witness_GovernorKeepsItsBounds_10 :
    (gov5.pwr.govActing = true) ∧
    (gov5.running = true) ∧
    (gov5.pwr.msAt + tickMs ≤ max gov5.now tickMs) ∧
    ((∀ g : Fin 8, gov5.pwr.regions[g].limited = false)) := by decide +kernel

theorem test_witness_GovernorKeepsItsBounds_11 :
    (gmv.pwr.govActing = true) ∧
    (gmv.running = true) ∧
    (gmv.pwr.msAt + tickMs ≤ max gmv.now tickMs) ∧
    (moveSource gmv = some (5 : Fin 8)) ∧
    (moveTarget gmv (5 : Fin 8) = some (2 : Fin 8)) ∧
    (busiestGroup gmv (5 : Fin 8) = some (5 : Nat)) := by decide +kernel

theorem test_witness_GovernorKeepsItsBounds_12 :
    (gov5.serverUp = true) ∧
    (((9 : Nat) = 0 ∨ govMaxOf gov5 (7 : Fin 8) < (9 : Nat))) := by decide +kernel

theorem test_witness_GovernorKeepsItsBounds_13 :
    (gov5.serverUp = true) ∧
    ((8 < (7 : Nat) ∨ (7 : Nat) < govMinOf gov5 (7 : Fin 8))) := by decide +kernel

theorem test_witness_GovernorKeepsItsBounds_14 :
    (gov5.serverUp = true) ∧
    (1 ≤ (8 : Nat)) ∧
    ((8 : Nat) ≤ activeCount gov5 (5 : Fin 8)) ∧
    (activeCount gov5 (5 : Fin 8) ≤ govMaxOf gov5 (5 : Fin 8)) ∧
    ((gov5.pwr.govActing = true ∨ activeCount gov5 (5 : Fin 8) = govMaxOf gov5 (5 : Fin 8))) := by decide +kernel

theorem test_witness_GovernorKeepsItsBounds_15 :
    (gov43.serverUp = true) ∧
    ((7 : Nat) ≤ 8) ∧
    (govMinOf gov43 (5 : Fin 8) ≤ activeCount gov43 (5 : Fin 8)) ∧
    (activeCount gov43 (5 : Fin 8) ≤ (7 : Nat)) ∧
    ((gov43.pwr.govActing = true ∨ activeCount gov43 (5 : Fin 8) = (7 : Nat))) := by decide +kernel

theorem test_witness_StartsFromPowerToRun_3 :
    ((w_StartsFromPowerToRun_3_s.pwr.phase = .vaonWait ∨ (9 : Nat) < resetFilterNs)) := by decide +kernel

theorem test_witness_StartsFromPowerToRun_4 :
    (resetFilterNs ≤ (resetFilterNs : Nat)) ∧
    (up.pwr.phase ≠ .vaonWait) ∧
    (up.island.oscEn = true) ∧
    (up.island.pwrEn = Vector.replicate 4 true) := ⟨Nat.le_refl _, by decide +kernel⟩

theorem test_witness_StartsFromPowerToRun_5 :
    (w_StartsFromPowerToRun_5_s.pwr.phase = .boot 1) ∧
    (w_StartsFromPowerToRun_5_s.island.attempts < 3) ∧
    (w_StartsFromPowerToRun_5_s.island.failedStart = none) := by decide +kernel

theorem test_witness_StartsFromPowerToRun_6 :
    (w_StartsFromPowerToRun_6_s.pwr.phase = .boot 1) ∧
    (3 ≤ w_StartsFromPowerToRun_6_s.island.attempts) ∧
    (w_StartsFromPowerToRun_6_s.island.servedSafe = false) ∧
    (w_StartsFromPowerToRun_6_s.island.failedStart = none) := by decide +kernel

theorem test_witness_StartsFromPowerToRun_7 :
    (w_StartsFromPowerToRun_7_s.pwr.phase = .boot 2) ∧
    (w_StartsFromPowerToRun_7_s.bus.bootSel ≠ 3) ∧
    (junction w_StartsFromPowerToRun_7_s ≤ (8 * w_StartsFromPowerToRun_7_s.obj Obj.MON_TEMP_ALARM_C : Nat)) := by decide +kernel

theorem test_witness_StartsFromPowerToRun_8 :
    (w_StartsFromPowerToRun_8_s.pwr.phase = .boot 2) ∧
    (w_StartsFromPowerToRun_8_s.bus.bootSel ≠ 3) ∧
    (junction w_StartsFromPowerToRun_8_s > (8 * w_StartsFromPowerToRun_8_s.obj Obj.MON_TEMP_ALARM_C : Nat)) := by decide +kernel

theorem test_witness_StartsFromPowerToRun_9 :
    (w_StartsFromPowerToRun_9_s.pwr.phase = .boot 3) ∧
    (w_StartsFromPowerToRun_9_s.il.st < 2) := by decide +kernel

theorem test_witness_StartsFromPowerToRun_10 :
    (w_StartsFromPowerToRun_10_s.pwr.phase = .boot 3) := by decide +kernel

theorem test_witness_StartsFromPowerToRun_11 :
    (w_StartsFromPowerToRun_11_s.pwr.phase = .boot 4) ∧
    (w_StartsFromPowerToRun_11_s.bus.bootSel ≠ 2) ∧
    ((0 : Nat) < 2 ^ 32) ∧
    ((0 : Nat) < 2 ^ 32) ∧
    ((0 : Nat) = headerSeq (imageBytes w_StartsFromPowerToRun_11_s 0)) ∧
    ((0 : Nat) = headerSeq (imageBytes w_StartsFromPowerToRun_11_s 1)) := by decide +kernel

theorem test_witness_StartsFromPowerToRun_12 :
    (w_StartsFromPowerToRun_12_s.pwr.phase = .boot 5) ∧
    ((1 : Nat) ≤ 2) ∧
    ((7 : Nat) < 2 ^ 32) ∧
    ((1 : Nat) < 2 ^ 32) ∧
    ((65535 : Nat) < 2 ^ 16) := by decide +kernel

theorem test_witness_StartsFromPowerToRun_13 :
    (w_StartsFromPowerToRun_13_s.pwr.phase = .boot 5) := by decide +kernel

theorem test_witness_StartsFromPowerToRun_14 :
    (w_StartsFromPowerToRun_14_s.pwr.phase = .boot 6) := by decide +kernel

theorem test_witness_StartsFromPowerToRun_15 :
    (w_StartsFromPowerToRun_15_s.pwr.phase = .boot 6) := by decide +kernel

theorem test_witness_StartsFromPowerToRun_16 :
    (w_StartsFromPowerToRun_16_s.pwr.phase = .boot 7) ∧
    (w_StartsFromPowerToRun_16_s.island.defaultsOnce = true) := by decide +kernel

theorem test_witness_StartsFromPowerToRun_17 :
    (w_StartsFromPowerToRun_17_s.pwr.phase = .boot 8) ∧
    (w_StartsFromPowerToRun_17_s.pwr.state = .run) := by decide +kernel

theorem test_witness_StartsFromPowerToRun_18 :
    (up.pwr.phase ≠ .boot 8) := by decide +kernel

theorem test_witness_StartsFromPowerToRun_19 :
    (w_StartsFromPowerToRun_11_s.pwr.phase = .boot 4) ∧
    ((7 : Nat) < 2 ^ 32) ∧
    ((0 : Nat) < 2 ^ 32) ∧
    (((7 : Nat) ≠ headerSeq (imageBytes w_StartsFromPowerToRun_11_s 0) ∨ (0 : Nat) ≠ headerSeq (imageBytes w_StartsFromPowerToRun_11_s 1))) := by decide +kernel

theorem test_witness_MonitorsSampleAndLifeRecord_1 :
    ((temps 5 : List Int).length = 13) ∧
    (((temps 5 : List Int).all fun r => decide (-32768 ≤ r) && decide (r < 32768)) = true) ∧
    (tempSensing w_MonitorsSampleAndLifeRecord_1_s = false) := by decide +kernel

theorem test_witness_MonitorsSampleAndLifeRecord_2 :
    ((temps 680 : List Int).length = 13) ∧
    (((temps 680 : List Int).all fun r => decide (-32768 ≤ r) && decide (r < 32768)) = true) ∧
    (up.pwr.phase = .up) ∧
    (up.mon.alarm = false) ∧
    (((temps 680 : List Int).all fun r => decide (r ≤ 680)) = true) ∧
    (85 ≤ up.obj Obj.MON_TEMP_ALARM_C) := by decide +kernel

theorem test_witness_MonitorsSampleAndLifeRecord_3 :
    ((temps 999 : List Int).length = 13) ∧
    (((temps 999 : List Int).all fun r => decide (-32768 ≤ r) && decide (r < 1000)) = true) ∧
    (up.pwr.phase = .up) ∧
    (up.mon.alarm = false) ∧
    ((hottest (Vector.ofFn fun i => (temps 999 : List Int).getD i.val 0)).1 > (8 * up.obj Obj.MON_TEMP_ALARM_C : Nat)) := by decide +kernel

theorem test_witness_MonitorsSampleAndLifeRecord_4 :
    ((temps 500 : List Int).length = 13) ∧
    (((temps 500 : List Int).all fun r => decide (-32768 ≤ r) && decide (r < 1000)) = true) ∧
    (w_MonitorsSampleAndLifeRecord_4_s.pwr.phase = .up) ∧
    (w_MonitorsSampleAndLifeRecord_4_s.mon.alarm = true) ∧
    ((hottest (Vector.ofFn fun i => (temps 500 : List Int).getD i.val 0)).1 ≤ (8 * w_MonitorsSampleAndLifeRecord_4_s.obj Obj.MON_TEMP_ALARM_C : Nat) - 40) := by decide +kernel

theorem test_witness_MonitorsSampleAndLifeRecord_5 :
    ((temps 1000 : List Int).length = 13) ∧
    (((temps 1000 : List Int).all fun r => decide (-32768 ≤ r) && decide (r < 32768)) = true) ∧
    (up.pwr.phase = .up) ∧
    (1000 ≤ (hottest (Vector.ofFn fun i => (temps 1000 : List Int).getD i.val 0)).1) ∧
    (up.pwr.thermal = false) := by decide +kernel

theorem test_witness_MonitorsSampleAndLifeRecord_6 :
    (rails.length = 8) ∧
    ((rails.all fun v => decide (v < 65536)) = true) ∧
    (sensing w_MonitorsSampleAndLifeRecord_6_s = false) := by decide +kernel

theorem test_witness_MonitorsSampleAndLifeRecord_7 :
    (rails.length = 8) ∧
    ((rails.all fun v => decide (v < 65536)) = true) ∧
    (sensing railsOk = true) ∧
    (railsOk.island.pwrEn = Vector.replicate 4 true) ∧
    ((∀ r : Fin 8, (railRange r.val).1 ≤ 10 * rails.getD r.val 0 ∧ 10 * rails.getD r.val 0 ≤ (railRange r.val).2.1 ∧ railsOk.mon.railState[r] < 2)) := by decide +kernel

theorem test_witness_MonitorsSampleAndLifeRecord_8 :
    (([750, 800, 900, 1200, 1100, 1800, 1800, 1709] : List Nat).length = 8) ∧
    ((([750, 800, 900, 1200, 1100, 1800, 1800, 1709] : List Nat).all fun v => decide (v < 65536)) = true) ∧
    (sensing w_MonitorsSampleAndLifeRecord_8_s = true) ∧
    (w_MonitorsSampleAndLifeRecord_8_s.island.pwrEn = Vector.replicate 4 true) ∧
    (10 * ([750, 800, 900, 1200, 1100, 1800, 1800, 1709] : List Nat).getD (7 : Fin 8).val 0 < (railRange (7 : Fin 8).val).1) ∧
    (w_MonitorsSampleAndLifeRecord_8_s.mon.railOut[(7 : Fin 8)] = 1) ∧
    (w_MonitorsSampleAndLifeRecord_8_s.mon.railState[(7 : Fin 8)] = 1) ∧
    ((∀ r : Fin 8, r ≠ (7 : Fin 8) → (railRange r.val).1 ≤ 10 * ([750, 800, 900, 1200, 1100, 1800, 1800, 1709] : List Nat).getD r.val 0 ∧ 10 * ([750, 800, 900, 1200, 1100, 1800, 1800, 1709] : List Nat).getD r.val 0 ≤ (railRange r.val).2.1 ∧ w_MonitorsSampleAndLifeRecord_8_s.mon.railState[r] < 2)) := by decide +kernel

theorem test_witness_MonitorsSampleAndLifeRecord_9 :
    (w_MonitorsSampleAndLifeRecord_9_s.running = true) ∧
    (w_MonitorsSampleAndLifeRecord_9_s.mon.lifeAt + 4 * 3600 * tickS ≤ max w_MonitorsSampleAndLifeRecord_9_s.now (14400 * tickS : Nat)) := by decide +kernel

theorem test_witness_MonitorsSampleAndLifeRecord_10 :
    (max up.now (5 : Nat) < up.mon.lifeAt + 4 * 3600 * tickS) := by decide +kernel

theorem test_witness_TestAccessPortLeavesThePackage_1 :
    (w_TestAccessPortLeavesThePackage_1_s.jtag.held = true) := by decide +kernel

theorem test_witness_TestAccessPortLeavesThePackage_2 :
    (w_TestAccessPortLeavesThePackage_2_s.jtag.held = true) := by decide +kernel

theorem test_witness_TestAccessPortLeavesThePackage_3 :
    (w_TestAccessPortLeavesThePackage_3_s.jtag.instr ≠ .extest) := by decide +kernel

theorem test_witness_TestAccessPortLeavesThePackage_4 :
    (w_TestAccessPortLeavesThePackage_4_s.jtag.held = false) ∧
    (w_TestAccessPortLeavesThePackage_4_s.jtag.instr = .extest) := by decide +kernel

theorem test_witness_TestAccessPortLeavesThePackage_5 :
    (w_TestAccessPortLeavesThePackage_5_s.jtag.held = false) ∧
    (w_TestAccessPortLeavesThePackage_5_s.jtag.instr = .extest) := by decide +kernel

theorem test_witness_TestAccessPortLeavesThePackage_6 :
    (w_TestAccessPortLeavesThePackage_6_s.jtag.held = false) ∧
    (w_TestAccessPortLeavesThePackage_6_s.jtag.instr ≠ .extest) := by decide +kernel

theorem test_witness_TestAccessPortLeavesThePackage_7 :
    (w_TestAccessPortLeavesThePackage_7_s.jtag.held = false) := by decide +kernel

theorem test_witness_TestAccessPortLeavesThePackage_8 :
    (w_TestAccessPortLeavesThePackage_7_s.jtag.held = false) ∧
    (w_TestAccessPortLeavesThePackage_7_s.jtag.instr ≠ .extest) := by decide +kernel

theorem test_witness_RequestsMeetTheChecksInOrder_1 :
    (State.reset.serverUp = false) ∧
    (reqWf rq0 = true) ∧
    ((4096 : Nat) < 65536) ∧
    ((0 : Nat) < 256) := by decide +kernel

theorem test_witness_RequestsMeetTheChecksInOrder_2 :
    (up.serverUp = true) ∧
    (reqWf ({ rq0 with dst := 3 } : Req) = true) ∧
    ((4096 : Nat) < 65536) ∧
    ((0 : Nat) < 256) ∧
    (({ rq0 with dst := 3 } : Req).inband = false) ∧
    (({ rq0 with dst := 3 } : Req).dst ≠ up.bus.addr) ∧
    (({ rq0 with dst := 3 } : Req).dst ≠ 127) ∧
    (up.bus.sendAt = none) ∧
    (up.bus.subs = []) ∧
    (up.bus.manager = false) := by decide +kernel

theorem test_witness_RequestsMeetTheChecksInOrder_3 :
    (w_RequestsMeetTheChecksInOrder_3_s.serverUp = true) ∧
    (reqWf rq0 = true) ∧
    ((4096 : Nat) < 65536) ∧
    ((0 : Nat) < 256) ∧
    (rq0.inband = false) ∧
    (rq0.auth = false) ∧
    (rq0.dst = w_RequestsMeetTheChecksInOrder_3_s.bus.addr) ∧
    (rq0.src ≠ w_RequestsMeetTheChecksInOrder_3_s.bus.addr) ∧
    (w_RequestsMeetTheChecksInOrder_3_s.obj Obj.FB_AUTH_MODE ≠ 1) ∧
    (w_RequestsMeetTheChecksInOrder_3_s.bus.sendAt = none) ∧
    (w_RequestsMeetTheChecksInOrder_3_s.bus.txq.length < 32) ∧
    (w_RequestsMeetTheChecksInOrder_3_s.bus.subs = []) ∧
    (w_RequestsMeetTheChecksInOrder_3_s.bus.answered = [ans0]) ∧
    (max w_RequestsMeetTheChecksInOrder_3_s.now (5 : Nat) < ans0.at0 + tickS) ∧
    (ans0.src = rq0.src) ∧
    (ans0.txn = rq0.txn) ∧
    (ans0.route = none) := by decide +kernel

theorem test_witness_RequestsMeetTheChecksInOrder_4 :
    (keyed241.receives (5 : Nat) rq0) ∧
    ((4358 : Nat) < 65536) ∧
    ((0 : Nat) < 256) ∧
    (([1] : Bytes).length ≤ 9000) ∧
    (keyed241.obj Obj.FB_AUTH_MODE = 1) ∧
    (keyed241.ciph.slots[(241 : Fin 256)].st = .valid) := by decide +kernel

theorem test_witness_RequestsMeetTheChecksInOrder_5 :
    (w_RequestsMeetTheChecksInOrder_5_s.receives (5 : Nat) rq0) ∧
    (w_RequestsMeetTheChecksInOrder_5_s.obj Obj.FB_AUTH_MODE = 1) ∧
    (w_RequestsMeetTheChecksInOrder_5_s.ciph.slots[(241 : Fin 256)].st ≠ .valid) ∧
    (workerRefuses w_RequestsMeetTheChecksInOrder_5_s rq0.src none = false) ∧
    (rq0.waiting < 16) ∧
    ((1 : Nat) < 256) := by decide +kernel

theorem test_witness_RequestsMeetTheChecksInOrder_6 :
    (w_RequestsMeetTheChecksInOrder_6_s.receives (5 : Nat) rq0) ∧
    ((4358 : Nat) < 65536) ∧
    ((0 : Nat) < 256) ∧
    (([1] : Bytes).length ≤ 9000) ∧
    (w_RequestsMeetTheChecksInOrder_6_s.obj Obj.FB_AUTH_MODE ≠ 1) ∧
    (workerRefuses w_RequestsMeetTheChecksInOrder_6_s rq0.src none = true) := by decide +kernel

theorem test_witness_RequestsMeetTheChecksInOrder_7 :
    (mgr.receives (5 : Nat) ({ rq0 with waiting := 16 } : Req)) ∧
    ((4358 : Nat) < 65536) ∧
    ((0 : Nat) < 256) ∧
    (([1] : Bytes).length ≤ 9000) ∧
    (mgr.obj Obj.FB_AUTH_MODE ≠ 1) ∧
    (workerRefuses mgr ({ rq0 with waiting := 16 } : Req).src none = false) ∧
    (16 ≤ ({ rq0 with waiting := 16 } : Req).waiting) := by decide +kernel

theorem test_witness_RequestsMeetTheChecksInOrder_8 :
    (mgr.serves (5 : Nat) rq0) ∧
    ((4358 : Nat) < 65536) ∧
    ((0 : Nat) < 256) ∧
    ((zeros 1477 : Bytes).length ≤ 9000) ∧
    (1476 < (zeros 1477 : Bytes).length) := by decide +kernel

theorem test_witness_ObjectsReadAndWrittenByRequests_1 :
    (mgr.serves (5 : Nat) rq0) ∧
    (Obj.EVT_HEAD_SEQ < 65536) ∧
    ((0 : Nat) < 256) ∧
    (findObj Obj.EVT_HEAD_SEQ (0 : Nat) = .value (⟨Obj.EVT_HEAD_SEQ, 0, 0, .u32, .ro, 0, none⟩ : ObjRow)) ∧
    (readStatus Obj.EVT_HEAD_SEQ (0 : Nat) = .ok) ∧
    ((⟨Obj.EVT_HEAD_SEQ, 0, 0, .u32, .ro, 0, none⟩ : ObjRow).acc ≠ .rc) ∧
    (Obj.EVT_HEAD_SEQ ∉ [Obj.GOV_LIMITED_CYCLES, Obj.CTX_QUOTA_SHORT_CYCLES]) ∧
    (tySize (⟨Obj.EVT_HEAD_SEQ, 0, 0, .u32, .ro, 0, none⟩ : ObjRow).ty ≤ 1480) ∧
    (Obj.EVT_HEAD_SEQ ≠ Obj.TS_POP) := by decide +kernel

theorem test_witness_ObjectsReadAndWrittenByRequests_2 :
    (w_ObjectsReadAndWrittenByRequests_2_s.serves (5 : Nat) rq0) := by decide +kernel

theorem test_witness_ObjectsReadAndWrittenByRequests_3 :
    (up.serves (5 : Nat) rq0) ∧
    (Obj.DS_RX_ENABLE < 65536) ∧
    ((0 : Nat) < 256) ∧
    (findObj Obj.DS_RX_ENABLE (0 : Nat) = .count (4 : Nat)) ∧
    (Obj.DS_RX_ENABLE ∉ [Obj.GOV_LIMITED_CYCLES]) := by decide +kernel

theorem test_witness_ObjectsReadAndWrittenByRequests_4 :
    (up.serves (5 : Nat) rq0) ∧
    (Obj.DS_RX_ENABLE < 65536) ∧
    ((5 : Nat) < 256) ∧
    (findObj Obj.DS_RX_ENABLE (5 : Nat) = .refused (.noSub : Status)) := by decide +kernel

theorem test_witness_ObjectsReadAndWrittenByRequests_5 :
    (up.serves (5 : Nat) rq0) ∧
    (Obj.CAP_CLEAR < 65536) ∧
    ((0 : Nat) < 256) ∧
    (findObj Obj.CAP_CLEAR (0 : Nat) = .value (⟨Obj.CAP_CLEAR, 0, 0, .u8, .cmd, 0, none⟩ : ObjRow)) ∧
    (((⟨Obj.CAP_CLEAR, 0, 0, .u8, .cmd, 0, none⟩ : ObjRow).acc = .wo ∨ (⟨Obj.CAP_CLEAR, 0, 0, .u8, .cmd, 0, none⟩ : ObjRow).acc = .cmd ∨ bulkType (⟨Obj.CAP_CLEAR, 0, 0, .u8, .cmd, 0, none⟩ : ObjRow).ty = true)) := by decide +kernel

theorem test_witness_ObjectsReadAndWrittenByRequests_6 :
    (up.serves (5 : Nat) rq0) ∧
    ((0 : Nat) < 65536) ∧
    ((0 : Nat) < 256) ∧
    (([] : Bytes).length ≤ 1476) ∧
    (findObj (0 : Nat) (0 : Nat) = .refused (.noObject : Status)) := by decide +kernel

theorem test_witness_ObjectsReadAndWrittenByRequests_7 :
    (up.serves (5 : Nat) rq0) ∧
    (Obj.DS_RX_ENABLE < 65536) ∧
    ((0 : Nat) < 256) ∧
    (([1] : Bytes).length ≤ 1476) ∧
    (findObj Obj.DS_RX_ENABLE (0 : Nat) = .count (4 : Nat)) := by decide +kernel

theorem test_witness_ObjectsReadAndWrittenByRequests_8 :
    (w_ObjectsReadAndWrittenByRequests_8_s.serves (5 : Nat) rq0) ∧
    (Obj.DS_RX_INVERT < 65536) ∧
    ((4 : Nat) < 256) ∧
    (([1] : Bytes).length ≤ 1476) ∧
    (findObj Obj.DS_RX_INVERT (4 : Nat) = .value (⟨Obj.DS_RX_INVERT, 4, 0, .bool, .rwd, 0, none⟩ : ObjRow)) ∧
    (((⟨Obj.DS_RX_INVERT, 4, 0, .bool, .rwd, 0, none⟩ : ObjRow).acc = .ro ∨ (⟨Obj.DS_RX_INVERT, 4, 0, .bool, .rwd, 0, none⟩ : ObjRow).acc = .rc ∨ bulkType (⟨Obj.DS_RX_INVERT, 4, 0, .bool, .rwd, 0, none⟩ : ObjRow).ty = true ∨ ([1] : Bytes).length ≠ tySize (⟨Obj.DS_RX_INVERT, 4, 0, .bool, .rwd, 0, none⟩ : ObjRow).ty ∨ tyRefuses (⟨Obj.DS_RX_INVERT, 4, 0, .bool, .rwd, 0, none⟩ : ObjRow).ty ([1] : Bytes) = true ∨
    outOfRange (⟨Obj.DS_RX_INVERT, 4, 0, .bool, .rwd, 0, none⟩ : ObjRow) (beNat ([1] : Bytes)) = true ∨ ((⟨Obj.DS_RX_INVERT, 4, 0, .bool, .rwd, 0, none⟩ : ObjRow).acc = .rwd ∧ chapterRefuses w_ObjectsReadAndWrittenByRequests_8_s Obj.DS_RX_INVERT (beNat ([1] : Bytes)) = false ∧ w_ObjectsReadAndWrittenByRequests_8_s.flag (enablingObj Obj.DS_RX_INVERT) (4 : Nat) = true))) := by decide +kernel

theorem test_witness_ObjectsReadAndWrittenByRequests_9 :
    (up.serves (5 : Nat) rq0) ∧
    (([0x27, 0x10] : Bytes).length = 2) ∧
    (10 ≤ beNat ([0x27, 0x10] : Bytes)) ∧
    (beNat ([0x27, 0x10] : Bytes) ≤ 10000) := by decide +kernel

theorem test_witness_ObjectsReadAndWrittenByRequests_10 :
    (up.serves (5 : Nat) rq0) ∧
    (([62] : Bytes).length = 1) ∧
    (beNat ([62] : Bytes) < 64) := by decide +kernel

theorem test_witness_ObjectsReadAndWrittenByRequests_11 :
    (up.serves (5 : Nat) rq0) ∧
    (([1] : Bytes).length = 1) ∧
    (beNat ([1] : Bytes) ≤ 1) ∧
    (up.flag Obj.DS_RX_ENABLE (sub (3 : Fin 4)) = false) := by decide +kernel

theorem test_witness_ObjectsReadAndWrittenByRequests_12 :
    (w_ObjectsReadAndWrittenByRequests_12_s.serverUp = true) ∧
    ((1 : Nat) ≤ 1) ∧
    (¬((1 : Nat) = 1 ∧ w_ObjectsReadAndWrittenByRequests_12_s.ciph.blobState[(1 : Fin 3)] ≠ 1)) := by decide +kernel

theorem test_witness_ObjectsReadAndWrittenByRequests_13 :
    (up.serverUp = true) ∧
    ((1 < (1 : Nat) ∨ ((1 : Nat) = 1 ∧ up.ciph.blobState[(1 : Fin 3)] ≠ 1))) := by decide +kernel

theorem test_witness_ObjectsReadAndWrittenByRequests_14 :
    (up.serverUp = true) := by decide +kernel

theorem test_witness_ObjectsReadAndWrittenByRequests_15 :
    (State.reset.serverUp = false) := by decide +kernel

theorem test_witness_RowsAndSeveralObjectsByRequests_1 :
    (up.serves (5 : Nat) rq0) ∧
    ((List.replicate 33 (0x1104, 0) : List (Nat × Nat)).length < 256) ∧
    (((List.replicate 33 (0x1104, 0) : List (Nat × Nat)).all fun i => decide (i.1 < 65536) && decide (i.2 < 256)) = true) ∧
    (((List.replicate 33 (0x1104, 0) : List (Nat × Nat)) = [] ∨ 32 < (List.replicate 33 (0x1104, 0) : List (Nat × Nat)).length)) := by decide +kernel

theorem test_witness_RowsAndSeveralObjectsByRequests_2 :
    (w_RowsAndSeveralObjectsByRequests_2_s.serves (5 : Nat) rq0) ∧
    (Obj.DS_RX_ENABLE < 65536) ∧
    ((5 : Nat) < 256) ∧
    (findObj Obj.DS_RX_ENABLE (5 : Nat) = .refused (.noSub : Status)) := by decide +kernel

theorem test_witness_RowsAndSeveralObjectsByRequests_3 :
    (up.serves (5 : Nat) rq0) ∧
    ((0x6079 : Nat) < 65536) ∧
    ((0 : Nat) < 2 ^ 32) ∧
    ((1 : Nat) < 65536) ∧
    (([] : Bytes).length ≤ 1470) ∧
    (objRow? (0x6079 : Nat) = none) := by decide +kernel

theorem test_witness_RowsAndSeveralObjectsByRequests_4 :
    (up.serves (5 : Nat) rq0) ∧
    (Obj.CAP_CLEAR < 65536) ∧
    ((0 : Nat) < 2 ^ 32) ∧
    ((1 : Nat) < 65536) ∧
    (([] : Bytes).length ≤ 1470) ∧
    (objRow? Obj.CAP_CLEAR = some capRow) ∧
    (capRow.ty ≠ .table) := by decide +kernel

theorem test_witness_RowsAndSeveralObjectsByRequests_5 :
    (up.serves (5 : Nat) rq0) ∧
    (Obj.LAT_CONFIG < 65536) ∧
    ((2111 : Nat) < 2 ^ 32) ∧
    ((2 : Nat) < 65536) ∧
    (rows2.length ≤ 1470) ∧
    (objRow? Obj.LAT_CONFIG = some latRow) ∧
    (latRow.ty = .table) ∧
    (Obj.LAT_CONFIG ≠ Obj.HOP_BUFFER_STATE) ∧
    ((2 : Nat) * 8 * latRow.words ≤ 1480) ∧
    (latRow.count < (2111 : Nat) + (2 : Nat)) ∧
    (0 < (2 : Nat)) := by decide +kernel

theorem test_witness_RowsAndSeveralObjectsByRequests_6 :
    (up.serves (5 : Nat) rq0) ∧
    ((2 : Nat) < 2 ^ 32) ∧
    ((188 : Nat) < 65536) ∧
    (([] : Bytes).length ≤ 1470) ∧
    (187 < (188 : Nat)) := by decide +kernel

theorem test_witness_RowsAndSeveralObjectsByRequests_7 :
    (up.serves (5 : Nat) rq0) ∧
    ((2111 : Nat) < 2112) := by decide +kernel

theorem test_witness_RowsAndSeveralObjectsByRequests_8 :
    (up.serves (5 : Nat) rq0) ∧
    ((2110 : Nat) + (2 : Nat) ≤ 2112) ∧
    (0 < (2 : Nat)) ∧
    ((2 : Nat) ≤ 185) := by decide +kernel

theorem test_witness_RowsAndSeveralObjectsByRequests_9 :
    (up.serves (5 : Nat) rq0) ∧
    ((2110 : Nat) + (2 : Nat) ≤ 2112) ∧
    (0 < (2 : Nat)) ∧
    ((2 : Nat) ≤ 183) ∧
    (([1] : Bytes).length ≤ 1470) ∧
    (([1] : Bytes).length ≠ 8 * (2 : Nat)) := by decide +kernel

theorem test_witness_RowsAndSeveralObjectsByRequests_10 :
    (up.serves (5 : Nat) rq0) ∧
    ((2110 : Nat) + (2 : Nat) ≤ 2112) ∧
    (0 < (2 : Nat)) ∧
    ((2 : Nat) ≤ 183) ∧
    (rows2.length = 8 * (2 : Nat)) ∧
    ((1 : Nat) ≤ (2 : Nat)) ∧
    ((∀ i : Nat, i < (1 : Nat) → beAt rows2 (8 * i) 8 % 32 ≤ 16)) ∧
    (((1 : Nat) = (2 : Nat) ∨ 16 < beAt rows2 (8 * (1 : Nat)) 8 % 32)) := by decide +kernel

theorem test_witness_RowsAndSeveralObjectsByRequests_11 :
    (up.serverUp = true) ∧
    ((0 : Nat) ≠ 1) := by decide +kernel

theorem test_witness_RowsAndSeveralObjectsByRequests_12 :
    (up.serverUp = true) := by decide +kernel

theorem test_witness_DomainsMoveInSegments_1 :
    (up.serves (5 : Nat) rq0) ∧
    ((0 : Nat) < 256) ∧
    ((64 : Nat) < 2 ^ 32) ∧
    ((up.atServer (5 : Nat) rq0).bus.transfers.length < 4) := by decide +kernel

theorem test_witness_DomainsMoveInSegments_2 :
    (up.serves (5 : Nat) rq0) ∧
    ((0 : Nat) < 256) ∧
    ((63 : Nat) < 2 ^ 32) ∧
    ((up.atServer (5 : Nat) rq0).bus.transfers.length < 4) ∧
    ((1 < (0 : Nat) ∨ (63 : Nat) % 32 ≠ 0)) := by decide +kernel

theorem test_witness_DomainsMoveInSegments_3 :
    (up.serves (5 : Nat) rq0) ∧
    ((32 : Nat) < 2 ^ 32) ∧
    ((up.atServer (5 : Nat) rq0).bus.transfers.length < 4) := by decide +kernel

theorem test_witness_DomainsMoveInSegments_4 :
    (w_DomainsMoveInSegments_4_s.serves (5 : Nat) rq0) ∧
    ((64 : Nat) < 2 ^ 32) ∧
    ((64 : Nat) % 64 = 0) ∧
    (4 ≤ (w_DomainsMoveInSegments_4_s.atServer (5 : Nat) rq0).bus.transfers.length) := by decide +kernel

theorem test_witness_DomainsMoveInSegments_5 :
    (w_DomainsMoveInSegments_5_s.serves (5 : Nat) rq0) ∧
    ((64 : Nat) < 2 ^ 32) ∧
    ((64 : Nat) % 64 = 0) ∧
    (w_DomainsMoveInSegments_5_v = w_DomainsMoveInSegments_5_s.atServer (5 : Nat) rq0) ∧
    (w_DomainsMoveInSegments_5_v.bus.transfers.length < 4) := by
  refine ⟨?_, ?_, ?_, rfl, ?_⟩ <;> decide +kernel

theorem test_witness_DomainsMoveInSegments_6 :
    (safe.serves (5 : Nat) rq0) ∧
    ((15728640 : Nat) ≤ 15 * 2 ^ 20) ∧
    (safe.pwr.phase = .safeMode) ∧
    (w_DomainsMoveInSegments_6_v = safe.atServer (5 : Nat) rq0) ∧
    (w_DomainsMoveInSegments_6_v.bus.transfers.length < 4) := by
  refine ⟨?_, ?_, ?_, rfl, ?_⟩ <;> decide +kernel

theorem test_witness_DomainsMoveInSegments_7 :
    (w_DomainsMoveInSegments_7_s.serves (5 : Nat) rq0) ∧
    ((8 : Nat) < 65536) ∧
    ((0 : Nat) < 2 ^ 32) ∧
    (([] : Bytes).length ≤ 1472) ∧
    (((w_DomainsMoveInSegments_7_s.atServer (5 : Nat) rq0).bus.transfers.all fun x => x.handle != (8 : Nat)) = true) := by decide +kernel

theorem test_witness_DomainsMoveInSegments_8 :
    (w_DomainsMoveInSegments_8_s.serves (5 : Nat) rq0) ∧
    (tr0.handle < 65536) ∧
    ((1 : Nat) < 2 ^ 32) ∧
    (([] : Bytes).length ≤ 1472) ∧
    (w_DomainsMoveInSegments_8_v = w_DomainsMoveInSegments_8_s.atServer (5 : Nat) rq0) ∧
    (w_DomainsMoveInSegments_8_v.bus.transfers = [tr0]) ∧
    (((1 : Nat) ≠ tr0.seg ∨ tr0.total ≤ (1 : Nat) * tr0.segSize ∨ (tr0.write = false ∧ ([] : Bytes) ≠ []))) := by
  refine ⟨?_, ?_, ?_, ?_, rfl, ?_⟩ <;> decide +kernel

theorem test_witness_DomainsMoveInSegments_9 :
    (w_DomainsMoveInSegments_9_s.serves (5 : Nat) rq0) ∧
    (tr1.handle < 65536) ∧
    (tr1.seg < 2 ^ 32) ∧
    (([1, 2, 3] : Bytes).length ≤ 1472) ∧
    (w_DomainsMoveInSegments_9_v = w_DomainsMoveInSegments_9_s.atServer (5 : Nat) rq0) ∧
    (w_DomainsMoveInSegments_9_v.bus.transfers = [tr1]) ∧
    (tr1.write = true) ∧
    (([1, 2, 3] : Bytes) ≠ []) ∧
    (([1, 2, 3] : Bytes).length = min tr1.segSize (tr1.total - tr1.seg * tr1.segSize)) := by
  refine ⟨?_, ?_, ?_, ?_, rfl, ?_⟩ <;> decide +kernel

theorem test_witness_DomainsMoveInSegments_10 :
    (w_DomainsMoveInSegments_10_s.serves (5 : Nat) rq0) ∧
    (tr0.handle < 65536) ∧
    (tr0.seg < 2 ^ 32) ∧
    (w_DomainsMoveInSegments_10_v = w_DomainsMoveInSegments_10_s.atServer (5 : Nat) rq0) ∧
    (w_DomainsMoveInSegments_10_v.bus.transfers = [tr0]) ∧
    (tr0.write = false) ∧
    (tr0.segSize = 1456) ∧
    (tr0.seg * tr0.segSize < tr0.total) ∧
    ((recordNow up Obj.EVT_LOG_DOMAIN (3, 32) : Bytes) = ((tr0.plan.flatMap (recordNow w_DomainsMoveInSegments_10_s tr0.index) ++ zeros tr0.total).take tr0.total).drop (tr0.seg * tr0.segSize)) ∧
    ((tr0.plan.flatMap (recordNow w_DomainsMoveInSegments_10_s tr0.index)).length ≤ tr0.total) := by
  refine ⟨?_, ?_, ?_, rfl, ?_⟩ <;> decide +kernel

theorem test_witness_DomainsMoveInSegments_11 :
    (w_DomainsMoveInSegments_11_s.serves (5 : Nat) rq0) ∧
    (tr0.handle < 65536) ∧
    ((7 : Nat) < 2 ^ 32) ∧
    (w_DomainsMoveInSegments_11_v = w_DomainsMoveInSegments_11_s.atServer (5 : Nat) rq0) ∧
    (w_DomainsMoveInSegments_11_v.bus.transfers = [tr0]) ∧
    ((crc32c tr0.data ≠ (7 : Nat) ∨ (tr0.write = true ∧ tr0.data.length ≠ tr0.total))) := by
  refine ⟨?_, ?_, ?_, rfl, ?_⟩ <;> decide +kernel

theorem test_witness_DomainsMoveInSegments_12 :
    (w_DomainsMoveInSegments_12_s.serves (5 : Nat) rq0) ∧
    (({ tr0 with data := zeros 32 } : Transfer).handle < 65536) ∧
    (w_DomainsMoveInSegments_12_v = w_DomainsMoveInSegments_12_s.atServer (5 : Nat) rq0) ∧
    (w_DomainsMoveInSegments_12_v.bus.transfers = [({ tr0 with data := zeros 32 } : Transfer)]) ∧
    (({ tr0 with data := zeros 32 } : Transfer).write = false) ∧
    (({ tr0 with data := zeros 32 } : Transfer).index = Obj.EVT_LOG_DOMAIN) ∧
    (cursorAfter ({ tr0 with data := zeros 32 } : Transfer).data.length ({ tr0 with data := zeros 32 } : Transfer).plan = some (4 : Nat)) ∧
    (crc32c ({ tr0 with data := zeros 32 } : Transfer).data < 2 ^ 32) := by
  refine ⟨?_, ?_, rfl, ?_⟩ <;> decide +kernel

theorem test_witness_DomainsMoveInSegments_13 :
    (w_DomainsMoveInSegments_13_s.serves (5 : Nat) rq0) ∧
    (({ tr0 with data := zeros 32, index := Obj.CAP_DOMAIN } : Transfer).handle < 65536) ∧
    (w_DomainsMoveInSegments_13_v = w_DomainsMoveInSegments_13_s.atServer (5 : Nat) rq0) ∧
    (w_DomainsMoveInSegments_13_v.bus.transfers = [({ tr0 with data := zeros 32, index := Obj.CAP_DOMAIN } : Transfer)]) ∧
    (({ tr0 with data := zeros 32, index := Obj.CAP_DOMAIN } : Transfer).write = false) ∧
    (({ tr0 with data := zeros 32, index := Obj.CAP_DOMAIN } : Transfer).index = Obj.CAP_DOMAIN) ∧
    (cursorAfter ({ tr0 with data := zeros 32, index := Obj.CAP_DOMAIN } : Transfer).data.length ({ tr0 with data := zeros 32, index := Obj.CAP_DOMAIN } : Transfer).plan = some (4 : Nat)) ∧
    (crc32c ({ tr0 with data := zeros 32, index := Obj.CAP_DOMAIN } : Transfer).data < 2 ^ 32) := by
  refine ⟨?_, ?_, rfl, ?_⟩ <;> decide +kernel

theorem test_witness_DomainsMoveInSegments_14 :
    (w_DomainsMoveInSegments_14_s.serves (5 : Nat) rq0) ∧
    (({ tr1 with data := [1, 2, 3] } : Transfer).handle < 65536) ∧
    (w_DomainsMoveInSegments_14_v = w_DomainsMoveInSegments_14_s.atServer (5 : Nat) rq0) ∧
    (w_DomainsMoveInSegments_14_v.bus.transfers = [({ tr1 with data := [1, 2, 3] } : Transfer)]) ∧
    (({ tr1 with data := [1, 2, 3] } : Transfer).write = true) ∧
    (({ tr1 with data := [1, 2, 3] } : Transfer).sub = (0 : Fin 2).val + 1) ∧
    (({ tr1 with data := [1, 2, 3] } : Transfer).data.length = ({ tr1 with data := [1, 2, 3] } : Transfer).total) ∧
    (w_DomainsMoveInSegments_14_s.pwr.phase = .safeMode) ∧
    (crc32c ({ tr1 with data := [1, 2, 3] } : Transfer).data < 2 ^ 32) := by
  refine ⟨?_, ?_, rfl, ?_⟩ <;> decide +kernel

theorem test_witness_EventsReachTheirSubscribers_1 :
    (up.serves (5 : Nat) rq0) ∧
    ((5 : Nat) < 65536) ∧
    ((4 : Nat) < 65536) ∧
    ((1 : Nat) < 256) ∧
    ((1 < (1 : Nat) ∨ (4 : Nat) < (5 : Nat))) := by decide +kernel

theorem test_witness_EventsReachTheirSubscribers_2 :
    (w_EventsReachTheirSubscribers_2_s.serves (5 : Nat) rq0) ∧
    ((0 : Nat) ≤ (65535 : Nat)) ∧
    ((65535 : Nat) < 65536) ∧
    (w_EventsReachTheirSubscribers_2_v = w_EventsReachTheirSubscribers_2_s.atServer (5 : Nat) rq0) := by
  refine ⟨?_, ?_, ?_, rfl⟩ <;> decide +kernel

theorem test_witness_EventsReachTheirSubscribers_3 :
    (w_EventsReachTheirSubscribers_3_s.serves (5 : Nat) rq0) ∧
    ((0 : Nat) ≤ (65534 : Nat)) ∧
    ((65534 : Nat) < 65536) ∧
    (w_EventsReachTheirSubscribers_3_v = w_EventsReachTheirSubscribers_3_s.atServer (5 : Nat) rq0) ∧
    ((List.replicate 8 { sub0 with lastHeard := 5 } : List Subscription) = (w_EventsReachTheirSubscribers_3_v.bus.subs.filter fun x => !(x.src == rq0.src && x.first == (0 : Nat) && x.last == (65534 : Nat)))) ∧
    (8 ≤ (List.replicate 8 { sub0 with lastHeard := 5 } : List Subscription).length) := by
  refine ⟨?_, ?_, ?_, rfl, ?_⟩ <;> decide +kernel

theorem test_witness_EventsReachTheirSubscribers_4 :
    (w_EventsReachTheirSubscribers_4_s.serves (5 : Nat) rq0) ∧
    ((0 : Nat) ≤ (65535 : Nat)) ∧
    ((65535 : Nat) < 65536) ∧
    (w_EventsReachTheirSubscribers_4_v = w_EventsReachTheirSubscribers_4_s.atServer (5 : Nat) rq0) ∧
    (([] : List Subscription) = (w_EventsReachTheirSubscribers_4_v.bus.subs.filter fun x => !(x.src == rq0.src && x.first == (0 : Nat) && x.last == (65535 : Nat)))) ∧
    (([] : List Subscription).length < 8) ∧
    ((w_EventsReachTheirSubscribers_4_s.bus.manager = false ∨ (∀ m : Fin 64, w_EventsReachTheirSubscribers_4_s.bus.members[m].st ≠ .present))) := by
  refine ⟨?_, ?_, ?_, rfl, ?_⟩ <;> decide +kernel

theorem test_witness_EventsReachTheirSubscribers_5 :
    (w_EventsReachTheirSubscribers_5_s.serves (5 : Nat) rq0) ∧
    ((4000 : Nat) ≤ (65535 : Nat)) ∧
    ((65535 : Nat) < 65536) ∧
    (w_EventsReachTheirSubscribers_5_v = w_EventsReachTheirSubscribers_5_s.atServer (5 : Nat) rq0) ∧
    (([] : List Subscription) = (w_EventsReachTheirSubscribers_5_v.bus.subs.filter fun x => !(x.src == rq0.src && x.first == (4000 : Nat) && x.last == (65535 : Nat)))) ∧
    (([] : List Subscription).length < 8) ∧
    (w_EventsReachTheirSubscribers_5_s.bus.manager = true) ∧
    (w_EventsReachTheirSubscribers_5_s.bus.txq.length < 31) ∧
    ((3 : Fin 64).val ≠ w_EventsReachTheirSubscribers_5_s.bus.addr) ∧
    (w_EventsReachTheirSubscribers_5_s.bus.members[(3 : Fin 64)].st = .present) ∧
    ((∀ o : Fin 64, o ≠ (3 : Fin 64) → w_EventsReachTheirSubscribers_5_s.bus.members[o].st ≠ .present)) ∧
    (1024 * (3 : Fin 64).val ≤ (65535 : Nat)) ∧
    ((4000 : Nat) ≤ 1024 * (3 : Fin 64).val + 1023) := by
  refine ⟨?_, ?_, ?_, rfl, ?_⟩ <;> decide +kernel

theorem test_witness_EventsReachTheirSubscribers_7 :
    (up.receives (5 : Nat) (rqFrom 3 : Req)) ∧
    (([evBytes rec0] : List Bytes).length < 256) ∧
    ((([evBytes rec0] : List Bytes).all fun r => r.length == 32) = true) ∧
    (up.bus.manager = false) := by decide +kernel

theorem test_witness_EventsReachTheirSubscribers_8 :
    (mgr.receives (5 : Nat) (rqFrom 3 : Req)) ∧
    (([evBytes rec0, evBytes rec1] : List Bytes).length < 256) ∧
    ((([evBytes rec0, evBytes rec1] : List Bytes).all fun r => r.length == 32) = true) ∧
    (mgr.bus.manager = true) ∧
    (w_EventsReachTheirSubscribers_8_v = mgr.atServer (5 : Nat) (rqFrom 3 : Req)) ∧
    ((([evBytes rec0, evBytes rec1] : List Bytes).all fun r => decide (mgr.bus.mergedTo ≤ evKey (evOfBytes r) / 2 ^ 32)) = true) := by
  refine ⟨?_, ?_, ?_, ?_, rfl, ?_⟩ <;> decide +kernel

theorem test_witness_EventsReachTheirSubscribers_9 :
    (w_EventsReachTheirSubscribers_9_s.receives (5 : Nat) (rqFrom 3 : Req)) ∧
    ((evBytes rec0 : Bytes).length = 32) ∧
    (w_EventsReachTheirSubscribers_9_s.bus.manager = true) ∧
    (w_EventsReachTheirSubscribers_9_s.bus.subs = []) ∧
    (evKey (evOfBytes (evBytes rec0 : Bytes)) / 2 ^ 32 < w_EventsReachTheirSubscribers_9_s.bus.mergedTo) := by decide +kernel

theorem test_witness_EventsReachTheirSubscribers_10 :
    (w_EventsReachTheirSubscribers_10_s.receives (5 : Nat) (rqFrom 3 : Req)) ∧
    ((evBytes rec0 : Bytes).length = 32) ∧
    (w_EventsReachTheirSubscribers_10_s.bus.manager = true) ∧
    (w_EventsReachTheirSubscribers_10_s.bus.subs = [sub0]) ∧
    (max w_EventsReachTheirSubscribers_10_s.now (5 : Nat) < sub0.lastHeard + 60 * tickS) ∧
    (sub0.auth = false) ∧
    (sub0.route = none) ∧
    (subCovers sub0 (evOfBytes (evBytes rec0 : Bytes)) = true) ∧
    (evKey (evOfBytes (evBytes rec0 : Bytes)) / 2 ^ 32 < w_EventsReachTheirSubscribers_10_s.bus.mergedTo) ∧
    (w_EventsReachTheirSubscribers_10_v = (w_EventsReachTheirSubscribers_10_s.atServer (5 : Nat) (rqFrom 3 : Req)).bump Obj.FB_EVENTS_LATE) := by
  refine ⟨?_, ?_, ?_, ?_, ?_, ?_, ?_, ?_, ?_, rfl⟩ <;> decide +kernel

theorem test_witness_EventsReachTheirSubscribers_11 :
    (State.reset.serverUp = false) := by decide +kernel

theorem test_witness_EventsReachTheirSubscribers_12 :
    (w_EventsReachTheirSubscribers_12_s.serverUp = true) ∧
    (w_EventsReachTheirSubscribers_12_s.log.unsent = []) ∧
    ((w_EventsReachTheirSubscribers_12_s.bus.merge.all fun x => decide (max w_EventsReachTheirSubscribers_12_s.now (10 * tickMs - 1 : Nat) < x.2 + w_EventsReachTheirSubscribers_12_s.obj Obj.FB_EVENT_MERGE_MS * tickMs)) = true) := by decide +kernel

theorem test_witness_EventsReachTheirSubscribers_13 :
    (w_EventsReachTheirSubscribers_13_s.serverUp = true) ∧
    (w_EventsReachTheirSubscribers_13_s.log.unsent = []) ∧
    (w_EventsReachTheirSubscribers_13_s.bus.subs = [sub0]) ∧
    (sub0.auth = false) ∧
    (sub0.route = none) ∧
    (w_EventsReachTheirSubscribers_13_s.bus.txq.length < 32) ∧
    (w_EventsReachTheirSubscribers_13_s.bus.merge = [(rec0, (0 : Nat)), (rec1, (9 : Nat))]) ∧
    (evKey rec1 < evKey rec0) ∧
    ((0 : Nat) + w_EventsReachTheirSubscribers_13_s.obj Obj.FB_EVENT_MERGE_MS * tickMs ≤ max w_EventsReachTheirSubscribers_13_s.now (10 * tickMs : Nat)) ∧
    (subCovers sub0 rec0 = true) ∧
    (subCovers sub0 rec1 = true) ∧
    (w_EventsReachTheirSubscribers_13_v = { w_EventsReachTheirSubscribers_13_s with now := max w_EventsReachTheirSubscribers_13_s.now (10 * tickMs : Nat), bus := { w_EventsReachTheirSubscribers_13_s.bus with merge := [], mergedTo := max w_EventsReachTheirSubscribers_13_s.bus.mergedTo (evKey rec0 / 2 ^ 32) } }) := by
  refine ⟨?_, ?_, ?_, ?_, ?_, ?_, ?_, ?_, ?_, ?_, ?_, rfl⟩ <;> decide +kernel

theorem test_witness_StoredCopiesAreWritten_1 :
    (up.serves (5 : Nat) rq0) ∧
    (w_StoredCopiesAreWritten_1_v = up.atServer (5 : Nat) rq0) := ⟨by decide +kernel, rfl⟩

theorem test_witness_StoredCopiesAreWritten_2 :
    (up.flash.writing = none) := by decide +kernel

theorem test_witness_StoredCopiesAreWritten_3 :
    (w_StoredCopiesAreWritten_3_s.flash.writing = some ((1 : Fin 2), ({ layout := 0, seq := 8, dict := [], tab := [], bytes := 40 } : StoredCopy))) := by decide +kernel

theorem test_witness_ManagersWorkersAndTheirRows_1 :
    (mgr.serves (5 : Nat) rq0) := by decide +kernel

theorem test_witness_ManagersWorkersAndTheirRows_2 :
    (up.serves (5 : Nat) rq0) ∧
    (1 < (2 : Nat)) := by decide +kernel

theorem test_witness_ManagersWorkersAndTheirRows_3 :
    (w_ManagersWorkersAndTheirRows_3_s.receives (5 : Nat) { ({ rqFrom 3 with dst := 127 } : Req) with dst := w_ManagersWorkersAndTheirRows_3_s.bus.addr }) ∧
    ((({ rqFrom 3 with dst := 127 } : Req).dst = 127 ∨ ({ rqFrom 3 with dst := 127 } : Req).dst = w_ManagersWorkersAndTheirRows_3_s.bus.addr)) ∧
    (w_ManagersWorkersAndTheirRows_3_s.obj Obj.FB_AUTH_MODE ≠ 1) ∧
    (({ rqFrom 3 with dst := 127 } : Req).waiting < 16) ∧
    (w_ManagersWorkersAndTheirRows_3_s.bus.manager = false) ∧
    (({ rqFrom 3 with dst := 127 } : Req).src < 64) ∧
    (({ rqFrom 3 with dst := 127 } : Req).src ≤ w_ManagersWorkersAndTheirRows_3_s.bus.tracked.getD 63) ∧
    (({ rqFrom 3 with dst := 127 } : Req).dst < 128) ∧
    (w_ManagersWorkersAndTheirRows_3_v = w_ManagersWorkersAndTheirRows_3_s.atServer (5 : Nat) ({ rqFrom 3 with dst := 127 } : Req)) := by
  refine ⟨?_, ?_, ?_, ?_, ?_, ?_, ?_, ?_, rfl⟩ <;> decide +kernel

theorem test_witness_ManagersWorkersAndTheirRows_4 :
    (w_ManagersWorkersAndTheirRows_4_s.receives (5 : Nat) (rqFrom 3 : Req)) ∧
    (w_ManagersWorkersAndTheirRows_4_s.obj Obj.FB_AUTH_MODE ≠ 1) ∧
    ((rqFrom 3 : Req).waiting < 16) ∧
    (w_ManagersWorkersAndTheirRows_4_s.bus.manager = false) ∧
    (w_ManagersWorkersAndTheirRows_4_s.bus.tracked = some (2 : Nat)) ∧
    ((2 : Nat) < (rqFrom 3 : Req).src) := by decide +kernel

theorem test_witness_ManagersWorkersAndTheirRows_5 :
    (mgr.receives (5 : Nat) (rqFrom 3 : Req)) ∧
    (mgr.obj Obj.FB_AUTH_MODE ≠ 1) ∧
    ((rqFrom 3 : Req).waiting < 16) ∧
    (mgr.bus.manager = true) ∧
    (mgr.bus.addr < (rqFrom 3 : Req).src) := by decide +kernel

theorem test_witness_ManagersWorkersAndTheirRows_6 :
    (mgr5.receives (5 : Nat) (rq5 3 : Req)) ∧
    (mgr5.obj Obj.FB_AUTH_MODE ≠ 1) ∧
    ((rq5 3 : Req).waiting < 16) ∧
    (mgr5.bus.manager = true) ∧
    ((rq5 3 : Req).src < mgr5.bus.addr) ∧
    (w_ManagersWorkersAndTheirRows_6_v = mgr5.atServer (5 : Nat) (rq5 3 : Req)) := by
  refine ⟨?_, ?_, ?_, ?_, ?_, rfl⟩ <;> decide +kernel

theorem test_witness_ManagersWorkersAndTheirRows_7 :
    (up.receives (5 : Nat) (rqFrom 3 : Req)) ∧
    (up.bus.manager = false) := by decide +kernel

theorem test_witness_ManagersWorkersAndTheirRows_8 :
    (mgr.receives (5 : Nat) (rqFrom 63 : Req)) ∧
    (mgr.bus.manager = true) ∧
    (mgr.bus.subs = []) ∧
    ((63 : Fin 64).val = (rqFrom 63 : Req).src) ∧
    ((mgr.bus.members[(63 : Fin 64)].st = .absent ∨ ((mgr.bus.members[(63 : Fin 64)].st = .present ∨ mgr.bus.members[(63 : Fin 64)].st = .asleep) ∧ mgr.bus.members[(63 : Fin 64)].serial = (8 : Nat)))) ∧
    (w_ManagersWorkersAndTheirRows_8_v = mgr.atServer (5 : Nat) (rqFrom 63 : Req)) := by
  refine ⟨?_, ?_, ?_, ?_, ?_, rfl⟩ <;> decide +kernel

theorem test_witness_ManagersWorkersAndTheirRows_9 :
    (mgr.receives (5 : Nat) (rqFrom 63 : Req)) ∧
    (mgr.bus.manager = true) ∧
    ((63 : Fin 64).val = (rqFrom 63 : Req).src) ∧
    ((mgr.bus.members[(63 : Fin 64)].st = .absent ∨ (mgr.bus.members[(63 : Fin 64)].st ≠ .conflict ∧ mgr.bus.members[(63 : Fin 64)].serial = (8 : Nat)))) ∧
    (w_ManagersWorkersAndTheirRows_9_v = mgr.atServer (5 : Nat) (rqFrom 63 : Req)) := by
  refine ⟨?_, ?_, ?_, ?_, rfl⟩ <;> decide +kernel

theorem test_witness_ManagersWorkersAndTheirRows_10 :
    (w_ManagersWorkersAndTheirRows_10_s.receives (5 : Nat) (rqFrom 63 : Req)) ∧
    (w_ManagersWorkersAndTheirRows_10_s.bus.manager = true) ∧
    ((63 : Fin 64).val = (rqFrom 63 : Req).src) ∧
    ((w_ManagersWorkersAndTheirRows_10_s.bus.members[(63 : Fin 64)].st = .present ∨ w_ManagersWorkersAndTheirRows_10_s.bus.members[(63 : Fin 64)].st = .asleep)) ∧
    (w_ManagersWorkersAndTheirRows_10_s.bus.members[(63 : Fin 64)].serial ≠ (8 : Nat)) ∧
    (w_ManagersWorkersAndTheirRows_10_v = w_ManagersWorkersAndTheirRows_10_s.atServer (5 : Nat) (rqFrom 63 : Req)) := by
  refine ⟨?_, ?_, ?_, ?_, ?_, rfl⟩ <;> decide +kernel

theorem test_witness_ManagersWorkersAndTheirRows_11 :
    ((up.serverUp = false ∨ up.bus.manager = false ∨ wholeSecond (up.advance (5 : Nat)) = false)) := by decide +kernel

theorem test_witness_ManagersWorkersAndTheirRows_12 :
    (w_ManagersWorkersAndTheirRows_12_s.serverUp = true) ∧
    (w_ManagersWorkersAndTheirRows_12_s.bus.manager = true) ∧
    (w_ManagersWorkersAndTheirRows_12_s.bus.sendAt = none) ∧
    (w_ManagersWorkersAndTheirRows_12_s.bus.heartbeatAt = none) ∧
    (w_ManagersWorkersAndTheirRows_12_s.bus.txq.length < 32) ∧
    (w_ManagersWorkersAndTheirRows_12_s.obj Obj.FB_AUTH_MODE ≠ 1) ∧
    (wholeSecond (w_ManagersWorkersAndTheirRows_12_s.advance (5 : Nat)) = true) ∧
    (w_ManagersWorkersAndTheirRows_12_v = w_ManagersWorkersAndTheirRows_12_s.atBus (5 : Nat)) := by
  refine ⟨?_, ?_, ?_, ?_, ?_, ?_, ?_, rfl⟩ <;> decide +kernel

theorem test_witness_ManagersWorkersAndTheirRows_13 :
    (w_ManagersWorkersAndTheirRows_13_s.bus.heartbeatAt = some (0 : Nat)) ∧
    (max w_ManagersWorkersAndTheirRows_13_s.now (tickS - 1 : Nat) < (0 : Nat) + tickS) := by decide +kernel

theorem test_witness_ManagersWorkersAndTheirRows_14 :
    (w_ManagersWorkersAndTheirRows_14_s.bus.heartbeatAt = some (0 : Nat)) ∧
    ((0 : Nat) + tickS ≤ max w_ManagersWorkersAndTheirRows_14_s.now tickS) ∧
    (w_ManagersWorkersAndTheirRows_14_s.serverUp = true) ∧
    (w_ManagersWorkersAndTheirRows_14_s.bus.manager = true) := by decide +kernel

theorem test_witness_ManagersWorkersAndTheirRows_15 :
    (w_ManagersWorkersAndTheirRows_15_s.bus.tracked = some (2 : Nat)) ∧
    (max w_ManagersWorkersAndTheirRows_15_s.now (5 : Nat) < w_ManagersWorkersAndTheirRows_15_s.bus.heardAt + 3 * tickS) := by decide +kernel

theorem test_witness_ManagersWorkersAndTheirRows_16 :
    (w_ManagersWorkersAndTheirRows_16_s.bus.tracked = some (2 : Nat)) ∧
    (w_ManagersWorkersAndTheirRows_16_s.bus.heardAt + 3 * tickS ≤ max w_ManagersWorkersAndTheirRows_16_s.now (3 * tickS : Nat)) ∧
    (w_ManagersWorkersAndTheirRows_16_s.serverUp = true) ∧
    (w_ManagersWorkersAndTheirRows_16_s.bus.manager = false) ∧
    (w_ManagersWorkersAndTheirRows_16_s.busQuiet) ∧
    (w_ManagersWorkersAndTheirRows_16_v = w_ManagersWorkersAndTheirRows_16_s.atBus (3 * tickS : Nat)) := by
  refine ⟨?_, ?_, ?_, ?_, ?_, rfl⟩ <;> decide +kernel

theorem test_witness_ManagersWorkersAndTheirRows_17 :
    (up.serverUp = true) ∧
    (up.bus.mgrCapable = true) ∧
    (up.bus.manager = false) ∧
    (lowerHeard up.bus = false) ∧
    (up.pwr.freshAt + 3 * tickS ≤ max up.now (3 * tickS : Nat)) ∧
    (up.busQuiet) ∧
    (w_ManagersWorkersAndTheirRows_17_v = up.atBus (3 * tickS : Nat)) := by
  refine ⟨?_, ?_, ?_, ?_, ?_, ?_, rfl⟩ <;> decide +kernel

theorem test_witness_ManagersWorkersAndTheirRows_18 :
    ((up.bus.mgrCapable = false ∨ up.bus.manager = true ∨ lowerHeard up.bus = true ∨ max up.now (5 : Nat) < up.pwr.freshAt + 3 * tickS)) := by decide +kernel

theorem test_witness_ForwardsAndTheirAnswers_1 :
    (up.serves (5 : Nat) rq0) ∧
    ((2 : Nat) < 256) ∧
    (readMsg.length ≤ 1476) ∧
    (up.bus.manager = false) := by decide +kernel

theorem test_witness_ForwardsAndTheirAnswers_2 :
    (mgr.serves (5 : Nat) rq0) ∧
    ((2 : Nat) < 256) ∧
    (([1] : Bytes).length ≤ 1476) ∧
    (mgr.bus.manager = true) ∧
    ((127 ≤ (2 : Nat) ∨ (∀ h ∈ vdpHeader ([1] : Bytes), h.svc = 14 ∨ h.resp = true))) := by decide +kernel

theorem test_witness_ForwardsAndTheirAnswers_3 :
    (w_ForwardsAndTheirAnswers_3_s.serves (5 : Nat) rq0) ∧
    ((2 : Nat) < 127) ∧
    (readMsg.length ≤ 1476) ∧
    (w_ForwardsAndTheirAnswers_3_s.bus.manager = true) ∧
    ((2 : Nat) ≠ w_ForwardsAndTheirAnswers_3_s.bus.addr) ∧
    (vdpHeader readMsg = some readHdr) ∧
    (readHdr.svc ≠ 14) ∧
    (readHdr.resp = false) ∧
    ((64 ≤ (2 : Nat) ∨ w_ForwardsAndTheirAnswers_3_s.bus.members[Fin.ofNat 64 (2 : Nat)].st = .absent ∨ w_ForwardsAndTheirAnswers_3_s.bus.members[Fin.ofNat 64 (2 : Nat)].st = .conflict ∨ 64 ≤ w_ForwardsAndTheirAnswers_3_s.bus.forwards.length)) := by decide +kernel

theorem test_witness_ForwardsAndTheirAnswers_4 :
    (w_ForwardsAndTheirAnswers_4_s.serves (5 : Nat) rq0) ∧
    (readMsg.length ≤ 1476) ∧
    (w_ForwardsAndTheirAnswers_4_s.bus.manager = true) ∧
    ((2 : Fin 64).val ≠ w_ForwardsAndTheirAnswers_4_s.bus.addr) ∧
    (vdpHeader readMsg = some readHdr) ∧
    (readHdr.svc ≠ 14) ∧
    (readHdr.resp = false) ∧
    (readHdr.auth = false) ∧
    ((w_ForwardsAndTheirAnswers_4_s.bus.members[(2 : Fin 64)].st = .present ∨ w_ForwardsAndTheirAnswers_4_s.bus.members[(2 : Fin 64)].st = .asleep)) ∧
    (w_ForwardsAndTheirAnswers_4_s.bus.forwards.length < 16) ∧
    (w_ForwardsAndTheirAnswers_4_v = w_ForwardsAndTheirAnswers_4_s.atServer (5 : Nat) rq0) := by
  refine ⟨?_, ?_, ?_, ?_, ?_, ?_, ?_, ?_, ?_, ?_, rfl⟩ <;> decide +kernel

theorem test_witness_ForwardsAndTheirAnswers_5 :
    (mgr.serves (5 : Nat) rq0) ∧
    (readMsg.length ≤ 1476) ∧
    (mgr.bus.manager = true) ∧
    (mgr.bus.addr < 64) ∧
    (vdpHeader readMsg = some readHdr) ∧
    (readHdr.svc = 1) ∧
    (readHdr.resp = false) ∧
    (readHdr.auth = false) ∧
    (vdpBody readHdr readMsg = [0x11, 0x08, 0, 0]) := by decide +kernel

theorem test_witness_ForwardsAndTheirAnswers_6 :
    (w_ForwardsAndTheirAnswers_6_s.serverUp = true) ∧
    (w_ForwardsAndTheirAnswers_6_s.bus.manager = true) ∧
    (w_ForwardsAndTheirAnswers_6_s.busQuiet) ∧
    (innerWf respRq respMsg = true) ∧
    (vdpHeader respMsg = some respHdr) ∧
    (respHdr.auth = false) ∧
    (respHdr.dst = w_ForwardsAndTheirAnswers_6_s.bus.addr) ∧
    (respHdr.src ≠ w_ForwardsAndTheirAnswers_6_s.bus.addr) ∧
    (w_ForwardsAndTheirAnswers_6_s.bus.forwards = [fwd0]) ∧
    (fwd0.target = respHdr.src) ∧
    (fwd0.innerTxn = respHdr.txn) ∧
    (vdpHeader fwd0.inner = some readHdr) ∧
    (readHdr.auth = false) ∧
    (fwd0.req.auth = false) ∧
    (fwd0.req.inband = false) ∧
    (fwd0.route = none) ∧
    (respMsg.length ≤ 1480) ∧
    (w_ForwardsAndTheirAnswers_6_s.bus.txq.length < 32) ∧
    (w_ForwardsAndTheirAnswers_6_v = w_ForwardsAndTheirAnswers_6_s.atServer (5 : Nat) respRq) := by
  have h : w_ForwardsAndTheirAnswers_6_v = w_ForwardsAndTheirAnswers_6_s.atServer (5 : Nat) respRq := rfl
  and_intros <;> first | exact h | decide +kernel

theorem test_witness_ForwardsAndTheirAnswers_7 :
    (mgr.serverUp = true) ∧
    (mgr.bus.manager = true) ∧
    (mgr.busQuiet) ∧
    (innerWf respRq respMsg = true) ∧
    (vdpHeader respMsg = some respHdr) ∧
    (respHdr.auth = false) ∧
    (respHdr.dst = mgr.bus.addr) ∧
    (respHdr.src ≠ mgr.bus.addr) ∧
    ((mgr.bus.forwards.all fun f => f.target != respHdr.src || f.innerTxn != respHdr.txn) = true) := by decide +kernel

theorem test_witness_ForwardsAndTheirAnswers_8 :
    (innerWf respRq respMsg = true) ∧
    (State.reset.serverUp = false) := by decide +kernel

theorem test_witness_ForwardsAndTheirAnswers_9 :
    (w_ForwardsAndTheirAnswers_9_s.serverUp = true) ∧
    (w_ForwardsAndTheirAnswers_9_s.busQuiet) ∧
    ((w_ForwardsAndTheirAnswers_9_s.bus.forwards.all fun f => f.waking || decide (max w_ForwardsAndTheirAnswers_9_s.now (100 * tickMs - 1 : Nat) < f.sentAt + w_ForwardsAndTheirAnswers_9_s.obj Obj.FB_FWD_TIMEOUT_MS * tickMs)) = true) := by decide +kernel

theorem test_witness_ForwardsAndTheirAnswers_10 :
    (w_ForwardsAndTheirAnswers_10_s.serverUp = true) ∧
    (w_ForwardsAndTheirAnswers_10_s.busQuiet) ∧
    (w_ForwardsAndTheirAnswers_10_s.bus.forwards = [fwd0]) ∧
    (fwd0.waking = false) ∧
    (fwd0.sentAt + w_ForwardsAndTheirAnswers_10_s.obj Obj.FB_FWD_TIMEOUT_MS * tickMs ≤ max w_ForwardsAndTheirAnswers_10_s.now (100 * tickMs : Nat)) ∧
    (fwd0.req.auth = false) ∧
    (fwd0.route = none) ∧
    (w_ForwardsAndTheirAnswers_10_s.bus.txq.length < 32) ∧
    (w_ForwardsAndTheirAnswers_10_v = (w_ForwardsAndTheirAnswers_10_s.atBus (100 * tickMs : Nat)).bump Obj.FB_FWD_TIMEOUTS) := by
  refine ⟨?_, ?_, ?_, ?_, ?_, ?_, ?_, ?_, rfl⟩ <;> decide +kernel

theorem test_witness_ForwardsAndTheirAnswers_11 :
    (w_ForwardsAndTheirAnswers_11_s.serverUp = true) ∧
    (w_ForwardsAndTheirAnswers_11_s.busQuiet) ∧
    ((w_ForwardsAndTheirAnswers_11_s.bus.forwards.all fun f => !f.waking || (decide (targetState w_ForwardsAndTheirAnswers_11_s f ≠ .present) &&
    decide (max w_ForwardsAndTheirAnswers_11_s.now (1000 * tickMs - 1 : Nat) < f.sentAt + w_ForwardsAndTheirAnswers_11_s.obj Obj.FB_WAKE_WAIT_MS * tickMs))) = true) := by decide +kernel

theorem test_witness_ForwardsAndTheirAnswers_12 :
    (w_ForwardsAndTheirAnswers_12_s.serverUp = true) ∧
    (w_ForwardsAndTheirAnswers_12_s.busQuiet) ∧
    (w_ForwardsAndTheirAnswers_12_s.bus.forwards = [({ fwd0 with waking := true } : Forward)]) ∧
    (({ fwd0 with waking := true } : Forward).waking = true) ∧
    (targetState w_ForwardsAndTheirAnswers_12_s ({ fwd0 with waking := true } : Forward) ≠ .present) ∧
    (({ fwd0 with waking := true } : Forward).sentAt + w_ForwardsAndTheirAnswers_12_s.obj Obj.FB_WAKE_WAIT_MS * tickMs ≤ max w_ForwardsAndTheirAnswers_12_s.now (1000 * tickMs : Nat)) ∧
    (({ fwd0 with waking := true } : Forward).req.auth = false) ∧
    (({ fwd0 with waking := true } : Forward).route = none) ∧
    (w_ForwardsAndTheirAnswers_12_s.bus.txq.length < 32) ∧
    (w_ForwardsAndTheirAnswers_12_v = w_ForwardsAndTheirAnswers_12_s.atBus (1000 * tickMs : Nat)) := by
  refine ⟨?_, ?_, ?_, ?_, ?_, ?_, ?_, ?_, ?_, rfl⟩ <;> decide +kernel

theorem test_witness_ForwardsAndTheirAnswers_13 :
    (w_ForwardsAndTheirAnswers_13_s.serverUp = true) ∧
    (w_ForwardsAndTheirAnswers_13_s.busQuiet) ∧
    (w_ForwardsAndTheirAnswers_13_s.bus.forwards = [({ fwd0 with waking := true } : Forward)]) ∧
    (({ fwd0 with waking := true } : Forward).waking = true) ∧
    (targetState w_ForwardsAndTheirAnswers_13_s ({ fwd0 with waking := true } : Forward) = .present) ∧
    (vdpHeader ({ fwd0 with waking := true } : Forward).inner = some readHdr) ∧
    (readHdr.auth = false) ∧
    (w_ForwardsAndTheirAnswers_13_s.bus.txq.length < 32) ∧
    (w_ForwardsAndTheirAnswers_13_v = w_ForwardsAndTheirAnswers_13_s.atBus (5 : Nat)) := by
  refine ⟨?_, ?_, ?_, ?_, ?_, ?_, ?_, ?_, rfl⟩ <;> decide +kernel

theorem test_witness_FramesOnTheFieldBus_1 :
    (busOn State.reset = false) ∧
    (State.reset.bus.sendAt = none) := by decide +kernel

theorem test_witness_FramesOnTheFieldBus_2 :
    (up.serverUp = true) ∧
    (up.busQuiet) ∧
    ((up.bus.backoffUntil ≠ none ∨ max up.now (5 : Nat) < up.bus.freeAt + 960 * tickNs ∨ (up.bus.sending = none ∧ up.bus.txq = []))) := by decide +kernel

theorem test_witness_FramesOnTheFieldBus_3 :
    (w_FramesOnTheFieldBus_3_s.serverUp = true) ∧
    (w_FramesOnTheFieldBus_3_s.busQuiet) ∧
    (w_FramesOnTheFieldBus_3_s.bus.backoffUntil = none) ∧
    (w_FramesOnTheFieldBus_3_s.bus.freeAt + 960 * tickNs ≤ max w_FramesOnTheFieldBus_3_s.now (tickUs : Nat)) ∧
    (w_FramesOnTheFieldBus_3_s.bus.sending = none) ∧
    ((w_FramesOnTheFieldBus_3_s.bus.txq.find? fun x => x.urgent && decide (x.from0 ≤ max w_FramesOnTheFieldBus_3_s.now (tickUs : Nat))) = some (bf true 2 : BusFrame)) ∧
    ((w_FramesOnTheFieldBus_3_s.atBus tickUs : State) = w_FramesOnTheFieldBus_3_s.atBus (tickUs : Nat)) := by
  refine ⟨?_, ?_, ?_, ?_, ?_, ?_, rfl⟩ <;> decide +kernel

theorem test_witness_FramesOnTheFieldBus_4 :
    (w_FramesOnTheFieldBus_4_s.serverUp = true) ∧
    (w_FramesOnTheFieldBus_4_s.busQuiet) ∧
    (w_FramesOnTheFieldBus_4_s.bus.backoffUntil = none) ∧
    (w_FramesOnTheFieldBus_4_s.bus.freeAt + 960 * tickNs ≤ max w_FramesOnTheFieldBus_4_s.now (tickUs : Nat)) ∧
    ((bf false 1 : BusFrame).from0 ≤ max w_FramesOnTheFieldBus_4_s.now (tickUs : Nat)) ∧
    (w_FramesOnTheFieldBus_4_s.bus.sending = none) ∧
    (w_FramesOnTheFieldBus_4_s.bus.txq = (bf false 1 : BusFrame) :: ([bf false 2] : List BusFrame)) ∧
    ((((bf false 1 : BusFrame) :: ([bf false 2] : List BusFrame)).all fun x => !x.urgent) = true) ∧
    ((w_FramesOnTheFieldBus_4_s.atBus tickUs : State) = w_FramesOnTheFieldBus_4_s.atBus (tickUs : Nat)) := by
  refine ⟨?_, ?_, ?_, ?_, ?_, ?_, ?_, ?_, rfl⟩ <;> decide +kernel

theorem test_witness_FramesOnTheFieldBus_5 :
    (w_FramesOnTheFieldBus_5_s.serverUp = true) ∧
    (w_FramesOnTheFieldBus_5_s.busQuiet) ∧
    (w_FramesOnTheFieldBus_5_s.bus.backoffUntil = none) ∧
    (w_FramesOnTheFieldBus_5_s.bus.freeAt + 960 * tickNs ≤ max w_FramesOnTheFieldBus_5_s.now (tickUs : Nat)) ∧
    (w_FramesOnTheFieldBus_5_s.bus.sending = some (bf true 3 : BusFrame)) ∧
    ((w_FramesOnTheFieldBus_5_s.atBus tickUs : State) = w_FramesOnTheFieldBus_5_s.atBus (tickUs : Nat)) := by
  refine ⟨?_, ?_, ?_, ?_, ?_, rfl⟩ <;> decide +kernel

theorem test_witness_FramesOnTheFieldBus_6 :
    (w_FramesOnTheFieldBus_6_s.serverUp = true) ∧
    (w_FramesOnTheFieldBus_6_s.bus.sending = some (bf true 3 : BusFrame)) ∧
    (w_FramesOnTheFieldBus_6_s.bus.sendAt = some (0 : Nat)) ∧
    ((0 : Nat) + busTicks (bf true 3 : BusFrame).msg ≤ max w_FramesOnTheFieldBus_6_s.now (busTicks (zeros 20) : Nat)) ∧
    (w_FramesOnTheFieldBus_6_s.bus.txq = []) ∧
    (w_FramesOnTheFieldBus_6_s.log.unsent = []) ∧
    (w_FramesOnTheFieldBus_6_v = w_FramesOnTheFieldBus_6_s.atBus (busTicks (zeros 20) : Nat)) := by
  refine ⟨?_, ?_, ?_, ?_, ?_, ?_, rfl⟩ <;> decide +kernel

theorem test_witness_FramesOnTheFieldBus_7 :
    (up.bus.sendAt = none) := by decide +kernel

theorem test_witness_FramesOnTheFieldBus_8 :
    ((onBus 3).bus.sending = some (bf true 3 : BusFrame)) ∧
    ((onBus 3).bus.sendAt = some (0 : Nat)) ∧
    (max (onBus 3).now (5 : Nat) < (0 : Nat) + busTicks (bf true 3 : BusFrame).msg) ∧
    (((busLevels (busFrame (onBus 3) (bf true 3 : BusFrame).dst (bf true 3 : BusFrame).msg)).getD (9 : Nat) false = false ∨ max (onBus 3).now (5 : Nat) < (0 : Nat) + ((9 : Nat) + 1) * 5 * tickNs ∨
      (0 : Nat) + (((9 : Nat) + 1) * 5 + 20) * tickNs < max (onBus 3).now (5 : Nat))) := by decide +kernel

theorem test_witness_FramesOnTheFieldBus_9 :
    (w_FramesOnTheFieldBus_9_s.bus.sending = some (bf true 3 : BusFrame)) ∧
    (w_FramesOnTheFieldBus_9_s.bus.sendAt = some (0 : Nat)) ∧
    ((busLevels (busFrame w_FramesOnTheFieldBus_9_s (bf true 3 : BusFrame).dst (bf true 3 : BusFrame).msg)).getD (9 : Nat) false = true) ∧
    ((0 : Nat) + ((9 : Nat) + 1) * 5 * tickNs ≤ max w_FramesOnTheFieldBus_9_s.now (60 * tickNs : Nat)) ∧
    (max w_FramesOnTheFieldBus_9_s.now (60 * tickNs : Nat) ≤ (0 : Nat) + (((9 : Nat) + 1) * 5 + 20) * tickNs) ∧
    ((15 : Nat) = w_FramesOnTheFieldBus_9_s.bus.collisions + 1) ∧
    ((15 : Nat) < 16) := by decide +kernel

theorem test_witness_FramesOnTheFieldBus_10 :
    (w_FramesOnTheFieldBus_10_s.bus.sending = some (bf true 3 : BusFrame)) ∧
    (w_FramesOnTheFieldBus_10_s.bus.sendAt = some (0 : Nat)) ∧
    ((busLevels (busFrame w_FramesOnTheFieldBus_10_s (bf true 3 : BusFrame).dst (bf true 3 : BusFrame).msg)).getD (9 : Nat) false = true) ∧
    ((0 : Nat) + ((9 : Nat) + 1) * 5 * tickNs ≤ max w_FramesOnTheFieldBus_10_s.now (60 * tickNs : Nat)) ∧
    (max w_FramesOnTheFieldBus_10_s.now (60 * tickNs : Nat) ≤ (0 : Nat) + (((9 : Nat) + 1) * 5 + 20) * tickNs) ∧
    (15 ≤ w_FramesOnTheFieldBus_10_s.bus.collisions) := by decide +kernel

theorem test_witness_FramesOnTheFieldBus_11 :
    (up.bus.backoffUntil = none) := by decide +kernel

theorem test_witness_FramesOnTheFieldBus_12 :
    (w_FramesOnTheFieldBus_12_s.bus.backoffUntil = some (5 : Nat)) := by decide +kernel

theorem test_witness_FramesOnTheFieldBus_13 :
    ((zeros 64 : Bytes).length ≤ 16384) ∧
    (State.reset.serverUp = false) := by decide +kernel

theorem test_witness_FramesOnTheFieldBus_14 :
    ((zeros 63 : Bytes).length ≤ 16384) ∧
    (up.serverUp = true) ∧
    (up.busQuiet) ∧
    (((zeros 63 : Bytes).length < 64 ∨ 1518 < (zeros 63 : Bytes).length)) := by decide +kernel

theorem test_witness_FramesOnTheFieldBus_15 :
    (64 ≤ frBad.length) ∧
    (frBad.length ≤ 1518) ∧
    (up.serverUp = true) ∧
    (up.busQuiet) ∧
    (fcsGood frBad = false) := by decide +kernel

theorem test_witness_FramesOnTheFieldBus_16 :
    (64 ≤ frNone.length) ∧
    (frNone.length ≤ 1518) ∧
    (w_FramesOnTheFieldBus_16_s.serverUp = true) ∧
    (w_FramesOnTheFieldBus_16_s.busQuiet) ∧
    (fcsGood frNone = true) ∧
    ((beAt frNone 12 2 ≠ w_FramesOnTheFieldBus_16_s.obj Obj.FB_ETHERTYPE ∨ (frNone.take 6 ≠ nodeMac w_FramesOnTheFieldBus_16_s.bus.addr ∧ frNone.take 6 ≠ List.replicate 6 0xFF))) := by decide +kernel

theorem test_witness_FramesOnTheFieldBus_17 :
    (64 ≤ frNone.length) ∧
    (frNone.length ≤ 1518) ∧
    (up.serverUp = true) ∧
    (up.busQuiet) ∧
    (fcsGood frNone = true) ∧
    (beAt frNone 12 2 = up.obj Obj.FB_ETHERTYPE) ∧
    (frNone.take 6 = nodeMac up.bus.addr) ∧
    ((frNone.drop 6).take 6 ≠ nodeMac up.bus.addr) ∧
    ((zeros 46 : Bytes) = ((frNone.take (frNone.length - 4)).drop 14)) ∧
    (vdpHeader (zeros 46 : Bytes) = none) := by decide +kernel

theorem test_witness_FramesOnTheFieldBus_18 :
    (64 ≤ frRead.length) ∧
    (frRead.length ≤ 1518) ∧
    (up.serverUp = true) ∧
    (up.busQuiet) ∧
    (fcsGood frRead = true) ∧
    (beAt frRead 12 2 = up.obj Obj.FB_ETHERTYPE) ∧
    (frRead.take 6 = nodeMac up.bus.addr) ∧
    ((frRead.drop 6).take 6 ≠ nodeMac up.bus.addr) ∧
    ((ownMsg 70 1 0 9 [0x11, 0x08, 0, 0] ++ zeros 22 : Bytes) = ((frRead.take (frRead.length - 4)).drop 14)) ∧
    (vdpHeader (ownMsg 70 1 0 9 [0x11, 0x08, 0, 0] ++ zeros 22 : Bytes) = some ({ readHdr with dst := 0 } : Vdp)) ∧
    (({ readHdr with dst := 0 } : Vdp).dst = up.bus.addr) ∧
    (({ readHdr with dst := 0 } : Vdp).resp = false) ∧
    (({ readHdr with dst := 0 } : Vdp).auth = false) ∧
    (({ readHdr with dst := 0 } : Vdp).svc = 1) ∧
    (vdpBody ({ readHdr with dst := 0 } : Vdp) (ownMsg 70 1 0 9 [0x11, 0x08, 0, 0] ++ zeros 22 : Bytes) = [0x11, 0x08, 0, 0]) ∧
    (up.obj Obj.FB_AUTH_MODE ≠ 1) ∧
    (workerRefuses up ({ readHdr with dst := 0 } : Vdp).src none = false) ∧
    (up.bus.answered = []) ∧
    (up.bus.txq.length < 32) := by decide +kernel

theorem test_witness_FramesOnTheFieldBus_19 :
    (64 ≤ frSelf.length) ∧
    (frSelf.length ≤ 1518) ∧
    (up.serverUp = true) ∧
    (up.busQuiet) ∧
    (fcsGood frSelf = true) ∧
    (beAt frSelf 12 2 = up.obj Obj.FB_ETHERTYPE) ∧
    (frSelf.take 6 = nodeMac up.bus.addr) ∧
    ((frSelf.drop 6).take 6 = nodeMac up.bus.addr) ∧
    ((zeros 46 : Bytes) = ((frSelf.take (frSelf.length - 4)).drop 14)) ∧
    (vdpHeader (zeros 46 : Bytes) = none) ∧
    ((up.atFrame 5 : State) = up.atFrame (5 : Nat)) := by
  refine ⟨?_, ?_, ?_, ?_, ?_, ?_, ?_, ?_, ?_, ?_, rfl⟩ <;> decide +kernel

theorem test_witness_DispatcherPicksTheFreestCluster_1 :
    (pickThread cl7 (1 : Nat) = some ((8 : Nat), (0 : Nat))) := by decide +kernel

theorem test_witness_DispatcherPicksTheFreestCluster_3 :
    (w_DispatcherPicksTheFreestCluster_3_s.frame? (7 : Nat) = some ({ fr 7 with region := 1 } : Frame)) ∧
    (pickThread w_DispatcherPicksTheFreestCluster_3_s ({ fr 7 with region := 1 } : Frame).region = some ((8 : Nat), (0 : Nat))) := by decide +kernel

theorem test_witness_TimeSetActsInFreeRunOnly_1 :
    (w_TimeSetActsInFreeRunOnly_1_s.serverUp = true) ∧
    ((999999999 : Nat) ≤ 999999999) ∧
    ((1 : Nat) < 2 ^ 48) ∧
    (w_TimeSetActsInFreeRunOnly_1_s.time.doms[w_TimeSetActsInFreeRunOnly_1_s.time.selected].state ≠ .freeRun) := by decide +kernel

theorem test_witness_TimeSetActsInFreeRunOnly_2 :
    (up.serverUp = true) ∧
    ((999999999 : Nat) ≤ 999999999) ∧
    ((281474976710655 : Nat) < 2 ^ 48) ∧
    (up.time.doms[up.time.selected].state = .freeRun) := by decide +kernel

theorem test_witness_TimeSetActsInFreeRunOnly_3 :
    (w_TimeSetActsInFreeRunOnly_3_s.serves (5 : Nat) rq0) ∧
    ((zeros 10 : Bytes).length = 10) ∧
    (beNat (zeros 10 : Bytes) % 2 ^ 32 ≤ 999999999) ∧
    (w_TimeSetActsInFreeRunOnly_3_s.time.doms[w_TimeSetActsInFreeRunOnly_3_s.time.selected].state ≠ .freeRun) := by decide +kernel

theorem test_witness_TimeSetActsInFreeRunOnly_4 :
    (up.serves (5 : Nat) rq0) ∧
    (([0, 0, 0, 0, 0, 5, 0, 0, 0, 7] : Bytes).length = 10) ∧
    (beNat ([0, 0, 0, 0, 0, 5, 0, 0, 0, 7] : Bytes) = (5 : Nat) * 2 ^ 32 + (7 : Nat)) ∧
    ((7 : Nat) ≤ 999999999) ∧
    (up.time.doms[up.time.selected].state = .freeRun) := by decide +kernel

theorem test_witness_WithoutTheArrayKeyThreeRequestsAreAccepted_1 :
    (mgr.receives (5 : Nat) rq0) ∧
    (workerRefuses mgr rq0.src none = false) ∧
    (rq0.waiting < 16) ∧
    ((mgr.obj Obj.FB_AUTH_MODE ≠ 1 ∨ mgr.ciph.slots[(241 : Fin 256)].st ≠ .valid)) ∧
    (mgr.serverUp = true) := by decide +kernel

theorem test_witness_WithoutTheArrayKeyThreeRequestsAreAccepted_2 :
    (w_WithoutTheArrayKeyThreeRequestsAreAccepted_2_s.receives (5 : Nat) rq0) ∧
    (workerRefuses w_WithoutTheArrayKeyThreeRequestsAreAccepted_2_s rq0.src none = false) ∧
    (rq0.waiting < 16) ∧
    (w_WithoutTheArrayKeyThreeRequestsAreAccepted_2_s.obj Obj.FB_AUTH_MODE = 1) ∧
    (w_WithoutTheArrayKeyThreeRequestsAreAccepted_2_s.ciph.slots[(241 : Fin 256)].st ≠ .valid) ∧
    (Obj.EVT_HEAD_SEQ < 65536) ∧
    ((0 : Nat) < 256) := by decide +kernel

theorem test_witness_WithoutTheArrayKeyThreeRequestsAreAccepted_3 :
    (w_WithoutTheArrayKeyThreeRequestsAreAccepted_3_s.receives (5 : Nat) rq0) ∧
    (workerRefuses w_WithoutTheArrayKeyThreeRequestsAreAccepted_3_s rq0.src none = false) ∧
    (rq0.waiting < 16) ∧
    (w_WithoutTheArrayKeyThreeRequestsAreAccepted_3_s.obj Obj.FB_AUTH_MODE = 1) ∧
    (w_WithoutTheArrayKeyThreeRequestsAreAccepted_3_s.ciph.slots[(241 : Fin 256)].st ≠ .valid) ∧
    ((zeros 40 : Bytes).length = 40) := by decide +kernel

theorem test_witness_WithoutTheArrayKeyThreeRequestsAreAccepted_4 :
    (w_WithoutTheArrayKeyThreeRequestsAreAccepted_4_s.receives (5 : Nat) rq0) ∧
    (w_WithoutTheArrayKeyThreeRequestsAreAccepted_4_s.obj Obj.FB_AUTH_MODE = 1) ∧
    (w_WithoutTheArrayKeyThreeRequestsAreAccepted_4_s.ciph.slots[(241 : Fin 256)].st ≠ .valid) ∧
    (Obj.FB_WAKE_WAIT_MS < 65536) ∧
    ((0 : Nat) < 256) ∧
    ((zeros 2 : Bytes).length ≤ 9000) ∧
    (Obj.FB_WAKE_WAIT_MS ≠ Obj.FB_AUTH_MODE) ∧
    (Obj.FB_WAKE_WAIT_MS ≠ Obj.CIPH_ARRAY_KEY_BLOB) := by decide +kernel

theorem test_witness_WithoutTheArrayKeyThreeRequestsAreAccepted_5 :
    (w_WithoutTheArrayKeyThreeRequestsAreAccepted_5_s.receives (5 : Nat) rq0) ∧
    (w_WithoutTheArrayKeyThreeRequestsAreAccepted_5_s.obj Obj.FB_AUTH_MODE = 1) ∧
    (w_WithoutTheArrayKeyThreeRequestsAreAccepted_5_s.ciph.slots[(241 : Fin 256)].st ≠ .valid) ∧
    (Obj.LAT_CONFIG < 65536) ∧
    ((0 : Nat) < 256) ∧
    ((2 : Nat) < 256) ∧
    ((0 : Nat) < 2 ^ 32) ∧
    ((1 : Nat) < 65536) ∧
    ((0 : Nat) < 2 ^ 32) ∧
    ((1 : Nat) < 65536) ∧
    (([] : Bytes).length ≤ 9000) ∧
    (([] : List (Nat × Nat)).length < 256) ∧
    ((([] : List (Nat × Nat)).all fun x => decide (x.1 < 65536) && decide (x.2 < 256)) = true) := by decide +kernel

theorem test_witness_RestoreSelectsWhatTheNextBootUses_1 :
    (up.serves (5 : Nat) rq0) ∧
    (w_RestoreSelectsWhatTheNextBootUses_1_v = up.atServer (5 : Nat) rq0) := ⟨by decide +kernel, rfl⟩

theorem test_witness_RestoreSelectsWhatTheNextBootUses_2 :
    (up.serves (5 : Nat) rq0) ∧
    ((255 : Nat) < 256) ∧
    (2 < (255 : Nat)) := by decide +kernel

theorem test_witness_RestoreSelectsWhatTheNextBootUses_3 :
    (w_RestoreSelectsWhatTheNextBootUses_3_s.pwr.phase = .boot 7) ∧
    ((w_RestoreSelectsWhatTheNextBootUses_3_s.island.defaultsOnce = true ∨ w_RestoreSelectsWhatTheNextBootUses_3_s.flash.copies = Vector.replicate 2 none)) := by decide +kernel

end Sys2Proof.Tests
end

section
/-! PROOFS. The dispatcher's choice of a cluster and an engine, and the frame that takes a context there (R19). -/
namespace Sys2Proof.Machine

/-! ### The first member with the largest value -/

theorem argMax_eq_none_iff (f : Nat → Nat) (l : List Nat) : argMax f l = none ↔ l = [] := by
  cases l with
  | nil => simp [argMax]
  | cons x xs =>
    simp only [argMax]
    split
    · split <;> simp
    · simp

/-- On a rising list `argMax` answers a member of largest value, the lowest of those that have it. -/
theorem argMax_spec {f : Nat → Nat} {l : List Nat} {y : Nat} (hl : l.Pairwise (· < ·)) (h : argMax f l = some y) :
    y ∈ l ∧ ∀ x ∈ l, f x ≤ f y ∧ (f x = f y → y ≤ x) := by
  induction hl generalizing y with
  | nil => simp [argMax] at h
  | @cons x xs hx _ ih =>
    simp only [argMax] at h
    split at h
    case h_1 z hz =>
      obtain ⟨hmem, hmax⟩ := ih hz
      split at h <;> obtain rfl := Option.some.inj h
      · refine ⟨List.mem_cons_of_mem x hmem, List.forall_mem_cons.2 ⟨by omega, hmax⟩⟩
      · refine ⟨List.mem_cons_self, List.forall_mem_cons.2 ⟨by omega, fun w hw => ?_⟩⟩
        have := hx w hw
        have := hmax w hw
        omega
    case h_2 hz =>
      obtain rfl := Option.some.inj h
      obtain rfl := (argMax_eq_none_iff f xs).1 hz
      simp

/-! ### The choice in a region -/

/-- The active clusters of a region that have a free thread: those the dispatcher chooses among. -/
def openClusters (s : State) (region : Nat) : List Nat :=
  ((activeClusters s).map Fin.val).filter fun c => c / 8 == region && decide (clusterUse s c < 64)

theorem mem_openClusters {s : State} {region c : Nat} :
    c ∈ openClusters s region ↔
      (∃ k : Fin 64, s.pwr.clusters[k] = .active ∧ k.val = c) ∧ c / 8 = region ∧ clusterUse s c < 64 := by
  simp [openClusters, activeClusters, fins]

theorem openClusters_rising (s : State) (region : Nat) : (openClusters s region).Pairwise (· < ·) :=
  List.Pairwise.filter _ (List.pairwise_map (f := Fin.val) |>.2 ((List.pairwise_lt_finRange 64).filter _))

theorem pickThread_eq_some_iff (s : State) (region c e : Nat) :
    pickThread s region = some (c, e) ↔
      argMax (fun c => 64 - clusterUse s c) (openClusters s region) = some c ∧
      argMax (fun e => 8 - engineUse s c e) (List.range 8) = some e := by
  simp only [pickThread, openClusters]
  split
  next c' hc =>
    simp only [hc, Option.map_eq_some_iff, Prod.mk.injEq, Option.some.injEq]
    constructor
    · rintro ⟨_, he, rfl, rfl⟩
      exact ⟨rfl, he⟩
    · rintro ⟨rfl, he⟩
      exact ⟨e, he, rfl, rfl⟩
  next hc => simp [hc]

theorem pickThread_eq_none_iff (s : State) (region : Nat) : pickThread s region = none ↔ openClusters s region = [] := by
  rw [← argMax_eq_none_iff fun c => 64 - clusterUse s c]
  simp only [pickThread, openClusters]
  split
  next c hc => simp [hc, argMax_eq_none_iff]
  next hc => simp [hc]

/-! ### The frame that takes the context -/

theorem State.logsOnly_frames {s u : State} (h : s.logsOnly u) : u.frames = s.frames := by rw [h]

@[simp] theorem State.ev_frames (s : State) (src : Nat) (ps : List Nat) : (s.ev src ps).frames = s.frames :=
  State.logsOnly_frames (State.ev_logsOnly s src ps)

@[simp] theorem hopCheck_frames (p : Fin 5) (s : State) : (hopCheck p s).frames = s.frames := by
  simp only [hopCheck]
  split <;> simp

/-- A hand-over of a buffer touches no frame. -/
@[simp] theorem handOver_frames (h cur new : Nat) (s : State) : (handOver h cur new s).frames = s.frames := by
  simp only [handOver]
  split
  · simp [State.bump]
  · split <;> simp [hopAsk, setBuf]

theorem foldl_handOver_frames (hs : List Nat) (cur new : Nat) (s : State) :
    (hs.foldl (fun s h => handOver h cur new s) s).frames = s.frames := by
  induction hs generalizing s with
  | nil => rfl
  | cons h hs ih => rw [List.foldl_cons, ih, handOver_frames]

@[simp] theorem sourceCount_frames (src w n : Nat) (s : State) : (sourceCount src w n s).frames = s.frames := rfl

@[simp] theorem State.bumpRow_frames (s : State) (tbl r n w k : Nat) : (s.bumpRow tbl r n w k).frames = s.frames := rfl

@[simp] theorem maxRow_frames (tbl r n w v : Nat) (s : State) : (maxRow tbl r n w v s).frames = s.frames := by
  simp only [maxRow]
  split <;> rfl

@[simp] theorem parseFrame_fid (lcMode : Nat) (f : Frame) : (parseFrame lcMode f).fid = f.fid := rfl

/-- A frame is found by its number in the list of frames alone. -/
theorem State.frame?_congr {s u : State} (h : u.frames = s.frames) (fid : Nat) : u.frame? fid = s.frame? fid := by
  simp only [State.frame?, h]

theorem State.fid_of_frame? {s : State} {fid : Nat} {f : Frame} (h : s.frame? fid = some f) : f.fid = fid := by
  simpa using List.find?_some h

/-- An update of a frame that keeps its number is read back under that number. -/
theorem State.frame?_modFrame {s : State} {fid : Nat} {f : Frame} {F : Frame → Frame} (h : s.frame? fid = some f)
    (hF : (F f).fid = fid) : (s.modFrame fid F).frame? fid = some (F f) := by
  obtain ⟨hp, before, after, hsplit, hbefore⟩ := List.find?_eq_some_iff_append.1 h
  refine List.find?_eq_some_iff_append.2
    ⟨by simp [hF], before, after.map fun x => if x.fid = fid then F x else x, ?_, hbefore⟩
  have hkeep : before.map (fun x => if x.fid = fid then F x else x) = before :=
    (List.map_congr_left (g := id) fun x hx => if_neg (by simpa using hbefore x hx)).trans before.map_id
  simp [State.modFrame, hsplit, hkeep, State.fid_of_frame? h]

/-- Moving a frame's buffers to another owner leaves the frame inside the terminal. -/
theorem frameTo_frame? {s : State} {fid : Nat} {f : Frame} (owner : Nat) (h : s.frame? fid = some f) :
    ∃ g, (frameTo fid owner s).frame? fid = some g := by
  simp only [frameTo, h]
  split
  · exact ⟨f, h⟩
  · have hmoved := (State.frame?_congr (foldl_handOver_frames f.handles f.owner owner s) fid).trans h
    have hfid : f.fid = fid := State.fid_of_frame? h
    exact ⟨_, State.frame?_modFrame hmoved hfid⟩

/-- A frame as it begins a pass in a context: a later pass parses it anew. -/
def enteringFrame (s : State) (f : Frame) (c e : Nat) : Frame :=
  { (if f.pass > 0 then parseFrame (lcMode s f.inPort) { f with cfg := parseCfg s } else f) with
    stage := .parsing, ctxAt := s.now, cluster := c, engine := e }

@[simp] theorem enteringFrame_fid (s : State) (f : Frame) (c e : Nat) : (enteringFrame s f c e).fid = f.fid := by
  simp only [enteringFrame]
  split <;> simp

/-- Taking a context moves the frame's buffers out of the hoist, and then changes that frame alone. -/
theorem takeContext_frames {s s₁ : State} {fid c e : Nat} {f f₁ : Frame} (hf : s.frame? fid = some f)
    (hpick : pickThread s f.region = some (c, e)) (hs₁ : s₁ = if f.stage = .hoist then frameTo fid 13 s else s)
    (hf₁ : s₁.frame? fid = some f₁) :
    (takeContext fid s).frames = (s₁.modFrame fid fun _ => enteringFrame s₁ f₁ c e).frames := by
  simp only [takeContext, hf, hpick, ← hs₁, hf₁, Option.getD_some, enteringFrame, decide_eq_true_eq, State.setObj_frames]
  split <;> simp

/-- The frame that takes a context holds the chosen thread and begins its pass there. -/
theorem takeContext_frame? {s : State} {fid c e : Nat} {f : Frame} (hf : s.frame? fid = some f)
    (hpick : pickThread s f.region = some (c, e)) :
    ((takeContext fid s).frame? fid).map (fun g => (g.cluster, g.engine, g.stage)) = some (c, e, .parsing) := by
  obtain ⟨f₁, hf₁⟩ : ∃ f₁, (if f.stage = .hoist then frameTo fid 13 s else s).frame? fid = some f₁ := by
    split
    · exact frameTo_frame? 13 hf
    · exact ⟨f, hf⟩
  rw [State.frame?_congr (takeContext_frames hf hpick rfl hf₁),
    State.frame?_modFrame hf₁ (by rw [enteringFrame_fid, State.fid_of_frame? hf₁])]
  rfl

/-! ### The obligation -/

/-- The cluster chosen is open, and none of the region's active clusters has more free threads, or as many and a
lower number. -/
theorem pickThread_cluster {s : State} {region c e : Nat} (h : pickThread s region = some (c, e)) :
    c ∈ openClusters s region ∧ ∀ k : Fin 64, s.pwr.clusters[k] = .active → k.val / 8 = region →
      64 - clusterUse s k.val ≤ 64 - clusterUse s c ∧ (64 - clusterUse s k.val = 64 - clusterUse s c → c ≤ k.val) := by
  obtain ⟨hopen, hmax⟩ := argMax_spec (openClusters_rising s region) ((pickThread_eq_some_iff s region c e).1 h).1
  refine ⟨hopen, fun k hk hreg => ?_⟩
  by_cases hfree : clusterUse s k.val < 64
  · exact hmax k.val (mem_openClusters.2 ⟨⟨k, hk, rfl⟩, hreg, hfree⟩)
  · have := (mem_openClusters.1 hopen).2.2
    omega

/-- The engine chosen is one of the eight, and none has more free threads, or as many and a lower number. -/
theorem pickThread_engine {s : State} {region c e : Nat} (h : pickThread s region = some (c, e)) :
    e < 8 ∧ ∀ k : Fin 8, 8 - engineUse s c k.val ≤ 8 - engineUse s c e ∧
      (8 - engineUse s c k.val = 8 - engineUse s c e → e ≤ k.val) := by
  obtain ⟨hmem, hmax⟩ := argMax_spec List.pairwise_lt_range ((pickThread_eq_some_iff s region c e).1 h).2
  exact ⟨List.mem_range.1 hmem, fun k => hmax k.val (List.mem_range.2 k.isLt)⟩

/-- Settles O57: `argMax` over the rising list of open clusters, and of engines, answers the lowest of the freest. -/
theorem dispatcherPicksTheFreestCluster : Obligations.DispatcherPicksTheFreestCluster := by
  unfold Obligations.DispatcherPicksTheFreestCluster
  refine ⟨fun s r c e h => ?_, fun s r => ?_, fun s i c e f hf hpick => takeContext_frame? hf hpick⟩
  · obtain ⟨hopen, hcluster⟩ := pickThread_cluster h
    obtain ⟨he, hengine⟩ := pickThread_engine h
    obtain ⟨⟨k, hactive, rfl⟩, hreg, hfree⟩ := mem_openClusters.1 hopen
    exact ⟨k.isLt, hreg, hfree, he, fun j hj => Fin.ext hj ▸ hactive, hcluster, hengine⟩
  · rw [pickThread_eq_none_iff, List.eq_nil_iff_forall_not_mem]
    constructor
    · intro hnone k hk hreg
      exact Nat.le_of_not_lt fun hfree => hnone k.val (mem_openClusters.2 ⟨⟨k, hk, rfl⟩, hreg, hfree⟩)
    · intro hfull c hc
      obtain ⟨⟨k, hactive, rfl⟩, hreg, hfree⟩ := mem_openClusters.1 hc
      exact Nat.not_lt_of_le (hfull k hactive hreg) hfree

end Sys2Proof.Machine
end

section
/-! PROOFS. Setting the time (R443), by its command and by a WRITE of the object. O58 fails: its clauses on a WRITE leave the
package's own bus address free, and a package at the broadcast address 127, an address that no strap gives (R509), drops every
WRITE that reaches it. At every other address, and for the command, what it says is proved below, clause by clause. -/
namespace Sys2Proof.Machine

/-! ### A request that the bus delivers (R528) -/

theorem eventsOut_of_subs_nil {s : State} (h : s.bus.subs = []) (rs : List EvRec) : eventsOut rs s = s := by
  simp [eventsOut, h]

/-- On a quiet bus all that precedes a message is what `atBus` says. -/
theorem busReady_advance_of_busQuiet {s : State} (h : s.busQuiet) (t : Nat) : busReady (s.advance t) = s.atBus t := by
  obtain ⟨hidle, hevents⟩ := h
  have hsettle : busSettle (s.advance t) = s.advance t := by simp [busSettle, hidle]
  rw [busReady, hsettle]
  by_cases hmanager : s.bus.manager = true
  · simp [drainEvents, hmanager, busPurge, State.modBus, State.atBus, State.advance]
  · obtain hsubs | hunsent := hevents.resolve_left hmanager
    · simp [drainEvents, hmanager, busPurge, State.modBus, State.atBus, State.advance, eventsOut_of_subs_nil, hsubs]
    · simp [drainEvents, hmanager, hunsent, busPurge, State.modBus, State.atBus, State.advance, eventsOut]

/-- What a received request leaves before its header is looked at: its frame is taken from the bus and counted. -/
def State.tookFrame (s : State) (t : Nat) : State := { s.atFrame t with dict := (s.bump Obj.FB_FRAMES_RX).dict }

theorem frameTaken_atBus {s : State} {t : Nat} {rq : Req} (h : s.receives t rq) :
    frameTaken rq.src rq.dst (s.atBus t) = s.tookFrame t := by
  obtain ⟨-, -, -, -, hdst, hsrc, -⟩ := h
  simp [frameTaken, State.modBus, hdst, State.atBus, hsrc, State.tookFrame, State.atFrame, State.bump, State.setObj, State.obj]

theorem heardFrom_tookFrame (s : State) (t : Nat) (rq : Req) : heardFrom rq.src (s.tookFrame t) = s.atServer t rq := rfl

theorem exec_write_of_receives {s : State} {t i j : Nat} {rq : Req} {x : Bytes} (h : s.receives t rq) (hi : i < 65536)
    (hj : j < 256) (hx : x.length ≤ 9000) :
    exec (.write t rq i j x) s = .next (s.after t fun _ =>
      serveReq none rq 2 (some (.write i j x)) (signedPart rq false 2 (svcBody (.write i j x))) (s.tookFrame t)) := by
  obtain ⟨hup, hwf, hbus, -, -, -, -, hquiet, -⟩ := id h
  have hup' : (s.advance t).serverUp = true := hup
  change execWrite t rq i j x s = _
  rw [execWrite, doneIf_true _ _ _ _ (by simp [hwf, hi, hj, hx])]
  simp [State.after, serve, hup', hbus, busReady_advance_of_busQuiet hquiet, frameTaken_atBus h, svcCode]

/-! ### A request to the broadcast address -/

/-- A request to all nodes, other than DISCOVER, is dropped before it is served (R528). -/
theorem serveReq_of_broadcast {rq : Req} {code : Nat} (route : Option Bytes) (svc : Option Svc) (msg : Bytes) (s : State)
    (hdst : rq.dst = 127) (hcode : code ≠ 0x0D) : serveReq route rq code svc msg s = s := by
  simp [serveReq, hdst, hcode]

theorem exec_write_of_broadcast {s : State} {t i j : Nat} {rq : Req} {x : Bytes} (h : s.receives t rq) (hdst : rq.dst = 127)
    (hi : i < 65536) (hj : j < 256) (hx : x.length ≤ 9000) : exec (.write t rq i j x) s = .next (s.tookFrame t) := by
  rw [exec_write_of_receives h hi hj hx, serveReq_of_broadcast _ _ _ _ hdst (by decide)]
  rfl

/-- A package in Run with both domains in Free-run, whose own bus address is the broadcast address. -/
def upAtBroadcast : State := { State.reset with pwr := { Pwr.init with phase := .up }, bus := { Bus.init with addr := 127 } }

/-- A request of a host to that address. -/
def hostRequest127 : Req :=
  { src := 64, dst := 127, txn := 7, inband := false, auth := false, counter := 0, code := [], waiting := 0 }

theorem upAtBroadcast_serves : upAtBroadcast.serves 5 hostRequest127 := by
  decide +kernel

/-- Refutes O58: a package whose own address is 127 meets `State.serves`, and drops a WRITE of 5 s and 7 ns to TIME_SET as a
request to all nodes, so device time does not hold the value written. -/
theorem not_timeSetActsInFreeRunOnly : ¬ Obligations.TimeSetActsInFreeRunOnly := by
  unfold Obligations.TimeSetActsInFreeRunOnly
  rintro ⟨-, -, -, hwrite⟩
  obtain ⟨u, hu, -, hdevice, -⟩ := hwrite upAtBroadcast 5 5 7 hostRequest127 [0, 0, 0, 0, 0, 5, 0, 0, 0, 7]
    upAtBroadcast_serves rfl (by decide) (by decide) rfl
  rw [exec_write_of_broadcast upAtBroadcast_serves.1 rfl (by decide) (by decide) (by decide)] at hu
  obtain rfl := Host.Outcome.next.inj hu
  have hunset : (upAtBroadcast.tookFrame 5).devTime ≠ 5 * secU + 7 * nsU := by decide +kernel
  exact hunset hdevice

/-! ### A WRITE that a package with an address of its own serves -/

theorem reply_eq_answeredAs {s : State} {rq : Req} (code : Nat) (st : Status) (body : Bytes) (hauth : rq.auth = false)
    (hroom : s.bus.txq.length < 32) : reply none rq code st body s = s.answeredAs rq code st body := by
  simp [reply, mkMsg, hauth, keepAnswer, pushMsg, pushBus, State.modBus, State.answeredAs, answerMsg, Nat.not_le.2 hroom]

@[simp] theorem length_beBytes (n v : Nat) : (beBytes n v).length = n := by
  induction n with
  | zero => rfl
  | succ n ih => simp [beBytes, ih]

theorem length_signedPart_write {rq : Req} (i j : Nat) (x : Bytes) :
    (signedPart rq false 2 (svcBody (.write i j x))).length = 24 + x.length := by
  simp only [signedPart, svcBody, vdpBytes, zeros, List.length_append, length_beBytes, List.length_replicate]
  omega

/-- No kept answer belongs to a request that comes for its first time within 1 s (R529). -/
theorem find?_answered_atServer {s : State} {t : Nat} {rq : Req} (h : s.receives t rq) :
    (s.atServer t rq).bus.answered.find? (fun a => a.src == rq.src && a.txn == rq.txn) = none := by
  obtain ⟨-, -, -, -, -, -, hnew, -⟩ := h
  refine List.find?_eq_none.2 fun a ha => ?_
  obtain ⟨hmem, hkept⟩ := List.mem_filter.1 ha
  have hnew := of_decide_eq_true (List.all_eq_true.1 hnew a hmem)
  have hkept := of_decide_eq_true hkept
  simp only [Bool.and_eq_true, beq_iff_eq]
  omega

/-- A served WRITE is answered with the status that it leaves, where it touches neither the bus nor the power state. -/
theorem serveChecked_write {s w : State} {t i j : Nat} {rq : Req} {x : Bytes} {len : Nat} (h : s.serves t rq) (hlen : len ≤ 1500)
    (hw : writeObj i j x (s.atServer t rq) = w) (hbus : w.bus = (s.atServer t rq).bus) (hpwr : w.pwr = s.pwr) :
    serveChecked none rq 2 (some (.write i j x)) len (s.atServer t rq) = w.answeredAs rq 2 w.status [] := by
  obtain ⟨hreceives, -, hworker, hwaiting⟩ := h
  have hkept := find?_answered_atServer hreceives
  obtain ⟨-, -, hinband, hauth, -, -, -, -, hroom⟩ := hreceives
  have hworker' : workerRefuses (s.atServer t rq) rq.src (some (.write i j x)) = false := hworker
  have hlimit : ¬ len > vdpLimit rq.inband := by simp [vdpLimit, hinband, hlen]
  have hboot : w.pwr.bootAt = (s.atServer t rq).pwr.bootAt := by rw [hpwr]; rfl
  have hqueue : w.bus.txq.length < 32 := by rw [hbus]; exact hroom
  simp [serveChecked, hkept, hworker', Nat.not_le.2 hwaiting, hlimit, perform, performOwn, hw, hboot, answerFrom,
    reply_eq_answeredAs _ _ _ hauth hqueue]

theorem exec_write_of_serves {s w : State} {t i j : Nat} {rq : Req} {x : Bytes} (h : s.serves t rq) (haddr : s.bus.addr ≠ 127)
    (hi : i < 65536) (hj : j < 256) (hx : x.length ≤ 1476) (hw : writeObj i j x (s.atServer t rq) = w)
    (hbus : w.bus = (s.atServer t rq).bus) (hpwr : w.pwr = s.pwr) :
    exec (.write t rq i j x) s = .next (s.after t fun _ => w.answeredAs rq 2 w.status []) := by
  obtain ⟨hreceives, hmode, -, -⟩ := id h
  obtain ⟨-, hwf, -, hauth, hdst, -⟩ := id hreceives
  have hmode' : (s.atServer t rq).obj Obj.FB_AUTH_MODE ≠ 1 := by
    change (s.bump Obj.FB_FRAMES_RX).obj Obj.FB_AUTH_MODE ≠ 1
    rwa [State.bump, State.obj_setObj_other _ _ _ _ _ _ (by decide)]
  have hcode : rq.code.length = 0 := by simpa [hauth] using (Bool.and_eq_true_iff.1 hwf).2
  have haddr' : (s.tookFrame t).bus.addr = s.bus.addr := rfl
  have hlen : (signedPart rq false 2 (svcBody (.write i j x))).length + rq.code.length ≤ 1500 := by
    rw [length_signedPart_write]; omega
  rw [exec_write_of_receives hreceives hi hj (by omega)]
  simp [serveReq, authCheck, hauth, haddr', hdst, haddr, heardFrom_tookFrame, authMissing, hmode',
    serveChecked_write h hlen hw hbus hpwr]

/-! ### What a step of device time leaves (R442) -/

/-- What no step of device time reaches, but for the mark of the step: the instant, the time engine, the field bus and the power
state. -/
def State.steppedPart (s : State) : Nat × TimeSt × Bus × Pwr := (s.now, s.time, s.bus, s.pwr)

theorem State.steppedPart_of_logsOnly {s u : State} (h : s.logsOnly u) : u.steppedPart = s.steppedPart := by rw [h]; rfl

@[simp] theorem State.bump_steppedPart (s : State) (i j n : Nat) : (s.bump i j n).steppedPart = s.steppedPart :=
  State.steppedPart_of_logsOnly (State.bump_logsOnly s i j n)

@[simp] theorem State.ev_steppedPart (s : State) (src : Nat) (ps : List Nat) : (s.ev src ps).steppedPart = s.steppedPart :=
  State.steppedPart_of_logsOnly (State.ev_logsOnly s src ps)

@[simp] theorem State.evOnce_steppedPart (s : State) (src e : Nat) (ps : List Nat) :
    (s.evOnce src e ps).steppedPart = s.steppedPart :=
  State.steppedPart_of_logsOnly (State.evOnce_logsOnly s src e ps)

@[simp] theorem State.bumpRow_steppedPart (s : State) (tbl r n w k : Nat) : (s.bumpRow tbl r n w k).steppedPart = s.steppedPart := rfl

@[simp] theorem State.modPort_steppedPart (s : State) (p : Fin 8) (f : Port → Port) : (s.modPort p f).steppedPart = s.steppedPart := rfl

@[simp] theorem State.modGates_steppedPart (s : State) (p : Fin 8) (f : PortGates → PortGates) :
    (s.modGates p f).steppedPart = s.steppedPart := rfl

theorem foldl_steppedPart {α : Type} {f : State → α → State} (h : ∀ s a, (f s a).steppedPart = s.steppedPart) (l : List α)
    (s : State) : (l.foldl f s).steppedPart = s.steppedPart :=
  List.foldlRecOn (motive := fun b => b.steppedPart = s.steppedPart) l f rfl fun b hb a _ => (h b a).trans hb

@[simp] theorem endFragment_steppedPart (p : Fin 8) (x : Tx) (n : Nat) (s : State) :
    (endFragment p x n s).steppedPart = s.steppedPart := by
  rw [endFragment, State.modPort_steppedPart, State.bumpRow_steppedPart]

@[simp] theorem overrunFrame_steppedPart (p : Fin 8) (x : Tx) (s : State) : (overrunFrame p x s).steppedPart = s.steppedPart := by
  simp only [overrunFrame]
  split <;> simp [logOverrun]

@[simp] theorem gateEntry_steppedPart (p : Fin 8) (s : State) : (gateEntry p s).steppedPart = s.steppedPart := by
  simp only [gateEntry]
  split
  · split
    · split
      · simp
      · split <;> simp
    · simp
  · simp

@[simp] theorem gclActivate_steppedPart (p : Fin 8) (seam : Bool) (s : State) :
    (gclActivate p seam s).steppedPart = s.steppedPart := by
  simp only [gclActivate]
  split <;> simp

theorem gatesTimeStep_steppedPart (u : Int) (s : State) : (gatesTimeStep u s).steppedPart = s.steppedPart := by
  refine foldl_steppedPart (fun s p => ?_) _ s
  dsimp only
  split <;> simp

theorem pmSuspectNow_steppedPart (s : State) : (pmSuspectNow s).steppedPart = s.steppedPart :=
  foldl_steppedPart (f := fun s e => pmSuspect e s) (fun _ _ => rfl) _ s

theorem holdEventTime_steppedPart (dev0 before : Nat) (s : State) : (holdEventTime dev0 before s).steppedPart = s.steppedPart := by
  simp only [holdEventTime]
  split
  · split
    · rfl
    · rw [State.ev_steppedPart]; rfl
  · rfl

/-- A step of device time marks itself for the time link, and moves no clock. -/
theorem deviceStepped_steppedPart {s : State} {now : Nat} {m : TimeSt} {b : Bus} {w : Pwr} (u : Int) (dev0 before : Nat)
    (h : s.steppedPart = (now, m, b, w)) :
    (deviceStepped u dev0 before s).steppedPart = (now, { m with stepped := true }, b, w) := by
  obtain ⟨rfl, rfl, rfl, rfl⟩ : s.now = now ∧ s.time = m ∧ s.bus = b ∧ s.pwr = w := by simpa [State.steppedPart] using h
  rw [deviceStepped, holdEventTime_steppedPart, pmSuspectNow_steppedPart, gatesTimeStep_steppedPart]
  rfl

/-! ### The effect of TIME_SET -/

theorem clockAt_self (t v : Nat) (r : Int) : clockAt { at0 := t, val := v, rate := r } t = v := by
  simp [clockAt]

theorem State.deltaAtTime_of_delta_eq_zero {s : State} (h : s.time.delta = 0) (t : Nat) : s.deltaAtTime t = 0 := by
  simp only [State.deltaAtTime, h, if_neg (Int.lt_irrefl 0)]
  exact Int.max_eq_left (Int.sub_nonpos_of_le (Int.natCast_nonneg _))

/-- A time engine whose selected domain has been set to `v` at an instant (R443). -/
def TimeSt.setTo (m : TimeSt) (now v : Nat) : TimeSt :=
  { m with
    doms := vmod m.doms m.selected fun d => { d with clk := { at0 := now, val := v, rate := d.clk.rate }, pair := none }
    delta := 0, deltaAt := now, stepped := true }

theorem timeSet_of_not_freeRun {s : State} {sec ns : Nat} (hns : ns ≤ 999999999) (hsec : sec < 2 ^ 48)
    (h : s.time.doms[s.time.selected].state ≠ .freeRun) : timeSet sec ns s = s.answer .state := by
  have hrange : ¬ (ns > 999999999 ∨ sec ≥ 2 ^ 48) := by omega
  simp only [timeSet, if_neg hrange, if_pos h]

theorem timeSet_of_freeRun {s : State} {sec ns : Nat} (hns : ns ≤ 999999999) (hsec : sec < 2 ^ 48)
    (h : s.time.doms[s.time.selected].state = .freeRun) :
    (timeSet sec ns s).status = .ok ∧
      (timeSet sec ns s).steppedPart = (s.now, s.time.setTo s.now (sec * secU + ns * nsU), s.bus, s.pwr) := by
  have hrange : ¬ (ns > 999999999 ∨ sec ≥ 2 ^ 48) := by omega
  simp only [timeSet, if_neg hrange, if_neg (not_not_intro h)]
  exact ⟨rfl, deviceStepped_steppedPart _ _ _ ((State.ev_steppedPart _ _ _).trans rfl)⟩

/-- `u` answers a write that set the time to `v`: device time and the clock of the domain selected in `s` hold `v`, the
correction is 0, that domain's open pair is gone and the other domain is as it was (R443). -/
structure TimeIsSet (s u : State) (v : Nat) : Prop where
  status : u.status = .ok
  device : u.devTime = v
  selected : u.time.selected = s.time.selected
  clock : clockAt u.time.doms[s.time.selected].clk u.now = v
  correction : u.deltaAtTime u.now = 0
  pair : u.time.doms[s.time.selected].pair = none
  other : ∀ y : Fin 2, y ≠ s.time.selected → u.time.doms[y] = s.time.doms[y]

theorem TimeIsSet.of_time {s u : State} {v : Nat} (hstatus : u.status = .ok) (htime : u.time = s.time.setTo u.now v) :
    TimeIsSet s u v := by
  have hcorrection : u.deltaAtTime u.now = 0 := State.deltaAtTime_of_delta_eq_zero (by rw [htime]; rfl) _
  have hsel : u.time.selected = s.time.selected := by rw [htime]; rfl
  have hdom : u.time.doms[s.time.selected] =
      { s.time.doms[s.time.selected] with
        clk := { at0 := u.now, val := v, rate := s.time.doms[s.time.selected].clk.rate }, pair := none } := by
    rw [htime]; exact vmod_get _ _ _
  have hclock : clockAt u.time.doms[s.time.selected].clk u.now = v := by rw [hdom]; exact clockAt_self _ _ _
  refine ⟨hstatus, ?_, hsel, hclock, hcorrection, by rw [hdom], fun y hy => ?_⟩
  · simp only [State.devTime, State.devTimeAt, hsel, hclock, hcorrection, Int.add_zero, Int.toNat_natCast]
  · rw [htime]; exact vmod_get_ne _ _ _ _ hy

/-! ### The command -/

theorem exec_timeSet {s : State} (t sec ns : Nat) (hup : s.serverUp = true) :
    exec (.timeSet t sec ns) s = .next (s.after t (timeSet sec ns)) := by
  have hup' : (s.advance t).serverUp = true := hup
  change done t s (State.hostWrite · (timeSet sec ns)) = _
  simp [done_eq, State.after, State.hostWrite, hup']

theorem exec_timeSet_of_not_freeRun {s : State} {t sec ns : Nat} (hup : s.serverUp = true) (hns : ns ≤ 999999999)
    (hsec : sec < 2 ^ 48) (h : s.time.doms[s.time.selected].state ≠ .freeRun) :
    exec (.timeSet t sec ns) s = .next { s with now := max s.now t, status := .state } := by
  rw [exec_timeSet t sec ns hup, State.after, timeSet_of_not_freeRun (s := s.advance t) hns hsec h]
  rfl

theorem exec_timeSet_of_freeRun {s : State} {t sec ns : Nat} (hup : s.serverUp = true) (hns : ns ≤ 999999999)
    (hsec : sec < 2 ^ 48) (h : s.time.doms[s.time.selected].state = .freeRun) :
    ∃ u, exec (.timeSet t sec ns) s = .next u ∧ TimeIsSet s u (sec * secU + ns * nsU) := by
  obtain ⟨hstatus, hpart⟩ := timeSet_of_freeRun (s := s.advance t) hns hsec h
  exact ⟨_, exec_timeSet t sec ns hup, .of_time hstatus (congrArg (·.2.1) hpart)⟩

/-! ### The WRITE of the object -/

theorem foldl_bytes_lt (x : Bytes) (a : Nat) : x.foldl (fun a b => a * 256 + b.toNat) a < (a + 1) * 256 ^ x.length := by
  induction x generalizing a with
  | nil => simp
  | cons b x ih =>
    have hb := b.isLt
    have hstep : (a * 256 + b.toNat + 1) * 256 ^ x.length ≤ (a + 1) * 256 * 256 ^ x.length :=
      Nat.mul_le_mul_right _ (by omega)
    have hrest := ih (a * 256 + b.toNat)
    rw [List.foldl_cons, List.length_cons, Nat.pow_succ', ← Nat.mul_assoc]
    exact Nat.lt_of_lt_of_le hrest hstep

theorem beNat_lt (x : Bytes) : beNat x < 256 ^ x.length := by
  simpa only [beNat, Nat.zero_add, Nat.one_mul] using foldl_bytes_lt x 0

theorem writeObj_timeSet {s : State} {x : Bytes} (hx : x.length = 10) (hns : beNat x % 2 ^ 32 ≤ 999999999) :
    writeObj Obj.TIME_SET 0 x s = timeSet (beNat x / 2 ^ 32) (beNat x % 2 ^ 32) s := by
  have hfound : findObj Obj.TIME_SET 0 = .value ⟨Obj.TIME_SET, 0, 0, .time80, .cmd, 0, none⟩ := by decide
  have hvalid : tyRefuses .time80 x = false := decide_eq_false (Nat.not_lt.2 hns)
  have hchapter : chapterRefuses s Obj.TIME_SET (beNat x) = false := rfl
  have heffect : applyObj Obj.TIME_SET 0 (beNat x) x s = timeSet (beNat x / 2 ^ 32) (beNat x % 2 ^ 32) s := rfl
  simp [writeObj, hfound, bulkType, hx, tySize, hvalid, outOfRange, hchapter, heffect]

theorem exec_write_timeSet_of_not_freeRun {s : State} {t : Nat} {rq : Req} {x : Bytes} (h : s.serves t rq)
    (haddr : s.bus.addr ≠ 127) (hx : x.length = 10) (hns : beNat x % 2 ^ 32 ≤ 999999999)
    (hstate : s.time.doms[s.time.selected].state ≠ .freeRun) :
    exec (.write t rq Obj.TIME_SET 0 x) s = .next ((s.atServer t rq).answeredAs rq 2 .state []) := by
  have hsec : beNat x / 2 ^ 32 < 2 ^ 48 := Nat.div_lt_of_lt_mul (by simpa [hx] using beNat_lt x)
  have hwrite : writeObj Obj.TIME_SET 0 x (s.atServer t rq) = (s.atServer t rq).answer .state :=
    (writeObj_timeSet hx hns).trans (timeSet_of_not_freeRun hns hsec hstate)
  rw [exec_write_of_serves h haddr (by decide) (by decide) (by omega) hwrite rfl rfl]
  rfl

theorem exec_write_timeSet_of_freeRun {s : State} {t sec ns : Nat} {rq : Req} {x : Bytes} (h : s.serves t rq)
    (haddr : s.bus.addr ≠ 127) (hx : x.length = 10) (hval : beNat x = sec * 2 ^ 32 + ns) (hns : ns ≤ 999999999)
    (hstate : s.time.doms[s.time.selected].state = .freeRun) :
    ∃ u, exec (.write t rq Obj.TIME_SET 0 x) s = .next u ∧ TimeIsSet s u (sec * secU + ns * nsU) := by
  have hsec : sec < 2 ^ 48 := by
    have : beNat x < 2 ^ 80 := by simpa [hx] using beNat_lt x
    omega
  have hwrite : writeObj Obj.TIME_SET 0 x (s.atServer t rq) = timeSet sec ns (s.atServer t rq) := by
    rw [writeObj_timeSet hx (by omega)]
    congr 1 <;> omega
  obtain ⟨hstatus, hpart⟩ := timeSet_of_freeRun (s := s.atServer t rq) hns hsec hstate
  exact ⟨_, exec_write_of_serves h haddr (by decide) (by decide) (by omega) hwrite (congrArg (·.2.2.1) hpart)
    (congrArg (·.2.2.2) hpart), .of_time hstatus (congrArg (·.2.1) hpart)⟩

end Sys2Proof.Machine
end

section
/-! PROOFS. Requests at the dictionary server: how each service reaches its checks, the order of the checks (R528, R529, R537,
R544, R545), and the answer of a request that passes them (R531). -/
namespace Sys2Proof.Machine

/-! ### The command of a service -/

/-- The command that brings a request for a service. -/
def Svc.command (t : Nat) (rq : Req) : Svc → Instr
  | .read i j => .read t rq i j
  | .write i j x => .write t rq i j x
  | .readMulti l => .readMulti t rq l
  | .tableRead i f n => .tableRead t rq i f n
  | .tableWrite i f n x => .tableWrite t rq i f n x
  | .segBegin i j d n => .segBegin t rq i j d n
  | .segData h g d => .segData t rq h g d
  | .segEnd h c => .segEnd t rq h c
  | .subscribe a b k => .subscribe t rq a b k
  | .event l => .event t rq l
  | .store => .store t rq
  | .restore m => .restore t rq m
  | .discover k w => .discover t rq (.request k w)
  | .forward a x => .forward t rq a x

theorem exec_command {v : Svc} {t : Nat} {rq : Req} (hwf : (v.command t rq).wf = true) (s : State) :
    exec (v.command t rq) s = .next (s.after t (serve rq v)) := by
  cases v <;> exact doneIf_true _ _ _ _ hwf

/-- What no effect of a command reaches, with the instant of the last restart, which a service may move. -/
def State.fixedPart (s : State) : List Instr × Nat × Jtag × Nat := (s.pending, s.now, s.jtag, s.pwr.bootAt)

/-- An effect that leaves the queue, the instant and the test access port to its command is the command's outcome. -/
theorem State.after_eq {s u : State} {t : Nat} {f : State → State} (hf : f (s.advance t) = u)
    (hkeeps : u.fixedPart = (s.advance t).fixedPart) : s.after t f = u := by
  simp only [State.fixedPart, Prod.mk.injEq] at hkeeps
  obtain ⟨hpending, hnow, hjtag, -⟩ := hkeeps
  subst hf
  simp only [State.after, ← State.advance_pending s t, ← State.advance_now s t, ← State.advance_jtag s t, ← hpending, ← hnow,
    ← hjtag]

theorem exec_command_eq {v : Svc} {s u : State} {t : Nat} {rq : Req} (hwf : (v.command t rq).wf = true)
    (hserve : serve rq v (s.advance t) = u) (hkeeps : u.fixedPart = (s.advance t).fixedPart) :
    exec (v.command t rq) s = .next u := by
  rw [exec_command hwf, State.after_eq hserve hkeeps]

/-! ### A request that the bus brings (R528) -/

/-- A request without a code comes by the quiet bus, from another node, to this package or to all nodes. -/
structure State.Arrives (s : State) (rq : Req) : Prop where
  up : s.serverUp = true
  wf : reqWf rq = true
  bus : rq.inband = false
  plain : rq.auth = false
  dst : rq.dst = s.bus.addr ∨ rq.dst = 127
  src : rq.src ≠ s.bus.addr
  quiet : s.busQuiet
  room : s.bus.txq.length < 32

/-- The request comes for its first time within 1 s. -/
structure State.Reached (s : State) (t : Nat) (rq : Req) : Prop extends s.Arrives rq where
  first : (s.bus.answered.all fun a => decide (a.src ≠ rq.src ∨ a.txn ≠ rq.txn ∨ a.at0 + tickS ≤ max s.now t)) = true

theorem State.reached_of_receives {s : State} {t : Nat} {rq : Req} (h : s.receives t rq) : s.Reached t rq := by
  obtain ⟨hup, hwf, hbus, hplain, hdst, hsrc, hfirst, hquiet, hroom⟩ := h
  exact ⟨⟨hup, hwf, hbus, hplain, .inl hdst, hsrc, hquiet, hroom⟩, hfirst⟩

theorem State.Arrives.code_eq {s : State} {rq : Req} (h : s.Arrives rq) : rq.code.length = 0 := by
  simpa [h.plain] using (Bool.and_eq_true_iff.1 h.wf).2

/-- The frame of a request or response to this package, or to all nodes, from another node is counted and leaves no other
trace. -/
theorem frameTaken_of_dst {s : State} {src dst : Nat} (hdst : dst = s.bus.addr ∨ dst = 127) (hsrc : src ≠ s.bus.addr) (t : Nat) :
    frameTaken src dst (s.atBus t) = s.tookFrame t := by
  have htaken : ¬ (dst ≠ s.bus.addr ∧ dst ≠ 127) := by omega
  simp [frameTaken, State.modBus, State.atBus, htaken, hsrc, State.tookFrame, State.atFrame, State.bump, State.setObj, State.obj]

theorem State.Arrives.serve_eq {s : State} {rq : Req} (h : s.Arrives rq) (t : Nat) (v : Svc) :
    serve rq v (s.advance t) =
      serveReq none rq (svcCode v) (some v) (signedPart rq false (svcCode v) (svcBody v)) (s.tookFrame t) := by
  have hup : (s.advance t).serverUp = true := h.up
  simp [serve, hup, h.bus, busReady_advance_of_busQuiet h.quiet, frameTaken_of_dst h.dst h.src]

/-- Past the address check, a request that carries no event meets the check for a code and then the rest. -/
theorem State.Arrives.serveReq_eq {s : State} {rq : Req} (h : s.Arrives rq) (t : Nat) {v : Svc} (hv : ∀ l, v ≠ .event l)
    (hall : rq.dst = 127 → svcCode v = 0x0D) (msg : Bytes) :
    serveReq none rq (svcCode v) (some v) msg (s.tookFrame t) =
      if authMissing (s.atServer t rq) rq (some v) then reply none rq (svcCode v) .auth [] (s.atServer t rq)
      else serveChecked none rq (svcCode v) (some v) msg.length (s.atServer t rq) := by
  have haddr : ¬ (rq.dst ≠ (s.tookFrame t).bus.addr ∧ rq.dst ≠ 127) := by
    have := h.dst
    change ¬ (rq.dst ≠ s.bus.addr ∧ rq.dst ≠ 127)
    omega
  have hall' : ¬ (rq.dst = 127 ∧ svcCode v ≠ 0x0D) := fun ⟨hdst, hcode⟩ => hcode (hall hdst)
  cases v
  case event l => exact absurd rfl (hv l)
  all_goals simp [serveReq, haddr, hall', authCheck, h.plain, heardFrom_tookFrame, h.code_eq]

@[simp] theorem length_signedPart {rq : Req} (code : Nat) (body : Bytes) (hplain : rq.auth = false) :
    (signedPart rq false code body).length = 20 + body.length := by
  simp [signedPart, vdpBytes, hplain]

/-- No kept answer belongs to a request that comes for its first time within 1 s (R529). -/
theorem State.Reached.find?_answered {s : State} {t : Nat} {rq : Req} (h : s.Reached t rq) :
    (s.atServer t rq).bus.answered.find? (fun a => a.src == rq.src && a.txn == rq.txn) = none := by
  refine List.find?_eq_none.2 fun a ha => ?_
  obtain ⟨hmem, hkept⟩ := List.mem_filter.1 ha
  have hfirst := of_decide_eq_true (List.all_eq_true.1 h.first a hmem)
  have hkept := of_decide_eq_true hkept
  simp only [Bool.and_eq_true, beq_iff_eq]
  omega

/-! ### The checks after the address and the code (R529, R530, R537) -/

theorem reply_eq_answeredAs_from {s : State} {rq : Req} (code : Nat) (st : Status) (body : Bytes) (from0 : Nat)
    (hplain : rq.auth = false) (hroom : s.bus.txq.length < 32) :
    reply none rq code st body s from0 = s.answeredAs rq code st body from0 := by
  simp [reply, mkMsg, hplain, keepAnswer, pushMsg, pushBus, State.modBus, State.answeredAs, answerMsg, Nat.not_le.2 hroom]

section
variable {s : State} {rq : Req} {code len : Nat}

theorem serveChecked_of_kept {svc : Option Svc} {a : Answered}
    (hkept : s.bus.answered.find? (fun a => a.src == rq.src && a.txn == rq.txn) = some a) :
    serveChecked none rq code svc len s = answerAgain a s := by
  simp [serveChecked, hkept]

variable (hnew : s.bus.answered.find? (fun a => a.src == rq.src && a.txn == rq.txn) = none)
include hnew

theorem serveChecked_of_workerRefuses {svc : Option Svc} (hworker : workerRefuses s rq.src svc = true) :
    serveChecked none rq code svc len s = reply none rq code .notManager [] s := by
  simp [serveChecked, hnew, hworker]

theorem serveChecked_of_waiting {svc : Option Svc} (hworker : workerRefuses s rq.src svc = false) (hwaiting : 16 ≤ rq.waiting) :
    serveChecked none rq code svc len s = reply none rq code .busy [] s := by
  simp [serveChecked, hnew, hworker, hwaiting]

theorem serveChecked_of_long {svc : Option Svc} (hworker : workerRefuses s rq.src svc = false) (hwaiting : rq.waiting < 16)
    (hlen : vdpLimit rq.inband < len) : serveChecked none rq code svc len s = reply none rq code .tooLong [] s := by
  simp [serveChecked, hnew, hworker, Nat.not_le.2 hwaiting, hlen]

variable {v : Svc} {u : State} (hworker : workerRefuses s rq.src (some v) = false) (hwaiting : rq.waiting < 16)
  (hlen : len ≤ vdpLimit rq.inband)
include hworker hwaiting hlen

/-- A service that answers leaves its answer, unless it has restarted the package. -/
theorem serveChecked_of_answer {st : Status} {body : Bytes} (hperform : perform none rq v s = (some (st, body), u))
    (hboot : u.pwr.bootAt = s.pwr.bootAt) :
    serveChecked none rq code (some v) len s = reply none rq code st body u (answerFrom u v st) := by
  simp [serveChecked, hnew, hworker, Nat.not_le.2 hwaiting, Nat.not_lt.2 hlen, hperform, hboot]

theorem serveChecked_of_silence (hperform : perform none rq v s = (none, u)) :
    serveChecked none rq code (some v) len s = u := by
  simp [serveChecked, hnew, hworker, Nat.not_le.2 hwaiting, Nat.not_lt.2 hlen, hperform]

end

/-! ### The outcome of a request -/

/-- A request for a service other than EVENT reaches the server, and no check of its address refuses it. -/
structure State.Meets (s : State) (t : Nat) (rq : Req) (v : Svc) : Prop extends s.Reached t rq where
  carried : (v.command t rq).wf = true
  answers : ∀ l, v ≠ .event l
  own : rq.dst = 127 → svcCode v = 0x0D

/-- The request passes every check that stands before its service. -/
structure State.Performs (s : State) (t : Nat) (rq : Req) (v : Svc) : Prop extends s.Meets t rq v where
  allowed : authMissing s rq (some v) = false
  heeded : workerRefuses s rq.src (some v) = false
  turn : rq.waiting < 16
  short : (svcBody v).length ≤ 1480

/-- The arrival of a request moves no object but the count of frames. -/
theorem State.obj_atServer (s : State) (t : Nat) (rq : Req) {i j : Nat} (h : i * 256 + j ≠ Obj.FB_FRAMES_RX * 256 + 0) :
    (s.atServer t rq).obj i j = s.obj i j :=
  State.obj_setObj_other s Obj.FB_FRAMES_RX 0 _ i j h

theorem authMissing_atServer (s : State) (t : Nat) (rq : Req) (svc : Option Svc) :
    authMissing (s.atServer t rq) rq svc = authMissing s rq svc := by
  simp only [authMissing, State.obj_atServer s t rq (i := Obj.FB_AUTH_MODE) (j := 0) (by decide)]
  rfl

section
variable {s u : State} {t : Nat} {rq : Req} {v : Svc}

theorem State.Meets.exec_of_authMissing (h : s.Meets t rq v) (hcode : authMissing s rq (some v) = true) :
    exec (v.command t rq) s = .next ((s.atServer t rq).answeredAs rq (svcCode v) .auth []) := by
  refine exec_command_eq h.carried ?_ rfl
  rw [h.serve_eq t, h.serveReq_eq t h.answers h.own, if_pos (by rw [authMissing_atServer, hcode])]
  exact reply_eq_answeredAs_from _ _ _ 0 h.plain h.room

theorem State.Meets.exec_of_checked (h : s.Meets t rq v) (hcode : authMissing s rq (some v) = false)
    (hchecked : serveChecked none rq (svcCode v) (some v) (20 + (svcBody v).length) (s.atServer t rq) = u)
    (hkeeps : u.fixedPart = (s.advance t).fixedPart) : exec (v.command t rq) s = .next u := by
  refine exec_command_eq h.carried ?_ hkeeps
  rw [h.serve_eq t, h.serveReq_eq t h.answers h.own, if_neg (by simp [authMissing_atServer, hcode]), length_signedPart _ _ h.plain,
    hchecked]

/-- A request that meets every check is answered with what its service answers. -/
theorem State.Performs.exec_of_answer {st : Status} {body : Bytes} (h : s.Performs t rq v)
    (hperform : perform none rq v (s.atServer t rq) = (some (st, body), u)) (hkeeps : u.fixedPart = (s.advance t).fixedPart)
    (hroom : u.bus.txq.length < 32) :
    exec (v.command t rq) s = .next (u.answeredAs rq (svcCode v) st body (answerFrom u v st)) := by
  have hlen : 20 + (svcBody v).length ≤ vdpLimit rq.inband := by
    have := h.short
    simp [vdpLimit, h.bus]
    omega
  refine h.exec_of_checked h.allowed ?_ hkeeps
  rw [serveChecked_of_answer h.find?_answered h.heeded h.turn hlen hperform (congrArg (·.2.2.2) hkeeps),
    reply_eq_answeredAs_from _ _ _ _ h.plain hroom]

/-- Where its service answers nothing, nothing is answered. -/
theorem State.Performs.exec_of_silence (h : s.Performs t rq v) (hperform : perform none rq v (s.atServer t rq) = (none, u))
    (hkeeps : u.fixedPart = (s.advance t).fixedPart) : exec (v.command t rq) s = .next u := by
  have hlen : 20 + (svcBody v).length ≤ vdpLimit rq.inband := by
    have := h.short
    simp [vdpLimit, h.bus]
    omega
  exact h.exec_of_checked h.allowed (serveChecked_of_silence h.find?_answered h.heeded h.turn hlen hperform) hkeeps

end

theorem authMissing_of_mode {s : State} {rq : Req} {svc : Option Svc} (h : s.obj Obj.FB_AUTH_MODE ≠ 1) :
    authMissing s rq svc = false := by
  simp [authMissing, h]

/-- A worker that acts for a source acts for it whatever the service. -/
theorem workerRefuses_of_none {s : State} {src : Nat} (h : workerRefuses s src none = false) (svc : Option Svc) :
    workerRefuses s src svc = false := by
  simp only [workerRefuses] at h ⊢
  split
  · exact Bool.and_false _
  · exact h

/-- What `State.serves` says of a request, for a package whose own address is not the broadcast address. -/
theorem State.performs_of_serves {s : State} {t : Nat} {rq : Req} {v : Svc} (h : s.serves t rq)
    (haddr : s.bus.addr = 127 → svcCode v = 0x0D) (hwf : (v.command t rq).wf = true) (hanswers : ∀ l, v ≠ .event l)
    (hshort : (svcBody v).length ≤ 1480) : s.Performs t rq v := by
  obtain ⟨hreceives, hmode, hworker, hturn⟩ := h
  obtain ⟨-, -, -, -, hdst, -⟩ := id hreceives
  exact { State.reached_of_receives hreceives with
    carried := hwf, answers := hanswers, own := fun hall => haddr (hdst ▸ hall), allowed := authMissing_of_mode hmode,
    heeded := workerRefuses_of_none hworker _, turn := hturn, short := hshort }

end Sys2Proof.Machine
end

section
/-! PROOFS. DISCOVER, heartbeats and roles (R526, R535, R537-R540). -/
namespace Sys2Proof.Machine

/-! ### What an event leaves -/

@[simp] theorem State.ev_bus (s : State) (src : Nat) (ps : List Nat) : (s.ev src ps).bus = s.bus := by
  rw [State.ev_logsOnly s src ps]

@[simp] theorem State.ev_now (s : State) (src : Nat) (ps : List Nat) : (s.ev src ps).now = s.now := by
  rw [State.ev_logsOnly s src ps]

theorem State.fixedPart_of_logsOnly {s u : State} (h : s.logsOnly u) : u.fixedPart = s.fixedPart := by rw [h]; rfl

theorem State.bus_of_logsOnly {s u : State} (h : s.logsOnly u) : u.bus = s.bus := by rw [h]

@[simp] theorem State.writeRec_lastManager (s : State) (r : EvRec) : (s.writeRec r).island.lastManager = s.island.lastManager := by
  simp only [State.writeRec, State.bump, State.setObj_island, apply_ite State.island, ite_self]

@[simp] theorem State.holdRec_lastManager (s : State) (r : EvRec) : (s.holdRec r).island.lastManager = s.island.lastManager := by
  simp only [State.holdRec]
  split <;> rfl

@[simp] theorem State.alert_lastManager (s : State) (src sev : Nat) :
    (s.alert src sev).island.lastManager = s.island.lastManager := by
  simp only [State.alert]
  split <;> rfl

/-- An event leaves the address of the manager last tracked. -/
@[simp] theorem State.ev_lastManager (s : State) (src : Nat) (ps : List Nat) :
    (s.ev src ps).island.lastManager = s.island.lastManager := by
  have hfold (f : State → EvRec → State) (hf : ∀ s r, (f s r).island.lastManager = s.island.lastManager) (rs : List EvRec)
      (s : State) : (rs.foldl f s).island.lastManager = s.island.lastManager :=
    List.foldlRecOn (motive := fun b => b.island.lastManager = s.island.lastManager) rs f rfl fun b hb r _ => (hf b r).trans hb
  simp only [State.ev, State.logWith]
  split
  · exact State.alert_lastManager _ _ _
  · split
    · exact (hfold _ State.writeRec_lastManager _ _).trans (State.alert_lastManager _ _ _)
    · exact (hfold _ State.holdRec_lastManager _ _).trans (State.alert_lastManager _ _ _)

/-! ### Queries and heartbeats that are received (R535, R537, R538) -/

theorem State.performs_query {s : State} {t k w : Nat} {rq : Req} (h : s.serves t rq) : s.Performs t rq (.discover k w) :=
  State.performs_of_serves h (fun _ => rfl) (State.reached_of_receives h.1).wf (fun _ => Svc.noConfusion) (by simp [svcBody, zeros])

/-- A heartbeat is heeded whoever sends it: R537 does not reach it. -/
theorem State.Reached.performs_heartbeat {s : State} {t w : Nat} {rq : Req} (h : s.Reached t rq)
    (hmode : s.obj Obj.FB_AUTH_MODE ≠ 1) (hturn : rq.waiting < 16) : s.Performs t rq (.discover 0 w) :=
  { h with
    carried := h.wf, answers := fun _ => Svc.noConfusion, own := fun _ => rfl, allowed := authMissing_of_mode hmode,
    heeded := Bool.and_false _, turn := hturn, short := by simp [svcBody, zeros] }

/-- A request that would reach this package reaches it when it goes to all nodes. -/
theorem State.reached_of_dst {s : State} {t : Nat} {rq : Req} (h : s.receives t { rq with dst := s.bus.addr })
    (hdst : rq.dst = 127 ∨ rq.dst = s.bus.addr) (hrange : rq.dst < 128) : s.Reached t rq := by
  obtain ⟨hup, hwf, hbus, hplain, -, hsrc, hfirst, hquiet, hroom⟩ := h
  have hwf' : reqWf rq = true := by
    simp only [reqWf, Bool.and_eq_true, decide_eq_true_eq] at hwf ⊢
    obtain ⟨⟨⟨⟨hs, -⟩, htxn⟩, hcounter⟩, hcode⟩ := hwf
    exact ⟨⟨⟨⟨hs, Nat.le_of_lt_succ hrange⟩, htxn⟩, hcounter⟩, hcode⟩
  exact ⟨⟨hup, hwf', hbus, hplain, hdst.symm, hsrc, hquiet, hroom⟩, hfirst⟩

theorem discoverReq_query_of_manager {s : State} (src : Nat) (h : s.bus.manager = true) :
    discoverReq src 1 s = (some (.ok, discoverBytes (ownDiscover s false false s.pwr.state)), s) := by
  simp [discoverReq, h]

theorem discoverReq_query_of_worker {s : State} (src : Nat) (h : s.bus.manager = false) :
    discoverReq src 1 s = (some (.notManager, []), s) := by
  simp [discoverReq, h]

theorem discoverReq_of_kind {k : Nat} (src : Nat) (s : State) (h : 1 < k) : discoverReq src k s = (some (.range, []), s) := by
  simp [discoverReq, h, Nat.ne_of_gt (Nat.zero_lt_of_lt h)]

theorem heartbeatIn_of_tracking {s : State} {src : Nat} (hmanager : s.bus.manager = false) (hnode : src < 64)
    (hlow : src ≤ s.bus.tracked.getD 63) :
    heartbeatIn src s = (some (.ok, discoverBytes (ownDiscover s false false s.pwr.state)), track src s) := by
  have htracks : (track src s).bus.tracked = some src := rfl
  cases htracked : s.bus.tracked with
  | none =>
    simp only [heartbeatIn, hmanager, htracked, Nat.not_le.2 hnode, if_false, Bool.false_eq_true, htracks, if_true]
    rfl
  | some m =>
    have hle : src ≤ m := by simpa [htracked] using hlow
    simp only [heartbeatIn, hmanager, htracked, Nat.not_le.2 hnode, if_false, Bool.false_eq_true, hle, htracks, if_true]
    rfl

theorem heartbeatIn_of_higher {s : State} {src m : Nat} (hmanager : s.bus.manager = false) (htracked : s.bus.tracked = some m)
    (hhigh : m < src) : heartbeatIn src s = (some (.notManager, []), s) := by
  simp only [heartbeatIn, hmanager, htracked, Nat.not_le.2 hhigh, if_false, Bool.false_eq_true, Option.some.injEq, Nat.ne_of_lt hhigh,
    ite_self]

theorem heartbeatIn_of_manager_lower {s : State} {src : Nat} (hmanager : s.bus.manager = true) (hlow : src < s.bus.addr) :
    heartbeatIn src s = (some (.ok, discoverBytes (ownDiscover (yieldRole src s) false false (yieldRole src s).pwr.state)),
      yieldRole src s) := by
  simp [heartbeatIn, hmanager, hlow]

theorem heartbeatIn_of_manager_higher {s : State} {src : Nat} (hmanager : s.bus.manager = true) (hhigh : s.bus.addr < src) :
    heartbeatIn src s = (none, s) := by
  simp [heartbeatIn, hmanager, Nat.not_lt.2 (Nat.le_of_lt hhigh)]

theorem exec_query {s : State} {t w : Nat} {rq : Req} (h : s.serves t rq) :
    exec (.discover t rq (.request 1 w)) s = .next (if s.bus.manager
      then (s.atServer t rq).answeredAs rq 13 .ok (discoverBytes (ownDiscover s false false s.pwr.state))
      else (s.atServer t rq).answeredAs rq 13 .notManager []) := by
  have hperforms : s.Performs t rq (.discover 1 w) := State.performs_query h
  cases hmanager : s.bus.manager
  · exact hperforms.exec_of_answer (discoverReq_query_of_worker (s := s.atServer t rq) rq.src hmanager) rfl hperforms.room
  · exact hperforms.exec_of_answer (discoverReq_query_of_manager (s := s.atServer t rq) rq.src hmanager) rfl hperforms.room

theorem exec_discover_of_kind {s : State} {t k w : Nat} {rq : Req} (h : s.serves t rq) (hk : 1 < k) :
    exec (.discover t rq (.request k w)) s = .next ((s.atServer t rq).answeredAs rq 13 .range []) := by
  have hperforms : s.Performs t rq (.discover k w) := State.performs_query h
  have hfrom : answerFrom (s.atServer t rq) (.discover k w) .range = 0 := by
    simp only [answerFrom]
    split
    · rfl
    · rfl
  rw [← hfrom]
  exact hperforms.exec_of_answer (discoverReq_of_kind rq.src (s.atServer t rq) hk) rfl hperforms.room

/-- A worker tracks the sender of a heartbeat that it heeds, and answers it at its own time (R538, R540). -/
theorem exec_heartbeat_of_tracking {s : State} {t w : Nat} {rq : Req} (h : s.Reached t rq) (hmode : s.obj Obj.FB_AUTH_MODE ≠ 1)
    (hturn : rq.waiting < 16) (hmanager : s.bus.manager = false) (hnode : rq.src < 64) (hlow : rq.src ≤ s.bus.tracked.getD 63) :
    exec (.discover t rq (.request 0 w)) s = .next ((track rq.src (s.atServer t rq)).answeredAs rq 13 .ok
      (discoverBytes (ownDiscover s false false s.pwr.state)) (max s.now t + 10 * tickUs * s.bus.addr)) :=
  (h.performs_heartbeat hmode hturn).exec_of_answer (heartbeatIn_of_tracking (s := s.atServer t rq) hmanager hnode hlow) rfl h.room

theorem exec_heartbeat_of_higher {s : State} {t w m : Nat} {rq : Req} (h : s.Reached t rq) (hmode : s.obj Obj.FB_AUTH_MODE ≠ 1)
    (hturn : rq.waiting < 16) (hmanager : s.bus.manager = false) (htracked : s.bus.tracked = some m) (hhigh : m < rq.src) :
    exec (.discover t rq (.request 0 w)) s = .next ((s.atServer t rq).answeredAs rq 13 .notManager []) :=
  (h.performs_heartbeat hmode hturn).exec_of_answer (heartbeatIn_of_higher (s := s.atServer t rq) hmanager htracked hhigh) rfl h.room

theorem exec_heartbeat_of_manager_higher {s : State} {t w : Nat} {rq : Req} (h : s.Reached t rq)
    (hmode : s.obj Obj.FB_AUTH_MODE ≠ 1) (hturn : rq.waiting < 16) (hmanager : s.bus.manager = true) (hhigh : s.bus.addr < rq.src) :
    exec (.discover t rq (.request 0 w)) s = .next (s.atServer t rq) :=
  (h.performs_heartbeat hmode hturn).exec_of_silence (heartbeatIn_of_manager_higher (s := s.atServer t rq) hmanager hhigh) rfl

/-- A field-bus update commutes with what logging can change. -/
theorem State.logsOnly_modBus {s u : State} (h : s.logsOnly u) (f : Bus → Bus) : (s.modBus f).logsOnly (u.modBus f) := by
  rw [h]; rfl

/-- The field bus of a manager that yields to another. -/
def Bus.yielded (b : Bus) (a now : Nat) : Bus := { b with manager := false, tracked := some a, heardAt := now }

theorem track_logsOnly (a : Nat) (s : State) :
    (s.modBus fun b => b.yielded a s.now).logsOnly (track a (s.modBus fun b => { b with manager := false })) := rfl

/-- Yielding moves the role, the tracked manager and the event log (R535). -/
theorem yieldRole_logsOnly (a : Nat) (s : State) : (s.modBus fun b => b.yielded a s.now).logsOnly (yieldRole a s) := by
  have hconflict := State.logsOnly_modBus (State.ev_logsOnly s Ev.MANAGER_CONFLICT [a]) fun b => b.yielded a s.now
  have htrack := track_logsOnly a (s.ev Ev.MANAGER_CONFLICT [a])
  rw [State.ev_now] at htrack
  exact State.logsOnly_trans hconflict (State.logsOnly_trans htrack (State.ev_logsOnly _ Ev.ROLE_CHANGED [0, 2]))

theorem yieldRole_objsBut (a : Nat) (s : State) : s.objsBut (yieldRole a s) logObjs := by
  have htrack (x : State) : x.objsBut (track a (x.modBus fun b => { b with manager := false })) logObjs :=
    State.objsBut_of_dict rfl _
  exact State.objsBut_trans (State.ev_objsBut s Ev.MANAGER_CONFLICT [a])
    (State.objsBut_trans (htrack _) (State.ev_objsBut _ Ev.ROLE_CHANGED [0, 2]))

@[simp] theorem yieldRole_lastManager (a : Nat) (s : State) : (yieldRole a s).island.lastManager = a :=
  State.ev_lastManager _ _ _

theorem State.atServer_objsBut (s : State) (t : Nat) (rq : Req) : s.objsBut (s.atServer t rq) [(Obj.FB_FRAMES_RX, 0)] :=
  State.objsBut_bump s Obj.FB_FRAMES_RX 0 1 (by decide)

/-- What has happened at the server moves the log's counters beside that of the received frames. -/
theorem State.objsBut_of_atServer {s u : State} {t : Nat} {rq : Req} (h : (s.atServer t rq).objsBut u logObjs) :
    s.objsBut u ((Obj.FB_FRAMES_RX, 0) :: logObjs) :=
  State.objsBut_trans (State.objsBut_mono (State.atServer_objsBut s t rq) (by simp))
    (State.objsBut_mono h fun _ => List.mem_cons_of_mem _)

/-- The answer of a manager that has yielded. -/
theorem answeredAs_of_yielded {v y u : State} {a : Nat} (h : (v.modBus fun b => b.yielded a v.now).logsOnly y) {rq : Req}
    {code from0 : Nat} {st : Status} {body : Bytes} (hu : u = y.answeredAs rq code st body from0) :
    u.status = st ∧ u.bus.manager = false ∧ u.bus.tracked = some a ∧ u.bus.heardAt = v.now ∧ u.island = y.island ∧ u.dict = y.dict ∧
      u.bus.txq.length = v.bus.txq.length + 1 ∧
      u = { v with
        status := u.status, value := u.value, dict := u.dict, log := u.log, island := u.island
        bus := { v.bus with
          manager := false, tracked := some a, heardAt := v.now, answered := u.bus.answered, txq := u.bus.txq } } := by
  obtain ⟨d, l, i, rfl⟩ : ∃ d l i, y = { v.modBus fun b => b.yielded a v.now with dict := d, log := l, island := i } := ⟨_, _, _, h⟩
  subst hu
  exact ⟨rfl, rfl, rfl, rfl, rfl, rfl, List.length_append, rfl⟩

/-- A manager that hears a lower one yields and answers it as a worker (R535). -/
theorem exec_heartbeat_of_manager_lower {s : State} {t w : Nat} {rq : Req} (h : s.Reached t rq)
    (hmode : s.obj Obj.FB_AUTH_MODE ≠ 1) (hturn : rq.waiting < 16) (hmanager : s.bus.manager = true) (hlow : rq.src < s.bus.addr) :
    ∃ u, exec (.discover t rq (.request 0 w)) s = .next u ∧ u.status = .ok ∧ u.bus.manager = false ∧ u.bus.tracked = some rq.src ∧
      u.bus.heardAt = max s.now t ∧ u.island.lastManager = rq.src ∧ u.bus.txq.length = s.bus.txq.length + 1 ∧
      s.objsBut u ((Obj.FB_FRAMES_RX, 0) :: logObjs) ∧
      u = { s.atServer t rq with
        status := u.status, value := u.value, dict := u.dict, log := u.log, island := u.island
        bus := { (s.atServer t rq).bus with
          manager := false, tracked := some rq.src, heardAt := max s.now t, answered := u.bus.answered, txq := u.bus.txq } } := by
  have hyield := yieldRole_logsOnly rq.src (s.atServer t rq)
  have hexec := (h.performs_heartbeat (w := w) hmode hturn).exec_of_answer
    (heartbeatIn_of_manager_lower (s := s.atServer t rq) hmanager hlow) ((State.fixedPart_of_logsOnly hyield).trans rfl)
    (by rw [State.bus_of_logsOnly hyield]; exact h.room)
  obtain ⟨hstatus, hrole, htracked, hheard, hisland, hdict, hlen, hrest⟩ := answeredAs_of_yielded hyield rfl
  refine ⟨_, hexec, hstatus, hrole, htracked, hheard, ?_, hlen, State.objsBut_of_atServer (t := t) (rq := rq) ?_, hrest⟩
  · rw [hisland, yieldRole_lastManager]
  · exact State.objsBut_trans (yieldRole_objsBut rq.src _) (State.objsBut_of_dict hdict _)

/-! ### Responses that are received (R526, R539) -/

/-- A DISCOVER response that reaches a manager updates its sender's row after the source has been heard; a worker looks at the
address alone. -/
theorem exec_discover_response {s u : State} {t : Nat} {rq : Req} {b : DiscoverBody} (h : s.Reached t rq) (hb : ∀ k w, b ≠ .request k w)
    (hu : discoverIn rq.src b (if s.bus.manager then s.atServer t rq else s.tookFrame t) = u)
    (hkeeps : u.fixedPart = (s.advance t).fixedPart) : exec (.discover t rq b) s = .next u := by
  have hup : (s.advance t).serverUp = true := h.up
  have hdst : ¬ (rq.dst ≠ s.bus.addr ∧ rq.dst ≠ 127) := by have := h.dst; omega
  have hserve : serveDiscover rq b (s.advance t) = u := by
    have haddr : rq.src ≠ (s.atBus t).bus.addr := h.src
    rw [← hu]
    cases hmanager : s.bus.manager
    · have hmanager' : (s.tookFrame t).bus.manager = false := hmanager
      simp [serveDiscover, hup, h.bus, hdst, busReady_advance_of_busQuiet h.quiet, frameTaken_of_dst h.dst h.src, haddr, hmanager']
    · have hmanager' : (s.tookFrame t).bus.manager = true := hmanager
      have haddr' : rq.src ≠ (s.tookFrame t).bus.addr := h.src
      simp [serveDiscover, hup, h.bus, hdst, busReady_advance_of_busQuiet h.quiet, frameTaken_of_dst h.dst h.src, haddr, haddr',
        hmanager', authCheck, h.plain, heardFrom_tookFrame]
  change doneIf (reqWf rq) t s _ = _
  rw [doneIf_true _ _ _ _ h.wf]
  cases b with
  | request k w => exact absurd rfl (hb k w)
  | response => exact congrArg _ (State.after_eq hserve hkeeps)

theorem fin_ofNat_val (m : Fin 64) : Fin.ofNat 64 m.val = m := Fin.ext (Nat.mod_eq_of_lt m.isLt)

theorem discoverIn_of_worker {s : State} {a : Nat} {b : DiscoverBody} (hmanager : s.bus.manager = false) (hself : a ≠ s.bus.addr) :
    discoverIn a b s = s := by
  cases b <;> simp [discoverIn, hmanager, hself]

/-- A row that no response of this serial number brings into conflict. -/
theorem row_meets {r : Member} {serial : Nat} (h : r.st = .absent ∨ (r.st ≠ .conflict ∧ r.serial = serial)) :
    r.st ≠ .conflict ∧ ¬ (r.st ≠ .absent ∧ r.serial ≠ serial) := by
  obtain h | ⟨hst, hserial⟩ := h
  · simp [h]
  · simp [hst, hserial]

section
variable {s : State} {m : Fin 64} {serial rev pwr att seq ts : Nat} {cap mg safe join leaving : Bool}
variable (hmanager : s.bus.manager = true) (hself : m.val ≠ s.bus.addr)
include hmanager hself

/-- A second serial number under a known address is a conflict (R526). -/
theorem discoverIn_of_conflict (hst : s.bus.members[m].st = .present ∨ s.bus.members[m].st = .asleep)
    (hserial : s.bus.members[m].serial ≠ serial) :
    discoverIn m.val (.response serial rev pwr cap mg safe join leaving att seq ts) s =
      (modMember m (fun r => { r with st := .conflict, misses := 0, answered := true }) s).ev Ev.ADDR_CONFLICT
        ([m.val] ++ p64 s.bus.members[m].serial ++ p64 serial) := by
  have hopen : ¬ ((!s.bus.manager) = true ∨ m.val ≥ 64) := by simp [hmanager]
  have hknown : s.bus.members[m].st ≠ .conflict ∧ s.bus.members[m].st ≠ .absent := by
    obtain hst | hst := hst <;> simp only [hst, ne_eq, reduceCtorEq, not_false_eq_true, and_self]
  simp only [discoverIn, fin_ofNat_val, if_neg hself, if_neg hopen, if_neg hknown.1, if_pos (And.intro hknown.2 hserial)]

theorem discoverIn_of_leaving
    (hst : s.bus.members[m].st = .absent ∨ (s.bus.members[m].st ≠ .conflict ∧ s.bus.members[m].serial = serial)) :
    discoverIn m.val (.response serial rev pwr cap mg safe join true att seq ts) s =
      (modMember m (fun _ => { rowPresent serial rev pwr cap safe att seq (s.devTime / secU) with st := .asleep }) s).ev
        Ev.WORKER_LEFT [m.val, 2] := by
  have hopen : ¬ ((!s.bus.manager) = true ∨ m.val ≥ 64) := by simp [hmanager]
  obtain ⟨hconflict, hserial⟩ := row_meets hst
  simp only [discoverIn, fin_ofNat_val, if_neg hself, if_neg hopen, if_neg hconflict, if_neg hserial, if_true, memberOfBody, rowPresent]

/-- The row of a response that neither leaves nor conflicts becomes Present, which is logged where it was not. -/
theorem discoverIn_of_present (hsubs : s.bus.subs = [])
    (hst : s.bus.members[m].st = .absent ∨ (s.bus.members[m].st ≠ .conflict ∧ s.bus.members[m].serial = serial)) :
    discoverIn m.val (.response serial rev pwr cap mg safe join false att seq ts) s =
      if s.bus.members[m].st = .present then modMember m (fun _ => rowPresent serial rev pwr cap safe att seq (s.devTime / secU)) s
      else (modMember m (fun _ => rowPresent serial rev pwr cap safe att seq (s.devTime / secU)) s).ev Ev.WORKER_JOINED
        ([m.val] ++ p64 serial) := by
  have hopen : ¬ ((!s.bus.manager) = true ∨ m.val ≥ 64) := by simp [hmanager]
  have hsubs' (f : Member → Member) : (modMember m f s).bus.subs = [] := hsubs
  obtain ⟨hconflict, hserial⟩ := row_meets hst
  simp only [discoverIn, fin_ofNat_val, if_neg hself, if_neg hopen, if_neg hconflict, if_neg hserial, memberOfBody, Bool.false_eq_true,
    if_false, rowPresent, apply_ite State.bus, State.ev_bus, ite_self, hsubs', List.foldl_nil]

end

theorem State.fixedPart_modBus (s : State) (f : Bus → Bus) : (s.modBus f).fixedPart = s.fixedPart := rfl

/-- An update of the field bus, and then what logging can change. -/
theorem State.eq_of_modBus_logsOnly {v u : State} {f : Bus → Bus} (h : (v.modBus f).logsOnly u) :
    u.bus = f v.bus ∧ u = { v with dict := u.dict, log := u.log, island := u.island, bus := u.bus } := by
  have hbus : u.bus = f v.bus := State.bus_of_logsOnly h
  exact ⟨hbus, by rw [hbus]; exact h⟩

/-- What a response does to its sender's row, the rows of the others and the event log. -/
theorem exec_discover_response_row {s v u : State} {t : Nat} {rq : Req} {m : Fin 64} {row : Member} {b : DiscoverBody}
    (h : s.Reached t rq) (hmanager : s.bus.manager = true) (hm : m.val = rq.src) (hv : v = s.atServer t rq) (hb : ∀ k w, b ≠ .request k w)
    (hu : discoverIn m.val b v = u)
    (hlogs : (modMember m (fun _ => row) v).logsOnly u) (hobjs : v.objsBut u logObjs) :
    exec (.discover t rq b) s = .next u ∧ u.bus = { v.bus with members := s.bus.members.set m row } ∧
      s.objsBut u ((Obj.FB_FRAMES_RX, 0) :: logObjs) ∧
      u = { v with dict := u.dict, log := u.log, island := u.island, bus := u.bus } := by
  subst hv
  obtain ⟨hbus, hrest⟩ := State.eq_of_modBus_logsOnly hlogs
  refine ⟨exec_discover_response h hb ?_ ?_, hbus, State.objsBut_of_atServer hobjs, hrest⟩
  · rw [hmanager, if_pos rfl, ← hm, hu]
  · exact (State.fixedPart_of_logsOnly hlogs).trans rfl

/-- Device time is read from the instant, the time engine and the slew rate alone (R441). -/
theorem State.devTime_congr {s u : State} (hnow : u.now = s.now) (htime : u.time = s.time)
    (hslew : u.obj Obj.TIME_SLEW_NS_PER_S = s.obj Obj.TIME_SLEW_NS_PER_S) : u.devTime = s.devTime := by
  simp only [State.devTime, State.devTimeAt, State.deltaAtTime, hnow, htime, hslew]

theorem State.devTime_atServer (s : State) (t : Nat) (rq : Req) : (s.atServer t rq).devTime = (s.advance t).devTime :=
  State.devTime_congr rfl rfl (State.obj_atServer s t rq (by decide))

theorem modMember_logsOnly (m : Fin 64) (f : Member → Member) (s : State) :
    (modMember m (fun _ => f s.bus.members[m]) s).logsOnly (modMember m f s) := rfl

/-- A worker discards a response of another node (R539). -/
theorem exec_discover_response_of_worker {s : State} {t : Nat} {rq : Req} {b : DiscoverBody} (h : s.Reached t rq)
    (hb : ∀ k w, b ≠ .request k w) (hmanager : s.bus.manager = false) :
    exec (.discover t rq b) s = .next ((s.atFrame t).bump Obj.FB_FRAMES_RX) := by
  refine exec_discover_response h hb ?_ rfl
  rw [hmanager, if_neg Bool.false_ne_true]
  exact discoverIn_of_worker (s := s.tookFrame t) hmanager h.src

section
variable {s v : State} {t : Nat} {rq : Req} {m : Fin 64} {serial rev pwr att seq ts : Nat} {cap mg safe join leaving : Bool}
variable (h : s.Reached t rq) (hmanager : s.bus.manager = true) (hm : m.val = rq.src) (hv : v = s.atServer t rq)
include h hmanager hm hv

theorem exec_discover_response_of_conflict (hst : s.bus.members[m].st = .present ∨ s.bus.members[m].st = .asleep)
    (hserial : s.bus.members[m].serial ≠ serial) :
    ∃ u, exec (.discover t rq (.response serial rev pwr cap mg safe join leaving att seq ts)) s = .next u ∧
      u.bus = { v.bus with members := s.bus.members.set m { s.bus.members[m] with st := .conflict, misses := 0, answered := true } } ∧
      s.objsBut u ((Obj.FB_FRAMES_RX, 0) :: logObjs) ∧
      u = { v with dict := u.dict, log := u.log, island := u.island, bus := u.bus } := by
  have hself : m.val ≠ s.bus.addr := hm ▸ h.src
  subst hv
  exact ⟨_, exec_discover_response_row h hmanager hm rfl (fun _ _ => DiscoverBody.noConfusion)
    (discoverIn_of_conflict (s := s.atServer t rq) hmanager hself hst hserial)
    (State.logsOnly_trans (modMember_logsOnly _ _ _) (State.ev_logsOnly _ _ _)) (State.ev_objsBut _ _ _)⟩

theorem exec_discover_response_of_leaving
    (hst : s.bus.members[m].st = .absent ∨ (s.bus.members[m].st ≠ .conflict ∧ s.bus.members[m].serial = serial)) :
    ∃ u, exec (.discover t rq (.response serial rev pwr cap mg safe join true att seq ts)) s = .next u ∧
      u.bus = { v.bus with members := (s.bus.members.set m
        { rowPresent serial rev pwr cap safe att seq ((s.advance t).devTime / secU) with st := .asleep }) } ∧
      s.objsBut u ((Obj.FB_FRAMES_RX, 0) :: logObjs) ∧
      u = { v with dict := u.dict, log := u.log, island := u.island, bus := u.bus } := by
  have hself : m.val ≠ s.bus.addr := hm ▸ h.src
  subst hv
  rw [← State.devTime_atServer s t rq]
  exact ⟨_, exec_discover_response_row h hmanager hm rfl (fun _ _ => DiscoverBody.noConfusion)
    (discoverIn_of_leaving (s := s.atServer t rq) hmanager hself hst) (State.ev_logsOnly _ _ _) (State.ev_objsBut _ _ _)⟩

theorem exec_discover_response_of_present (hsubs : s.bus.subs = [])
    (hst : s.bus.members[m].st = .absent ∨ (s.bus.members[m].st ≠ .conflict ∧ s.bus.members[m].serial = serial)) :
    ∃ u, exec (.discover t rq (.response serial rev pwr cap mg safe join false att seq ts)) s = .next u ∧
      u.bus = { v.bus with members := s.bus.members.set m (rowPresent serial rev pwr cap safe att seq ((s.advance t).devTime / secU)) } ∧
      s.objsBut u ((Obj.FB_FRAMES_RX, 0) :: logObjs) ∧
      (s.bus.members[m].st = .present → u.log = v.log ∧ u.island = s.island) ∧
      u = { v with dict := u.dict, log := u.log, island := u.island, bus := u.bus } := by
  have hself : m.val ≠ s.bus.addr := hm ▸ h.src
  have hsubs' : (s.atServer t rq).bus.subs = [] := by simp [State.atServer, State.atFrame, State.atBus, hsubs]
  have hrow := discoverIn_of_present (s := s.atServer t rq) (rev := rev) (pwr := pwr) (att := att) (seq := seq) (ts := ts) (cap := cap)
    (mg := mg) (safe := safe) (join := join) hmanager hself hsubs' hst
  subst hv
  rw [← State.devTime_atServer s t rq]
  by_cases hpresent : (s.atServer t rq).bus.members[m].st = .present
  · rw [if_pos hpresent] at hrow
    obtain ⟨hexec, hbus, hobjs, hrest⟩ := exec_discover_response_row h hmanager hm rfl (fun _ _ => DiscoverBody.noConfusion)
      hrow (State.logsOnly_refl _) (State.objsBut_refl _ _)
    exact ⟨_, hexec, hbus, hobjs, fun _ => ⟨rfl, rfl⟩, hrest⟩
  · rw [if_neg hpresent] at hrow
    obtain ⟨hexec, hbus, hobjs, hrest⟩ := exec_discover_response_row h hmanager hm rfl (fun _ _ => DiscoverBody.noConfusion)
      hrow (State.ev_logsOnly _ _ _) (State.ev_objsBut _ _ _)
    exact ⟨_, hexec, hbus, hobjs, fun hst => absurd hst hpresent, hrest⟩

end

/-! ### Heartbeats over time (R538, R539) -/

/-- A row that has answered, or that is neither Present nor in Conflict, has missed nothing. -/
theorem missRow_logsOnly (s : State) (a : Fin 64) :
    (s.modBus fun b => { b with members := vmod b.members a rowMissed }).logsOnly (missRow s a) := by
  have hrow (f : Member → Member) (h : rowMissed s.bus.members[a] = f s.bus.members[a]) :
      (s.modBus fun b => { b with members := vmod b.members a rowMissed }) = modMember a f s := by
    simp only [modMember, State.modBus, vmod, h]
  by_cases hkeep : s.bus.members[a].answered = true ∨ (s.bus.members[a].st ≠ .present ∧ s.bus.members[a].st ≠ .conflict)
  · have hsame : vmod s.bus.members a rowMissed = s.bus.members := by
      rw [vmod, rowMissed, if_pos hkeep]
      exact Vector.set_getElem_self _
    rw [missRow, if_pos hkeep, State.modBus, hsame]
    rfl
  · by_cases hthird : 2 ≤ s.bus.members[a].misses
    · rw [hrow (fun r => { r with st := .absent, misses := 3, answered := true }) ((if_neg hkeep).trans (if_pos hthird)), missRow,
        if_neg hkeep, if_pos (Nat.succ_le_succ hthird)]
      exact State.ev_logsOnly _ _ _
    · rw [hrow (fun r => { r with misses := r.misses + 1, answered := true }) ((if_neg hkeep).trans (if_neg hthird)), missRow,
        if_neg hkeep, if_neg (by omega)]
      rfl

theorem missRow_objsBut (s : State) (a : Fin 64) : s.objsBut (missRow s a) logObjs := by
  simp only [missRow]
  split
  · exact State.objsBut_refl _ _
  · split
    · exact State.objsBut_trans (State.objsBut_of_dict rfl _) (State.ev_objsBut _ _ _)
    · exact State.objsBut_of_dict rfl _

/-- Updates of several rows leave the other rows, and update each row once. -/
theorem getElem_foldl_vmod {α : Type} {n : Nat} (f : α → α) {l : List (Fin n)} (hl : l.Nodup) (v : Vector α n) (a : Fin n) :
    (l.foldl (fun v i => vmod v i f) v)[a] = if a ∈ l then f v[a] else v[a] := by
  induction hl generalizing v with
  | nil => rfl
  | @cons i l hi _ ih =>
    rw [List.foldl_cons, ih]
    by_cases ha : a = i
    · subst ha
      have hnot : a ∉ l := fun hmem => hi a hmem rfl
      simp only [hnot, if_false, List.mem_cons_self, if_true, vmod_get]
    · simp only [List.mem_cons, ha, false_or, vmod_get_ne v i a f ha]

theorem foldl_missRow_logsOnly (l : List (Fin 64)) (s : State) :
    (s.modBus fun b => { b with members := l.foldl (fun v a => vmod v a rowMissed) b.members }).logsOnly (l.foldl missRow s) := by
  induction l generalizing s with
  | nil => rfl
  | cons a l ih =>
    have hstep := State.logsOnly_modBus (missRow_logsOnly s a) fun b =>
      { b with members := l.foldl (fun v a => vmod v a rowMissed) b.members }
    exact State.logsOnly_trans hstep (ih (missRow s a))

/-- The membership table 1 s after a heartbeat. -/
def missedRows (v : Vector Member 64) : Vector Member 64 := (fins 64).foldl (fun v a => vmod v a rowMissed) v

theorem getElem_missedRows (v : Vector Member 64) (a : Fin 64) : (missedRows v)[a] = rowMissed v[a] :=
  (getElem_foldl_vmod rowMissed (List.nodup_finRange 64) v a).trans (if_pos (List.mem_finRange a))

/-- 1 s after a heartbeat every row that has not answered has missed it (R539). -/
theorem heartbeatMiss_due {s : State} {h : Nat} (hat : s.bus.heartbeatAt = some h) (hdue : h + tickS ≤ s.now)
    (hup : s.serverUp = true) (hmanager : s.bus.manager = true) :
    (s.modBus fun b => { b with heartbeatAt := none, members := missedRows b.members }).logsOnly (heartbeatMiss s) ∧
      s.objsBut (heartbeatMiss s) logObjs := by
  have hmiss : heartbeatMiss s = (fins 64).foldl missRow (s.modBus fun b => { b with heartbeatAt := none }) := by
    simp only [heartbeatMiss, hat, hup, hmanager, ge_iff_le, hdue, and_self, if_true]
  have hobjs : s.objsBut (s.modBus fun b => { b with heartbeatAt := none }) logObjs := State.objsBut_of_dict rfl _
  rw [hmiss]
  unfold missedRows
  generalize fins 64 = l
  exact ⟨foldl_missRow_logsOnly l _, State.objsBut_trans hobjs (foldl_objsBut _ _ missRow_objsBut l _)⟩

theorem heartbeatMiss_early {s : State} {h : Nat} (hat : s.bus.heartbeatAt = some h) (hearly : s.now < h + tickS) :
    heartbeatMiss s = s := by
  simp [heartbeatMiss, hat, Nat.not_le.2 hearly]

theorem heartbeatMiss_of_none {s : State} (hat : s.bus.heartbeatAt = none) : heartbeatMiss s = s := by
  simp [heartbeatMiss, hat]

/-- An effect of the bus, under the command that runs it. -/
theorem done_next {s u : State} {t : Nat} {f : State → State} (hf : f (s.advance t) = u)
    (hkeeps : u.fixedPart = (s.advance t).fixedPart) : done t s f = .next u := by
  rw [done_eq, State.after_eq hf hkeeps]

theorem exec_heartbeatMiss_early {s : State} {t h : Nat} (hat : s.bus.heartbeatAt = some h) (hearly : max s.now t < h + tickS) :
    exec (.heartbeatMiss t) s = .next (s.advance t) :=
  done_next (heartbeatMiss_early (s := s.advance t) hat hearly) rfl

theorem exec_heartbeatMiss_due {s : State} {t h : Nat} (hat : s.bus.heartbeatAt = some h) (hdue : h + tickS ≤ max s.now t)
    (hup : s.serverUp = true) (hmanager : s.bus.manager = true) :
    ∃ u, exec (.heartbeatMiss t) s = .next u ∧ (∀ a : Fin 64, u.bus.members[a] = rowMissed s.bus.members[a]) ∧ s.objsBut u logObjs ∧
      u = { s with
        now := max s.now t, dict := u.dict, log := u.log, island := u.island
        bus := { s.bus with heartbeatAt := none, members := u.bus.members } } := by
  obtain ⟨hlogs, hobjs⟩ := heartbeatMiss_due (s := s.advance t) hat hdue hup hmanager
  obtain ⟨hbus, hrest⟩ := State.eq_of_modBus_logsOnly hlogs
  refine ⟨heartbeatMiss (s.advance t), done_next rfl ?_, fun a => ?_, hobjs, ?_⟩
  · exact (State.fixedPart_of_logsOnly hlogs).trans (State.fixedPart_modBus _ _)
  · rw [hbus]
    exact getElem_missedRows s.bus.members a
  · refine hrest.trans ?_
    rw [hbus]
    rfl

/-- A message of the package's own without a code joins the queue (R540-R542). -/
theorem sendOwn_eq_sends {s : State} (svc dst : Nat) (body : Bytes) (hroom : s.bus.txq.length < 32) :
    sendOwn none false svc dst body s = s.sends svc dst body := by
  simp [sendOwn, nextTxn, mkMsg, ownHdr, pushMsg, pushBus, State.modBus, State.sends, ownMsg, Nat.not_le.2 hroom]

/-- The bus at a heartbeat: every Present row and every row in Conflict is awaited (R538, R539). -/
def Bus.awaiting (b : Bus) (now : Nat) : Bus :=
  { b with
    heartbeatAt := some now
    members := b.members.map fun r => if r.st = .present ∨ r.st = .conflict then { r with answered := false } else r }

theorem heartbeat_of_not {s : State} (h : s.serverUp = false ∨ s.bus.manager = false ∨ wholeSecond s = false) : heartbeat s = s := by
  obtain h | h | h := h <;> simp [heartbeat, h]

theorem exec_heartbeat_of_not {s : State} {t : Nat}
    (h : s.serverUp = false ∨ s.bus.manager = false ∨ wholeSecond (s.advance t) = false) : exec (.heartbeat t) s = .next (s.advance t) :=
  done_next (heartbeat_of_not h) rfl

theorem exec_heartbeat {s : State} {t : Nat} (hup : s.serverUp = true) (hmanager : s.bus.manager = true)
    (hidle : s.bus.sendAt = none) (hat : s.bus.heartbeatAt = none) (hroom : s.bus.txq.length < 32) (hmode : s.obj Obj.FB_AUTH_MODE ≠ 1)
    (hsecond : wholeSecond (s.advance t) = true) :
    exec (.heartbeat t) s = .next (State.sends ((s.atBus t).modBus fun b => b.awaiting (max s.now t)) 13 127
      ([0, 0, 0, 0] ++ beBytes 10 (time80 (s.advance t).devTime))) := by
  have hready : busReady (s.advance t) = s.atBus t := busReady_advance_of_busQuiet ⟨hidle, .inl hmanager⟩ t
  have hat' : (s.atBus t).bus.heartbeatAt = none := hat
  have hgo : ¬ ((!(s.advance t).serverUp || !(s.advance t).bus.manager || !wholeSecond (s.advance t)) = true) := by
    simp [show (s.advance t).serverUp = true from hup, hmanager, hsecond]
  have hplain : (((s.atBus t).modBus fun b => b.awaiting (max s.now t)).obj Obj.FB_AUTH_MODE == 1) = false :=
    beq_eq_false_iff_ne.2 hmode
  have hroom' : ((s.atBus t).modBus fun b => b.awaiting (max s.now t)).bus.txq.length < 32 := hroom
  have htime : ((s.atBus t).modBus fun b => b.awaiting (max s.now t)).devTime = (s.advance t).devTime :=
    State.devTime_congr rfl rfl rfl
  refine done_next ?_ rfl
  rw [heartbeat, if_neg hgo, hready, heartbeatMiss_of_none hat', ← htime]
  exact (congrArg (sendOwn none · 0x0D 127 _ _) hplain).trans (sendOwn_eq_sends _ _ _ hroom')

/-! ### The role over time (R535, R540) -/

theorem managerLost_early {s : State} {m : Nat} (htracked : s.bus.tracked = some m) (hearly : s.now < s.bus.heardAt + 3 * tickS) :
    managerLost s = s := by
  simp [managerLost, htracked, hearly]

/-- The bus of a package that takes the role (R535, R539). -/
def Bus.leading (b : Bus) : Bus :=
  { b with tracked := none, manager := true, members := Vector.replicate 64 Member.init, heartbeatAt := none }

theorem takeRole_logsOnly (cause : Nat) (s : State) : (s.modBus Bus.leading).logsOnly (takeRole cause s) :=
  State.ev_logsOnly (s.modBus Bus.leading) Ev.ROLE_CHANGED [1, cause]

theorem takeRole_objsBut (cause : Nat) (s : State) : s.objsBut (takeRole cause s) logObjs := by
  have hrole : s.objsBut (s.modBus Bus.leading) logObjs := State.objsBut_of_dict rfl _
  exact State.objsBut_trans hrole (State.ev_objsBut (s.modBus Bus.leading) Ev.ROLE_CHANGED [1, cause])

/-- What a lost manager leaves of the bus: a manager-capable package takes the role (R540). -/
def Bus.bereft (b : Bus) : Bus := if b.mgrCapable then b.leading else { b with tracked := none }

/-- A manager is lost at a package whose bus is ready. -/
def loseManager (m : Nat) (s : State) : State :=
  let s := (s.ev Ev.MANAGER_LOST [m]).modBus fun b => { b with tracked := none }
  if s.bus.mgrCapable then takeRole 3 s else s

theorem loseManager_spec (m : Nat) (s : State) :
    (s.modBus Bus.bereft).logsOnly (loseManager m s) ∧ s.objsBut (loseManager m s) logObjs := by
  have hlogs (f : Bus → Bus) : (s.modBus f).logsOnly ((s.ev Ev.MANAGER_LOST [m]).modBus f) :=
    State.logsOnly_modBus (State.ev_logsOnly s Ev.MANAGER_LOST [m]) f
  have hlost : s.objsBut ((s.ev Ev.MANAGER_LOST [m]).modBus fun b => { b with tracked := none }) logObjs :=
    State.objsBut_trans (State.ev_objsBut s Ev.MANAGER_LOST [m]) (State.objsBut_of_dict rfl _)
  have hcap : ((s.ev Ev.MANAGER_LOST [m]).modBus fun b => { b with tracked := none }).bus.mgrCapable = s.bus.mgrCapable := by
    simp only [State.modBus, State.ev_bus]
  simp only [loseManager, hcap]
  by_cases hcapable : s.bus.mgrCapable = true
  · have hbus : s.modBus Bus.bereft = s.modBus Bus.leading := by simp only [State.modBus, Bus.bereft, hcapable, if_true]
    rw [if_pos hcapable, hbus]
    exact ⟨State.logsOnly_trans (hlogs Bus.leading) (takeRole_logsOnly 3 _), State.objsBut_trans hlost (takeRole_objsBut 3 _)⟩
  · have hbus : s.modBus Bus.bereft = s.modBus fun b => { b with tracked := none } := by
      simp only [State.modBus, Bus.bereft, if_neg hcapable]
    rw [if_neg hcapable, hbus]
    exact ⟨hlogs _, hlost⟩

theorem managerLost_due {s : State} {m : Nat} (htracked : s.bus.tracked = some m) (hdue : s.bus.heardAt + 3 * tickS ≤ s.now)
    (hup : s.serverUp = true) (hmanager : s.bus.manager = false) : managerLost s = loseManager m (busReady s) := by
  have hgo : ¬ ((!s.serverUp) = true ∨ s.bus.manager = true ∨ s.now < s.bus.heardAt + 3 * tickS) := by simp [hup, hmanager, hdue]
  simp only [managerLost, htracked, if_neg hgo, loseManager]

theorem exec_managerLost_early {s : State} {t m : Nat} (htracked : s.bus.tracked = some m)
    (hearly : max s.now t < s.bus.heardAt + 3 * tickS) : exec (.managerLost t) s = .next (s.advance t) :=
  done_next (managerLost_early (s := s.advance t) htracked hearly) rfl

/-- An outcome of the quiet bus: an update of the field bus, and what logging can change. -/
theorem next_of_atBus {s v u : State} {t : Nat} {g : Bus → Bus} {f : State → State} (hv : v = s.atBus t) (hf : f (s.advance t) = u)
    (hlogs : (v.modBus g).logsOnly u) (hobjs : v.objsBut u logObjs) :
    done t s f = .next u ∧ s.objsBut u logObjs ∧ u.bus = g v.bus ∧
      u = { v with dict := u.dict, log := u.log, island := u.island, bus := u.bus } := by
  subst hv
  have hready : s.objsBut (s.atBus t) logObjs := State.objsBut_of_dict rfl _
  obtain ⟨hbus, hrest⟩ := State.eq_of_modBus_logsOnly hlogs
  exact ⟨done_next hf ((State.fixedPart_of_logsOnly hlogs).trans (State.fixedPart_modBus _ _)), State.objsBut_trans hready hobjs, hbus,
    hrest⟩

theorem exec_managerLost_due {s v : State} {t m : Nat} (htracked : s.bus.tracked = some m)
    (hdue : s.bus.heardAt + 3 * tickS ≤ max s.now t) (hup : s.serverUp = true) (hmanager : s.bus.manager = false) (hquiet : s.busQuiet)
    (hv : v = s.atBus t) :
    ∃ u, exec (.managerLost t) s = .next u ∧ s.objsBut u logObjs ∧ u.bus = v.bus.bereft ∧
      u = { v with dict := u.dict, log := u.log, island := u.island, bus := u.bus } := by
  have hlost : managerLost (s.advance t) = loseManager m v := by
    rw [managerLost_due (s := s.advance t) htracked hdue hup hmanager, busReady_advance_of_busQuiet hquiet, hv]
  obtain ⟨hlogs, hobjs⟩ := loseManager_spec m v
  exact ⟨_, next_of_atBus hv hlost hlogs hobjs⟩

theorem managerRoleTimeout_not {s : State}
    (h : s.bus.mgrCapable = false ∨ s.bus.manager = true ∨ lowerHeard s.bus = true ∨ s.now < s.pwr.freshAt + 3 * tickS) :
    managerRoleTimeout s = s := by
  have hnot : ¬ ((s.serverUp && s.bus.mgrCapable && !s.bus.manager && !lowerHeard s.bus &&
      decide (s.now ≥ s.pwr.freshAt + 3 * tickS)) = true) := by
    obtain h | h | h | h := h
    · simp [h]
    · simp [h]
    · simp [h]
    · simp [Nat.not_le.2 h]
  rw [managerRoleTimeout, if_neg hnot]

theorem exec_managerRoleTimeout_not {s : State} {t : Nat} (h : s.bus.mgrCapable = false ∨ s.bus.manager = true ∨
    lowerHeard s.bus = true ∨ max s.now t < s.pwr.freshAt + 3 * tickS) : exec (.managerRoleTimeout t) s = .next (s.advance t) :=
  done_next (managerRoleTimeout_not (s := s.advance t) h) rfl

theorem exec_managerRoleTimeout_due {s v : State} {t : Nat} (hup : s.serverUp = true) (hcapable : s.bus.mgrCapable = true)
    (hmanager : s.bus.manager = false) (hlower : lowerHeard s.bus = false) (hdue : s.pwr.freshAt + 3 * tickS ≤ max s.now t)
    (hquiet : s.busQuiet) (hv : v = s.atBus t) :
    ∃ u, exec (.managerRoleTimeout t) s = .next u ∧ s.objsBut u logObjs ∧ u.bus = v.bus.leading ∧
      u = { v with dict := u.dict, log := u.log, island := u.island, bus := u.bus } := by
  have hgo : ((s.advance t).serverUp && (s.advance t).bus.mgrCapable && !(s.advance t).bus.manager && !lowerHeard (s.advance t).bus &&
      decide ((s.advance t).now ≥ (s.advance t).pwr.freshAt + 3 * tickS)) = true := by
    have hup' : (s.advance t).serverUp = true := hup
    have hdue' : decide ((s.advance t).now ≥ (s.advance t).pwr.freshAt + 3 * tickS) = true := decide_eq_true hdue
    simp only [hup', State.advance_bus, hcapable, hmanager, hlower, hdue', Bool.not_false, Bool.and_self]
  have htake : managerRoleTimeout (s.advance t) = takeRole 1 v := by
    rw [managerRoleTimeout, if_pos hgo, busReady_advance_of_busQuiet hquiet, hv]
  exact ⟨_, next_of_atBus hv htake (takeRole_logsOnly 1 v) (takeRole_objsBut 1 v)⟩

/-! ### The obligation -/

/-- Settles O54, clause by clause: a DISCOVER by its kind and the role of the package, a heartbeat by who sent it, and the
timers by what is due of the manager and of the tracked one. -/
theorem managersWorkersAndTheirRows : Obligations.ManagersWorkersAndTheirRows := by
  unfold Obligations.ManagersWorkersAndTheirRows
  refine ⟨fun s t rq w h => exec_query h, fun s t rq k w h hk => exec_discover_of_kind h hk, ?_, ?_, ?_, ?_, ?_, ?_, ?_, ?_,
    fun s t h => exec_heartbeat_of_not h, ?_, fun s t h hat hearly => exec_heartbeatMiss_early hat hearly,
    fun s t h hat hdue hup hmanager => exec_heartbeatMiss_due hat hdue hup hmanager,
    fun s t m htracked hearly => exec_managerLost_early htracked hearly, ?_, ?_, fun s t h => exec_managerRoleTimeout_not h⟩
  · rintro s v t rq w h hdst hmode hturn hmanager hnode hlow hrange rfl
    exact exec_heartbeat_of_tracking (State.reached_of_dst h hdst hrange) hmode hturn hmanager hnode hlow
  · intro s t rq w m h hmode hturn hmanager htracked hhigh
    exact exec_heartbeat_of_higher (State.reached_of_receives h) hmode hturn hmanager htracked hhigh
  · intro s t rq w h hmode hturn hmanager hhigh
    exact exec_heartbeat_of_manager_higher (State.reached_of_receives h) hmode hturn hmanager hhigh
  · rintro s v t rq w h hmode hturn hmanager hlow rfl
    exact exec_heartbeat_of_manager_lower (State.reached_of_receives h) hmode hturn hmanager hlow
  · intro s t rq serial rev pwr att seq ts cap mg safe join leaving h hmanager
    exact exec_discover_response_of_worker (State.reached_of_receives h) (fun _ _ => DiscoverBody.noConfusion) hmanager
  · intro s v t rq m serial rev pwr att seq ts cap mg safe join h hmanager hsubs hm hst hv
    refine exec_discover_response_of_present (State.reached_of_receives h) hmanager hm hv hsubs (hst.imp_right ?_)
    rintro ⟨hst | hst, hserial⟩
    · exact ⟨by rw [hst]; decide, hserial⟩
    · exact ⟨by rw [hst]; decide, hserial⟩
  · intro s v t rq m serial rev pwr att seq ts cap mg safe join h hmanager hm hst hv
    exact exec_discover_response_of_leaving (State.reached_of_receives h) hmanager hm hv hst
  · intro s v t rq m serial rev pwr att seq ts cap mg safe join leaving h hmanager hm hst hserial hv
    exact exec_discover_response_of_conflict (State.reached_of_receives h) hmanager hm hv hst hserial
  · rintro s v t hup hmanager hidle hat hroom hmode hsecond rfl
    exact exec_heartbeat hup hmanager hidle hat hroom hmode hsecond
  · rintro s v t m htracked hdue hup hmanager hquiet rfl
    exact exec_managerLost_due htracked hdue hup hmanager hquiet rfl
  · intro s v t hup hcapable hmanager hlower hdue hquiet hv
    exact exec_managerRoleTimeout_due hup hcapable hmanager hlower hdue hquiet hv

end Sys2Proof.Machine
end

section
/-! PROOFS. The field bus as a medium: frames sent (R523, R524), collisions (R521, R523) and frames received (R522, R525,
R526, R528). -/
namespace Sys2Proof.Machine

/-! ### Frames sent -/

/-- The bus as `fbTransmit` finds it. -/
def busNow (s : State) : State := if s.serverUp then busReady s else busSettle s

theorem busNow_of_quiet {s : State} (hup : s.serverUp = true) (hquiet : s.busQuiet) (t : Nat) :
    busNow (s.advance t) = s.atBus t :=
  (if_pos hup).trans (busReady_advance_of_busQuiet hquiet t)

/-- A frame waits while the bus is off or not free, and where no frame is due. -/
def busWaits (s : State) : Prop :=
  busOn s = false ∨ s.bus.sendAt ≠ none ∨ s.bus.backoffUntil ≠ none ∨ s.now < s.bus.freeAt + busGap ∨ dueFrame s.now s.bus = none

theorem fbTransmit_of_waits {s : State} (h : busWaits (busNow s)) : fbTransmit s = busNow s := by
  simp only [fbTransmit, busNow] at h ⊢
  generalize (if s.serverUp = true then busReady s else busSettle s) = r at h ⊢
  obtain h | h | h | h | h := h
  · simp [h]
  · simp [Option.isSome_iff_ne_none.2 h]
  · simp [Option.isSome_iff_ne_none.2 h]
  · simp [h]
  · simp [h]

theorem fbTransmit_of_due {s : State} {f : BusFrame} (hon : busOn (busNow s) = true) (hidle : (busNow s).bus.sendAt = none)
    (hback : (busNow s).bus.backoffUntil = none) (hfree : (busNow s).bus.freeAt + busGap ≤ (busNow s).now)
    (hdue : dueFrame (busNow s).now (busNow s).bus = some f) :
    fbTransmit s = (busNow s).modBus fun b =>
      { b with sending := some f, sendAt := some (busNow s).now, txq := if b.sending.isNone then b.txq.erase f else b.txq } := by
  simp only [fbTransmit, busNow] at *
  generalize (if s.serverUp = true then busReady s else busSettle s) = r at *
  simp [hon, hidle, hback, Nat.not_lt.2 hfree, hdue]

theorem busOn_of_serverUp {s : State} (h : s.serverUp = true) : busOn s = true := by
  simp [busOn, h]

theorem busSettle_of_idle {s : State} (h : s.bus.sendAt = none) : busSettle s = s := by
  simp [busSettle, h]

theorem busSettle_of_sending {s : State} {f : BusFrame} {a : Nat} (hf : s.bus.sending = some f) (ha : s.bus.sendAt = some a)
    (h : s.now < a + busTicks f.msg) : busSettle s = s := by
  simp [busSettle, hf, ha, Nat.not_le.2 h]

theorem exec_fbTransmit_of_busOff {s : State} {t : Nat} (hoff : busOn s = false) (hidle : s.bus.sendAt = none) :
    exec (.fbTransmit t) s = .next (s.advance t) := by
  have hdown : (s.advance t).serverUp = false := by
    simp only [busOn, Bool.or_eq_false_iff] at hoff
    exact hoff.1
  have hnow : busNow (s.advance t) = s.advance t := by
    rw [busNow, hdown, if_neg Bool.false_ne_true, busSettle_of_idle (s := s.advance t) hidle]
  refine done_next ((fbTransmit_of_waits (.inl ?_)).trans hnow) rfl
  rw [hnow]
  exact hoff

theorem exec_fbTransmit_of_waits {s : State} {t : Nat} (hup : s.serverUp = true) (hquiet : s.busQuiet)
    (h : s.bus.backoffUntil ≠ none ∨ max s.now t < s.bus.freeAt + busGap ∨ (s.bus.sending = none ∧ s.bus.txq = [])) :
    exec (.fbTransmit t) s = .next (s.atBus t) := by
  have hnow := busNow_of_quiet hup hquiet t
  refine done_next ((fbTransmit_of_waits ?_).trans hnow) rfl
  rw [hnow]
  obtain h | h | ⟨hsending, htxq⟩ := h
  · exact .inr (.inr (.inl h))
  · exact .inr (.inr (.inr (.inl h)))
  · refine .inr (.inr (.inr (.inr ?_)))
    simp [dueFrame, State.atBus, hsending, htxq, nextBusFrame]

/-- On a free bus the frame whose turn it is starts. -/
theorem exec_fbTransmit_of_due {s : State} {t : Nat} {f : BusFrame} (hup : s.serverUp = true) (hquiet : s.busQuiet)
    (hback : s.bus.backoffUntil = none) (hfree : s.bus.freeAt + busGap ≤ max s.now t) (hdue : dueFrame (max s.now t) s.bus = some f) :
    exec (.fbTransmit t) s = .next ((s.atBus t).modBus fun b =>
      { b with sending := some f, sendAt := some (max s.now t), txq := if b.sending.isNone then b.txq.erase f else b.txq }) := by
  have hnow := busNow_of_quiet hup hquiet t
  have hsend := fbTransmit_of_due (s := s.advance t) (f := f)
  rw [hnow] at hsend
  exact done_next (hsend (busOn_of_serverUp hup) hquiet.1 hback hfree hdue) rfl

theorem dueFrame_of_sending {now : Nat} {b : Bus} {f : BusFrame} (h : b.sending = some f) : dueFrame now b = some f := by
  simp only [dueFrame, h]

theorem dueFrame_of_urgent {now : Nat} {b : Bus} {f : BusFrame} (hidle : b.sending = none)
    (h : (b.txq.find? fun x => x.urgent && decide (x.from0 ≤ now)) = some f) : dueFrame now b = some f := by
  simp only [dueFrame, hidle, nextBusFrame, h]

/-- Where nothing answers, the oldest frame is due. -/
theorem dueFrame_of_plain {now : Nat} {b : Bus} {f : BusFrame} {l : List BusFrame} (hidle : b.sending = none) (htxq : b.txq = f :: l)
    (hplain : ((f :: l).all fun x => !x.urgent) = true) (hf : f.from0 ≤ now) : dueFrame now b = some f := by
  have hnone : ((f :: l).find? fun x => x.urgent && decide (x.from0 ≤ now)) = none := by
    refine List.find?_eq_none.2 fun x hx => ?_
    have := List.all_eq_true.1 hplain x hx
    simp_all
  simp [dueFrame, hidle, htxq, nextBusFrame, hnone, hf]

theorem log_of_unsent_nil {l : EvLog} (h : l.unsent = []) : { l with unsent := [] } = l := by
  rw [← h]

theorem drainEvents_of_unsent_nil {s : State} (h : s.log.unsent = []) : drainEvents s = s := by
  have hlog : { s with log := { s.log with unsent := [] } } = s := by rw [log_of_unsent_nil h]
  simp only [drainEvents, h, hlog]
  split
  · simp only [State.modBus, List.append_nil]
  · rfl

/-- The bus where the frame on it has ended. -/
def Bus.ended (b : Bus) (at0 : Nat) : Bus := { b with sending := none, sendAt := none, collisions := 0, freeAt := at0 }

theorem busSettle_of_end {s : State} {f : BusFrame} {a : Nat} (hf : s.bus.sending = some f) (ha : s.bus.sendAt = some a)
    (hend : a + busTicks f.msg ≤ s.now) :
    busSettle s = (s.modBus fun b => b.ended (a + busTicks f.msg)).bump Obj.FB_FRAMES_TX := by
  simp only [busSettle, hf, ha, ge_iff_le, if_pos hend]
  rfl

/-- A frame whose last bit has passed is counted, and an empty bus has nothing more to send. -/
theorem exec_fbTransmit_of_end {s : State} {t a : Nat} {f : BusFrame} (hup : s.serverUp = true) (hf : s.bus.sending = some f)
    (ha : s.bus.sendAt = some a) (hend : a + busTicks f.msg ≤ max s.now t) (htxq : s.bus.txq = []) (hunsent : s.log.unsent = []) :
    exec (.fbTransmit t) s = .next { s.atBus t with
      dict := (s.bump Obj.FB_FRAMES_TX).dict, bus := (s.atBus t).bus.ended (a + busTicks f.msg) } := by
  have hnow : busNow (s.advance t) = { s.atBus t with
      dict := (s.bump Obj.FB_FRAMES_TX).dict, bus := (s.atBus t).bus.ended (a + busTicks f.msg) } := by
    have hsettle := busSettle_of_end (s := s.advance t) hf ha hend
    have hdrain := drainEvents_of_unsent_nil (s := busSettle (s.advance t)) (by rw [hsettle]; exact hunsent)
    rw [busNow, if_pos (show (s.advance t).serverUp = true from hup), busReady, hdrain, hsettle]
    simp only [State.atBus, hunsent, List.append_nil, ite_self, log_of_unsent_nil hunsent]
    rfl
  refine done_next ((fbTransmit_of_waits ?_).trans hnow) rfl
  rw [hnow]
  refine .inr (.inr (.inr (.inr ?_)))
  simp [Bus.ended, dueFrame, State.atBus, htxq, nextBusFrame]

/-! ### Collisions -/

theorem fbCollision_of_idle {s : State} (half : Nat) (h : s.bus.sendAt = none) : fbCollision half s = s := by
  simp [fbCollision, h]

theorem collides_iff {s : State} {f : BusFrame} {a half : Nat} :
    collides s f a half = true ↔ (busLevels (busFrame s f.dst f.msg)).getD half false = true ∧
      a + (half + 1) * 5 * tickNs ≤ s.now ∧ s.now ≤ a + ((half + 1) * 5 + 20) * tickNs := by
  simp [collides, and_assoc]

section
variable {s : State} {t a half : Nat} {f : BusFrame} (hf : s.bus.sending = some f) (ha : s.bus.sendAt = some a)
include hf ha

/-- A half-cell that the frame does not drive high, or that is not the last one past, shows no collision. -/
theorem exec_fbCollision_of_not (hbusy : max s.now t < a + busTicks f.msg)
    (hnot : (busLevels (busFrame s f.dst f.msg)).getD half false = false ∨ max s.now t < a + (half + 1) * 5 * tickNs ∨
      a + ((half + 1) * 5 + 20) * tickNs < max s.now t) : exec (.fbCollision t half) s = .next (s.advance t) := by
  have hfalse : collides (s.advance t) f a half = false := by
    rw [Bool.eq_false_iff, Ne, collides_iff]
    rintro ⟨hlevel, hfrom, hto⟩
    obtain h | h | h := hnot
    · exact Bool.false_ne_true (h.symm.trans hlevel)
    · exact Nat.not_lt.2 hfrom h
    · exact Nat.not_lt.2 hto h
  refine done_next ?_ rfl
  simp only [fbCollision, State.advance_bus, hf, ha, hfalse, Bool.not_false, if_true]
  exact busSettle_of_sending (s := s.advance t) hf ha hbusy

end

/-- The counters of a collision (R523). -/
def countCollision (half : Nat) (s : State) : State :=
  if half ≥ 1024 then (s.bump Obj.FB_COLLISIONS).bump Obj.FB_LATE_COLLISIONS else s.bump Obj.FB_COLLISIONS

theorem countCollision_eq (half : Nat) (s : State) : countCollision half s = { s with dict := (countCollision half s).dict } := by
  simp only [countCollision]
  split <;> rfl

theorem countCollision_objsBut (half : Nat) (s : State) :
    s.objsBut (countCollision half s) [(Obj.FB_COLLISIONS, 0), (Obj.FB_LATE_COLLISIONS, 0)] := by
  have hcount : s.objsBut (s.bump Obj.FB_COLLISIONS) [(Obj.FB_COLLISIONS, 0), (Obj.FB_LATE_COLLISIONS, 0)] :=
    State.objsBut_mono (State.objsBut_bump s _ 0 1 (by decide)) (by simp)
  simp only [countCollision]
  split
  · exact State.objsBut_trans hcount (State.objsBut_mono (State.objsBut_bump _ _ 0 1 (by decide)) (by simp))
  · exact hcount

theorem countCollision_counted (half : Nat) (s : State) : s.counted (countCollision half s) Obj.FB_COLLISIONS 0 1 := by
  simp only [countCollision]
  split
  · exact (State.obj_setObj_other _ Obj.FB_LATE_COLLISIONS 0 _ _ _ (by decide)).trans (State.counted_bump s _ 0 1)
  · exact State.counted_bump s _ 0 1

theorem obj_bump_other (s : State) {i j a b : Nat} (n : Nat) (h : a * 256 + b ≠ i * 256 + j) : (s.bump i j n).obj a b = s.obj a b :=
  State.obj_setObj_other s i j _ a b h

theorem countCollision_late {half : Nat} (hlate : 1024 ≤ half) (s : State) :
    s.counted (countCollision half s) Obj.FB_LATE_COLLISIONS 0 1 := by
  rw [countCollision, if_pos hlate, State.counted, State.obj_bump_same, obj_bump_other s 1 (by decide)]

theorem countCollision_early {half : Nat} (hearly : half < 1024) (s : State) :
    (countCollision half s).obj Obj.FB_LATE_COLLISIONS = s.obj Obj.FB_LATE_COLLISIONS := by
  rw [countCollision, if_neg (Nat.not_le.2 hearly), obj_bump_other s 1 (by decide)]

/-- The bus after a collision that is not the sixteenth: the frame waits for `r` slot times after the jam. -/
def Bus.backsOff (b : Bus) (now r : Nat) : Bus :=
  { b with
    collisions := b.collisions + 1, sendAt := none, freeAt := now + busJam, backoffUntil := some (now + busJam + r * busSlot) }

/-- What follows the count of a collision: the sixteenth drops the frame, another draws a back-off (R523). -/
def afterCollision (f : BusFrame) (s : State) : State :=
  if s.bus.collisions + 1 ≥ 16 then dropBusFrame f s
  else (s.draw (2 ^ min (s.bus.collisions + 1) 10)).2.modBus fun b =>
    b.backsOff s.now (s.draw (2 ^ min (s.bus.collisions + 1) 10)).1

section
variable {s : State} {a half : Nat} {f : BusFrame} (hf : s.bus.sending = some f) (ha : s.bus.sendAt = some a)
  (hcollides : collides s f a half = true)
include hf ha hcollides

theorem fbCollision_seen : fbCollision half s = afterCollision f (countCollision half s) := by
  simp only [fbCollision, hf, ha, hcollides, Bool.not_true, Bool.false_eq_true, if_false]
  rfl

theorem fbCollision_of_few (hfew : s.bus.collisions + 1 < 16) :
    fbCollision half s = { s with
      dict := (countCollision half s).dict, draws := s.draws + 1
      bus := s.bus.backsOff s.now (Config.random s.draws % 2 ^ min (s.bus.collisions + 1) 10) } := by
  obtain ⟨d, hd⟩ : ∃ d, countCollision half s = { s with dict := d } := ⟨_, countCollision_eq half s⟩
  rw [fbCollision_seen hf ha hcollides, hd, afterCollision, if_neg (Nat.not_le.2 hfew)]
  rfl

theorem fbCollision_of_many (hmany : 15 ≤ s.bus.collisions) : fbCollision half s = dropBusFrame f (countCollision half s) := by
  obtain ⟨d, hd⟩ : ∃ d, countCollision half s = { s with dict := d } := ⟨_, countCollision_eq half s⟩
  rw [fbCollision_seen hf ha hcollides, hd, afterCollision, if_pos (Nat.succ_le_succ hmany)]

end

/-- What the sixteenth collision leaves of a state: the frame is gone and the drop is counted and logged (R523). -/
theorem dropBusFrame_logsOnly (f : BusFrame) (s : State) :
    (s.modBus fun b => b.ended (s.now + busJam)).logsOnly (dropBusFrame f s) :=
  State.logsOnly_trans (State.bump_logsOnly (s.modBus fun b => b.ended (s.now + busJam)) Obj.FB_EXCESS_COLLISIONS 0 1)
    (State.evOnce_logsOnly _ Ev.FB_EXCESS_COLLISIONS 0 [f.dst])

theorem dropBusFrame_obj (f : BusFrame) (s : State) {i j : Nat} (hj : j < 256) (hlog : (i, j) ∉ logObjs) :
    (dropBusFrame f s).obj i j = (s.bump Obj.FB_EXCESS_COLLISIONS).obj i j :=
  State.evOnce_objsBut ((s.modBus fun b => b.ended (s.now + busJam)).bump Obj.FB_EXCESS_COLLISIONS) Ev.FB_EXCESS_COLLISIONS 0 [f.dst]
    i j hj hlog

section
variable {s : State} {t a half : Nat} {f : BusFrame} (hf : s.bus.sending = some f) (ha : s.bus.sendAt = some a)
  (hlevel : (busLevels (busFrame s f.dst f.msg)).getD half false = true) (hfrom : a + (half + 1) * 5 * tickNs ≤ max s.now t)
  (hto : max s.now t ≤ a + ((half + 1) * 5 + 20) * tickNs)
include hf ha hlevel hfrom hto

theorem exec_fbCollision_of_few (hfew : s.bus.collisions + 1 < 16) :
    ∃ u, exec (.fbCollision t half) s = .next u ∧ s.counted u Obj.FB_COLLISIONS 0 1 ∧
      (1024 ≤ half → s.counted u Obj.FB_LATE_COLLISIONS 0 1) ∧
      (half < 1024 → u.obj Obj.FB_LATE_COLLISIONS = s.obj Obj.FB_LATE_COLLISIONS) ∧
      s.objsBut u [(Obj.FB_COLLISIONS, 0), (Obj.FB_LATE_COLLISIONS, 0)] ∧
      u = { s with
        now := max s.now t, draws := s.draws + 1, dict := u.dict
        bus := s.bus.backsOff (max s.now t) (Config.random s.draws % 2 ^ min (s.bus.collisions + 1) 10) } := by
  have hcollides : collides (s.advance t) f a half = true := collides_iff.2 ⟨hlevel, hfrom, hto⟩
  exact ⟨_, done_next (fbCollision_of_few (s := s.advance t) hf ha hcollides hfew) rfl, countCollision_counted half (s.advance t),
    fun hlate => countCollision_late hlate (s.advance t), fun hearly => countCollision_early hearly (s.advance t),
    countCollision_objsBut half (s.advance t), rfl⟩

theorem exec_fbCollision_of_many (hmany : 15 ≤ s.bus.collisions) :
    ∃ u, exec (.fbCollision t half) s = .next u ∧ s.counted u Obj.FB_COLLISIONS 0 1 ∧ s.counted u Obj.FB_EXCESS_COLLISIONS 0 1 ∧
      s.objsBut u ([(Obj.FB_COLLISIONS, 0), (Obj.FB_LATE_COLLISIONS, 0), (Obj.FB_EXCESS_COLLISIONS, 0)] ++ logObjs) ∧
      u = { s with
        now := max s.now t, dict := u.dict, log := u.log, island := u.island, bus := s.bus.ended (max s.now t + busJam) } := by
  have hcollides : collides (s.advance t) f a half = true := collides_iff.2 ⟨hlevel, hfrom, hto⟩
  have hcounts := countCollision_objsBut half (s.advance t)
  obtain ⟨d, hd⟩ : ∃ d, countCollision half (s.advance t) = { s.advance t with dict := d } :=
    ⟨_, countCollision_eq half (s.advance t)⟩
  have hlogs := dropBusFrame_logsOnly f (countCollision half (s.advance t))
  have hrest : dropBusFrame f (countCollision half (s.advance t)) = { s with
      now := max s.now t, bus := s.bus.ended (max s.now t + busJam)
      dict := (dropBusFrame f (countCollision half (s.advance t))).dict
      log := (dropBusFrame f (countCollision half (s.advance t))).log
      island := (dropBusFrame f (countCollision half (s.advance t))).island } := by
    rw [hd] at hlogs ⊢
    exact hlogs
  refine ⟨_, done_next (fbCollision_of_many (s := s.advance t) hf ha hcollides hmany) (by rw [hrest]; rfl), ?_, ?_, ?_, hrest⟩
  · rw [State.counted, dropBusFrame_obj f _ (by decide) (by decide), obj_bump_other _ 1 (by decide)]
    exact countCollision_counted half (s.advance t)
  · rw [State.counted, dropBusFrame_obj f _ (by decide) (by decide), State.obj_bump_same, hcounts _ _ (by decide) (by decide)]
    rfl
  · intro i j hj hij
    obtain ⟨hcount, hlog⟩ := not_or.1 (mt List.mem_append.2 hij)
    obtain ⟨hfew, hexcess⟩ := not_or.1 (mt (List.mem_append (s := [(Obj.FB_COLLISIONS, 0), (Obj.FB_LATE_COLLISIONS, 0)])).2 hcount)
    rw [dropBusFrame_obj f _ hj hlog, State.objsBut_bump _ Obj.FB_EXCESS_COLLISIONS 0 1 (by decide) i j hj hexcess]
    exact hcounts i j hj hfew

end

/-! ### Back-off -/

theorem exec_fbBackoff_of_none {s : State} {t : Nat} (h : s.bus.backoffUntil = none) : exec (.fbBackoff t) s = .next (s.advance t) :=
  done_next (by simp [fbBackoff, h]) rfl

theorem exec_fbBackoff_of_some {s : State} {t a : Nat} (h : s.bus.backoffUntil = some a) :
    exec (.fbBackoff t) s = .next { s with
      now := max s.now t, bus := { s.bus with backoffUntil := if a ≤ max s.now t then none else some a } } := by
  refine done_next ?_ rfl
  have hbus : { s.bus with backoffUntil := some a } = s.bus := by rw [← h]
  simp only [fbBackoff, State.advance_bus, h, State.advance_now, ge_iff_le]
  split
  · rfl
  · rw [hbus]
    rfl

/-! ### Frames received -/

theorem exec_fbFrameReceived_down {s : State} {t : Nat} {x : Bytes} (hlen : x.length ≤ 16384) (hdown : s.serverUp = false) :
    exec (.fbFrameReceived t x) s = .next (s.advance t) := by
  change doneIf _ _ _ _ = _
  rw [doneIf_true _ _ _ _ (decide_eq_true hlen)]
  exact congrArg _ (State.after_eq (if_neg (ne_true_of_eq_false hdown)) rfl)

theorem exec_fbFrameReceived {s u : State} {t : Nat} {x : Bytes} (hlen : x.length ≤ 16384) (hup : s.serverUp = true)
    (hquiet : s.busQuiet) (hu : frameReceived x (s.atBus t) = u) (hkeeps : u.fixedPart = (s.advance t).fixedPart) :
    exec (.fbFrameReceived t x) s = .next u := by
  rw [← busReady_advance_of_busQuiet hquiet t] at hu
  change doneIf _ _ _ _ = _
  rw [doneIf_true _ _ _ _ (decide_eq_true hlen)]
  exact congrArg _ (State.after_eq ((if_pos hup).trans hu) hkeeps)

section
variable {s : State} {t : Nat} {x : Bytes}

theorem frameReceived_of_length (h : x.length < 64 ∨ 1518 < x.length) : frameReceived x (s.atBus t) = s.atFrame t := by
  simp only [frameReceived, gt_iff_lt, if_pos h]
  rfl

variable (hmin : 64 ≤ x.length) (hmax : x.length ≤ 1518)
include hmin hmax

theorem frameReceived_of_fcsBad (hfcs : fcsGood x = false) :
    frameReceived x (s.atBus t) = (s.atFrame t).bump Obj.FB_FCS_ERRORS := by
  have hlen : ¬ (x.length < 64 ∨ x.length > 1518) := by omega
  simp only [frameReceived, if_neg hlen, hfcs, Bool.not_false, if_true]
  rfl

variable (hfcs : fcsGood x = true)
include hfcs

/-- A frame of another type, or for another address, is discarded (R522, R525). -/
theorem frameReceived_of_foreign
    (h : beAt x 12 2 ≠ s.obj Obj.FB_ETHERTYPE ∨ (x.take 6 ≠ nodeMac s.bus.addr ∧ x.take 6 ≠ List.replicate 6 0xFF)) :
    frameReceived x (s.atBus t) = s.atFrame t := by
  have hlen : ¬ (x.length < 64 ∨ x.length > 1518) := by omega
  have hobj : ((s.atBus t).modBus fun b => { b with freeAt := (s.atBus t).now }).obj Obj.FB_ETHERTYPE = s.obj Obj.FB_ETHERTYPE := rfl
  have haddr : ((s.atBus t).modBus fun b => { b with freeAt := (s.atBus t).now }).bus.addr = s.bus.addr := rfl
  simp only [frameReceived, if_neg hlen, hfcs, Bool.not_true, Bool.false_eq_true, if_false, hobj, haddr]
  obtain h | h := h
  · rw [if_pos h]; rfl
  · rw [if_pos (show x.take 6 ≠ nodeMac s.bus.addr ∧ x.take 6 ≠ busMac 127 from h), ite_self]; rfl

/-- A frame for this package is counted and its message looked at; one from its own address is logged before (R526). -/
theorem frameReceived_of_own (htype : beAt x 12 2 = s.obj Obj.FB_ETHERTYPE) (hdst : x.take 6 = nodeMac s.bus.addr) {y : Bytes}
    (hy : y = (x.take (x.length - 4)).drop 14) :
    frameReceived x (s.atBus t) = messageIn y
      (if (x.drop 6).take 6 = nodeMac s.bus.addr ∧ !showsSerial ((s.atFrame t).bump Obj.FB_FRAMES_RX) y
        then ((s.atFrame t).bump Obj.FB_FRAMES_RX).ev Ev.ADDR_CONFLICT [s.bus.addr] else (s.atFrame t).bump Obj.FB_FRAMES_RX) := by
  have hlen : ¬ (x.length < 64 ∨ x.length > 1518) := by omega
  have hstart : ((s.atBus t).modBus fun b => { b with freeAt := (s.atBus t).now }) = s.atFrame t := rfl
  have hobj : (s.atFrame t).obj Obj.FB_ETHERTYPE = s.obj Obj.FB_ETHERTYPE := rfl
  have haddr : (s.atFrame t).bus.addr = s.bus.addr := rfl
  have haddr' : ((s.atFrame t).bump Obj.FB_FRAMES_RX).bus.addr = s.bus.addr := rfl
  simp only [frameReceived, hstart, if_neg hlen, hfcs, Bool.not_true, Bool.false_eq_true, if_false, hobj, htype, not_true, ne_eq, haddr,
    haddr', hdst, not_true, false_and, ← hy]

end

theorem messageIn_of_malformed {y : Bytes} (h : vdpHeader y = none) (s : State) : messageIn y s = s.bump Obj.VDP_FORMAT_ERRORS := by
  simp [messageIn, h]

theorem showsSerial_of_malformed {y : Bytes} (h : vdpHeader y = none) (s : State) : showsSerial s y = false := by
  simp [showsSerial, h]

/-- A frame of another node whose message is malformed is counted twice: as a frame and as a format error (R528). -/
theorem frameReceived_of_malformed {s : State} {t : Nat} {x y : Bytes} (hmin : 64 ≤ x.length) (hmax : x.length ≤ 1518)
    (hfcs : fcsGood x = true) (htype : beAt x 12 2 = s.obj Obj.FB_ETHERTYPE) (hdst : x.take 6 = nodeMac s.bus.addr)
    (hsrc : (x.drop 6).take 6 ≠ nodeMac s.bus.addr) (hy : y = (x.take (x.length - 4)).drop 14) (hmalformed : vdpHeader y = none) :
    frameReceived x (s.atBus t) = ((s.atFrame t).bump Obj.FB_FRAMES_RX).bump Obj.VDP_FORMAT_ERRORS := by
  rw [frameReceived_of_own hmin hmax hfcs htype hdst hy, if_neg fun h => hsrc h.1, messageIn_of_malformed hmalformed]

theorem length_le_of_vdpHeader {y : Bytes} {h : Vdp} (hy : vdpHeader y = some h) : h.length ≤ y.length := by
  simp only [vdpHeader] at hy
  split at hy
  · exact absurd hy (by simp)
  · next hgood =>
    obtain rfl := Option.some.inj hy
    simp only [not_or] at hgood
    obtain ⟨-, -, -, hle, -⟩ := hgood
    exact Nat.not_lt.1 hle

/-- A body of at most 1,480 bytes fits an answer on the bus (R527, R531). -/
theorem fits_of_bus {rq : Req} {n : Nat} (hbus : rq.inband = false) (hplain : rq.auth = false) (hn : n ≤ 1480) : fits rq n = true := by
  simp only [fits, hplain, hbus, vdpLimit, Bool.false_eq_true, if_false]
  exact decide_eq_true (by omega)

/-- A READ of a stored value, which does not accrue with time, answers with it and moves nothing (R554). -/
theorem perform_read_stored {rq : Req} {i j : Nat} {r : ObjRow} {s : State} (hbus : rq.inband = false) (hplain : rq.auth = false)
    (hfound : findObj i j = .value r) (hacc : r.acc = .rws) (hty : bulkType r.ty = false) (hsize : tySize r.ty ≤ 10)
    (hpop : i ≠ Obj.TS_POP) (hsettle : settleObj i j s = s) (hvalue : objValue s i j = s.obj i j) :
    perform none rq (.read i j) s = (some (.ok, beBytes (tySize r.ty) (s.obj i j)), s) := by
  have hread : ¬ (r.acc = .wo ∨ r.acc = .cmd) := by
    rw [hacc]
    decide
  have hkept : r.acc ≠ .rc := by
    rw [hacc]
    decide
  have hstatus : readStatus i j = .ok := by
    simp only [readStatus, hfound, if_neg hread, hty, Bool.false_eq_true, if_false]
  have hbytes : readBytes s i j = beBytes (tySize r.ty) (s.obj i j) := by
    simp only [readBytes, hfound, if_neg hpop, hvalue]
  have hclears : readClears i j s = s := by
    simp only [readClears, hfound, if_pos hkept]
  have hfits : fits rq (beBytes (tySize r.ty) (s.obj i j)).length = true :=
    fits_of_bus hbus hplain (by rw [length_beBytes]; omega)
  simp only [perform, performOwn, readSvc, hstatus, hbytes, hfits, Bool.not_true, Bool.false_eq_true, and_false, if_false, readObj,
    hsettle, hclears]

theorem perform_read_wakeWait {rq : Req} (hbus : rq.inband = false) (hplain : rq.auth = false) (s : State) :
    perform none rq (.read Obj.FB_WAKE_WAIT_MS 0) s = (some (.ok, beBytes 2 (s.obj Obj.FB_WAKE_WAIT_MS)), s) :=
  perform_read_stored (r := ⟨Obj.FB_WAKE_WAIT_MS, 0, 0, .u16, .rws, 1000, some (100, 10000)⟩) hbus hplain (by decide) rfl rfl
    (by decide) (by decide) rfl rfl

/-- The READ of `FB_WAKE_WAIT_MS` in a received frame is served (R528). -/
theorem frameReceived_of_read {s : State} {t : Nat} {x y : Bytes} {h : Vdp} (hmin : 64 ≤ x.length) (hmax : x.length ≤ 1518)
    (hfcs : fcsGood x = true) (htype : beAt x 12 2 = s.obj Obj.FB_ETHERTYPE)
    (hdst : x.take 6 = nodeMac s.bus.addr) (hsrc : (x.drop 6).take 6 ≠ nodeMac s.bus.addr) (hy : y = (x.take (x.length - 4)).drop 14)
    (hheader : vdpHeader y = some h) (haddr : h.dst = s.bus.addr) (hreq : h.resp = false) (hplain : h.auth = false) (hsvc : h.svc = 1)
    (hbody : vdpBody h y = [0x11, 0x08, 0, 0]) (hmode : s.obj Obj.FB_AUTH_MODE ≠ 1) (hworker : workerRefuses s h.src none = false)
    (hanswered : s.bus.answered = []) (hroom : s.bus.txq.length < 32) :
    frameReceived x (s.atBus t) = (s.atServer t (reqOf h y 0)).answeredAs (reqOf h y 0) 1 .ok (beBytes 2 (s.obj Obj.FB_WAKE_WAIT_MS)) := by
  have hparse : parseSvc 1 [0x11, 0x08, 0, 0] = some (.read Obj.FB_WAKE_WAIT_MS 0) := by decide
  have hlen : h.length ≤ 1500 := by
    have := length_le_of_vdpHeader hheader
    subst hy
    simp only [List.length_drop, List.length_take] at this
    omega
  have hnew : (s.atServer t (reqOf h y 0)).bus.answered.find?
      (fun a => a.src == (reqOf h y 0).src && a.txn == (reqOf h y 0).txn) = none := by
    simp [State.atServer, State.atFrame, State.atBus, hanswered]
  have haddr' : ¬ (h.dst ≠ (s.tookFrame t).bus.addr ∧ (h.dst ≠ 127 ∨ h.svc ≠ 0x0D)) := fun hne => hne.1 haddr
  have hauth : authMissing (s.atServer t (reqOf h y 0)) (reqOf h y 0) (some (.read Obj.FB_WAKE_WAIT_MS 0)) = false :=
    (authMissing_atServer s t _ _).trans (authMissing_of_mode hmode)
  have hserve : messageIn.serveFrame h y (s.tookFrame t) =
      serveChecked none (reqOf h y 0) 1 (some (.read Obj.FB_WAKE_WAIT_MS 0)) h.length (s.atServer t (reqOf h y 0)) := by
    have hplain' : (reqOf h y 0).auth = false := hplain
    simp only [messageIn.serveFrame, hsvc, hbody, hparse, authCheck, hplain', Bool.not_false, Bool.not_true, if_true, heardFrom_tookFrame,
      hauth, Bool.false_eq_true, if_false]
  rw [frameReceived_of_own hmin hmax hfcs htype hdst hy, if_neg fun h => hsrc h.1]
  change messageIn y (s.tookFrame t) = _
  simp only [messageIn, hheader, if_neg haddr', hreq, Bool.false_eq_true, if_false, hserve]
  rw [serveChecked_of_answer hnew (workerRefuses_of_none (s := s.atServer t (reqOf h y 0)) hworker _) (Nat.zero_lt_succ 15) hlen
    (perform_read_wakeWait rfl hplain _) rfl,
    reply_eq_answeredAs_from (s := s.atServer t (reqOf h y 0)) _ _ _ _ hplain hroom, State.obj_atServer s t _ (by decide)]
  rfl

/-- The rank of an event moves nothing but the cause of ALERT_N (R572). -/
theorem State.alert_serverUp (s : State) (src sev : Nat) : (s.alert src sev).serverUp = s.serverUp := by
  simp only [State.alert]
  split <;> rfl

theorem State.alert_log (s : State) (src sev : Nat) : (s.alert src sev).log = s.log := by
  simp only [State.alert]
  split <;> rfl

/-- The record of an event with one parameter is one record: its source and its parameter (R569). -/
theorem State.evRecs_one (s : State) (src p : Nat) :
    ∃ r, s.evRecs src false [p] = [r] ∧ r.source = s.bus.addr * 1024 + src ∧ r.p0 = p := ⟨_, rfl, rfl, rfl⟩

theorem State.writeRec_ring_of_nil {s : State} (r : EvRec) (h : s.log.ring = []) :
    ((s.writeRec r).log.ring.map fun e => (e.source, e.p0)) = [(r.source, r.p0)] := by
  simp [State.writeRec, h, State.bump, logCapacity]

/-- An event of a source that is not masked leaves its record in an empty log (R570, R571). -/
theorem State.ev_ring_of_nil {s : State} {src : Nat} (p : Nat) (hup : s.serverUp = true)
    (hmask : bitAt (s.row Obj.EVT_SOURCE_TABLE src) 63 = true) (hring : s.log.ring = []) :
    ((s.ev src [p]).log.ring.map fun e => (e.source, e.p0)) = [(s.bus.addr * 1024 + src, p)] := by
  obtain ⟨r, hrecs, hsource, hp⟩ := s.evRecs_one src p
  have hup' : State.serverUp { s with island := { s.island with lastTime := s.eventTime } } = true := hup
  simp only [State.ev, State.logWith, hmask, Bool.true_eq_false, if_false, State.alert_serverUp, hup', if_true, hrecs, List.foldl_cons,
    List.foldl_nil]
  refine (State.writeRec_ring_of_nil r ?_).trans (by rw [hsource, hp])
  rw [State.alert_log]
  exact hring

/-- A frame from this package's own address is logged as a conflict before its message is looked at (R526). -/
theorem exec_fbFrameReceived_of_conflict {s v : State} {t : Nat} {x y : Bytes} (hmin : 64 ≤ x.length) (hmax : x.length ≤ 1518)
    (hup : s.serverUp = true) (hquiet : s.busQuiet) (hfcs : fcsGood x = true) (htype : beAt x 12 2 = s.obj Obj.FB_ETHERTYPE)
    (hdst : x.take 6 = nodeMac s.bus.addr) (hsrc : (x.drop 6).take 6 = nodeMac s.bus.addr) (hy : y = (x.take (x.length - 4)).drop 14)
    (hmalformed : vdpHeader y = none) (hv : v = s.atFrame t) :
    ∃ u, exec (.fbFrameReceived t x) s = .next u ∧ s.counted u Obj.FB_FRAMES_RX 0 1 ∧ s.counted u Obj.VDP_FORMAT_ERRORS 0 1 ∧
      s.objsBut u ([(Obj.FB_FRAMES_RX, 0), (Obj.VDP_FORMAT_ERRORS, 0)] ++ logObjs) ∧
      (bitAt (s.row Obj.EVT_SOURCE_TABLE Ev.ADDR_CONFLICT) 63 = true → s.log.ring = [] →
        (u.log.ring.map fun e => (e.source, e.p0)) = [(s.bus.addr * 1024 + Ev.ADDR_CONFLICT, s.bus.addr)]) ∧
      u = { v with dict := u.dict, log := u.log, island := u.island } := by
  have hu : frameReceived x (s.atBus t) = ((v.bump Obj.FB_FRAMES_RX).ev Ev.ADDR_CONFLICT [s.bus.addr]).bump Obj.VDP_FORMAT_ERRORS := by
    rw [frameReceived_of_own hmin hmax hfcs htype hdst hy, showsSerial_of_malformed hmalformed, if_pos ⟨hsrc, rfl⟩,
      messageIn_of_malformed hmalformed, hv]
  have hlogs : v.logsOnly (((v.bump Obj.FB_FRAMES_RX).ev Ev.ADDR_CONFLICT [s.bus.addr]).bump Obj.VDP_FORMAT_ERRORS) :=
    State.logsOnly_trans (State.bump_logsOnly v _ 0 1) (State.logsOnly_trans (State.ev_logsOnly _ _ _) (State.bump_logsOnly _ _ 0 1))
  have hkeeps := State.fixedPart_of_logsOnly hlogs
  have hev := State.ev_objsBut (v.bump Obj.FB_FRAMES_RX) Ev.ADDR_CONFLICT [s.bus.addr]
  subst hv
  refine ⟨_, exec_fbFrameReceived (by omega) hup hquiet hu hkeeps, ?_, ?_, ?_, ?_, hlogs⟩
  · rw [State.counted, obj_bump_other _ 1 (by decide), hev _ _ (by decide) (by decide)]
    exact State.counted_bump s Obj.FB_FRAMES_RX 0 1
  · rw [State.counted, State.obj_bump_same, hev _ _ (by decide) (by decide), obj_bump_other _ 1 (by decide)]
    rfl
  · intro i j hj hij
    obtain ⟨hcount, hlog⟩ := not_or.1 (mt List.mem_append.2 hij)
    obtain ⟨hframes, hformat⟩ := not_or.1 (mt (List.mem_append (s := [(Obj.FB_FRAMES_RX, 0)])).2 hcount)
    rw [State.objsBut_bump _ Obj.VDP_FORMAT_ERRORS 0 1 (by decide) i j hj hformat, hev i j hj hlog]
    exact State.objsBut_bump s Obj.FB_FRAMES_RX 0 1 (by decide) i j hj hframes
  · intro hmask hring
    exact State.ev_ring_of_nil (s := (s.atFrame t).bump Obj.FB_FRAMES_RX) s.bus.addr hup hmask hring

/-- Settles O56, clause by clause: `fbTransmit` by what the bus waits for and whose turn it is, `fbCollision` by whether the
half-cell shows a collision and by their number, `fbFrameReceived` in the order of the checks of a frame. -/
theorem framesOnTheFieldBus : Obligations.FramesOnTheFieldBus := by
  unfold Obligations.FramesOnTheFieldBus
  refine ⟨fun s t => exec_fbTransmit_of_busOff, fun s t => exec_fbTransmit_of_waits, ?_, ?_, ?_, ?_, ?_, ?_, ?_, ?_,
    fun s t => exec_fbBackoff_of_none, fun s t a => exec_fbBackoff_of_some, fun s t x => exec_fbFrameReceived_down, ?_, ?_, ?_, ?_, ?_,
    ?_⟩
  · rintro s v t f hup hquiet hback hfree hidle hurgent rfl
    rw [exec_fbTransmit_of_due hup hquiet hback hfree (dueFrame_of_urgent hidle hurgent)]
    simp only [State.modBus, State.atBus, hidle, Option.isNone_none, if_true]
  · rintro s v t f l hup hquiet hback hfree hf hidle htxq hplain rfl
    rw [exec_fbTransmit_of_due hup hquiet hback hfree (dueFrame_of_plain hidle htxq hplain hf)]
    simp only [State.modBus, State.atBus, hidle, htxq, Option.isNone_none, if_true, List.erase_cons_head]
  · rintro s v t f hup hquiet hback hfree hsending rfl
    rw [exec_fbTransmit_of_due hup hquiet hback hfree (dueFrame_of_sending hsending)]
    simp only [State.modBus, State.atBus, hsending, Option.isNone_some, Bool.false_eq_true, if_false]
  · rintro s v t a f hup hf ha hend htxq hunsent rfl
    exact exec_fbTransmit_of_end hup hf ha hend htxq hunsent
  · intro s t half hidle
    exact done_next (fbCollision_of_idle half (s := s.advance t) hidle) rfl
  · intro s t a half f hf ha
    exact exec_fbCollision_of_not hf ha
  · rintro s t a n half f hf ha hlevel hfrom hto rfl hfew
    exact exec_fbCollision_of_few hf ha hlevel hfrom hto hfew
  · intro s t a half f hf ha hlevel hfrom hto hmany
    exact exec_fbCollision_of_many hf ha hlevel hfrom hto hmany
  · intro s t x hlen hup hquiet hbad
    exact exec_fbFrameReceived hlen hup hquiet (frameReceived_of_length hbad) rfl
  · intro s t x hmin hmax hup hquiet hfcs
    exact exec_fbFrameReceived (by omega) hup hquiet (frameReceived_of_fcsBad hmin hmax hfcs) rfl
  · intro s t x hmin hmax hup hquiet hfcs hforeign
    exact exec_fbFrameReceived (by omega) hup hquiet (frameReceived_of_foreign hmin hmax hfcs hforeign) rfl
  · intro s t x y hmin hmax hup hquiet hfcs htype hdst hsrc hy hmalformed
    exact exec_fbFrameReceived (by omega) hup hquiet (frameReceived_of_malformed hmin hmax hfcs htype hdst hsrc hy hmalformed) rfl
  · intro s t x y h hmin hmax hup hquiet hfcs htype hdst hsrc hy hheader haddr hreq hplain hsvc hbody hmode hworker hanswered hroom
    exact exec_fbFrameReceived (by omega) hup hquiet
      (frameReceived_of_read hmin hmax hfcs htype hdst hsrc hy hheader haddr hreq hplain hsvc hbody hmode hworker hanswered hroom) rfl
  · intro s v t x y
    exact exec_fbFrameReceived_of_conflict

end Sys2Proof.Machine
end

section
/-! PROOFS. What fails on the field bus. O48, O51, O52, O55 and O59 leave the package's own bus address free. A package at the
broadcast address 127, an address that no strap gives (R509), drops every request that reaches it but a DISCOVER (R528), where
they say how it is answered. At every other address what they say is proved in the sections after this one, clause by clause. -/
namespace Sys2Proof.Machine

/-- A request to all nodes, other than DISCOVER, leaves nothing but the count of its frame (R528). -/
theorem State.Arrives.exec_of_broadcast {s : State} {t : Nat} {rq : Req} {v : Svc} (h : s.Arrives rq) (hdst : rq.dst = 127)
    (hcode : svcCode v ≠ 0x0D) (hwf : (v.command t rq).wf = true) : exec (v.command t rq) s = .next (s.tookFrame t) := by
  refine exec_command_eq hwf ?_ rfl
  rw [h.serve_eq, serveReq_of_broadcast _ _ _ _ hdst hcode]

/-- The package at the broadcast address answers no request but DISCOVER: its last status stays OK. -/
theorem upAtBroadcast_not_answered {v : Svc} {w : State} {st : Status} (code : Nat) (body : Bytes) (hst : st ≠ .ok)
    (hcode : svcCode v ≠ 0x0D) (hwf : (v.command 5 hostRequest127).wf = true) :
    exec (v.command 5 hostRequest127) upAtBroadcast ≠ .next (w.answeredAs hostRequest127 code st body) := by
  rw [(State.reached_of_receives upAtBroadcast_serves.1).exec_of_broadcast rfl hcode hwf]
  exact fun heq => hst (congrArg State.status (Host.Outcome.next.inj heq)).symm

/-- Refutes O48: a package whose own address is 127 meets `State.serves`, and a WRITE of 1,477 bytes that reaches it is not
answered with TOO_LONG. -/
theorem not_requestsMeetTheChecksInOrder : ¬ Obligations.RequestsMeetTheChecksInOrder := by
  unfold Obligations.RequestsMeetTheChecksInOrder
  rintro ⟨-, -, -, -, -, -, -, hlong⟩
  have hlen : (zeros 1477).length = 1477 := List.length_replicate
  have hwf : (Instr.write 5 hostRequest127 0 0 (zeros 1477)).wf = true := by
    simp only [Instr.wf, hlen]
    decide
  exact upAtBroadcast_not_answered (v := .write 0 0 (zeros 1477)) 2 [] (by decide) (by simp [svcCode]) hwf
    (hlong upAtBroadcast 5 hostRequest127 0 0 (zeros 1477) upAtBroadcast_serves (by decide) (by decide) (by omega) (by omega))

/-- Refutes O51: a package whose own address is 127 meets `State.serves`, and a SEG_BEGIN of the object 0 that reaches it is
not answered with NO_OBJECT. -/
theorem not_domainsMoveInSegments : ¬ Obligations.DomainsMoveInSegments := by
  unfold Obligations.DomainsMoveInSegments
  rintro ⟨hrefused, -⟩
  exact upAtBroadcast_not_answered (v := .segBegin 0 0 0 0) 6 [] (by decide) (by decide) (by decide)
    (hrefused upAtBroadcast 5 hostRequest127 0 0 upAtBroadcast_serves (by decide) (by decide) (by decide)).1

/-- Refutes O52: a package whose own address is 127 meets `State.serves`, and a SUBSCRIBE with the action 2 that reaches it is
not answered with RANGE. -/
theorem not_eventsReachTheirSubscribers : ¬ Obligations.EventsReachTheirSubscribers := by
  unfold Obligations.EventsReachTheirSubscribers
  rintro ⟨hrange, -⟩
  exact upAtBroadcast_not_answered (v := .subscribe 0 0 2) 9 [] (by decide) (by decide) (by decide)
    (hrange upAtBroadcast 5 hostRequest127 0 0 2 upAtBroadcast_serves (by decide) (by decide) (by decide) (.inl (by decide)))

/-- Refutes O55: a worker whose own address is 127 meets `State.serves`, and a FORWARD that reaches it is not answered with
NOT_MANAGER. -/
theorem not_forwardsAndTheirAnswers : ¬ Obligations.ForwardsAndTheirAnswers := by
  unfold Obligations.ForwardsAndTheirAnswers
  rintro ⟨hworker, -⟩
  exact upAtBroadcast_not_answered (v := .forward 0 []) 14 [] (by decide) (by decide) (by decide)
    (hworker upAtBroadcast 5 hostRequest127 0 [] upAtBroadcast_serves (by decide) (by decide) rfl)

/-- Refutes O59: a package whose own address is 127 meets `State.serves`, and a WRITE of 1 to `FB_AUTH_MODE` that reaches it is
not answered with STATE, though the array key is not installed. -/
theorem not_withoutTheArrayKeyThreeRequestsAreAccepted : ¬ Obligations.WithoutTheArrayKeyThreeRequestsAreAccepted := by
  unfold Obligations.WithoutTheArrayKeyThreeRequestsAreAccepted
  rintro ⟨hstate, -⟩
  obtain ⟨hreceives, hmode, hworker, hturn⟩ := upAtBroadcast_serves
  obtain ⟨hwrite, -⟩ := hstate upAtBroadcast 5 hostRequest127 hreceives hworker hturn (.inl hmode) rfl
  have hkey : upAtBroadcast.ciph.blobState[(1 : Fin 3)] ≠ 1 := by decide +kernel
  rw [if_neg hkey] at hwrite
  exact upAtBroadcast_not_answered (v := .write Obj.FB_AUTH_MODE 0 [1]) 2 [] (by decide) (by decide) (by decide) hwrite

end Sys2Proof.Machine
end

section
/-! PROOFS. The order of the checks of a request (R528, R529, R530, R537, R544, R545) at a package with an address of its own:
what O48 and O59 say, but for the broadcast address. -/
namespace Sys2Proof.Machine

section
variable {s : State} {t : Nat} {rq : Req} {v : Svc}

theorem State.arrives_of_receives (h : s.receives t rq) : s.Arrives rq := (State.reached_of_receives h).toArrives

/-- At a package with an address of its own, a request that `State.receives` speaks of meets no check of its address. -/
theorem State.meets_of_receives (h : s.receives t rq) (haddr : s.bus.addr ≠ 127) (hwf : (v.command t rq).wf = true)
    (hanswers : ∀ l, v ≠ .event l) : s.Meets t rq v := by
  obtain ⟨-, -, -, -, hdst, -⟩ := id h
  exact { State.reached_of_receives h with
    carried := hwf, answers := hanswers, own := fun hall => absurd (hdst.symm.trans hall) haddr }

theorem exec_of_down (hdown : s.serverUp = false) (hwf : (v.command t rq).wf = true) : exec (v.command t rq) s = .next (s.advance t) := by
  have hdown' : (s.advance t).serverUp = false := hdown
  exact exec_command_eq hwf (by simp [serve, hdown']) rfl

/-- A request for another address leaves the bus as it passed (R523, R525). -/
theorem exec_of_foreign (hup : s.serverUp = true) (hwf : (v.command t rq).wf = true) (hbus : rq.inband = false)
    (hquiet : s.busQuiet) (hdst : rq.dst ≠ s.bus.addr) (hall : rq.dst ≠ 127) : exec (v.command t rq) s = .next (s.atFrame t) := by
  have hup' : (s.advance t).serverUp = true := hup
  have htaken : frameTaken rq.src rq.dst (s.atBus t) = s.atFrame t := if_pos ⟨hdst, hall⟩
  have haddr : (s.atFrame t).bus.addr = s.bus.addr := rfl
  refine exec_command_eq hwf ?_ rfl
  simp [serve, hup', hbus, busReady_advance_of_busQuiet hquiet, htaken, serveReq, haddr, hdst, hall]

/-- A duplicate gets the kept answer again, and its service is not performed (R529). -/
theorem State.Arrives.exec_of_kept {a : Answered} (h : s.Arrives rq) (hwf : (v.command t rq).wf = true) (hanswers : ∀ l, v ≠ .event l)
    (hown : rq.dst = 127 → svcCode v = 0x0D) (hcode : authMissing s rq (some v) = false)
    (hkept : (s.atServer t rq).bus.answered.find? (fun a => a.src == rq.src && a.txn == rq.txn) = some a) (hroute : a.route = none) :
    exec (v.command t rq) s = .next { (s.atServer t rq).bump Obj.VDP_DUPLICATES with
      status := a.status
      bus := { (s.atServer t rq).bus with txq := s.bus.txq ++ [{ urgent := true, dst := a.src, msg := a.reply }] } } := by
  refine exec_command_eq hwf ?_ rfl
  rw [h.serve_eq t, h.serveReq_eq t hanswers hown, if_neg (by simp [authMissing_atServer, hcode]), serveChecked_of_kept hkept]
  have hroom : ¬ 32 ≤ ((s.atServer t rq).bump Obj.VDP_DUPLICATES).bus.txq.length := Nat.not_le.2 h.room
  simp only [answerAgain, pushMsg, hroute, pushBus, if_neg hroom, State.modBus]
  rfl

theorem authMissing_of_installed (hplain : rq.auth = false) (hmode : s.obj Obj.FB_AUTH_MODE = 1)
    (hkey : s.ciph.slots[(241 : Fin 256)].st = .valid) (svc : Option Svc) : authMissing s rq svc = true := by
  have hin : arrayKeyIn s = true := beq_iff_eq.2 hkey
  simp [authMissing, hplain, hmode, hin]

section
variable (hmode : s.obj Obj.FB_AUTH_MODE = 1) (hkey : s.ciph.slots[(241 : Fin 256)].st ≠ .valid)
include hmode hkey

theorem authMissing_of_not_installed (hplain : rq.auth = false) (svc : Option Svc) : authMissing s rq svc = !bootstraps svc := by
  have hout : arrayKeyIn s = false := beq_eq_false_iff_ne.2 hkey
  simp [authMissing, hplain, hmode, hout]

/-- While the key is not installed, every service but the three that R545 names asks for a code. -/
theorem State.Meets.exec_of_not_bootstraps (h : s.Meets t rq v) (hv : bootstraps (some v) = false) :
    exec (v.command t rq) s = .next ((s.atServer t rq).answeredAs rq (svcCode v) .auth []) :=
  h.exec_of_authMissing (by rw [authMissing_of_not_installed hmode hkey h.plain, hv]; rfl)

/-- The three services that R545 names pass the check for a code. -/
theorem State.Meets.performs_of_bootstraps (h : s.Meets t rq v) (hv : bootstraps (some v) = true)
    (hworker : workerRefuses s rq.src none = false) (hturn : rq.waiting < 16) (hshort : (svcBody v).length ≤ 1480) :
    s.Performs t rq v :=
  { h with
    allowed := by rw [authMissing_of_not_installed hmode hkey h.plain, hv]; rfl
    heeded := workerRefuses_of_none hworker _, turn := hturn, short := hshort }

end

section
variable (h : s.Meets t rq v) (hcode : authMissing s rq (some v) = false)
include h hcode

theorem State.Meets.exec_of_workerRefuses (hworker : workerRefuses s rq.src (some v) = true) :
    exec (v.command t rq) s = .next ((s.atServer t rq).answeredAs rq (svcCode v) .notManager []) := by
  refine h.exec_of_checked hcode ?_ rfl
  rw [serveChecked_of_workerRefuses h.find?_answered hworker]
  exact reply_eq_answeredAs_from _ _ _ 0 h.plain h.room

variable (hworker : workerRefuses s rq.src (some v) = false)
include hworker

theorem State.Meets.exec_of_waiting (hwaiting : 16 ≤ rq.waiting) :
    exec (v.command t rq) s = .next ((s.atServer t rq).answeredAs rq (svcCode v) .busy []) := by
  refine h.exec_of_checked hcode ?_ rfl
  rw [serveChecked_of_waiting h.find?_answered hworker hwaiting]
  exact reply_eq_answeredAs_from _ _ _ 0 h.plain h.room

theorem State.Meets.exec_of_long (hturn : rq.waiting < 16) (hlong : 1480 < (svcBody v).length) :
    exec (v.command t rq) s = .next ((s.atServer t rq).answeredAs rq (svcCode v) .tooLong []) := by
  have hlimit : vdpLimit rq.inband < 20 + (svcBody v).length := by
    simp [vdpLimit, h.bus]
    omega
  refine h.exec_of_checked hcode ?_ rfl
  rw [serveChecked_of_long h.find?_answered hworker hturn hlimit]
  exact reply_eq_answeredAs_from _ _ _ 0 h.plain h.room

end

end

/-! ### The object of the mode (R545) -/

theorem findObj_authMode : findObj Obj.FB_AUTH_MODE 0 = .value ⟨Obj.FB_AUTH_MODE, 0, 0, .u8, .rws, 0, some (0, 1)⟩ := by decide

theorem perform_read_authMode {rq : Req} (hbus : rq.inband = false) (hplain : rq.auth = false) (s : State) :
    perform none rq (.read Obj.FB_AUTH_MODE 0) s = (some (.ok, beBytes 1 (s.obj Obj.FB_AUTH_MODE)), s) :=
  perform_read_stored hbus hplain findObj_authMode rfl rfl (by decide) (by decide) rfl rfl

/-- A WRITE of 0 or 1 to `FB_AUTH_MODE` is a write of the mode (R608). -/
theorem writeObj_authMode {b : BitVec 8} (hb : b.toNat ≤ 1) (s : State) : writeObj Obj.FB_AUTH_MODE 0 [b] s = authMode b.toNat s := by
  have hval : beNat [b] = b.toNat := by simp [beNat]
  have hrange : outOfRange ⟨Obj.FB_AUTH_MODE, 0, 0, .u8, .rws, 0, some (0, 1)⟩ b.toNat = false := by
    simp only [outOfRange, tyInt, Bool.or_eq_false_iff]
    exact ⟨decide_eq_false (by omega), decide_eq_false (by omega)⟩
  have hchapter : chapterRefuses s Obj.FB_AUTH_MODE b.toNat = false := rfl
  have heffect : applyObj Obj.FB_AUTH_MODE 0 b.toNat [b] s = authMode b.toNat s := rfl
  simp [writeObj, findObj_authMode, bulkType, tySize, tyRefuses, hval, hrange, hchapter, heffect]

/-- The mode is switched on only with the key that the blob state shows installed. -/
theorem authMode_of_on (s : State) : authMode 1 s =
    if s.ciph.blobState[(1 : Fin 3)] = 1 then (s.setObj Obj.FB_AUTH_MODE 0 1).answer .ok else s.answer .state := by
  simp only [authMode, gt_iff_lt, Nat.lt_irrefl, if_false, true_and, ne_eq, ite_not]

/-- A WRITE whose effect reaches neither the bus nor what no service moves is answered with the status that it leaves. -/
theorem State.Performs.exec_write {s u : State} {t i j : Nat} {rq : Req} {x : Bytes} (h : s.Performs t rq (.write i j x))
    (hwrite : writeObj i j x (s.atServer t rq) = u) (hkeeps : u.fixedPart = (s.advance t).fixedPart)
    (hbus : u.bus = (s.atServer t rq).bus) : exec (.write t rq i j x) s = .next (u.answeredAs rq 2 u.status []) := by
  have hperform : perform none rq (.write i j x) (s.atServer t rq) = (some (u.status, []), u) := by
    simp only [perform, performOwn, hwrite]
  exact h.exec_of_answer hperform hkeeps (by rw [hbus]; exact h.room)

section
variable {s : State} {t : Nat} {rq : Req}

theorem State.Performs.exec_read_authMode (h : s.Performs t rq (.read Obj.FB_AUTH_MODE 0)) :
    exec (.read t rq Obj.FB_AUTH_MODE 0) s =
      .next ((s.atServer t rq).answeredAs rq 1 .ok (beBytes 1 (s.obj Obj.FB_AUTH_MODE))) := by
  have hread := h.exec_of_answer (perform_read_authMode h.bus h.plain _) rfl h.room
  rwa [State.obj_atServer s t rq (by decide)] at hread

theorem State.Performs.exec_write_authMode_off (h : s.Performs t rq (.write Obj.FB_AUTH_MODE 0 [0])) :
    exec (.write t rq Obj.FB_AUTH_MODE 0 [0]) s =
      .next (((s.atServer t rq).setObj Obj.FB_AUTH_MODE 0 0).answeredAs rq 2 .ok []) :=
  h.exec_write (writeObj_authMode (b := 0) (by decide) _) rfl rfl

theorem State.Performs.exec_write_authMode_on (h : s.Performs t rq (.write Obj.FB_AUTH_MODE 0 [1])) :
    exec (.write t rq Obj.FB_AUTH_MODE 0 [1]) s = .next (
      if s.ciph.blobState[(1 : Fin 3)] = 1 then ((s.atServer t rq).setObj Obj.FB_AUTH_MODE 0 1).answeredAs rq 2 .ok []
      else (s.atServer t rq).answeredAs rq 2 .state []) := by
  have hwrite := (writeObj_authMode (b := 1) (by decide) (s.atServer t rq)).trans (authMode_of_on _)
  by_cases hkey : s.ciph.blobState[(1 : Fin 3)] = 1
  · rw [if_pos hkey]
    exact h.exec_write (hwrite.trans (if_pos hkey)) rfl rfl
  · rw [if_neg hkey]
    exact h.exec_write (hwrite.trans (if_neg hkey)) rfl rfl

/-- A WRITE of the array-key blob stores the blob and starts its unwrapping (R465). -/
theorem State.Performs.exec_write_arrayKeyBlob {d : Bytes} (h : s.Performs t rq (.write Obj.CIPH_ARRAY_KEY_BLOB 0 d))
    (hd : d.length = 40) :
    exec (.write t rq Obj.CIPH_ARRAY_KEY_BLOB 0 d) s = .next (State.answeredAs
      { s.atServer t rq with
        flash := { (s.qspi (qspiWrite (blobAddr 1) 40)).flash with blobs := s.flash.blobs.set 1 d }
        ciph := { s.ciph with blobRun := s.ciph.blobRun.set 1 (some (max s.now t)) } } rq 2 .ok []) := by
  have hfound : findObj Obj.CIPH_ARRAY_KEY_BLOB 0 = .value ⟨Obj.CIPH_ARRAY_KEY_BLOB, 0, 0, .oct 40, .rw, 0, none⟩ := by decide
  have hchapter : chapterRefuses (s.atServer t rq) Obj.CIPH_ARRAY_KEY_BLOB (beNat d) = false := rfl
  have heffect : applyObj Obj.CIPH_ARRAY_KEY_BLOB 0 (beNat d) d (s.atServer t rq) = writeBlob 1 d (s.atServer t rq) := rfl
  have hwrite : writeObj Obj.CIPH_ARRAY_KEY_BLOB 0 d (s.atServer t rq) = (storeBlob 1 d (s.atServer t rq)).answer .ok := by
    simp [writeObj, hfound, bulkType, tySize, tyRefuses, outOfRange, hchapter, heffect, hd, writeBlob]
  rw [h.exec_write hwrite rfl rfl]
  simp only [storeBlob, State.answer]
  rfl

/-- No READ ends with AUTH. -/
theorem readStatus_ne_auth (i j : Nat) : readStatus i j ≠ .auth := by
  have hfound : findObj i j ≠ .refused .auth := by
    simp only [findObj]
    repeat' split
    all_goals simp
  simp only [readStatus]
  split
  · next st hst => exact fun hauth => hfound (hauth ▸ hst)
  · simp
  · simp
  · split
    · simp
    · split <;> simp

theorem readSvc_status_ne_auth (rq : Req) (i j : Nat) (s : State) : (readSvc rq i j s).1 ≠ .auth := by
  have hread : (readObj i j s).1 = readStatus i j := by
    simp only [readObj]
    split <;> simp_all
  simp only [readSvc]
  split
  · simp
  · rw [hread]
    exact readStatus_ne_auth i j

/-- What a service answers is the status of its command's outcome. -/
theorem serveChecked_status {s u : State} {rq : Req} {code len : Nat} {v : Svc} {st : Status} {body : Bytes}
    (hnew : s.bus.answered.find? (fun a => a.src == rq.src && a.txn == rq.txn) = none)
    (hworker : workerRefuses s rq.src (some v) = false) (hwaiting : rq.waiting < 16) (hlen : len ≤ vdpLimit rq.inband)
    (hperform : perform none rq v s = (some (st, body), u)) : (serveChecked none rq code (some v) len s).status = st := by
  simp only [serveChecked, hnew, hworker, Bool.false_eq_true, if_false, ge_iff_le, Nat.not_le.2 hwaiting, gt_iff_lt, Nat.not_lt.2 hlen,
    hperform]
  split <;> rfl

theorem State.Performs.exec_status {v : Svc} {u : State} {st : Status} {body : Bytes} (h : s.Performs t rq v)
    (hperform : perform none rq v (s.atServer t rq) = (some (st, body), u)) :
    ∃ w, exec (v.command t rq) s = .next w ∧ w.status = st := by
  have hlen : 20 + (svcBody v).length ≤ vdpLimit rq.inband := by
    have := h.short
    simp [vdpLimit, h.bus]
    omega
  refine ⟨_, exec_command h.carried s, ?_⟩
  change (serve rq v (s.advance t)).status = st
  rw [h.serve_eq t, h.serveReq_eq t h.answers h.own, if_neg (by simp [authMissing_atServer, h.allowed]),
    length_signedPart _ _ h.plain]
  exact serveChecked_status h.find?_answered h.heeded h.turn hlen hperform

/-- A READ that is not refused before it is performed is not answered with AUTH. -/
theorem State.Performs.exec_read {i j : Nat} (h : s.Performs t rq (.read i j)) :
    ∃ w, exec (.read t rq i j) s = .next w ∧ w.status ≠ .auth := by
  have hperform : perform none rq (.read i j) (s.atServer t rq) =
      (some ((readSvc rq i j (s.atServer t rq)).1, (readSvc rq i j (s.atServer t rq)).2.1), (readSvc rq i j (s.atServer t rq)).2.2) := rfl
  obtain ⟨w, hw, hstatus⟩ := h.exec_status hperform
  exact ⟨w, hw, hstatus ▸ readSvc_status_ne_auth rq i j _⟩

end

/-! ### What O48 says, at an address of its own -/

section
variable {s : State} {t i j : Nat} {rq : Req}

theorem exec_read_of_foreign (hup : s.serverUp = true) (hwf : reqWf rq = true) (hi : i < 65536) (hj : j < 256)
    (hbus : rq.inband = false) (hdst : rq.dst ≠ s.bus.addr) (hall : rq.dst ≠ 127) (hidle : s.bus.sendAt = none)
    (hsubs : s.bus.subs = []) (hmanager : s.bus.manager = false) :
    exec (.read t rq i j) s = .next { s with
      now := max s.now t, log := { s.log with unsent := [] }
      bus := { s.bus with
        freeAt := max s.now t
        answered := s.bus.answered.filter fun a => decide (max s.now t < a.at0 + tickS)
        transfers := s.bus.transfers.filter fun x => decide (max s.now t < x.lastAt + 5 * tickS) } } := by
  have hread := exec_of_foreign (t := t) (v := .read i j) hup (by simp [Svc.command, Instr.wf, hwf, hi, hj]) hbus
    ⟨hidle, .inr (.inl hsubs)⟩ hdst hall
  refine hread.trans ?_
  simp [State.atFrame, State.atBus, hsubs, hmanager]

theorem exec_read_of_kept {a : Answered} (hup : s.serverUp = true) (hwf : reqWf rq = true) (hi : i < 65536) (hj : j < 256)
    (hbus : rq.inband = false) (hplain : rq.auth = false) (hdst : rq.dst = s.bus.addr) (hsrc : rq.src ≠ s.bus.addr)
    (haddr : s.bus.addr ≠ 127) (hmode : s.obj Obj.FB_AUTH_MODE ≠ 1) (hidle : s.bus.sendAt = none) (hroom : s.bus.txq.length < 32)
    (hsubs : s.bus.subs = []) (hanswered : s.bus.answered = [a]) (hkept : max s.now t < a.at0 + tickS) (hasrc : a.src = rq.src)
    (hatxn : a.txn = rq.txn) (hroute : a.route = none) :
    ∃ u, exec (.read t rq i j) s = .next u ∧ u.status = a.status ∧ s.counted u Obj.VDP_DUPLICATES 0 1 ∧
      s.counted u Obj.FB_FRAMES_RX 0 1 ∧ s.objsBut u [(Obj.VDP_DUPLICATES, 0), (Obj.FB_FRAMES_RX, 0)] ∧
      u.bus = { (s.atServer t rq).bus with txq := s.bus.txq ++ [{ urgent := true, dst := rq.src, msg := a.reply }] } ∧
      u = { s.atServer t rq with status := u.status, dict := u.dict, bus := u.bus } := by
  have harrives : s.Arrives rq := ⟨hup, hwf, hbus, hplain, .inl hdst, hsrc, ⟨hidle, .inr (.inl hsubs)⟩, hroom⟩
  have hfound : (s.atServer t rq).bus.answered.find? (fun a => a.src == rq.src && a.txn == rq.txn) = some a := by
    have hfilter : ([a].filter fun a => decide (max s.now t < a.at0 + tickS)) = [a] := List.filter_cons_of_pos (decide_eq_true hkept)
    change (s.bus.answered.filter fun a => decide (max s.now t < a.at0 + tickS)).find? _ = some a
    rw [hanswered, hfilter, List.find?_cons_of_pos (by rw [hasrc, hatxn, beq_self_eq_true, beq_self_eq_true, Bool.and_self])]
  have hread := harrives.exec_of_kept (v := .read i j) (t := t) (by simp [Svc.command, Instr.wf, hwf, hi, hj]) (fun _ => Svc.noConfusion)
    (fun hall => absurd (hdst.symm.trans hall) haddr) (authMissing_of_mode hmode) hfound hroute
  rw [hasrc] at hread
  refine ⟨_, hread, rfl, ?_, ?_, ?_, rfl, rfl⟩
  · change ((s.atServer t rq).bump Obj.VDP_DUPLICATES).obj Obj.VDP_DUPLICATES = _
    rw [State.obj_bump_same, State.obj_atServer s t rq (by decide)]
  · change ((s.atServer t rq).bump Obj.VDP_DUPLICATES).obj Obj.FB_FRAMES_RX = _
    rw [obj_bump_other _ 1 (by decide)]
    exact State.counted_bump s Obj.FB_FRAMES_RX 0 1
  · intro k l hl hkl
    obtain ⟨hdup, hframes⟩ := not_or.1 (mt (List.mem_append (s := [(Obj.VDP_DUPLICATES, 0)])).2 hkl)
    exact (State.objsBut_bump (s.atServer t rq) Obj.VDP_DUPLICATES 0 1 (by decide) k l hl hdup).trans
      (State.objsBut_bump s Obj.FB_FRAMES_RX 0 1 (by decide) k l hl hframes)

section
variable {x : Bytes} (h : s.receives t rq) (haddr : s.bus.addr ≠ 127) (hi : i < 65536) (hj : j < 256)
include h haddr hi hj

theorem State.meets_read_of_receives : s.Meets t rq (.read i j) := by
  obtain ⟨-, hwf, -⟩ := id h
  exact State.meets_of_receives h haddr (by simp [Svc.command, Instr.wf, hwf, hi, hj]) fun _ => Svc.noConfusion

variable (hx : x.length ≤ 9000)
include hx

theorem State.meets_write_of_receives : s.Meets t rq (.write i j x) := by
  obtain ⟨-, hwf, -⟩ := id h
  exact State.meets_of_receives h haddr (by simp [Svc.command, Instr.wf, hwf, hi, hj, hx]) fun _ => Svc.noConfusion

theorem exec_of_installed (hmode : s.obj Obj.FB_AUTH_MODE = 1) (hkey : s.ciph.slots[(241 : Fin 256)].st = .valid) :
    exec (.read t rq i j) s = .next ((s.atServer t rq).answeredAs rq 1 .auth []) ∧
    exec (.write t rq i j x) s = .next ((s.atServer t rq).answeredAs rq 2 .auth []) := by
  obtain ⟨-, -, -, hplain, -⟩ := id h
  exact ⟨(State.meets_read_of_receives h haddr hi hj).exec_of_authMissing (authMissing_of_installed hplain hmode hkey _),
    (State.meets_write_of_receives h haddr hi hj hx).exec_of_authMissing (authMissing_of_installed hplain hmode hkey _)⟩

variable (hmode : s.obj Obj.FB_AUTH_MODE ≠ 1)
include hmode

theorem exec_of_notManager (hworker : workerRefuses s rq.src none = true) :
    exec (.read t rq i j) s = .next ((s.atServer t rq).answeredAs rq 1 .notManager []) ∧
    exec (.write t rq i j x) s = .next ((s.atServer t rq).answeredAs rq 2 .notManager []) :=
  ⟨(State.meets_read_of_receives h haddr hi hj).exec_of_workerRefuses (authMissing_of_mode hmode) hworker,
    (State.meets_write_of_receives h haddr hi hj hx).exec_of_workerRefuses (authMissing_of_mode hmode) hworker⟩

variable (hworker : workerRefuses s rq.src none = false)
include hworker

theorem exec_of_waiting (hwaiting : 16 ≤ rq.waiting) :
    exec (.read t rq i j) s = .next ((s.atServer t rq).answeredAs rq 1 .busy []) ∧
    exec (.write t rq i j x) s = .next ((s.atServer t rq).answeredAs rq 2 .busy []) :=
  ⟨(State.meets_read_of_receives h haddr hi hj).exec_of_waiting (authMissing_of_mode hmode) (workerRefuses_of_none hworker _) hwaiting,
    (State.meets_write_of_receives h haddr hi hj hx).exec_of_waiting (authMissing_of_mode hmode) (workerRefuses_of_none hworker _)
      hwaiting⟩

theorem exec_write_of_long (hturn : rq.waiting < 16) (hlong : 1476 < x.length) :
    exec (.write t rq i j x) s = .next ((s.atServer t rq).answeredAs rq 2 .tooLong []) := by
  refine (State.meets_write_of_receives h haddr hi hj hx).exec_of_long (authMissing_of_mode hmode) (workerRefuses_of_none hworker _) hturn ?_
  simp [svcBody, zeros]
  omega

end

/-! ### What O59 says, at an address of its own -/

section
variable (h : s.receives t rq) (haddr : s.bus.addr ≠ 127) (hworker : workerRefuses s rq.src none = false) (hturn : rq.waiting < 16)
include h haddr hworker hturn

/-- A write of the mode passes every check while the mode is off or the key is not installed. -/
theorem State.performs_write_authMode (b : BitVec 8) (hopen : s.obj Obj.FB_AUTH_MODE ≠ 1 ∨ s.ciph.slots[(241 : Fin 256)].st ≠ .valid) :
    s.Performs t rq (.write Obj.FB_AUTH_MODE 0 [b]) := by
  have hmeets : s.Meets t rq (.write Obj.FB_AUTH_MODE 0 [b]) :=
    State.meets_write_of_receives h haddr (by decide) (by decide) (by simp)
  by_cases hmode : s.obj Obj.FB_AUTH_MODE = 1
  · exact hmeets.performs_of_bootstraps hmode (hopen.resolve_left (not_not_intro hmode)) rfl hworker hturn (by simp [svcBody, zeros])
  · exact State.performs_of_serves ⟨h, hmode, hworker, hturn⟩ (fun hall => absurd hall haddr) hmeets.carried hmeets.answers
      (by simp [svcBody, zeros])

theorem exec_write_authMode_on (hopen : s.obj Obj.FB_AUTH_MODE ≠ 1 ∨ s.ciph.slots[(241 : Fin 256)].st ≠ .valid) :
    exec (.write t rq Obj.FB_AUTH_MODE 0 [1]) s = .next (
      if s.ciph.blobState[(1 : Fin 3)] = 1 then ((s.atServer t rq).setObj Obj.FB_AUTH_MODE 0 1).answeredAs rq 2 .ok []
      else (s.atServer t rq).answeredAs rq 2 .state []) :=
  (State.performs_write_authMode h haddr hworker hturn 1 hopen).exec_write_authMode_on

theorem exec_write_authMode_off (hopen : s.obj Obj.FB_AUTH_MODE ≠ 1 ∨ s.ciph.slots[(241 : Fin 256)].st ≠ .valid) :
    exec (.write t rq Obj.FB_AUTH_MODE 0 [0]) s =
      .next (((s.atServer t rq).setObj Obj.FB_AUTH_MODE 0 0).answeredAs rq 2 .ok []) :=
  (State.performs_write_authMode h haddr hworker hturn 0 hopen).exec_write_authMode_off

variable (hmode : s.obj Obj.FB_AUTH_MODE = 1) (hkey : s.ciph.slots[(241 : Fin 256)].st ≠ .valid)
include hmode hkey

theorem State.performs_read_of_not_installed (hi : i < 65536) (hj : j < 256) : s.Performs t rq (.read i j) :=
  (State.meets_read_of_receives h haddr hi hj).performs_of_bootstraps hmode hkey rfl hworker hturn (by simp [svcBody, zeros])

theorem exec_read_of_not_installed (hi : i < 65536) (hj : j < 256) : ∃ u, exec (.read t rq i j) s = .next u ∧ u.status ≠ .auth :=
  (State.performs_read_of_not_installed h haddr hworker hturn hmode hkey hi hj).exec_read

theorem exec_read_authMode_of_not_installed :
    exec (.read t rq Obj.FB_AUTH_MODE 0) s = .next ((s.atServer t rq).answeredAs rq 1 .ok [1]) := by
  have hread := (State.performs_read_of_not_installed h haddr hworker hturn hmode hkey (i := Obj.FB_AUTH_MODE) (j := 0) (by decide)
    (by decide)).exec_read_authMode
  rwa [hmode] at hread

theorem exec_write_arrayKeyBlob_of_not_installed {d : Bytes} (hd : d.length = 40) :
    exec (.write t rq Obj.CIPH_ARRAY_KEY_BLOB 0 d) s = .next (State.answeredAs
      { s.atServer t rq with
        flash := { (s.qspi (qspiWrite (blobAddr 1) 40)).flash with blobs := s.flash.blobs.set 1 d }
        ciph := { s.ciph with blobRun := s.ciph.blobRun.set 1 (some (max s.now t)) } } rq 2 .ok []) := by
  have hmeets : s.Meets t rq (.write Obj.CIPH_ARRAY_KEY_BLOB 0 d) :=
    State.meets_write_of_receives h haddr (by decide) (by decide) (by omega)
  exact (hmeets.performs_of_bootstraps hmode hkey rfl hworker hturn (by simp [svcBody, zeros, hd])).exec_write_arrayKeyBlob hd

end

/-- A write of 1 by the command of its own is decided by the blob state in the same way. -/
theorem exec_fbAuthMode_on (hup : s.serverUp = true) : exec (.fbAuthMode t 1) s = .next (if s.ciph.blobState[(1 : Fin 3)] = 1
      then { s with now := max s.now t, status := .ok, dict := (s.setObj Obj.FB_AUTH_MODE 0 1).dict }
      else { s with now := max s.now t, status := .state }) := by
  have hup' : (s.advance t).serverUp = true := hup
  have hwrite : (s.advance t).hostWrite (authMode 1) = _ := (if_pos hup').trans (authMode_of_on (s.advance t))
  by_cases hkey : s.ciph.blobState[(1 : Fin 3)] = 1
  · rw [if_pos hkey]
    exact done_next (hwrite.trans (if_pos hkey)) rfl
  · rw [if_neg hkey]
    exact done_next (hwrite.trans (if_neg hkey)) rfl

/-- Every other request is answered with AUTH while the mode is 1 and the key is not installed. -/
theorem exec_of_not_installed {v : Svc} (h : s.receives t rq) (haddr : s.bus.addr ≠ 127) (hmode : s.obj Obj.FB_AUTH_MODE = 1)
    (hkey : s.ciph.slots[(241 : Fin 256)].st ≠ .valid) (hwf : (v.command t rq).wf = true) (hanswers : ∀ l, v ≠ .event l)
    (hread : ∀ k l, v ≠ .read k l) (hwrite : ∀ k l d, v = .write k l d → k ≠ Obj.FB_AUTH_MODE ∧ k ≠ Obj.CIPH_ARRAY_KEY_BLOB) :
    exec (v.command t rq) s = .next ((s.atServer t rq).answeredAs rq (svcCode v) .auth []) := by
  refine (State.meets_of_receives h haddr hwf hanswers).exec_of_not_bootstraps hmode hkey ?_
  cases v
  case read k l => exact absurd rfl (hread k l)
  case write k l d =>
    obtain ⟨hmodeObj, hblob⟩ := hwrite k l d rfl
    simp only [bootstraps, beq_false_of_ne hmodeObj, beq_false_of_ne hblob, Bool.or_false]
  all_goals rfl

end

end Sys2Proof.Machine
end

section
/-! PROOFS. Segmented transfers (R533, R560, R561, R570, R578) at a package with an address of its own: what O51 says, but for the
broadcast address. -/
namespace Sys2Proof.Machine

/-! ### SEG_BEGIN -/

section
variable {s : State} {rq : Req} {i j d n : Nat}

theorem segBegin_of_full (h : 4 ≤ s.bus.transfers.length) : segBegin rq i j d n s = (.busy, [], s) := if_pos h

variable (hopen : s.bus.transfers.length < 4)
include hopen

theorem segBegin_of_refused {st : Status} (hfound : findObj i j = .refused st) : segBegin rq i j d n s = (st, [], s) := by
  simp [segBegin, Nat.not_le.2 hopen, hfound]

theorem segBegin_of_count {m : Nat} (hfound : findObj i j = .count m) : segBegin rq i j d n s = (.typeMismatch, [], s) := by
  simp [segBegin, Nat.not_le.2 hopen, hfound]

variable {r : ObjRow} (hfound : findObj i j = .value r)
include hfound

theorem segBegin_of_plain (htype : r.ty ≠ .domain) : segBegin rq i j d n s = (.typeMismatch, [], s) := by
  simp [segBegin, Nat.not_le.2 hopen, hfound, htype]

variable (htype : r.ty = .domain)
include htype

theorem segBegin_of_range (h : 1 < d ∨ totalRefused i j n = true) : segBegin rq i j d n s = (.range, [], s) := by
  simp [segBegin, Nat.not_le.2 hopen, hfound, htype, h]

variable (hd : d ≤ 1) (htotal : totalRefused i j n = false)
include hd htotal

theorem segBegin_of_closed (h : domainOpens s i j d = false) : segBegin rq i j d n s = (.state, [], s) := by
  simp [segBegin, Nat.not_le.2 hopen, hfound, htype, Nat.not_lt.2 hd, htotal, h]

end

/-- The transfer that a SEG_BEGIN from the bus opens. -/
def openedBy (s : State) (rq : Req) (i j d n : Nat) (plan : List (Nat × Nat)) : Transfer :=
  { handle := s.bus.nextHandle, src := rq.src, index := i, sub := j, write := d == 1, total := n, seg := 0, segSize := 1456, data := []
    plan := plan, lastAt := s.now }

/-- The bus with one more transfer. -/
def Bus.opens (b : Bus) (x : Transfer) : Bus :=
  { b with nextHandle := (b.nextHandle + 1) % 65536, transfers := b.transfers ++ [x] }

theorem segBegin_of_opens {s : State} {rq : Req} {i j d n : Nat} {r : ObjRow} (hopen : s.bus.transfers.length < 4)
    (hfound : findObj i j = .value r) (htype : r.ty = .domain) (hd : d ≤ 1) (htotal : totalRefused i j n = false)
    (h : domainOpens s i j d = true) (hbus : rq.inband = false) {plan : List (Nat × Nat)}
    (hplan : (if d = 1 then [] else if i = Obj.EVT_LOG_DOMAIN then evtPlan s n else capPlan s n) = plan) :
    segBegin rq i j d n s = (.ok, beBytes 2 s.bus.nextHandle ++ [5, 0xB0],
      { s with bus := s.bus.opens (openedBy s rq i j d n plan) }) := by
  have hsize : beBytes 2 1456 = [5, 0xB0] := by decide
  simp only [segBegin, ge_iff_le, Nat.not_le.2 hopen, if_false, hfound, htype, ne_eq, not_true, gt_iff_lt, Nat.not_lt.2 hd, decide_false,
    htotal, Bool.or_false, Bool.false_eq_true, h, Bool.not_true, hbus, hplan, hsize]
  rfl

theorem findObj_log : findObj Obj.EVT_LOG_DOMAIN 0 = .value ⟨Obj.EVT_LOG_DOMAIN, 0, 0, .domain, .ro, 0, none⟩ := by decide

theorem findObj_cap : findObj Obj.CAP_DOMAIN 0 = .value ⟨Obj.CAP_DOMAIN, 0, 0, .domain, .ro, 0, none⟩ := by decide

theorem findObj_image {j : Nat} (hpos : 0 < j) (hle : j ≤ 3) :
    findObj Obj.BOOT_IMAGE_DOMAIN j = .value ⟨Obj.BOOT_IMAGE_DOMAIN, 3, 0, .domain, .wo, 0, none⟩ := by
  obtain rfl | rfl | rfl : j = 1 ∨ j = 2 ∨ j = 3 := by omega
  all_goals decide

theorem totalRefused_log (n : Nat) : totalRefused Obj.EVT_LOG_DOMAIN 0 n = (n % 32 != 0) := by
  have hcap : (Obj.EVT_LOG_DOMAIN == Obj.CAP_DOMAIN) = false := rfl
  have himage : (Obj.EVT_LOG_DOMAIN == Obj.BOOT_IMAGE_DOMAIN) = false := rfl
  simp [totalRefused, hcap, himage]

theorem totalRefused_cap (n : Nat) : totalRefused Obj.CAP_DOMAIN 0 n = (n % 64 != 0) := by
  have hlog : (Obj.CAP_DOMAIN == Obj.EVT_LOG_DOMAIN) = false := rfl
  have himage : (Obj.CAP_DOMAIN == Obj.BOOT_IMAGE_DOMAIN) = false := rfl
  simp [totalRefused, hlog, himage]

theorem evtPlan_atServer (s : State) (t : Nat) (rq : Req) (n : Nat) : evtPlan (s.atServer t rq) n = evtPlan s n := by
  simp only [evtPlan, State.obj_atServer s t rq (i := Obj.EVT_READ_SEQ) (j := 0) (by decide)]
  rfl

theorem capPlan_atServer (s : State) (t : Nat) (rq : Req) (n : Nat) : capPlan (s.atServer t rq) n = capPlan s n := by
  simp only [capPlan, State.obj_atServer s t rq (i := Obj.CAP_READ_FROM) (j := 0) (by decide)]
  rfl

/-! ### SEG_DATA and SEG_END on the one open transfer -/

/-- The state whose one transfer has closed. -/
def State.noTransfers (s : State) : State := { s with bus := { s.bus with transfers := [] } }

theorem State.noTransfers_obj (s : State) (i j : Nat) : s.noTransfers.obj i j = s.obj i j := rfl

theorem State.noTransfers_setObj_dict (s : State) (i j n : Nat) : (s.noTransfers.setObj i j n).dict = (s.setObj i j n).dict := rfl

theorem modTransfer_of_single {s : State} {x : Transfer} (f : Transfer → Transfer) (h : s.bus.transfers = [x]) :
    modTransfer x.handle f s = { s with bus := { s.bus with transfers := [f x] } } := by
  simp [modTransfer, State.modBus, h]

theorem closeTransfer_of_single {s : State} {x : Transfer} (h : s.bus.transfers = [x]) :
    closeTransfer x.handle s = s.noTransfers := by
  simp [closeTransfer, State.modBus, h, State.noTransfers]

theorem find?_transfer_of_single {s : State} {x : Transfer} (h : s.bus.transfers = [x]) :
    (s.bus.transfers.find? fun y => y.handle == x.handle) = some x := by
  simp [h]

theorem find?_transfer_of_unknown {s : State} {k : Nat} (h : (s.bus.transfers.all fun y => y.handle != k) = true) :
    (s.bus.transfers.find? fun y => y.handle == k) = none :=
  List.find?_eq_none.2 fun y hy => by simpa using List.all_eq_true.1 h y hy

/-- The bytes of a transfer that a segment asks for. -/
def Transfer.asked (x : Transfer) (g : Nat) : Nat := min x.segSize (x.total - g * x.segSize)

/-- The bytes that a segment in order returns: of a write none, of a read its part of the records as they are now. -/
def Transfer.served (x : Transfer) (s : State) : Bytes :=
  if x.write then [] else
    ((x.plan.flatMap (recordNow s x.index) ++ zeros (x.total - (x.plan.flatMap (recordNow s x.index)).length)).drop
      (x.seg * x.segSize)).take (x.asked x.seg)

theorem take_append_zeros {l : Bytes} {n : Nat} (h : l.length ≤ n) : (l ++ zeros n).take n = l ++ zeros (n - l.length) := by
  rw [List.take_append, List.take_of_length_le h, zeros, List.take_replicate, Nat.min_eq_left (Nat.sub_le _ _)]
  rfl

theorem take_min_drop {l : Bytes} {m n k : Nat} (h : l.length = n) : (l.drop k).take (min m (n - k)) = (l.drop k).take m := by
  rw [← h, ← List.length_drop, ← List.take_eq_take_min]

section
variable {s : State} {x : Transfer} {g : Nat} {d : Bytes} (hx : s.bus.transfers = [x])
include hx

/-- A segment that is refused leaves its transfer open, and heard of. -/
theorem segData_of_range (h : g ≠ x.seg ∨ x.asked g = 0 ∨ d.length ≠ if x.write then x.asked g else 0) :
    segData x.handle g d s = (.range, [], { s with bus := { s.bus with transfers := [{ x with lastAt := s.now }] } }) := by
  simp only [Transfer.asked] at h
  simp only [segData, find?_transfer_of_single hx, if_pos h, modTransfer_of_single _ hx]

theorem segData_of_turn {out got : Bytes} (hsome : x.asked x.seg ≠ 0) (hd : d.length = if x.write then x.asked x.seg else 0)
    (hout : x.served s = out) (hgot : (if x.write then d else out) = got) :
    segData x.handle x.seg d s = (.ok, out, { s with bus := { s.bus with
      transfers := [{ x with lastAt := s.now, seg := x.seg + 1, data := x.data ++ got }] } }) := by
  have hturn : ¬ (x.seg ≠ x.seg ∨ x.asked x.seg = 0 ∨ d.length ≠ if x.write then x.asked x.seg else 0) := by
    simp [hsome, hd]
  have hmod (f : Transfer → Transfer) := modTransfer_of_single (s := { s with bus := { s.bus with
    transfers := [{ x with lastAt := s.now }] } }) (x := { x with lastAt := s.now }) f rfl
  subst hout hgot
  simp only [Transfer.asked] at hturn
  simp only [segData, find?_transfer_of_single hx, if_neg hturn, modTransfer_of_single _ hx, hmod]
  rfl

theorem segEnd_of_range {c : Nat} (h : crc32c x.data ≠ c ∨ (x.write = true ∧ x.data.length ≠ x.total)) :
    segEnd x.handle c s = (.range, [], s.noTransfers) := by
  simp only [segEnd, find?_transfer_of_single hx, if_pos h, closeTransfer_of_single hx]

theorem segEnd_of_write (hwrite : x.write = true) (hlen : x.data.length = x.total) :
    segEnd x.handle (crc32c x.data) s =
      ((domainWritten x.sub x.data s.noTransfers).1, [],
        (domainWritten x.sub x.data s.noTransfers).2) := by
  simp [segEnd, hx, hwrite, hlen, closeTransfer_of_single hx]

theorem segEnd_of_read {n : Nat} (hread : x.write = false) (hcursor : cursorAfter x.data.length x.plan = some n) :
    segEnd x.handle (crc32c x.data) s =
      if x.index = Obj.EVT_LOG_DOMAIN
      then (.ok, [], s.noTransfers.setObj Obj.EVT_READ_SEQ 0 (n % 2 ^ 32))
      else (.ok, [], capReadFrom (n % 2 ^ 64) s.noTransfers) := by
  simp [segEnd, hx, hread, hcursor, closeTransfer_of_single hx]

end

/-- Advancing the cursor of the capture ring lets a stopped capture go on; taking it back does not (R578). -/
theorem capReadFrom_eq (n : Nat) (s : State) : capReadFrom n s =
    { s with
      dict := (s.setObj Obj.CAP_READ_FROM 0 n).dict
      cap := { s.cap with stopped := s.cap.stopped && decide (n ≤ s.obj Obj.CAP_READ_FROM) } } := by
  by_cases h : n ≤ s.obj Obj.CAP_READ_FROM
  · simp only [capReadFrom, gt_iff_lt, Nat.not_lt.2 h, decide_false, Bool.false_eq_true, if_false, h, decide_true, Bool.and_true]
    rfl
  · simp only [capReadFrom, gt_iff_lt, Nat.not_le.1 h, decide_true, if_true, h, decide_false, Bool.and_false]
    rfl

/-- A written firmware image goes to its place in flash (R513). -/
theorem domainWritten_of_safeMode {s : State} (k : Fin 2) (data : Bytes) (h : s.pwr.phase = .safeMode) :
    domainWritten (k.val + 1) data s = (.ok, { s with
      flash := { (s.qspi (qspiWrite (imageAddr k) data.length)).flash with images := s.flash.images.set k data } }) := by
  have hk : k.val + 1 ≠ 3 := by omega
  have hindex : subIx 2 (k.val + 1) = k := by simp [subIx]
  have hopens : domainOpens s Obj.BOOT_IMAGE_DOMAIN (k.val + 1) 1 = true := by simp [domainOpens, hk, h]
  simp only [domainWritten, hopens, Bool.not_true, Bool.false_eq_true, if_false, hk, hindex]
  rfl

/-! ### What O51 says, at an address of its own -/

section
variable {s : State} {t : Nat} {rq : Req} (h : s.serves t rq) (haddr : s.bus.addr ≠ 127)
include h haddr

section
variable {i j d n : Nat} (hi : i < 65536) (hj : j < 256) (hd : d < 256) (hn : n < 2 ^ 32)
include hi hj hd hn

theorem exec_segBegin {st : Status} {body : Bytes} {u : State} (hbegin : segBegin rq i j d n (s.atServer t rq) = (st, body, u))
    (hkeeps : u.fixedPart = (s.advance t).fixedPart) (hqueue : u.bus.txq = s.bus.txq) :
    exec (.segBegin t rq i j d n) s = .next (u.answeredAs rq 6 st body) := by
  obtain ⟨-, hwf, -⟩ := id h.1
  have hperforms : s.Performs t rq (.segBegin i j d n) := State.performs_of_serves h (fun hall => absurd hall haddr)
    (by simp [Svc.command, Instr.wf, hwf, hi, hj, hd]; omega) (fun _ => Svc.noConfusion) (by simp [svcBody])
  have hperform : perform none rq (.segBegin i j d n) (s.atServer t rq) = (some (st, body), u) := by
    simp only [perform, performOwn, hbegin]
  exact hperforms.exec_of_answer hperform hkeeps (hqueue ▸ hperforms.room)

theorem exec_segBegin_of_no {st : Status} (hbegin : segBegin rq i j d n (s.atServer t rq) = (st, [], s.atServer t rq)) :
    exec (.segBegin t rq i j d n) s = .next ((s.atServer t rq).answeredAs rq 6 st []) :=
  exec_segBegin h haddr hi hj hd hn hbegin rfl rfl

end

theorem exec_segBegin_of_no_domain {d n : Nat} (hd : d < 256) (hn : n < 2 ^ 32) (hopen : (s.atServer t rq).bus.transfers.length < 4) :
    exec (.segBegin t rq 0 0 d n) s = .next ((s.atServer t rq).answeredAs rq 6 .noObject []) ∧
    exec (.segBegin t rq Obj.EVT_LOG_DOMAIN 1 d n) s = .next ((s.atServer t rq).answeredAs rq 6 .noSub []) ∧
    exec (.segBegin t rq Obj.FB_ETHERTYPE 0 d n) s = .next ((s.atServer t rq).answeredAs rq 6 .typeMismatch []) ∧
    exec (.segBegin t rq Obj.BOOT_IMAGE_DOMAIN 0 d n) s = .next ((s.atServer t rq).answeredAs rq 6 .typeMismatch []) :=
  ⟨exec_segBegin_of_no h haddr (by decide) (by decide) hd hn (segBegin_of_refused hopen (by decide)),
    exec_segBegin_of_no h haddr (by decide) (by decide) hd hn (segBegin_of_refused hopen (by decide)),
    exec_segBegin_of_no h haddr (by decide) (by decide) hd hn
      (segBegin_of_plain hopen (r := ⟨Obj.FB_ETHERTYPE, 0, 0, .u16, .rws, 0x88B5, none⟩) (by decide) (by decide)),
    exec_segBegin_of_no h haddr (by decide) (by decide) hd hn (segBegin_of_count (m := 3) hopen (by decide))⟩

theorem exec_segBegin_log_of_range {d n : Nat} (hd : d < 256) (hn : n < 2 ^ 32) (hopen : (s.atServer t rq).bus.transfers.length < 4)
    (hbad : 1 < d ∨ n % 32 ≠ 0) :
    exec (.segBegin t rq Obj.EVT_LOG_DOMAIN 0 d n) s = .next ((s.atServer t rq).answeredAs rq 6 .range []) := by
  refine exec_segBegin_of_no h haddr (by decide) (by decide) hd hn (segBegin_of_range hopen findObj_log rfl ?_)
  rw [totalRefused_log]
  simpa using hbad

theorem exec_segBegin_of_closed {n : Nat} (hn : n < 2 ^ 32) (hopen : (s.atServer t rq).bus.transfers.length < 4) :
    (n % 32 = 0 → exec (.segBegin t rq Obj.EVT_LOG_DOMAIN 0 1 n) s = .next ((s.atServer t rq).answeredAs rq 6 .state [])) ∧
    (n % 64 = 0 → exec (.segBegin t rq Obj.CAP_DOMAIN 0 1 n) s = .next ((s.atServer t rq).answeredAs rq 6 .state [])) ∧
    (n % 64 ≠ 0 → exec (.segBegin t rq Obj.CAP_DOMAIN 0 0 n) s = .next ((s.atServer t rq).answeredAs rq 6 .range [])) ∧
    exec (.segBegin t rq Obj.BOOT_IMAGE_DOMAIN 3 0 n) s = .next ((s.atServer t rq).answeredAs rq 6 .state []) := by
  refine ⟨fun hwhole => ?_, fun hwhole => ?_, fun hpart => ?_, ?_⟩
  · exact exec_segBegin_of_no h haddr (by decide) (by decide) (by decide) hn
      (segBegin_of_closed hopen findObj_log rfl (by decide) (by simp [totalRefused_log, hwhole]) rfl)
  · exact exec_segBegin_of_no h haddr (by decide) (by decide) (by decide) hn
      (segBegin_of_closed hopen findObj_cap rfl (by decide) (by simp [totalRefused_cap, hwhole]) rfl)
  · exact exec_segBegin_of_no h haddr (by decide) (by decide) (by decide) hn
      (segBegin_of_range hopen findObj_cap rfl (.inr (by simp [totalRefused_cap, hpart])))
  · exact exec_segBegin_of_no h haddr (by decide) (by decide) (by decide) hn
      (segBegin_of_closed hopen (findObj_image (j := 3) (by decide) (by decide)) rfl (by decide) rfl rfl)

theorem exec_segBegin_of_full {n : Nat} (hn : n < 2 ^ 32) (hfull : 4 ≤ (s.atServer t rq).bus.transfers.length) :
    exec (.segBegin t rq Obj.EVT_LOG_DOMAIN 0 0 n) s = .next ((s.atServer t rq).answeredAs rq 6 .busy []) ∧
    exec (.segBegin t rq Obj.CAP_DOMAIN 0 0 n) s = .next ((s.atServer t rq).answeredAs rq 6 .busy []) :=
  ⟨exec_segBegin_of_no h haddr (by decide) (by decide) (by decide) hn (segBegin_of_full hfull),
    exec_segBegin_of_no h haddr (by decide) (by decide) (by decide) hn (segBegin_of_full hfull)⟩

section
variable {v : State} {n : Nat} (hv : v = s.atServer t rq) (hopen : v.bus.transfers.length < 4)
include hv hopen

theorem exec_segBegin_of_opens (hn : n < 2 ^ 32) (hwhole : n % 64 = 0) :
    exec (.segBegin t rq Obj.EVT_LOG_DOMAIN 0 0 n) s = .next (State.answeredAs
      { v with bus := { v.bus with
          nextHandle := (s.bus.nextHandle + 1) % 65536
          transfers := v.bus.transfers ++ [{
            handle := s.bus.nextHandle, src := rq.src, index := Obj.EVT_LOG_DOMAIN, sub := 0, write := false, total := n, seg := 0
            segSize := 1456, data := [], plan := evtPlan s n, lastAt := max s.now t }] } }
      rq 6 .ok (beBytes 2 s.bus.nextHandle ++ [5, 0xB0])) ∧
    exec (.segBegin t rq Obj.CAP_DOMAIN 0 0 n) s = .next (State.answeredAs
      { v with bus := { v.bus with
          nextHandle := (s.bus.nextHandle + 1) % 65536
          transfers := v.bus.transfers ++ [{
            handle := s.bus.nextHandle, src := rq.src, index := Obj.CAP_DOMAIN, sub := 0, write := false, total := n, seg := 0
            segSize := 1456, data := [], plan := capPlan s n, lastAt := max s.now t }] } }
      rq 6 .ok (beBytes 2 s.bus.nextHandle ++ [5, 0xB0])) := by
  subst hv
  obtain ⟨-, -, hbus, -⟩ := id h.1
  have hlog : n % 32 = 0 := by omega
  exact ⟨exec_segBegin h haddr (by decide) (by decide) (by decide) hn
      (segBegin_of_opens hopen findObj_log rfl (by decide) (by simp [totalRefused_log, hlog]) rfl hbus (evtPlan_atServer s t rq n))
      rfl rfl,
    exec_segBegin h haddr (by decide) (by decide) (by decide) hn
      (segBegin_of_opens hopen findObj_cap rfl (by decide) (by simp [totalRefused_cap, hwhole]) rfl hbus (capPlan_atServer s t rq n))
      rfl rfl⟩

theorem exec_segBegin_image_of_opens (k : Fin 2) (hn : n ≤ 15 * 2 ^ 20) (hsafe : s.pwr.phase = .safeMode) :
    exec (.segBegin t rq Obj.BOOT_IMAGE_DOMAIN (k.val + 1) 1 n) s = .next (State.answeredAs
      { v with bus := { v.bus with
          nextHandle := (s.bus.nextHandle + 1) % 65536
          transfers := v.bus.transfers ++ [{
            handle := s.bus.nextHandle, src := rq.src, index := Obj.BOOT_IMAGE_DOMAIN, sub := k.val + 1, write := true, total := n
            seg := 0, segSize := 1456, data := [], plan := [], lastAt := max s.now t }] } }
      rq 6 .ok (beBytes 2 s.bus.nextHandle ++ [5, 0xB0])) := by
  subst hv
  obtain ⟨-, -, hbus, -⟩ := id h.1
  have htotal : totalRefused Obj.BOOT_IMAGE_DOMAIN (k.val + 1) n = false := by
    have hlog : (Obj.BOOT_IMAGE_DOMAIN == Obj.EVT_LOG_DOMAIN) = false := rfl
    have hcap : (Obj.BOOT_IMAGE_DOMAIN == Obj.CAP_DOMAIN) = false := rfl
    have hsize : decide (n > 15 * 2 ^ 20) = false := decide_eq_false (Nat.not_lt.2 hn)
    simp only [totalRefused, hlog, hcap, hsize, Bool.false_and, Bool.and_false, Bool.or_false]
  have hopens : domainOpens (s.atServer t rq) Obj.BOOT_IMAGE_DOMAIN (k.val + 1) 1 = true := by
    have hk : k.val + 1 ≠ 3 := by omega
    have hphase : (s.atServer t rq).pwr.phase = .safeMode := hsafe
    simp [domainOpens, hk, hphase]
  exact exec_segBegin h haddr (by decide) (by omega) (by decide) (by omega)
    (segBegin_of_opens hopen (findObj_image (by omega) (by omega)) rfl (by decide) htotal hopens hbus rfl) rfl rfl

end

section
variable {k g : Nat} {d : Bytes} {st : Status} {body : Bytes} {u : State} (hk : k < 65536) (hg : g < 2 ^ 32)
include hk hg

theorem exec_segData (hd : d.length ≤ 1472) (hdata : segData k g d (s.atServer t rq) = (st, body, u))
    (hkeeps : u.fixedPart = (s.advance t).fixedPart) (hqueue : u.bus.txq = s.bus.txq) :
    exec (.segData t rq k g d) s = .next (u.answeredAs rq 7 st body) := by
  obtain ⟨-, hwf, -⟩ := id h.1
  have hperforms : s.Performs t rq (.segData k g d) := State.performs_of_serves h (fun hall => absurd hall haddr)
    (by simp [Svc.command, Instr.wf, hwf, hk]; omega) (fun _ => Svc.noConfusion) (by simp [svcBody, zeros]; omega)
  have hperform : perform none rq (.segData k g d) (s.atServer t rq) = (some (st, body), u) := by
    simp only [perform, performOwn, hdata]
  exact hperforms.exec_of_answer hperform hkeeps (hqueue ▸ hperforms.room)

theorem exec_segEnd (hend : segEnd k g (s.atServer t rq) = (st, body, u)) (hkeeps : u.fixedPart = (s.advance t).fixedPart)
    (hqueue : u.bus.txq = s.bus.txq) : exec (.segEnd t rq k g) s = .next (u.answeredAs rq 8 st body) := by
  obtain ⟨-, hwf, -⟩ := id h.1
  have hperforms : s.Performs t rq (.segEnd k g) := State.performs_of_serves h (fun hall => absurd hall haddr)
    (by simp [Svc.command, Instr.wf, hwf, hk]; omega) (fun _ => Svc.noConfusion) (by simp [svcBody, zeros])
  have hperform : perform none rq (.segEnd k g) (s.atServer t rq) = (some (st, body), u) := by
    simp only [perform, performOwn, hend]
  exact hperforms.exec_of_answer hperform hkeeps (hqueue ▸ hperforms.room)

theorem exec_seg_of_unknown (hd : d.length ≤ 1472) (hunknown : ((s.atServer t rq).bus.transfers.all fun x => x.handle != k) = true) :
    exec (.segData t rq k g d) s = .next ((s.atServer t rq).answeredAs rq 7 .state []) ∧
    exec (.segEnd t rq k g) s = .next ((s.atServer t rq).answeredAs rq 8 .state []) := by
  have hnone := find?_transfer_of_unknown hunknown
  exact ⟨exec_segData h haddr hk hg hd (by simp only [segData, hnone]) rfl rfl,
    exec_segEnd h haddr hk hg (by simp only [segEnd, hnone]) rfl rfl⟩

end

section
variable {v : State} {x : Transfer} (hk : x.handle < 65536) (hv : v = s.atServer t rq) (hx : v.bus.transfers = [x])
include hk hv hx

theorem exec_segData_of_range {g : Nat} {d : Bytes} (hg : g < 2 ^ 32) (hd : d.length ≤ 1472)
    (hbad : g ≠ x.seg ∨ x.total ≤ g * x.segSize ∨ (x.write = false ∧ d ≠ [])) :
    exec (.segData t rq x.handle g d) s = .next (State.answeredAs
      { v with bus := { v.bus with transfers := [{ x with lastAt := max s.now t }] } } rq 7 .range []) := by
  subst hv
  refine exec_segData h haddr hk hg hd (segData_of_range hx ?_) rfl rfl
  obtain hturn | hpast | ⟨hread, hdata⟩ := hbad
  · exact .inl hturn
  · exact .inr (.inl (by simp [Transfer.asked, hpast]))
  · exact .inr (.inr (by simpa [hread] using hdata))

theorem exec_segData_of_write {d : Bytes} (hseg : x.seg < 2 ^ 32) (hd : d.length ≤ 1472) (hwrite : x.write = true) (hsome : d ≠ [])
    (hlen : d.length = min x.segSize (x.total - x.seg * x.segSize)) :
    exec (.segData t rq x.handle x.seg d) s = .next (State.answeredAs
      { v with bus := { v.bus with transfers := [{ x with lastAt := max s.now t, seg := x.seg + 1, data := x.data ++ d }] } }
      rq 7 .ok []) := by
  subst hv
  have hasked : x.asked x.seg ≠ 0 := fun hnone => hsome (List.length_eq_zero_iff.1 (hlen.trans hnone))
  have hdata := segData_of_turn hx hasked (by rw [hwrite]; exact hlen) (if_pos hwrite) (if_pos hwrite)
  exact exec_segData h haddr hk hseg hd hdata rfl rfl

theorem exec_segData_of_read {d : Bytes} (hseg : x.seg < 2 ^ 32) (hread : x.write = false) (hsize : x.segSize = 1456)
    (hsome : x.seg * x.segSize < x.total)
    (hd : d = ((x.plan.flatMap (recordNow s x.index) ++ zeros x.total).take x.total).drop (x.seg * x.segSize))
    (hfits : (x.plan.flatMap (recordNow s x.index)).length ≤ x.total) :
    exec (.segData t rq x.handle x.seg []) s = .next (State.answeredAs
      { v with bus := { v.bus with transfers := [{ x with lastAt := max s.now t, seg := x.seg + 1, data := x.data ++ d.take 1456 }] } }
      rq 7 .ok (d.take 1456)) := by
  subst hv
  have hasked : x.asked x.seg ≠ 0 := by
    simp only [Transfer.asked]
    omega
  have hserved : x.served (s.atServer t rq) = d.take 1456 := by
    have hrecords : recordNow (s.atServer t rq) = recordNow s := rfl
    have hlen : (x.plan.flatMap (recordNow s x.index) ++ zeros (x.total - (x.plan.flatMap (recordNow s x.index)).length)).length =
        x.total := by
      rw [List.length_append, zeros, List.length_replicate]
      omega
    rw [hd, take_append_zeros hfits, Transfer.served, if_neg (by simp [hread]), Transfer.asked, hsize, hrecords]
    exact take_min_drop hlen
  have hdata := segData_of_turn hx hasked (d := []) (by rw [hread]; rfl) hserved (if_neg (by simp [hread]))
  exact exec_segData h haddr hk hseg (by simp) hdata rfl rfl

theorem exec_segEnd_of_range {c : Nat} (hc : c < 2 ^ 32) (hbad : crc32c x.data ≠ c ∨ (x.write = true ∧ x.data.length ≠ x.total)) :
    exec (.segEnd t rq x.handle c) s = .next (State.answeredAs { v with bus := { v.bus with transfers := [] } } rq 8 .range []) := by
  subst hv
  exact exec_segEnd h haddr hk hc (segEnd_of_range hx hbad) rfl rfl

variable (hc : crc32c x.data < 2 ^ 32)
include hc

theorem exec_segEnd_of_log {n : Nat} (hread : x.write = false) (hindex : x.index = Obj.EVT_LOG_DOMAIN)
    (hcursor : cursorAfter x.data.length x.plan = some n) :
    exec (.segEnd t rq x.handle (crc32c x.data)) s = .next (State.answeredAs
      { v with bus := { v.bus with transfers := [] }, dict := (v.setObj Obj.EVT_READ_SEQ 0 (n % 2 ^ 32)).dict } rq 8 .ok []) := by
  subst hv
  exact exec_segEnd h haddr hk hc ((segEnd_of_read hx hread hcursor).trans (if_pos hindex)) rfl rfl

theorem exec_segEnd_of_capture {n : Nat} (hread : x.write = false) (hindex : x.index = Obj.CAP_DOMAIN)
    (hcursor : cursorAfter x.data.length x.plan = some n) :
    exec (.segEnd t rq x.handle (crc32c x.data)) s = .next (State.answeredAs
      { v with
        bus := { v.bus with transfers := [] }, dict := (v.setObj Obj.CAP_READ_FROM 0 (n % 2 ^ 64)).dict
        cap := { v.cap with stopped := v.cap.stopped && decide (n % 2 ^ 64 ≤ s.obj Obj.CAP_READ_FROM) } } rq 8 .ok []) := by
  subst hv
  have hother : x.index ≠ Obj.EVT_LOG_DOMAIN := by rw [hindex]; decide
  have hcursor' : (s.atServer t rq).obj Obj.CAP_READ_FROM = s.obj Obj.CAP_READ_FROM := State.obj_atServer s t rq (by decide)
  have hend := (segEnd_of_read hx hread hcursor).trans (if_neg hother)
  rw [capReadFrom_eq, State.noTransfers_obj, State.noTransfers_setObj_dict, hcursor'] at hend
  exact exec_segEnd h haddr hk hc hend rfl rfl

theorem exec_segEnd_of_image {k : Fin 2} (hwrite : x.write = true) (hsub : x.sub = k.val + 1) (hlen : x.data.length = x.total)
    (hsafe : s.pwr.phase = .safeMode) :
    exec (.segEnd t rq x.handle (crc32c x.data)) s = .next (State.answeredAs
      { v with
        bus := { v.bus with transfers := [] }
        flash := { (s.qspi (qspiWrite (imageAddr k) x.data.length)).flash with images := s.flash.images.set k x.data } } rq 8 .ok []) := by
  subst hv
  have hend := segEnd_of_write hx hwrite hlen
  have hdomain := domainWritten_of_safeMode (s := (s.atServer t rq).noTransfers) k x.data hsafe
  rw [hsub, hdomain] at hend
  exact exec_segEnd h haddr hk hc hend rfl rfl

end

end

/-- A transfer with no request for 5 s closes, whatever the address (R533). -/
theorem exec_transferClose (s : State) (t : Nat) : exec (.transferClose t) s = .next { s with
    now := max s.now t
    bus := { s.bus with
      subs := s.bus.subs.filter fun x => decide (max s.now t < x.lastHeard + 60 * tickS)
      answered := s.bus.answered.filter fun a => decide (max s.now t < a.at0 + tickS)
      transfers := s.bus.transfers.filter fun x => decide (max s.now t < x.lastAt + 5 * tickS) } } :=
  done_next rfl rfl

end Sys2Proof.Machine
end

section
/-! PROOFS. Subscriptions and EVENT messages (R534, R542, R574) at a package with an address of its own: what O52 says, but for the
broadcast address. -/
namespace Sys2Proof.Machine

/-! ### SUBSCRIBE -/

/-- The subscriptions that an identical SUBSCRIBE leaves. -/
def otherSubs (s : State) (rq : Req) (a b : Nat) : List Subscription :=
  s.bus.subs.filter fun x => !(x.src == rq.src && x.first == a && x.last == b)

/-- The bus with other subscriptions. -/
def State.withSubs (s : State) (l : List Subscription) : State := { s with bus := { s.bus with subs := l } }

/-- The subscription that a request makes now. -/
def subscribed (s : State) (rq : Req) (a b : Nat) : Subscription :=
  { src := rq.src, first := a, last := b, auth := rq.auth, route := none, lastHeard := s.now }

/-- A manager subscribes itself at a node that is Present (R542). -/
def subscribeIfPresent (x : Subscription) (s : State) (m : Fin 64) : State :=
  if s.bus.members[m].st = .present then subscribeAt m.val s x else s

section
variable {s : State} {rq : Req} {a b : Nat}

theorem subscribe_of_range {k : Nat} (h : 1 < k ∨ b < a) : subscribe none rq a b k s = (.range, [], s) := by
  simp [subscribe, h]

variable (hab : a ≤ b)
include hab

theorem subscribe_of_removes : subscribe none rq a b 0 s = (.ok, [], s.withSubs (otherSubs s rq a b)) := by
  simp [subscribe, Nat.not_lt.2 hab, State.modBus, State.withSubs, otherSubs]

theorem subscribe_of_full (hfull : 8 ≤ (otherSubs s rq a b).length) : subscribe none rq a b 1 s = (.busy, [], s) := by
  have hrange : ¬ (1 > 1 ∨ a > b) := by omega
  simp only [subscribe, if_neg hrange, if_neg Nat.one_ne_zero]
  exact if_pos hfull

theorem subscribe_of_adds (hroom : (otherSubs s rq a b).length < 8) :
    subscribe none rq a b 1 s = (.ok, [],
      if s.bus.manager then
        (fins 64).foldl (subscribeIfPresent (subscribed s rq a b)) (s.withSubs (otherSubs s rq a b ++ [subscribed s rq a b]))
      else s.withSubs (otherSubs s rq a b ++ [subscribed s rq a b])) := by
  have hrange : ¬ (1 > 1 ∨ a > b) := by omega
  simp only [subscribe, if_neg hrange, if_neg Nat.one_ne_zero]
  exact if_neg (Nat.not_le.2 hroom)

end

theorem subscribeIfPresent_of_not {s : State} {m : Fin 64} (x : Subscription) (h : s.bus.members[m].st ≠ .present) :
    subscribeIfPresent x s m = s := if_neg h

theorem foldl_subscribeIfPresent_of_none {s : State} {l : List (Fin 64)} (x : Subscription)
    (h : ∀ m ∈ l, s.bus.members[m].st ≠ .present) : l.foldl (subscribeIfPresent x) s = s := by
  induction l with
  | nil => rfl
  | cons m l ih =>
    obtain ⟨hm, hl⟩ := List.forall_mem_cons.1 h
    rw [List.foldl_cons, subscribeIfPresent_of_not x hm, ih hl]

/-- The part of a subscription's range that lies in a node, as the body of a SUBSCRIBE. -/
def partBody (x : Subscription) (a : Nat) : Bytes :=
  beBytes 2 (max x.first (1024 * a)) ++ beBytes 2 (min x.last (1024 * a + 1023)) ++ [1, 0, 0, 0]

theorem subscribeAt_of_part {s : State} {a : Nat} {x : Subscription} (hlast : 1024 * a ≤ x.last) (hfirst : x.first ≤ 1024 * a + 1023)
    (hother : a ≠ s.bus.addr) (hplain : x.auth = false) (hroom : s.bus.txq.length < 32) :
    subscribeAt a s x = s.sends 9 a (partBody x a) := by
  have hpart : ¬ (x.last < 1024 * a ∨ x.first > 1024 * a + 1023 ∨ a = s.bus.addr) := by omega
  have hbody : beBytes 2 (max x.first (1024 * a)) ++ beBytes 2 (min x.last (1024 * a + 1023)) ++ beBytes 1 1 ++ zeros 3 =
      partBody x a := List.append_assoc _ _ _
  simp only [subscribeAt, if_neg hpart, hplain, hbody]
  exact sendOwn_eq_sends 9 a _ hroom

/-- The manager subscribes itself at the one node that is Present. -/
theorem foldl_subscribeIfPresent_of_one {s : State} {m : Fin 64} {x : Subscription} (hm : s.bus.members[m].st = .present)
    (hothers : ∀ o : Fin 64, o ≠ m → s.bus.members[o].st ≠ .present) (hlast : 1024 * m.val ≤ x.last)
    (hfirst : x.first ≤ 1024 * m.val + 1023) (hother : m.val ≠ s.bus.addr) (hplain : x.auth = false) (hroom : s.bus.txq.length < 32)
    {l : List (Fin 64)} (hnodup : l.Nodup) (hmem : m ∈ l) :
    l.foldl (subscribeIfPresent x) s = s.sends 9 m.val (partBody x m.val) := by
  obtain ⟨l₁, l₂, rfl⟩ := List.append_of_mem hmem
  obtain ⟨-, hright, hapart⟩ := List.nodup_append.1 hnodup
  have hnot : m ∉ l₂ := (List.nodup_cons.1 hright).1
  have hbefore : ∀ o ∈ l₁, s.bus.members[o].st ≠ .present := fun o ho =>
    hothers o (hapart o ho m List.mem_cons_self)
  have hafter : ∀ o ∈ l₂, (s.sends 9 m.val (partBody x m.val)).bus.members[o].st ≠ .present := fun o ho =>
    hothers o fun heq => hnot (heq ▸ ho)
  have hhere : subscribeIfPresent x s m = s.sends 9 m.val (partBody x m.val) :=
    (if_pos hm).trans (subscribeAt_of_part hlast hfirst hother hplain hroom)
  rw [List.foldl_append, foldl_subscribeIfPresent_of_none x hbefore, List.foldl_cons, hhere, foldl_subscribeIfPresent_of_none x hafter]

section
variable {s : State} {rq : Req} {a b : Nat} (hab : a ≤ b) (hfew : (otherSubs s rq a b).length < 8)
include hab hfew

theorem subscribe_of_alone (halone : s.bus.manager = false ∨ ∀ m : Fin 64, s.bus.members[m].st ≠ .present) :
    subscribe none rq a b 1 s = (.ok, [], s.withSubs (otherSubs s rq a b ++ [subscribed s rq a b])) := by
  rw [subscribe_of_adds hab hfew]
  obtain hworker | hnone := halone
  · rw [if_neg (ne_true_of_eq_false hworker)]
  · have hfold := foldl_subscribeIfPresent_of_none (s := s.withSubs (otherSubs s rq a b ++ [subscribed s rq a b])) (l := fins 64)
      (subscribed s rq a b) fun m _ => hnone m
    rw [hfold, ite_self]

theorem subscribe_of_one {m : Fin 64} (hmanager : s.bus.manager = true) (hpresent : s.bus.members[m].st = .present)
    (hothers : ∀ o : Fin 64, o ≠ m → s.bus.members[o].st ≠ .present) (hlast : 1024 * m.val ≤ b) (hfirst : a ≤ 1024 * m.val + 1023)
    (hother : m.val ≠ s.bus.addr) (hplain : rq.auth = false) (hroom : s.bus.txq.length < 32) :
    subscribe none rq a b 1 s = (.ok, [],
      (s.withSubs (otherSubs s rq a b ++ [subscribed s rq a b])).sends 9 m.val (partBody (subscribed s rq a b) m.val)) := by
  have hfold := foldl_subscribeIfPresent_of_one (s := s.withSubs (otherSubs s rq a b ++ [subscribed s rq a b])) (m := m)
    (x := subscribed s rq a b) hpresent hothers hlast hfirst hother hplain hroom (List.nodup_finRange 64) (List.mem_finRange m)
  rw [subscribe_of_adds hab hfew, if_pos hmanager]
  exact congrArg (fun u => (Status.ok, [], u)) hfold

end

/-! ### Events sent -/

theorem State.atServer_fixedPart (s : State) (t : Nat) (rq : Req) : (s.atServer t rq).fixedPart = (s.advance t).fixedPart := rfl

theorem State.bump_fixedPart (s : State) (i j n : Nat) : (s.bump i j n).fixedPart = s.fixedPart := rfl

theorem State.sends_fixedPart (s : State) (svc dst : Nat) (body : Bytes) : (s.sends svc dst body).fixedPart = s.fixedPart := rfl

theorem eventsTo_nil (src : Nat) (auth : Bool) (route : Option Bytes) (s : State) : eventsTo src auth route [] s = s := rfl

/-- Records that the one subscription covers go out in one message, in their order (R534). -/
theorem eventsOut_of_one {s : State} {x : Subscription} {rs c : List EvRec} (hsubs : s.bus.subs = [x]) (hplain : x.auth = false)
    (hroute : x.route = none) (hroom : s.bus.txq.length < 32) (hsome : rs ≠ []) (hcovers : ∀ r ∈ rs, subCovers x r = true)
    (hchunk : evChunks rs.length (evSort rs) = [c]) : eventsOut rs s = s.sends 10 x.src (eventBody c) := by
  have hempty : ¬ rs.isEmpty = true := by simpa using hsome
  have hpeers : [x.src].eraseDups = [x.src] := by simp [List.eraseDups_cons]
  have hall : rs.filter (fun r => subCovers x r) = rs := List.filter_eq_self.2 hcovers
  have hnone : rs.filter (fun _ => false) = [] := List.filter_eq_nil_iff.2 fun _ _ => Bool.false_ne_true
  have hsend := sendOwn_eq_sends 10 x.src (eventBody c) hroom
  simp only [eventsOut, if_neg hempty, hsubs, List.map_cons, List.map_nil, hpeers, List.foldl_cons, List.foldl_nil, beq_self_eq_true,
    List.filter_cons_of_pos, List.filter_nil, List.head?_cons, Option.bind_some, hroute, List.any_cons, List.any_nil, hplain,
    Bool.false_and, Bool.or_false, Bool.not_false, Bool.true_and, hall, hnone, eventsTo_nil]
  simp only [eventsTo, hchunk, List.foldl_cons, List.foldl_nil, hsend]

theorem evChunks_of_one (r : EvRec) : evChunks [r].length (evSort [r]) = [[r]] := rfl

/-- Two records go out with the earlier one first. -/
theorem evChunks_of_two {r q : EvRec} (h : evKey q < evKey r) : evChunks [r, q].length (evSort [r, q]) = [[q, r]] := by
  simp [evChunks, evSort, evInsert, h]

theorem eventBody_of_one (r : EvRec) : eventBody [r] = [1, 0, 0, 0] ++ evBytes r := by
  simp [eventBody, zeros, beBytes]

theorem eventBody_of_two (q r : EvRec) : eventBody [q, r] = [2, 0, 0, 0] ++ evBytes q ++ evBytes r := by
  simp [eventBody, zeros, beBytes]

/-! ### EVENT messages -/

theorem eventIn_of_worker {s : State} (l : List Bytes) (h : s.bus.manager = false) : eventIn l s = s := by
  simp [eventIn, h]

/-- Records not older than what was sent wait for merging. -/
theorem eventIn_of_waits {s : State} {l : List Bytes} (hmanager : s.bus.manager = true)
    (hlater : (l.all fun r => decide (s.bus.mergedTo ≤ evKey (evOfBytes r) / 2 ^ 32)) = true) :
    eventIn l s = { s with bus := { s.bus with merge := s.bus.merge ++ l.map fun r => (evOfBytes r, s.now) } } := by
  rw [eventIn, if_neg (by simp [hmanager])]
  induction l generalizing s with
  | nil => simp
  | cons r l ih =>
    rw [List.all_cons, Bool.and_eq_true] at hlater
    obtain ⟨hr, hl⟩ := hlater
    rw [List.foldl_cons, if_neg (Nat.not_lt.2 (of_decide_eq_true hr)),
      ih (s := s.modBus fun x => { x with merge := x.merge ++ [(evOfBytes r, s.now)] }) hmanager hl]
    simp [State.modBus]

/-- A record older than what was sent is counted and goes out at once. -/
theorem eventIn_of_late {s : State} {r : Bytes} (hmanager : s.bus.manager = true) (hlate : evKey (evOfBytes r) / 2 ^ 32 < s.bus.mergedTo) :
    eventIn [r] s = eventsOut [evOfBytes r] (s.bump Obj.FB_EVENTS_LATE) := by
  simp only [eventIn, hmanager, Bool.not_true, Bool.false_eq_true, if_false, List.foldl_cons, List.foldl_nil, if_pos hlate]

/-! ### The records whose merge time is over -/

theorem eventMerge_of_down {s : State} (h : s.serverUp = false) : eventMerge s = s := by
  simp [eventMerge, h]

theorem eventMerge_of_not_due {s : State} (hup : s.serverUp = true) (hunsent : s.log.unsent = []) (h : mergeDue s = none) :
    eventMerge s = s := by
  simp [eventMerge, hup, drainEvents_of_unsent_nil hunsent, h]

/-- The bus once the records up to a key have gone out. -/
def Bus.merged (b : Bus) (k : Nat) : Bus :=
  { b with merge := b.merge.filter fun x => decide (evKey x.1 > k), mergedTo := max b.mergedTo (k / 2 ^ 32) }

theorem eventMerge_of_due {s : State} {k : Nat} (hup : s.serverUp = true) (hunsent : s.log.unsent = []) (h : mergeDue s = some k) :
    eventMerge s = eventsOut ((s.bus.merge.filter fun x => decide (evKey x.1 ≤ k)).map fun x => x.1)
      { s with bus := s.bus.merged k } := by
  simp only [eventMerge, hup, Bool.not_true, Bool.false_eq_true, if_false, drainEvents_of_unsent_nil hunsent, h]
  rfl

theorem mergeDue_of_none {s : State} (h : (s.bus.merge.all fun x => decide (s.now < x.2 + s.obj Obj.FB_EVENT_MERGE_MS * tickMs)) = true) :
    mergeDue s = none := by
  generalize hwait : s.obj Obj.FB_EVENT_MERGE_MS * tickMs = w at h
  have hnone : (s.bus.merge.filter fun x => decide (x.2 + w ≤ s.now)) = [] :=
    List.filter_eq_nil_iff.2 fun x hx => by simpa using List.all_eq_true.1 h x hx
  simp only [mergeDue, hwait, hnone, List.map_nil, List.max?_nil]

theorem max?_pair {m n : Nat} (h : n < m) : [m, n].max? = some m := by
  rw [List.max?_cons, List.max?_singleton, Option.elim_some, Nat.max_eq_left (Nat.le_of_lt h)]

/-- A due record takes an earlier one of two with it. -/
theorem mergeDue_of_two {s : State} {r q : EvRec} {a b : Nat} (hmerge : s.bus.merge = [(r, a), (q, b)]) (hkey : evKey q < evKey r)
    (hdue : a + s.obj Obj.FB_EVENT_MERGE_MS * tickMs ≤ s.now) : mergeDue s = some (evKey r) := by
  simp only [mergeDue, hmerge]
  generalize s.obj Obj.FB_EVENT_MERGE_MS * tickMs = w at hdue ⊢
  by_cases hq : b + w ≤ s.now
  · simp only [List.filter_cons, hdue, hq, decide_true, if_true, List.filter_nil, List.map_cons, List.map_nil, max?_pair hkey]
  · simp [hdue, hq]

/-! ### What O52 says, at an address of its own -/

section
variable {s : State} {t a b : Nat} {rq : Req}

section
variable (h : s.serves t rq) (haddr : s.bus.addr ≠ 127)
include h haddr

theorem exec_subscribe {k : Nat} {st : Status} {u : State} (ha : a < 65536) (hb : b < 65536) (hk : k < 256)
    (hsubscribe : subscribe none rq a b k (s.atServer t rq) = (st, [], u)) (hkeeps : u.fixedPart = (s.advance t).fixedPart)
    (hroom : u.bus.txq.length < 32) : exec (.subscribe t rq a b k) s = .next (u.answeredAs rq 9 st []) := by
  obtain ⟨-, hwf, -⟩ := id h.1
  have hperforms : s.Performs t rq (.subscribe a b k) := State.performs_of_serves h (fun hall => absurd hall haddr)
    (by simp [Svc.command, Instr.wf, hwf, ha, hb, hk]) (fun _ => Svc.noConfusion) (by simp [svcBody, zeros])
  have hperform : perform none rq (.subscribe a b k) (s.atServer t rq) = (some (st, []), u) := by
    simp only [perform, performOwn, hsubscribe]
  exact hperforms.exec_of_answer hperform hkeeps hroom

theorem exec_subscribe_of_range {k : Nat} (ha : a < 65536) (hb : b < 65536) (hk : k < 256) (hbad : 1 < k ∨ b < a) :
    exec (.subscribe t rq a b k) s = .next ((s.atServer t rq).answeredAs rq 9 .range []) :=
  exec_subscribe h haddr ha hb hk (subscribe_of_range hbad) rfl (State.reached_of_receives h.1).room

variable {v : State} (hab : a ≤ b) (hb : b < 65536) (hv : v = s.atServer t rq)
include hab hb hv

theorem exec_subscribe_of_removes :
    exec (.subscribe t rq a b 0) s = .next ((v.withSubs (otherSubs v rq a b)).answeredAs rq 9 .ok []) := by
  subst hv
  exact exec_subscribe h haddr (by omega) hb (by decide) (subscribe_of_removes hab) rfl (State.reached_of_receives h.1).room

theorem exec_subscribe_of_full (hfull : 8 ≤ (otherSubs v rq a b).length) :
    exec (.subscribe t rq a b 1) s = .next (v.answeredAs rq 9 .busy []) := by
  subst hv
  exact exec_subscribe h haddr (by omega) hb (by decide) (subscribe_of_full hab hfull) rfl (State.reached_of_receives h.1).room

variable (hfew : (otherSubs v rq a b).length < 8)
include hfew

theorem exec_subscribe_of_alone (halone : s.bus.manager = false ∨ ∀ m : Fin 64, s.bus.members[m].st ≠ .present) :
    exec (.subscribe t rq a b 1) s =
      .next ((v.withSubs (otherSubs v rq a b ++ [subscribed v rq a b])).answeredAs rq 9 .ok []) := by
  subst hv
  exact exec_subscribe h haddr (by omega) hb (by decide) (subscribe_of_alone hab hfew halone) rfl (State.reached_of_receives h.1).room

theorem exec_subscribe_of_one {m : Fin 64} (hmanager : s.bus.manager = true) (hroom : s.bus.txq.length < 31)
    (hother : m.val ≠ s.bus.addr) (hpresent : s.bus.members[m].st = .present)
    (hothers : ∀ o : Fin 64, o ≠ m → s.bus.members[o].st ≠ .present) (hlast : 1024 * m.val ≤ b) (hfirst : a ≤ 1024 * m.val + 1023) :
    exec (.subscribe t rq a b 1) s = .next (((v.withSubs (otherSubs v rq a b ++ [subscribed v rq a b])).sends 9 m.val
      (partBody (subscribed v rq a b) m.val)).answeredAs rq 9 .ok []) := by
  have hreached := State.reached_of_receives h.1
  subst hv
  have hone := subscribe_of_one (s := s.atServer t rq) hab hfew hmanager hpresent hothers hlast hfirst hother hreached.plain hreached.room
  refine exec_subscribe h haddr (by omega) hb (by decide) hone rfl ?_
  rw [State.sends, List.length_append]
  exact Nat.succ_lt_succ hroom

end

/-- Subscriptions silent for 60 s lapse, whatever the address (R534). -/
theorem exec_subscriptionLapse (s : State) (t : Nat) : exec (.subscriptionLapse t) s = .next { s with
    now := max s.now t
    bus := { s.bus with subs := s.bus.subs.filter fun x => decide (max s.now t < x.lastHeard + 60 * tickS) } } :=
  done_next rfl rfl

section
variable {l : List Bytes} (h : s.receives t rq) (haddr : s.bus.addr ≠ 127)
include h haddr

/-- An EVENT message is not answered, and needs no code (R542, R544). -/
theorem exec_event (hl : l.length < 256) (hrecords : (l.all fun r => r.length == 32) = true) {u : State}
    (hin : eventIn l (s.atServer t rq) = u) (hkeeps : u.fixedPart = (s.advance t).fixedPart) :
    exec (.event t rq l) s = .next u := by
  have harrives := State.arrives_of_receives h
  obtain ⟨-, -, -, -, hdst, -⟩ := id h
  have haddr' : (s.tookFrame t).bus.addr = s.bus.addr := rfl
  refine exec_command_eq (v := .event l) ?_ ?_ hkeeps
  · rw [Svc.command, Instr.wf, harrives.wf, hrecords, Bool.true_and, Bool.and_true]
    exact decide_eq_true hl
  · rw [harrives.serve_eq t]
    simp [serveReq, haddr', hdst, haddr, authCheck, harrives.plain, heardFrom_tookFrame, hin]

theorem exec_event_of_worker (hl : l.length < 256) (hrecords : (l.all fun r => r.length == 32) = true) (hworker : s.bus.manager = false) :
    exec (.event t rq l) s = .next (s.atServer t rq) :=
  exec_event h haddr hl hrecords (eventIn_of_worker l hworker) rfl

variable (hmanager : s.bus.manager = true)
include hmanager

theorem exec_event_of_waits {v : State} (hl : l.length < 256) (hrecords : (l.all fun r => r.length == 32) = true)
    (hv : v = s.atServer t rq) (hlater : (l.all fun r => decide (s.bus.mergedTo ≤ evKey (evOfBytes r) / 2 ^ 32)) = true) :
    exec (.event t rq l) s = .next { v with bus := { v.bus with
      merge := v.bus.merge ++ (l.map fun r => (evOfBytes r, max s.now t)) } } := by
  subst hv
  exact exec_event h haddr hl hrecords (eventIn_of_waits (s := s.atServer t rq) hmanager hlater) rfl

section
variable {r : Bytes} (hr : r.length = 32) (hlate : evKey (evOfBytes r) / 2 ^ 32 < s.bus.mergedTo)
include hr hlate

theorem exec_event_of_late (hsubs : s.bus.subs = []) :
    exec (.event t rq [r]) s = .next ((s.atServer t rq).bump Obj.FB_EVENTS_LATE) := by
  have hnone : ((s.atServer t rq).bump Obj.FB_EVENTS_LATE).bus.subs = [] := by
    simp [State.bump, State.atServer, State.atFrame, State.atBus, hsubs]
  have hin := (eventIn_of_late (s := s.atServer t rq) hmanager hlate).trans
    (eventsOut_of_subs_nil (s := (s.atServer t rq).bump Obj.FB_EVENTS_LATE) hnone _)
  exact exec_event h haddr (by simp) (by simp [hr]) hin (by rw [State.bump_fixedPart, State.atServer_fixedPart])

theorem exec_event_of_late_sent {v : State} {x : Subscription} (hsubs : s.bus.subs = [x]) (hheard : max s.now t < x.lastHeard + 60 * tickS)
    (hplain : x.auth = false) (hroute : x.route = none) (hcovers : subCovers x (evOfBytes r) = true)
    (hv : v = (s.atServer t rq).bump Obj.FB_EVENTS_LATE) :
    exec (.event t rq [r]) s = .next (v.sends 10 x.src ([1, 0, 0, 0] ++ evBytes (evOfBytes r))) := by
  have hroom := (State.reached_of_receives h).room
  subst hv
  have hkept : ((s.atServer t rq).bump Obj.FB_EVENTS_LATE).bus.subs =
      [if x.src = rq.src then { x with lastHeard := max s.now t } else x] := by
    have hfilter : ([x].filter fun x => decide (max s.now t < x.lastHeard + 60 * tickS)) = [x] :=
      List.filter_cons_of_pos (decide_eq_true hheard)
    change (s.bus.subs.filter fun x => decide (max s.now t < x.lastHeard + 60 * tickS)).map _ = _
    rw [hsubs, hfilter]
    rfl
  have hout := eventsOut_of_one (s := (s.atServer t rq).bump Obj.FB_EVENTS_LATE) (rs := [evOfBytes r]) (c := [evOfBytes r]) hkept
    (by split <;> exact hplain) (by split <;> exact hroute) hroom (by simp)
    (by intro e he; rw [List.mem_singleton.1 he]; split <;> exact hcovers) (evChunks_of_one _)
  have hsrc : (if x.src = rq.src then { x with lastHeard := max s.now t } else x).src = x.src := by split <;> rfl
  rw [hsrc, eventBody_of_one] at hout
  have hin := (eventIn_of_late (s := s.atServer t rq) hmanager hlate).trans hout
  exact exec_event h haddr (by simp) (by simp [hr]) hin
    (by rw [State.sends_fixedPart, State.bump_fixedPart, State.atServer_fixedPart])

end

end

theorem exec_eventMerge_of_down (hdown : s.serverUp = false) : exec (.eventMerge t) s = .next (s.advance t) :=
  done_next (eventMerge_of_down (s := s.advance t) hdown) rfl

theorem exec_eventMerge_of_not_due (hup : s.serverUp = true) (hunsent : s.log.unsent = [])
    (h : (s.bus.merge.all fun x => decide (max s.now t < x.2 + s.obj Obj.FB_EVENT_MERGE_MS * tickMs)) = true) :
    exec (.eventMerge t) s = .next (s.advance t) :=
  done_next (eventMerge_of_not_due (s := s.advance t) hup hunsent (mergeDue_of_none h)) rfl

theorem exec_eventMerge_of_due {v : State} {x : Subscription} {r q : EvRec} {c d : Nat} (hup : s.serverUp = true)
    (hunsent : s.log.unsent = []) (hsubs : s.bus.subs = [x]) (hplain : x.auth = false) (hroute : x.route = none)
    (hroom : s.bus.txq.length < 32) (hmerge : s.bus.merge = [(r, c), (q, d)]) (hkey : evKey q < evKey r)
    (hdue : c + s.obj Obj.FB_EVENT_MERGE_MS * tickMs ≤ max s.now t) (hr : subCovers x r = true) (hq : subCovers x q = true)
    (hv : v = { s with now := max s.now t, bus := { s.bus with merge := [], mergedTo := max s.bus.mergedTo (evKey r / 2 ^ 32) } }) :
    exec (.eventMerge t) s = .next (v.sends 10 x.src ([2, 0, 0, 0] ++ evBytes q ++ evBytes r)) := by
  have hbus : s.bus.merged (evKey r) = { s.bus with merge := [], mergedTo := max s.bus.mergedTo (evKey r / 2 ^ 32) } := by
    simp [Bus.merged, hmerge, Nat.le_of_lt hkey]
  have hout : (s.bus.merge.filter fun x => decide (evKey x.1 ≤ evKey r)).map (fun x => x.1) = [r, q] := by
    simp [hmerge, Nat.le_of_lt hkey]
  have hevents := eventsOut_of_one (s := v) (rs := [r, q]) (c := [q, r]) (by rw [hv]; exact hsubs) hplain hroute (by rw [hv]; exact hroom)
    (by simp) (by simp [hr, hq]) (evChunks_of_two hkey)
  rw [eventBody_of_two] at hevents
  have heffect := eventMerge_of_due (s := s.advance t) hup hunsent (mergeDue_of_two (s := s.advance t) hmerge hkey hdue)
  have hstate : { s.advance t with bus := (s.advance t).bus.merged (evKey r) } = v := by
    rw [hv, State.advance_bus, hbus]
    rfl
  rw [State.advance_bus, hout, ← State.advance_bus s t, hstate, hevents] at heffect
  exact done_next heffect (by rw [hv]; rfl)

end

end Sys2Proof.Machine
end

section
/-! PROOFS. Forwards (R536, R541): what O55 says of FORWARD at a package with an address of its own, and of the forwards under way
at every address. -/
namespace Sys2Proof.Machine

/-! ### FORWARD at the manager -/

/-- The state of a node as a manager that forwards sees it: none but the nodes has a row. -/
def nodeState (s : State) (a : Nat) : MemberState := if a < 64 then s.bus.members[Fin.ofNat 64 a].st else .absent

/-- The forward that a request starts now. -/
def forwardNow (s : State) (rq : Req) (a : Nat) (x : Bytes) : Forward :=
  { req := rq, route := none, target := a, innerTxn := s.bus.nextTxn, inner := x, sentAt := s.now
    waking := nodeState s a == .asleep }

section
variable {s : State} {rq : Req} {a : Nat} {x : Bytes}

theorem forward_of_range (hbad : 127 ≤ a ∨ ∀ h ∈ vdpHeader x, h.svc = 14 ∨ h.resp = true) :
    forward none rq a x s = (some (.range, []), s) := by
  cases hheader : vdpHeader x with
  | none => simp only [forward, hheader]
  | some h =>
    have hno : (a ≥ 127 || h.svc == 0x0E || h.resp) = true := by
      obtain ha | hinner := hbad
      · simp [ha]
      · obtain hsvc | hresp := hinner h (Option.mem_def.2 hheader)
        · simp [hsvc]
        · simp [hresp]
    simp only [forward, hheader, hno, if_true]

variable {h : Vdp} (ha : a < 127) (hheader : vdpHeader x = some h) (hsvc : h.svc ≠ 14) (hresp : h.resp = false)
include ha hheader hsvc hresp

theorem forward_of_own (hown : a = s.bus.addr) : forward none rq a x s = forwardLocal rq h x s := by
  have hpass : (a ≥ 127 || h.svc == 0x0E || h.resp) = false := by simp [Nat.not_le.2 ha, hsvc, hresp]
  simp only [forward, hheader, hpass, Bool.false_eq_true, if_false, if_pos hown]

variable (hother : a ≠ s.bus.addr)
include hother

/-- The checks of a FORWARD to another node, in their order (R541). -/
theorem forward_of_other : forward none rq a x s =
    if nodeState s a = .absent then (some (.unreachable, []), s)
    else if nodeState s a = .conflict then (some (.state, []), s)
    else if h.length > 1500 then (some (.tooLong, []), s)
    else if forwardsTo s a ≥ 16 ∨ s.bus.forwards.length ≥ 64 then (some (.busy, []), s)
    else (none, sendInner a x s.bus.nextTxn { s with bus := { s.bus with
      nextTxn := (s.bus.nextTxn + 1) % 65536, forwards := s.bus.forwards ++ [forwardNow s rq a x] } }) := by
  have hpass : (a ≥ 127 || h.svc == 0x0E || h.resp) = false := by simp [Nat.not_le.2 ha, hsvc, hresp]
  simp only [forward, hheader, hpass, Bool.false_eq_true, if_false, if_neg hother]
  rfl

theorem forward_of_absent (hst : nodeState s a = .absent) : forward none rq a x s = (some (.unreachable, []), s) := by
  rw [forward_of_other ha hheader hsvc hresp hother, if_pos hst]

theorem forward_of_conflict (hst : nodeState s a = .conflict) : forward none rq a x s = (some (.state, []), s) := by
  rw [forward_of_other ha hheader hsvc hresp hother, if_neg (by simp [hst]), if_pos hst]

variable (hlive : nodeState s a ≠ .absent) (hclear : nodeState s a ≠ .conflict) (hlen : h.length ≤ 1500)
include hlive hclear hlen

theorem forward_of_full (hfull : 16 ≤ forwardsTo s a ∨ 64 ≤ s.bus.forwards.length) : forward none rq a x s = (some (.busy, []), s) := by
  rw [forward_of_other ha hheader hsvc hresp hother, if_neg hlive, if_neg hclear, if_neg (Nat.not_lt.2 hlen), if_pos hfull]

/-- The inner message goes out with the manager's own source and `TXN_ID`. -/
theorem forward_of_room (hplain : h.auth = false) (hworker : forwardsTo s a < 16) (hall : s.bus.forwards.length < 64)
    (hroom : s.bus.txq.length < 32) :
    forward none rq a x s = (none, State.sends { s with bus := { s.bus with forwards := s.bus.forwards ++ [forwardNow s rq a x] } }
      h.svc a (vdpBody h x)) := by
  have hfew : ¬ (forwardsTo s a ≥ 16 ∨ s.bus.forwards.length ≥ 64) := by omega
  rw [forward_of_other ha hheader hsvc hresp hother, if_neg hlive, if_neg hclear, if_neg (Nat.not_lt.2 hlen), if_neg hfew]
  simp only [sendInner, hheader, mkMsg, ownHdr, hplain, Bool.false_eq_true, if_false, pushBus, State.modBus, ge_iff_le,
    if_neg (Nat.not_le.2 hroom)]
  rfl

end

theorem length_vdpBytes (h : Vdp) : (vdpBytes h).length = 20 := length_beBytes 20 _

theorem length_answerMsg (addr : Nat) (rq : Req) (code : Nat) (st : Status) (body : Bytes) :
    (answerMsg addr rq code st body).length = 20 + body.length := by
  rw [answerMsg, List.length_append, length_vdpBytes]

/-- The request that a manager serves to itself for the inner message of a FORWARD. -/
def innerReq (s : State) (rq : Req) (h : Vdp) : Req :=
  { src := h.src, dst := s.bus.addr, txn := h.txn, inband := rq.inband, auth := h.auth, counter := h.counter, code := [], waiting := 0 }

theorem forwardLocal_of_read {s : State} {rq : Req} {h : Vdp} {x m : Bytes} {i j : Nat} {st : Status} {body : Bytes}
    (hparse : parseSvc h.svc (vdpBody h x) = some (.read i j))
    (hperform : performOwn none (innerReq s rq h) (.read i j) s = (some (st, body), s))
    (hrestore : restoreInner x s.bus.addr (statusCode st) body s = (m, s)) (hfits : fits rq m.length = true) :
    forwardLocal rq h x s = (some (.ok, m), s) := by
  rw [innerReq] at hperform
  simp only [forwardLocal, hparse, hperform, hrestore, hfits, if_true]

/-- A READ of `FB_WAKE_WAIT_MS` for the manager itself is served at once, and answered within the answer (R541). -/
theorem forwardLocal_read_wakeWait {s : State} {rq : Req} {x : Bytes} {h : Vdp} (hheader : vdpHeader x = some h) (hsvc : h.svc = 1)
    (hplain : h.auth = false) (hbody : vdpBody h x = [0x11, 0x08, 0, 0]) (hbus : rq.inband = false) (hauth : rq.auth = false) :
    forwardLocal rq h x s = (some (.ok,
      answerMsg s.bus.addr { rq with src := h.src, txn := h.txn } 1 .ok (beBytes 2 (s.obj Obj.FB_WAKE_WAIT_MS))), s) := by
  have hparse : parseSvc 1 [0x11, 0x08, 0, 0] = some (.read Obj.FB_WAKE_WAIT_MS 0) := by decide
  have hread := perform_read_wakeWait (rq := innerReq s rq h) hbus hplain s
  have hfits : fits rq (answerMsg s.bus.addr { rq with src := h.src, txn := h.txn } 1 .ok
      (beBytes 2 (s.obj Obj.FB_WAKE_WAIT_MS))).length = true :=
    fits_of_bus hbus hauth (by rw [length_answerMsg, length_beBytes]; decide)
  have hrestore : restoreInner x s.bus.addr (statusCode .ok) (beBytes 2 (s.obj Obj.FB_WAKE_WAIT_MS)) s =
      (answerMsg s.bus.addr { rq with src := h.src, txn := h.txn } 1 .ok (beBytes 2 (s.obj Obj.FB_WAKE_WAIT_MS)), s) := by
    simp [restoreInner, hheader, mkMsg, hplain, answerMsg, hsvc]
  exact forwardLocal_of_read (by rw [hsvc, hbody, hparse]) hread hrestore hfits

/-! ### What O55 says of FORWARD, at an address of its own -/

section
variable {s : State} {t a : Nat} {rq : Req} {x : Bytes} (h : s.serves t rq) (haddr : s.bus.addr ≠ 127) (hx : x.length ≤ 1476)
include h haddr hx

theorem State.performs_forward (ha : a < 256) : s.Performs t rq (.forward a x) := by
  obtain ⟨-, hwf, -⟩ := id h.1
  have hlen : x.length ≤ 9000 := by omega
  exact State.performs_of_serves h (fun hall => absurd hall haddr) (by simp [Svc.command, Instr.wf, hwf, ha, hlen])
    (fun _ => Svc.noConfusion) (by simp [svcBody, zeros]; omega)

theorem exec_forward_of_worker (ha : a < 256) (hworker : s.bus.manager = false) :
    exec (.forward t rq a x) s = .next ((s.atServer t rq).answeredAs rq 14 .notManager []) := by
  have hperforms := State.performs_forward h haddr hx ha
  have hmanager : (s.atServer t rq).bus.manager = false := hworker
  exact hperforms.exec_of_answer (by simp only [perform, hmanager, Bool.false_eq_true, if_false]) rfl hperforms.room

variable (hmanager : s.bus.manager = true)
include hmanager

theorem exec_forward_of_no {st : Status} {body : Bytes} (ha : a < 256)
    (hforward : forward none rq a x (s.atServer t rq) = (some (st, body), s.atServer t rq)) :
    exec (.forward t rq a x) s = .next ((s.atServer t rq).answeredAs rq 14 st body) := by
  have hperforms := State.performs_forward h haddr hx ha
  have hperform : perform none rq (.forward a x) (s.atServer t rq) = (some (st, body), s.atServer t rq) := (if_pos hmanager).trans hforward
  exact hperforms.exec_of_answer hperform rfl hperforms.room

theorem exec_forward_of_range (ha : a < 256) (hbad : 127 ≤ a ∨ ∀ g ∈ vdpHeader x, g.svc = 14 ∨ g.resp = true) :
    exec (.forward t rq a x) s = .next ((s.atServer t rq).answeredAs rq 14 .range []) :=
  exec_forward_of_no h haddr hx hmanager ha (forward_of_range hbad)

variable {g : Vdp} (hheader : vdpHeader x = some g) (hsvc : g.svc ≠ 14) (hresp : g.resp = false)
include hheader hsvc hresp

theorem exec_forward_of_refused (ha : a < 127) (hother : a ≠ s.bus.addr)
    (hbad : 64 ≤ a ∨ s.bus.members[Fin.ofNat 64 a].st = .absent ∨ s.bus.members[Fin.ofNat 64 a].st = .conflict ∨
      64 ≤ s.bus.forwards.length) :
    exec (.forward t rq a x) s = .next ((s.atServer t rq).answeredAs rq 14
      (if 64 ≤ a ∨ s.bus.members[Fin.ofNat 64 a].st = .absent then .unreachable
       else if s.bus.members[Fin.ofNat 64 a].st = .conflict then .state else .busy) []) := by
  have hlen := length_le_of_vdpHeader hheader
  have hstate : nodeState (s.atServer t rq) a = if a < 64 then s.bus.members[Fin.ofNat 64 a].st else .absent := rfl
  refine exec_forward_of_no h haddr hx hmanager (by omega) ?_
  by_cases hnode : a < 64
  · rw [if_pos hnode] at hstate
    have hbad := hbad.resolve_left (Nat.not_le.2 hnode)
    simp only [Nat.not_le.2 hnode, false_or]
    by_cases habsent : s.bus.members[Fin.ofNat 64 a].st = .absent
    · rw [if_pos habsent]
      exact forward_of_absent ha hheader hsvc hresp hother (hstate.trans habsent)
    · rw [if_neg habsent]
      by_cases hconflict : s.bus.members[Fin.ofNat 64 a].st = .conflict
      · rw [if_pos hconflict]
        exact forward_of_conflict ha hheader hsvc hresp hother (hstate.trans hconflict)
      · rw [if_neg hconflict]
        exact forward_of_full ha hheader hsvc hresp hother (hstate ▸ habsent) (hstate ▸ hconflict) (by omega)
          (.inr ((hbad.resolve_left habsent).resolve_left hconflict))
  · rw [if_neg hnode] at hstate
    rw [if_pos (.inl (Nat.not_lt.1 hnode))]
    exact forward_of_absent ha hheader hsvc hresp hother hstate

theorem exec_forward_of_room {v : State} {m : Fin 64} (hother : m.val ≠ s.bus.addr) (hplain : g.auth = false)
    (hst : s.bus.members[m].st = .present ∨ s.bus.members[m].st = .asleep) (hfew : s.bus.forwards.length < 16)
    (hv : v = s.atServer t rq) :
    exec (.forward t rq m.val x) s = .next (State.sends { v with bus := { v.bus with
      forwards := s.bus.forwards ++ [{
        req := rq, route := none, target := m.val, innerTxn := s.bus.nextTxn, inner := x, sentAt := max s.now t
        waking := s.bus.members[m].st == .asleep }] } } g.svc m.val (vdpBody g x)) := by
  have hperforms := State.performs_forward h haddr hx (a := m.val) (by omega)
  have hlen := length_le_of_vdpHeader hheader
  have hstate : nodeState (s.atServer t rq) m.val = s.bus.members[m].st := by
    simp only [nodeState, if_pos m.isLt, fin_ofNat_val]
    rfl
  have hworker : forwardsTo (s.atServer t rq) m.val < 16 := Nat.lt_of_le_of_lt (List.length_filter_le _ _) hfew
  have hlive : nodeState (s.atServer t rq) m.val ≠ .absent ∧ nodeState (s.atServer t rq) m.val ≠ .conflict := by
    rw [hstate]
    obtain hpresent | hasleep := hst
    · rw [hpresent]
      decide
    · rw [hasleep]
      decide
  have hforward := forward_of_room (s := s.atServer t rq) (rq := rq) (a := m.val) (by omega) hheader hsvc hresp hother hlive.1 hlive.2
    (by omega) hplain hworker (Nat.lt_of_lt_of_le hfew (by decide)) hperforms.room
  rw [forwardNow, hstate] at hforward
  subst hv
  exact hperforms.exec_of_silence ((if_pos hmanager).trans hforward) rfl

end

theorem exec_forward_of_own {s : State} {t : Nat} {rq : Req} {x : Bytes} {g : Vdp} (h : s.serves t rq) (hx : x.length ≤ 1476)
    (hmanager : s.bus.manager = true) (haddr : s.bus.addr < 64) (hheader : vdpHeader x = some g) (hsvc : g.svc = 1)
    (hresp : g.resp = false) (hplain : g.auth = false) (hbody : vdpBody g x = [0x11, 0x08, 0, 0]) :
    exec (.forward t rq s.bus.addr x) s = .next ((s.atServer t rq).answeredAs rq 14 .ok
      (answerMsg s.bus.addr { rq with src := g.src, txn := g.txn } 1 .ok (beBytes 2 (s.obj Obj.FB_WAKE_WAIT_MS)))) := by
  obtain ⟨-, -, hbus, hauth, -⟩ := id h.1
  have hlocal := forwardLocal_read_wakeWait (s := s.atServer t rq) hheader hsvc hplain hbody hbus hauth
  rw [State.obj_atServer s t rq (by decide)] at hlocal
  exact exec_forward_of_no h (by omega) hx hmanager (by omega)
    ((forward_of_own (s := s.atServer t rq) (Nat.lt_of_lt_of_le haddr (by decide)) hheader (by simp [hsvc]) hresp rfl).trans hlocal)

/-! ### Inner responses -/

section
variable {s u : State} {t : Nat} {rq : Req} {y : Bytes} {h : Vdp}

theorem src_of_innerWf (hwf : innerWf rq y = true) (hheader : vdpHeader y = some h) : rq.src = h.src := by
  simp only [innerWf, hheader, Bool.and_eq_true, beq_iff_eq] at hwf
  obtain ⟨⟨-, heq⟩, -⟩ := hwf
  exact (congrArg Req.src heq).symm

theorem exec_innerResponse_of_down (hwf : innerWf rq y = true) (hdown : s.serverUp = false) :
    exec (.innerResponse t rq y) s = .next (s.advance t) := by
  have hdown' : (s.advance t).serverUp = false := hdown
  change doneIf _ _ _ _ = _
  rw [doneIf_true _ _ _ _ hwf]
  refine congrArg _ (State.after_eq ?_ rfl)
  simp only [innerResponse, hdown', Bool.false_eq_true, if_false]
  split <;> rfl

/-- A response to this package reaches the manager as a request does: its frame is counted and its source is heard. -/
theorem exec_innerResponse (hup : s.serverUp = true) (hmanager : s.bus.manager = true) (hquiet : s.busQuiet)
    (hwf : innerWf rq y = true) (hheader : vdpHeader y = some h) (hplain : h.auth = false) (hdst : h.dst = s.bus.addr)
    (hsrc : h.src ≠ s.bus.addr) (hrelay : relayInner h (vdpBody h y) (s.atServer t rq) = u)
    (hkeeps : u.fixedPart = (s.advance t).fixedPart) : exec (.innerResponse t rq y) s = .next u := by
  have hrqsrc := src_of_innerWf hwf hheader
  have hup' : (s.advance t).serverUp = true := hup
  have hheard : heardFrom h.src (s.tookFrame t) = s.atServer t rq := by rw [← hrqsrc]; rfl
  have htaken : frameTaken h.src s.bus.addr (s.atBus t) = s.tookFrame t := frameTaken_of_dst (.inl rfl) hsrc t
  have hauth : (reqOf h y 0).auth = false := hplain
  have hmanager' : (s.tookFrame t).bus.manager = true := hmanager
  have haddr : (s.tookFrame t).bus.addr = s.bus.addr := rfl
  change doneIf _ _ _ _ = _
  rw [doneIf_true _ _ _ _ hwf]
  refine congrArg _ (State.after_eq ?_ hkeeps)
  simp [innerResponse, hheader, hup', busReady_advance_of_busQuiet hquiet, htaken, responseIn, haddr, hdst,
    authCheck, hauth, hmanager', hheard, hrelay]

theorem relayInner_of_late {body : Bytes} (hlate : (s.bus.forwards.all fun f => f.target != h.src || f.innerTxn != h.txn) = true) :
    relayInner h body s = s := by
  have hnone : (s.bus.forwards.find? fun f => f.target == h.src && f.innerTxn == h.txn) = none := by
    refine List.find?_eq_none.2 fun f hf => ?_
    have hother := List.all_eq_true.1 hlate f hf
    rw [Bool.or_eq_true, bne_iff_ne, bne_iff_ne] at hother
    rw [Bool.and_eq_true, beq_iff_eq, beq_iff_eq]
    exact fun ⟨htarget, htxn⟩ => hother.elim (· htarget) (· htxn)
  simp only [relayInner, hnone]

/-- The inner response as the host sees it: an answer to the inner request. -/
def relayed (g h : Vdp) (body : Bytes) : Bytes :=
  vdpBytes { resp := true, auth := false, svc := g.svc, length := 20 + body.length, dst := g.src, src := h.src, status := h.status
             txn := g.txn, counter := 0 } ++ body

theorem relayInner_of_single {f : Forward} {g : Vdp} {body : Bytes} (hforwards : s.bus.forwards = [f]) (htarget : f.target = h.src)
    (htxn : f.innerTxn = h.txn) (hinner : vdpHeader f.inner = some g) (hplain : g.auth = false) (hauth : f.req.auth = false)
    (hbus : f.req.inband = false) (hroute : f.route = none) (hbody : body.length ≤ 1460) (hroom : s.bus.txq.length < 32) :
    relayInner h body s =
      State.answeredAs { s with bus := { s.bus with forwards := [] } } f.req 14 .ok (relayed g h body) := by
  have hfound : (s.bus.forwards.find? fun f => f.target == h.src && f.innerTxn == h.txn) = some f := by
    simp [hforwards, htarget, htxn]
  have hgone : (s.bus.forwards.filter fun x => x != f) = [] := by simp [hforwards]
  have hrestore (w : State) : restoreInner f.inner h.src h.status body w = (relayed g h body, w) := by
    simp [restoreInner, hinner, mkMsg, hplain, relayed]
  have hfits : fits f.req (relayed g h body).length = true :=
    fits_of_bus hbus hauth (by rw [relayed, List.length_append, length_vdpBytes]; omega)
  simp only [relayInner, hfound, State.modBus, hgone, hrestore, hfits, if_true, hroute]
  exact reply_eq_answeredAs_from (s := { s with bus := { s.bus with forwards := [] } }) _ _ _ 0 hauth hroom

theorem exec_innerResponse_of_late (hup : s.serverUp = true) (hmanager : s.bus.manager = true) (hquiet : s.busQuiet)
    (hwf : innerWf rq y = true) (hheader : vdpHeader y = some h) (hplain : h.auth = false) (hdst : h.dst = s.bus.addr)
    (hsrc : h.src ≠ s.bus.addr) (hlate : (s.bus.forwards.all fun f => f.target != h.src || f.innerTxn != h.txn) = true) :
    exec (.innerResponse t rq y) s = .next (s.atServer t rq) :=
  exec_innerResponse hup hmanager hquiet hwf hheader hplain hdst hsrc (relayInner_of_late (s := s.atServer t rq) hlate) rfl

theorem length_vdpBody_le {msg : Bytes} (hplain : h.auth = false) : (vdpBody h msg).length ≤ msg.length - 20 := by
  simp only [vdpBody, hplain, Bool.false_eq_true, if_false, List.length_drop, List.length_take]
  omega

theorem exec_innerResponse_of_single {v : State} {f : Forward} {g : Vdp} (hup : s.serverUp = true) (hmanager : s.bus.manager = true)
    (hquiet : s.busQuiet) (hwf : innerWf rq y = true) (hheader : vdpHeader y = some h) (hplain : h.auth = false)
    (hdst : h.dst = s.bus.addr) (hsrc : h.src ≠ s.bus.addr) (hforwards : s.bus.forwards = [f]) (htarget : f.target = h.src)
    (htxn : f.innerTxn = h.txn) (hinner : vdpHeader f.inner = some g) (hgplain : g.auth = false) (hauth : f.req.auth = false)
    (hbus : f.req.inband = false) (hroute : f.route = none) (hlen : y.length ≤ 1480) (hroom : s.bus.txq.length < 32)
    (hv : v = s.atServer t rq) :
    exec (.innerResponse t rq y) s = .next (State.answeredAs { v with bus := { v.bus with forwards := [] } } f.req 14 .ok
      (relayed g h (vdpBody h y))) := by
  subst hv
  have hbody := length_vdpBody_le (msg := y) hplain
  exact exec_innerResponse hup hmanager hquiet hwf hheader hplain hdst hsrc
    (relayInner_of_single (s := s.atServer t rq) hforwards htarget htxn hinner hgplain hauth hbus hroute (by omega) hroom) rfl

end

/-! ### Forwards whose time is over -/

/-- A forward to a node that is awake has waited too long for its answer (R541). -/
def Forward.late (s : State) (f : Forward) : Bool :=
  !f.waking && decide (s.now ≥ f.sentAt + s.obj Obj.FB_FWD_TIMEOUT_MS * tickMs)

section
variable {s : State} {t : Nat}

theorem fbFwdTimeout_of_up (hup : s.serverUp = true) (hquiet : s.busQuiet) :
    fbFwdTimeout (s.advance t) = ((s.bus.forwards.filter (Forward.late (s.atBus t))).foldl
      (fun s f => endForward .timeout (s.bump Obj.FB_FWD_TIMEOUTS) f)
      { s.atBus t with bus := { (s.atBus t).bus with forwards := s.bus.forwards.filter fun f => !Forward.late (s.atBus t) f } }) := by
  have hup' : (s.advance t).serverUp = true := hup
  simp only [fbFwdTimeout, hup', Bool.not_true, Bool.false_eq_true, if_false, busReady_advance_of_busQuiet hquiet]
  rfl

theorem exec_fbFwdTimeout_of_down (hdown : s.serverUp = false) : exec (.fbFwdTimeout t) s = .next (s.advance t) := by
  have hdown' : (s.advance t).serverUp = false := hdown
  exact done_next (by simp [fbFwdTimeout, hdown']) rfl

theorem exec_fbFwdTimeout_of_early (hup : s.serverUp = true) (hquiet : s.busQuiet)
    (h : (s.bus.forwards.all fun f => f.waking || decide (max s.now t < f.sentAt + s.obj Obj.FB_FWD_TIMEOUT_MS * tickMs)) = true) :
    exec (.fbFwdTimeout t) s = .next (s.atBus t) := by
  have hearly : ∀ f ∈ s.bus.forwards, Forward.late (s.atBus t) f = false := fun f hf => by
    have hf' := List.all_eq_true.1 h f hf
    rw [← Bool.not_eq_true']
    refine Eq.trans ?_ hf'
    rw [Forward.late, Bool.not_and, Bool.not_not, ← decide_not]
    simp only [ge_iff_le, Nat.not_le]
    rfl
  have hnone : s.bus.forwards.filter (Forward.late (s.atBus t)) = [] :=
    List.filter_eq_nil_iff.2 fun f hf => by simp [hearly f hf]
  have hall : (s.bus.forwards.filter fun f => !Forward.late (s.atBus t) f) = s.bus.forwards :=
    List.filter_eq_self.2 fun f hf => by simp [hearly f hf]
  refine done_next ((fbFwdTimeout_of_up hup hquiet).trans ?_) rfl
  rw [hnone, hall]
  rfl

theorem endForward_eq {f : Forward} {u : State} (st : Status) (hplain : f.req.auth = false) (hroute : f.route = none)
    (hroom : u.bus.txq.length < 32) : endForward st u f = u.answeredAs f.req 14 st [] := by
  rw [endForward, hroute]
  exact reply_eq_answeredAs_from _ _ _ 0 hplain hroom

theorem exec_fbFwdTimeout_of_late {v : State} {f : Forward} (hup : s.serverUp = true) (hquiet : s.busQuiet) (hforwards : s.bus.forwards = [f])
    (hwaking : f.waking = false) (hdue : f.sentAt + s.obj Obj.FB_FWD_TIMEOUT_MS * tickMs ≤ max s.now t) (hplain : f.req.auth = false)
    (hroute : f.route = none) (hroom : s.bus.txq.length < 32) (hv : v = (s.atBus t).bump Obj.FB_FWD_TIMEOUTS) :
    exec (.fbFwdTimeout t) s = .next (State.answeredAs { v with bus := { v.bus with forwards := [] } } f.req 14 .timeout []) := by
  have hlate : Forward.late (s.atBus t) f = true := by
    rw [Forward.late, hwaking, Bool.not_false, Bool.true_and]
    exact decide_eq_true hdue
  have hout : s.bus.forwards.filter (Forward.late (s.atBus t)) = [f] := by rw [hforwards]; exact List.filter_cons_of_pos hlate
  have hrest : (s.bus.forwards.filter fun f => !Forward.late (s.atBus t) f) = [] := by simp [hforwards, hlate]
  subst hv
  refine done_next ((fbFwdTimeout_of_up hup hquiet).trans ?_) rfl
  rw [hout, hrest]
  exact endForward_eq (u := State.bump { s.atBus t with bus := { (s.atBus t).bus with forwards := [] } } Obj.FB_FWD_TIMEOUTS) .timeout
    hplain hroute hroom

/-! ### Forwards to nodes that sleep -/

theorem fbWakeWait_of_up (hup : s.serverUp = true) (hquiet : s.busQuiet) :
    fbWakeWait (s.advance t) = (s.bus.forwards.filter fun f => f.waking).foldl wakeStep (s.atBus t) := by
  have hup' : (s.advance t).serverUp = true := hup
  simp only [fbWakeWait, hup', Bool.not_true, Bool.false_eq_true, if_false, busReady_advance_of_busQuiet hquiet]
  rfl

theorem exec_fbWakeWait_of_down (hdown : s.serverUp = false) : exec (.fbWakeWait t) s = .next (s.advance t) := by
  have hdown' : (s.advance t).serverUp = false := hdown
  exact done_next (by simp [fbWakeWait, hdown']) rfl

/-- A forward whose target still sleeps waits on. -/
theorem wakeStep_of_early {f : Forward} (hst : targetState s f ≠ .present)
    (hearly : s.now < f.sentAt + s.obj Obj.FB_WAKE_WAIT_MS * tickMs) : wakeStep s f = s := by
  rw [wakeStep, if_neg hst, if_neg (Nat.not_le.2 hearly)]

theorem foldl_wakeStep_of_early {l : List Forward} (h : ∀ f ∈ l, targetState s f ≠ .present ∧
    s.now < f.sentAt + s.obj Obj.FB_WAKE_WAIT_MS * tickMs) : l.foldl wakeStep s = s := by
  induction l with
  | nil => rfl
  | cons f l ih =>
    obtain ⟨⟨hst, hearly⟩, hl⟩ := List.forall_mem_cons.1 h
    rw [List.foldl_cons, wakeStep_of_early hst hearly, ih hl]

theorem exec_fbWakeWait_of_early (hup : s.serverUp = true) (hquiet : s.busQuiet)
    (h : (s.bus.forwards.all fun f => !f.waking || (decide (targetState s f ≠ .present) &&
      decide (max s.now t < f.sentAt + s.obj Obj.FB_WAKE_WAIT_MS * tickMs))) = true) :
    exec (.fbWakeWait t) s = .next (s.atBus t) := by
  refine done_next ((fbWakeWait_of_up hup hquiet).trans (foldl_wakeStep_of_early fun f hf => ?_)) rfl
  obtain ⟨hmem, hwaking⟩ := List.mem_filter.1 hf
  have hf' := List.all_eq_true.1 h f hmem
  rw [hwaking, Bool.not_true, Bool.false_or, Bool.and_eq_true] at hf'
  obtain ⟨hst, hearly⟩ := hf'
  exact ⟨of_decide_eq_true hst, of_decide_eq_true hearly⟩

section
variable {v : State} {f : Forward} (hup : s.serverUp = true) (hquiet : s.busQuiet) (hforwards : s.bus.forwards = [f])
  (hwaking : f.waking = true) (hroom : s.bus.txq.length < 32) (hv : v = s.atBus t)
include hup hquiet hforwards hwaking hroom hv

theorem exec_fbWakeWait_of_over (hst : targetState s f ≠ .present) (hdue : f.sentAt + s.obj Obj.FB_WAKE_WAIT_MS * tickMs ≤ max s.now t)
    (hplain : f.req.auth = false) (hroute : f.route = none) :
    exec (.fbWakeWait t) s = .next (State.answeredAs { v with bus := { v.bus with forwards := [] } } f.req 14 .unreachable []) := by
  have hout : (s.bus.forwards.filter fun f => f.waking) = [f] := by rw [hforwards]; exact List.filter_cons_of_pos hwaking
  have hgone : (s.bus.forwards.filter fun g => g != f) = [] := by simp [hforwards]
  have hstep : wakeStep (s.atBus t) f =
      endForward .unreachable { s.atBus t with bus := { (s.atBus t).bus with forwards := s.bus.forwards.filter fun g => g != f } } f :=
    (if_neg hst).trans (if_pos hdue)
  subst hv
  refine done_next ((fbWakeWait_of_up hup hquiet).trans ?_) rfl
  rw [hout, List.foldl_cons, List.foldl_nil, hstep, hgone]
  exact endForward_eq .unreachable hplain hroute hroom

theorem exec_fbWakeWait_of_present {h : Vdp} (hst : targetState s f = .present) (hinner : vdpHeader f.inner = some h)
    (hplain : h.auth = false) :
    exec (.fbWakeWait t) s = .next { v with bus := { v.bus with
      forwards := [{ f with waking := false, sentAt := max s.now t }]
      txq := s.bus.txq ++ [{
        urgent := false, dst := f.target, msg := ownMsg s.bus.addr h.svc f.target f.innerTxn (vdpBody h f.inner) }] } } := by
  have hout : (s.bus.forwards.filter fun f => f.waking) = [f] := by rw [hforwards]; exact List.filter_cons_of_pos hwaking
  have hawake : (s.bus.forwards.map fun g => if g = f then { f with waking := false, sentAt := max s.now t } else g) =
      [{ f with waking := false, sentAt := max s.now t }] := by simp [hforwards]
  have hstep : wakeStep (s.atBus t) f = sendInner f.target f.inner f.innerTxn { s.atBus t with bus := { (s.atBus t).bus with
      forwards := s.bus.forwards.map fun g => if g = f then { f with waking := false, sentAt := max s.now t } else g } } :=
    if_pos hst
  subst hv
  refine done_next ((fbWakeWait_of_up hup hquiet).trans ?_) rfl
  rw [hout, List.foldl_cons, List.foldl_nil, hstep, hawake]
  have hroom' : ¬ 32 ≤ (s.atBus t).bus.txq.length := Nat.not_le.2 hroom
  simp only [sendInner, hinner, mkMsg, ownHdr, hplain, Bool.false_eq_true, if_false, pushBus, State.modBus, ge_iff_le, if_neg hroom']
  rfl

end

end

end Sys2Proof.Machine
end

section
/-! PROOFS. READ and WRITE (R552-R554, R556, R608): what O49 says, at a package with an address of its own, and of the commands
of single objects at every address. -/
namespace Sys2Proof.Machine

/-! ### READ -/

/-- On an idle bus only two objects hold a value that accrues with time (R278, R507). -/
theorem settleObj_of_idle {s : State} {i : Nat} (j : Nat) (hidle : s.bus.sendAt = none)
    (hi : i ∉ [Obj.GOV_LIMITED_CYCLES, Obj.CTX_QUOTA_SHORT_CYCLES]) : settleObj i j s = s := by
  simp only [List.mem_cons, List.not_mem_nil, or_false, not_or] at hi
  obtain ⟨hlimited, hshort⟩ := hi
  have hbus : busSettle s = s := by simp [busSettle, hidle]
  simp only [settleObj, if_neg hlimited, if_neg hshort, hbus, ite_self]

section
variable {i j : Nat}

theorem readStatus_of_refused {st : Status} (hfound : findObj i j = .refused st) : readStatus i j = st := by
  simp only [readStatus, hfound]

theorem readStatus_of_count {n : Nat} (hfound : findObj i j = .count n) : readStatus i j = .ok := by
  simp only [readStatus, hfound]

theorem readStatus_of_value {r : ObjRow} (hfound : findObj i j = .value r) :
    readStatus i j = if r.acc = .wo ∨ r.acc = .cmd then .writeOnly else if bulkType r.ty then .typeMismatch else .ok := by
  simp only [readStatus, hfound]

/-- No object is found by a lookup that is refused with OK. -/
theorem findObj_ne_refused_ok (i j : Nat) : findObj i j ≠ .refused .ok := by
  simp only [findObj]
  repeat' split
  all_goals simp

theorem readSvc_of_refused {rq : Req} {s : State} {st : Status} (hstatus : readStatus i j = st) (hst : st ≠ .ok) :
    readSvc rq i j s = (st, [], s) := by
  subst hstatus
  simp only [readSvc, hst, false_and, if_false, readObj]

/-- A READ that is not refused answers with the bytes of its object and clears an RC object (R554). -/
theorem readSvc_of_ok {rq : Req} {s : State} {body : Bytes} (hbus : rq.inband = false) (hplain : rq.auth = false)
    (hstatus : readStatus i j = .ok) (hsettle : settleObj i j s = s) (hbody : readBytes s i j = body) (hlen : body.length ≤ 1480) :
    readSvc rq i j s = (.ok, body, readClears i j s) := by
  subst hbody
  simp only [readSvc, hstatus, fits_of_bus hbus hplain hlen, Bool.not_true, Bool.false_eq_true, and_false, if_false, readObj, hsettle]

theorem readBytes_of_count {n : Nat} (s : State) (hfound : findObj i j = .count n) : readBytes s i j = beBytes 1 n := by
  simp only [readBytes, hfound]

theorem readBytes_of_value {r : ObjRow} (s : State) (hfound : findObj i j = .value r) (hpop : i ≠ Obj.TS_POP) :
    readBytes s i j = beBytes (tySize r.ty) (objValue s i j) := by
  simp only [readBytes, hfound, if_neg hpop]

theorem readClears_of_count {n : Nat} (s : State) (hfound : findObj i j = .count n) : readClears i j s = s := by
  simp only [readClears, hfound]

/-- A counter that READ clears is 0 after it (R554). -/
theorem readClears_of_counter {r : ObjRow} (s : State) (hfound : findObj i j = .value r) (hacc : r.acc = .rc)
    (hi : i ∉ [Obj.TS_POP, Obj.DEV_ALERT_CAUSE, Obj.WAKE_CAUSE, Obj.MON_TEMP_MAX, Obj.HOP_POOL_MIN_FREE, Obj.CTX_MAX_IN_USE]) :
    readClears i j s = s.setObj i j 0 := by
  simp only [List.mem_cons, List.not_mem_nil, or_false, not_or] at hi
  obtain ⟨hpop, halert, hwake, htemp, hfree, huse⟩ := hi
  simp only [readClears, hfound, if_neg (not_not_intro hacc), if_neg hpop, if_neg halert, if_neg hwake, if_neg htemp, if_neg hfree,
    if_neg huse]

theorem readClears_of_kept {r : ObjRow} (s : State) (hfound : findObj i j = .value r) (hacc : r.acc ≠ .rc) : readClears i j s = s := by
  simp only [readClears, hfound, if_pos hacc]

end

theorem findObj_collisions : findObj Obj.FB_COLLISIONS 0 = .value ⟨Obj.FB_COLLISIONS, 0, 0, .u64, .rc, 0, none⟩ := by decide

theorem findObj_alertCause : findObj Obj.DEV_ALERT_CAUSE 0 = .value ⟨Obj.DEV_ALERT_CAUSE, 0, 0, .u16, .rc, 0xFFFF, none⟩ := by decide

/-- The read of the alert cause releases ALERT_N (R572). -/
theorem readClears_alertCause (s : State) :
    readClears Obj.DEV_ALERT_CAUSE 0 s = { s with island := { s.island with alertCause := 0xFFFF } } := by
  simp only [readClears, findObj_alertCause]
  rfl

/-! ### WRITE -/

theorem findObj_rxInvert (ch : Fin 4) : findObj Obj.DS_RX_INVERT (sub ch) = .value ⟨Obj.DS_RX_INVERT, 4, 0, .bool, .rwd, 0, none⟩ := by
  revert ch
  decide

theorem not_rangeRefused {s : State} {i : Nat} {x : Bytes} {r : ObjRow}
    (hrange : ¬ (tyRefuses r.ty x = true ∨ outOfRange r (beNat x) = true))
    (hchapter : chapterRefuses s i (beNat x) = false) :
    ¬ (tyRefuses r.ty x || outOfRange r (beNat x) || chapterRefuses s i (beNat x)) = true := by
  rw [hchapter, Bool.or_false, Bool.or_eq_true]
  exact hrange

section
variable {s : State} {i j : Nat} {x : Bytes}

theorem writeObj_of_refused {st : Status} (hfound : findObj i j = .refused st) : writeObj i j x s = s.answer st := by
  simp only [writeObj, hfound]

theorem writeObj_of_count {n : Nat} (hfound : findObj i j = .count n) : writeObj i j x s = s.answer .readOnly := by
  simp only [writeObj, hfound]

variable {r : ObjRow} (hfound : findObj i j = .value r)
include hfound

theorem writeObj_of_readOnly (hacc : r.acc = .ro ∨ r.acc = .rc) : writeObj i j x s = s.answer .readOnly := by
  simp only [writeObj, hfound, if_pos hacc]

variable (hacc : ¬ (r.acc = .ro ∨ r.acc = .rc))
include hacc

theorem writeObj_of_typeMismatch (htype : bulkType r.ty = true ∨ x.length ≠ tySize r.ty) :
    writeObj i j x s = s.answer .typeMismatch := by
  simp only [writeObj, hfound, if_neg hacc, if_pos htype]

variable (htype : ¬ (bulkType r.ty = true ∨ x.length ≠ tySize r.ty))
include htype

theorem writeObj_of_range (hrange : tyRefuses r.ty x = true ∨ outOfRange r (beNat x) = true) :
    writeObj i j x s = s.answer .range := by
  have hrefused : (tyRefuses r.ty x || outOfRange r (beNat x) || chapterRefuses s i (beNat x)) = true := by
    rw [Bool.or_eq_true, Bool.or_eq_true]
    exact .inl hrange
  simp only [writeObj, hfound, if_neg hacc, if_neg htype, if_pos hrefused]

variable (hrange : ¬ (tyRefuses r.ty x = true ∨ outOfRange r (beNat x) = true)) (hchapter : chapterRefuses s i (beNat x) = false)
include hrange hchapter

theorem writeObj_of_enabled (henabled : r.acc = .rwd ∧ s.flag (enablingObj i) j = true) : writeObj i j x s = s.answer .state := by
  simp only [writeObj, hfound, if_neg hacc, if_neg htype, if_neg (not_rangeRefused hrange hchapter), if_pos henabled]

/-- A write that no rule refuses has the effect of its object (R608). -/
theorem writeObj_of_accepted (hdisabled : ¬ (r.acc = .rwd ∧ s.flag (enablingObj i) j = true)) :
    writeObj i j x s = applyObj i j (beNat x) x s := by
  simp only [writeObj, hfound, if_neg hacc, if_neg htype, if_neg (not_rangeRefused hrange hchapter), if_neg hdisabled]

end

/-- The arrival of a request changes no rule that refuses a value. -/
theorem chapterRefuses_atServer (s : State) (t : Nat) (rq : Req) (i v : Nat) :
    chapterRefuses (s.atServer t rq) i v = chapterRefuses s i v := by
  have hdown : (s.atServer t rq).obj Obj.GOV_DOWN_PCT = s.obj Obj.GOV_DOWN_PCT := State.obj_atServer s t rq (by decide)
  have hup : (s.atServer t rq).obj Obj.GOV_UP_PCT = s.obj Obj.GOV_UP_PCT := State.obj_atServer s t rq (by decide)
  have hcarried : imageCarried (s.atServer t rq) v = imageCarried s v := rfl
  simp only [chapterRefuses, hdown, hup, hcarried]

theorem enablingObj_mem (i : Nat) : enablingObj i ∈ [Obj.DS_RX_ENABLE, Obj.ACT_ENABLE, Obj.HL_ENABLE, Obj.MAC_ENABLE] := by
  simp only [enablingObj]
  repeat' split
  all_goals simp

/-- The arrival of a request enables and disables no block. -/
theorem enabled_atServer (s : State) (t : Nat) (rq : Req) (i : Nat) {j : Nat} (hj : j < 256) :
    (s.atServer t rq).flag (enablingObj i) j = s.flag (enablingObj i) j := by
  have hne : enablingObj i ≠ Obj.FB_FRAMES_RX := fun heq => absurd (heq ▸ enablingObj_mem i) (by decide)
  have hkey := objKey_ne (i := enablingObj i) (a := Obj.FB_FRAMES_RX) hj (by decide : 0 < 256) fun heq => hne (congrArg Prod.fst heq)
  simp only [State.flag, State.obj_atServer s t rq hkey]

/-! ### What O49 says of READ, at an address of its own -/

section
variable {s : State} {t i j : Nat} {rq : Req} (h : s.serves t rq) (haddr : s.bus.addr ≠ 127)
include h haddr

section
variable (hi : i < 65536) (hj : j < 256)
include hi hj

theorem State.performs_read_of_serves : s.Performs t rq (.read i j) := by
  have hmeets : s.Meets t rq (.read i j) := State.meets_read_of_receives h.1 haddr hi hj
  exact State.performs_of_serves h (fun hall => absurd hall haddr) hmeets.carried hmeets.answers (by simp [svcBody, zeros])

theorem exec_read_of_svc {u : State} {st : Status} {body : Bytes} (hread : readSvc rq i j (s.atServer t rq) = (st, body, u))
    (hkeeps : u.fixedPart = (s.advance t).fixedPart) (hbus : u.bus = (s.atServer t rq).bus) :
    exec (.read t rq i j) s = .next (u.answeredAs rq 1 st body) := by
  have hperforms := State.performs_read_of_serves h haddr hi hj
  have hperform : perform none rq (.read i j) (s.atServer t rq) = (some (st, body), u) := by simp only [perform, performOwn, hread]
  exact hperforms.exec_of_answer hperform hkeeps (by rw [hbus]; exact hperforms.room)

theorem exec_read_of_status {st : Status} (hstatus : readStatus i j = st) (hst : st ≠ .ok) :
    exec (.read t rq i j) s = .next ((s.atServer t rq).answeredAs rq 1 st []) :=
  exec_read_of_svc h haddr hi hj (readSvc_of_refused hstatus hst) rfl rfl

theorem exec_read_of_refused {st : Status} (hfound : findObj i j = .refused st) :
    exec (.read t rq i j) s = .next ((s.atServer t rq).answeredAs rq 1 st []) :=
  exec_read_of_status h haddr hi hj (readStatus_of_refused hfound) fun hok => findObj_ne_refused_ok i j (hok ▸ hfound)

theorem exec_read_of_unreadable {r : ObjRow} (hfound : findObj i j = .value r)
    (hr : r.acc = .wo ∨ r.acc = .cmd ∨ bulkType r.ty = true) :
    exec (.read t rq i j) s = .next ((s.atServer t rq).answeredAs rq 1
      (if r.acc = .wo ∨ r.acc = .cmd then .writeOnly else .typeMismatch) []) := by
  have hstatus := readStatus_of_value hfound
  by_cases hacc : r.acc = .wo ∨ r.acc = .cmd
  · rw [if_pos hacc] at hstatus ⊢
    exact exec_read_of_status h haddr hi hj hstatus (by decide)
  · have hbulk : bulkType r.ty = true := (or_assoc.2 hr).resolve_left hacc
    rw [if_neg hacc, if_pos hbulk] at hstatus
    rw [if_neg hacc]
    exact exec_read_of_status h haddr hi hj hstatus (by decide)

/-- A READ of a value that does not accrue with time answers with its bytes and clears an RC object (R554). -/
theorem exec_read_of_ok {u : State} {body : Bytes} (hstatus : readStatus i j = .ok)
    (hi' : i ∉ [Obj.GOV_LIMITED_CYCLES, Obj.CTX_QUOTA_SHORT_CYCLES]) (hbody : readBytes (s.atServer t rq) i j = body)
    (hlen : body.length ≤ 1480) (hclears : readClears i j (s.atServer t rq) = u)
    (hkeeps : u.fixedPart = (s.advance t).fixedPart) (hbus : u.bus = (s.atServer t rq).bus) :
    exec (.read t rq i j) s = .next (u.answeredAs rq 1 .ok body) := by
  have hperforms := State.performs_read_of_serves h haddr hi hj
  have hidle : (s.atServer t rq).bus.sendAt = none := hperforms.quiet.1
  have hread := readSvc_of_ok hperforms.bus hperforms.plain hstatus (settleObj_of_idle j hidle hi') hbody hlen
  exact exec_read_of_svc h haddr hi hj (hclears ▸ hread) hkeeps hbus

theorem exec_read_of_value {r : ObjRow} (hfound : findObj i j = .value r) (hstatus : readStatus i j = .ok) (hacc : r.acc ≠ .rc)
    (hi' : i ∉ [Obj.GOV_LIMITED_CYCLES, Obj.CTX_QUOTA_SHORT_CYCLES]) (hsize : tySize r.ty ≤ 1480) (hpop : i ≠ Obj.TS_POP) :
    exec (.read t rq i j) s = .next ((s.atServer t rq).answeredAs rq 1 .ok
      (beBytes (tySize r.ty) (objValue (s.atServer t rq) i j))) :=
  exec_read_of_ok h haddr hi hj hstatus hi' (readBytes_of_value _ hfound hpop) (by rw [length_beBytes]; exact hsize)
    (readClears_of_kept _ hfound hacc) rfl rfl

theorem exec_read_of_count {n : Nat} (hfound : findObj i j = .count n) (hi' : i ∉ [Obj.GOV_LIMITED_CYCLES]) :
    exec (.read t rq i j) s = .next ((s.atServer t rq).answeredAs rq 1 .ok (beBytes 1 n)) := by
  have hscalar : findObj Obj.CTX_QUOTA_SHORT_CYCLES j ≠ .count n := by
    have hrow : objRow? Obj.CTX_QUOTA_SHORT_CYCLES = some ⟨Obj.CTX_QUOTA_SHORT_CYCLES, 0, 0, .u64, .rc, 0, none⟩ := by decide
    simp only [findObj, hrow]
    repeat' split
    all_goals simp_all
  have hi'' : i ∉ [Obj.GOV_LIMITED_CYCLES, Obj.CTX_QUOTA_SHORT_CYCLES] := by
    have hshort : i ≠ Obj.CTX_QUOTA_SHORT_CYCLES := fun heq => hscalar (heq ▸ hfound)
    have hlimited := mt List.mem_singleton.2 hi'
    simp only [List.mem_cons, List.not_mem_nil, hlimited, hshort, or_self, not_false_eq_true]
  exact exec_read_of_ok h haddr hi hj (readStatus_of_count hfound) hi'' (readBytes_of_count _ hfound) (by simp)
    (readClears_of_count _ hfound) rfl rfl

end

theorem exec_read_fwdTimeout :
    exec (.read t rq Obj.FB_FWD_TIMEOUT_MS 0) s =
      .next ((s.atServer t rq).answeredAs rq 1 .ok (beBytes 2 (s.obj Obj.FB_FWD_TIMEOUT_MS))) := by
  have hfound : findObj Obj.FB_FWD_TIMEOUT_MS 0 = .value ⟨Obj.FB_FWD_TIMEOUT_MS, 0, 0, .u16, .rws, 100, some (10, 10000)⟩ := by decide
  have hvalue : objValue (s.atServer t rq) Obj.FB_FWD_TIMEOUT_MS 0 = s.obj Obj.FB_FWD_TIMEOUT_MS :=
    State.obj_atServer s t rq (by decide)
  have hread := exec_read_of_value h haddr (by decide) (by decide) hfound (readStatus_of_value hfound) (by decide) (by decide)
    (by decide) (by decide)
  rwa [hvalue] at hread

/-- The read of a counter answers with what it has counted, and clears it. -/
theorem exec_read_collisions :
    exec (.read t rq Obj.FB_COLLISIONS 0) s =
      .next (((s.atServer t rq).setObj Obj.FB_COLLISIONS 0 0).answeredAs rq 1 .ok (beBytes 8 (s.obj Obj.FB_COLLISIONS))) := by
  have hvalue : objValue (s.atServer t rq) Obj.FB_COLLISIONS 0 = s.obj Obj.FB_COLLISIONS := State.obj_atServer s t rq (by decide)
  have hbody := readBytes_of_value (s.atServer t rq) findObj_collisions (by decide)
  rw [hvalue] at hbody
  exact exec_read_of_ok h haddr (by decide) (by decide) (readStatus_of_value findObj_collisions) (by decide) hbody (by simp)
    (readClears_of_counter _ findObj_collisions rfl (by decide)) rfl rfl

theorem exec_read_alertCause :
    exec (.read t rq Obj.DEV_ALERT_CAUSE 0) s = .next (State.answeredAs
      { s.atServer t rq with island := { s.island with alertCause := 0xFFFF } } rq 1 .ok (beBytes 2 s.island.alertCause)) :=
  exec_read_of_ok h haddr (by decide) (by decide) (readStatus_of_value findObj_alertCause) (by decide)
    (readBytes_of_value (s.atServer t rq) findObj_alertCause (by decide)) (by simp) (readClears_alertCause _) rfl rfl

/-! ### What O49 says of WRITE, at an address of its own -/

section
variable {x : Bytes} (hi : i < 65536) (hj : j < 256) (hx : x.length ≤ 1476)
include hi hj hx

theorem State.performs_write_of_serves : s.Performs t rq (.write i j x) := by
  have hmeets : s.Meets t rq (.write i j x) := State.meets_write_of_receives h.1 haddr hi hj (by omega)
  exact State.performs_of_serves h (fun hall => absurd hall haddr) hmeets.carried hmeets.answers (by simp [svcBody, zeros]; omega)

/-- A WRITE that is answered and no more leaves what its arrival leaves. -/
theorem exec_write_of_answer {st : Status} (hwrite : writeObj i j x (s.atServer t rq) = (s.atServer t rq).answer st) :
    exec (.write t rq i j x) s = .next ((s.atServer t rq).answeredAs rq 2 st []) :=
  (State.performs_write_of_serves h haddr hi hj hx).exec_write hwrite rfl rfl

theorem exec_write_of_refused {st : Status} (hfound : findObj i j = .refused st) :
    exec (.write t rq i j x) s = .next ((s.atServer t rq).answeredAs rq 2 st []) :=
  exec_write_of_answer h haddr hi hj hx (writeObj_of_refused hfound)

theorem exec_write_of_count {n : Nat} (hfound : findObj i j = .count n) :
    exec (.write t rq i j x) s = .next ((s.atServer t rq).answeredAs rq 2 .readOnly []) :=
  exec_write_of_answer h haddr hi hj hx (writeObj_of_count hfound)

theorem exec_write_of_stored {k v : Nat} (hwrite : writeObj i j x (s.atServer t rq) = storeObj i k v (s.atServer t rq)) :
    exec (.write t rq i j x) s = .next (((s.atServer t rq).setObj i k v).answeredAs rq 2 .ok []) :=
  (State.performs_write_of_serves h haddr hi hj hx).exec_write hwrite rfl rfl

/-- The refusals of R608 that the lookup does not make, in their order. -/
theorem exec_write_of_value {r : ObjRow} (hfound : findObj i j = .value r)
    (hr : r.acc = .ro ∨ r.acc = .rc ∨ bulkType r.ty = true ∨ x.length ≠ tySize r.ty ∨ tyRefuses r.ty x = true ∨
      outOfRange r (beNat x) = true ∨ (r.acc = .rwd ∧ chapterRefuses s i (beNat x) = false ∧ s.flag (enablingObj i) j = true)) :
    exec (.write t rq i j x) s = .next ((s.atServer t rq).answeredAs rq 2
      (if r.acc = .ro ∨ r.acc = .rc then .readOnly
       else if bulkType r.ty = true ∨ x.length ≠ tySize r.ty then .typeMismatch
       else if tyRefuses r.ty x = true ∨ outOfRange r (beNat x) = true then .range else .state) []) := by
  refine exec_write_of_answer h haddr hi hj hx ?_
  by_cases hacc : r.acc = .ro ∨ r.acc = .rc
  · rw [if_pos hacc, writeObj_of_readOnly hfound hacc]
  rw [if_neg hacc]
  by_cases htype : bulkType r.ty = true ∨ x.length ≠ tySize r.ty
  · rw [if_pos htype, writeObj_of_typeMismatch hfound hacc htype]
  rw [if_neg htype]
  by_cases hrange : tyRefuses r.ty x = true ∨ outOfRange r (beNat x) = true
  · rw [if_pos hrange, writeObj_of_range hfound hacc htype hrange]
  obtain ⟨hrwd, hchapter, henabled⟩ : r.acc = .rwd ∧ chapterRefuses s i (beNat x) = false ∧ s.flag (enablingObj i) j = true :=
    (or_assoc.2 ((or_assoc.2 ((or_assoc.2 hr).resolve_left hacc)).resolve_left htype)).resolve_left hrange
  rw [← chapterRefuses_atServer s t rq] at hchapter
  rw [← enabled_atServer s t rq i hj] at henabled
  rw [if_neg hrange, writeObj_of_enabled hfound hacc htype hrange hchapter ⟨hrwd, henabled⟩]

end

theorem exec_write_fwdTimeout {x : Bytes} (hx : x.length = 2) (hlow : 10 ≤ beNat x) (hhigh : beNat x ≤ 10000) :
    exec (.write t rq Obj.FB_FWD_TIMEOUT_MS 0 x) s =
      .next (((s.atServer t rq).setObj Obj.FB_FWD_TIMEOUT_MS 0 (beNat x)).answeredAs rq 2 .ok []) := by
  have hfound : findObj Obj.FB_FWD_TIMEOUT_MS 0 = .value ⟨Obj.FB_FWD_TIMEOUT_MS, 0, 0, .u16, .rws, 100, some (10, 10000)⟩ := by decide
  have hinside : outOfRange ⟨Obj.FB_FWD_TIMEOUT_MS, 0, 0, .u16, .rws, 100, some (10, 10000)⟩ (beNat x) = false := by
    simp only [outOfRange, tyInt, Bool.or_eq_false_iff]
    exact ⟨decide_eq_false (by omega), decide_eq_false (by omega)⟩
  have hrange : ¬ (tyRefuses .u16 x = true ∨
      outOfRange ⟨Obj.FB_FWD_TIMEOUT_MS, 0, 0, .u16, .rws, 100, some (10, 10000)⟩ (beNat x) = true) := by
    rw [hinside]
    exact not_or.2 ⟨Bool.false_ne_true, Bool.false_ne_true⟩
  exact exec_write_of_stored h haddr (by decide) (by decide) (by omega)
    (writeObj_of_accepted hfound (by decide) (by simp [bulkType, tySize, hx]) hrange rfl (by simp))

/-- WAKE_N cannot be disabled: its bit is stored as 1 whatever is written (R492). -/
theorem exec_write_wakeEnable {x : Bytes} (hx : x.length = 1) (hlow : beNat x < 64) :
    exec (.write t rq Obj.PWR_WAKE_ENABLE 0 x) s =
      .next (((s.atServer t rq).setObj Obj.PWR_WAKE_ENABLE 0 (setBit (beNat x) 0 true)).answeredAs rq 2 .ok []) := by
  have hfound : findObj Obj.PWR_WAKE_ENABLE 0 = .value ⟨Obj.PWR_WAKE_ENABLE, 0, 0, .u8, .rws, 0x01, none⟩ := by decide
  have hchapter : chapterRefuses (s.atServer t rq) Obj.PWR_WAKE_ENABLE (beNat x) = false := decide_eq_false (Nat.not_le.2 hlow)
  exact exec_write_of_stored h haddr (by decide) (by decide) (by omega)
    (writeObj_of_accepted hfound (by decide) (by simp [bulkType, tySize, hx]) (by simp [tyRefuses, outOfRange]) hchapter (by simp))

/-- An object that a disabled channel may change is stored while its channel is disabled (R556). -/
theorem exec_write_rxInvert {x : Bytes} (ch : Fin 4) (hx : x.length = 1) (hbool : beNat x ≤ 1)
    (hdisabled : s.flag Obj.DS_RX_ENABLE (sub ch) = false) :
    exec (.write t rq Obj.DS_RX_INVERT (sub ch) x) s =
      .next (((s.atServer t rq).setObj Obj.DS_RX_INVERT (sub ch) (beNat x)).answeredAs rq 2 .ok []) := by
  have hsub : sub ch < 256 := by
    simp only [sub]
    omega
  have hoff : (s.atServer t rq).flag (enablingObj Obj.DS_RX_INVERT) (sub ch) = false :=
    (enabled_atServer s t rq Obj.DS_RX_INVERT hsub).trans hdisabled
  exact exec_write_of_stored h haddr (by decide) hsub (by omega)
    (writeObj_of_accepted (findObj_rxInvert ch) (by decide) (by simp [bulkType, tySize, hx]) (by simp [tyRefuses, outOfRange, hbool]) rfl
      (by simp [hoff]))

end

/-! ### The commands of single objects -/

section
variable {s : State} (t : Nat)

/-- A command of a host that reaches no running server is lost (R530). -/
theorem done_hostWrite_of_down (f : State → State) (hdown : s.serverUp = false) :
    done t s (fun s => s.hostWrite f) = .next (s.advance t) := by
  have hdown' : (s.advance t).serverUp = false := hdown
  exact done_next (by simp [State.hostWrite, hdown']) rfl

theorem done_hostWrite_of_up {u : State} {f : State → State} (hup : s.serverUp = true) (hf : f (s.advance t) = u)
    (hkeeps : u.fixedPart = (s.advance t).fixedPart) : done t s (fun s => s.hostWrite f) = .next u := by
  have hup' : (s.advance t).serverUp = true := hup
  exact done_next (by simp [State.hostWrite, hup', hf]) hkeeps

theorem exec_fbAuthMode_of_set {v : Nat} (hup : s.serverUp = true) (hv : v ≤ 1)
    (hkey : ¬ (v = 1 ∧ s.ciph.blobState[(1 : Fin 3)] ≠ 1)) :
    exec (.fbAuthMode t v) s = .next { s with now := max s.now t, status := .ok, dict := (s.setObj Obj.FB_AUTH_MODE 0 v).dict } := by
  refine done_hostWrite_of_up t hup ?_ rfl
  have hkey' : ¬ (v = 1 ∧ (s.advance t).ciph.blobState[(1 : Fin 3)] ≠ 1) := hkey
  simp only [authMode, gt_iff_lt, if_neg (Nat.not_lt.2 hv), if_neg hkey']
  rfl

theorem exec_fbAuthMode_of_refused {v : Nat} (hup : s.serverUp = true)
    (hv : 1 < v ∨ (v = 1 ∧ s.ciph.blobState[(1 : Fin 3)] ≠ 1)) :
    exec (.fbAuthMode t v) s = .next { s with now := max s.now t, status := if v = 1 then .state else .range } := by
  refine done_hostWrite_of_up t hup ?_ rfl
  obtain hv | hv := hv
  · simp only [authMode, gt_iff_lt, if_pos hv, if_neg (by omega : ¬ v = 1)]
    rfl
  · have hv' : v = 1 ∧ (s.advance t).ciph.blobState[(1 : Fin 3)] ≠ 1 := hv
    simp only [authMode, gt_iff_lt, if_neg (by omega : ¬ 1 < v), if_pos hv', if_pos hv.1]
    rfl

theorem exec_devAlertCause (hup : s.serverUp = true) :
    exec (.devAlertCause t) s = .next { s with
      now := max s.now t, status := .ok, value := beBytes 2 s.island.alertCause, island := { s.island with alertCause := 0xFFFF } } := by
  refine done_hostWrite_of_up t hup ?_ rfl
  have hread : readObj Obj.DEV_ALERT_CAUSE 0 (s.advance t) =
      (.ok, beBytes 2 s.island.alertCause, { s.advance t with island := { s.island with alertCause := 0xFFFF } }) := by
    simp only [readObj, readStatus_of_value findObj_alertCause]
    exact congrArg (fun u => (Status.ok, beBytes 2 s.island.alertCause, u)) (readClears_alertCause _)
  simp only [alertRead, hread]
  rfl

theorem exec_of_server_down (v : Nat) (hdown : s.serverUp = false) :
    exec (.fbAuthMode t v) s = .next (s.advance t) ∧ exec (.devAlertCause t) s = .next (s.advance t) ∧
      exec (.capClear t v) s = .next (s.advance t) :=
  ⟨done_hostWrite_of_down t (authMode v) hdown, done_hostWrite_of_down t alertRead hdown, done_hostWrite_of_down t (capClear v) hdown⟩

end

end Sys2Proof.Machine
end

section
/-! PROOFS. READ_MULTI, TABLE_READ and TABLE_WRITE (R555, R559, Table 15-4): what O50 says, at a package with an address of its
own, and the clearing of the capture ring (R577) at every address. -/
namespace Sys2Proof.Machine

/-! ### What a table service meets before its rows (R559) -/

theorem index_of_objRow? {i : Nat} {r : ObjRow} (hrow : objRow? i = some r) : r.index = i := by
  simpa using List.find?_some hrow

/-- Of a table other than that of the buffers, the rows below its count exist. -/
theorem rangeExists_iff {r : ObjRow} (s : State) (f n : Nat) (hplain : r.index ≠ Obj.HOP_BUFFER_STATE) :
    rangeExists s r f n = true ↔ n = 0 ∨ f + n ≤ r.count := by
  have hrows (m : Nat) : rowExists s r m = decide (m < r.count) := if_neg hplain
  simp only [rangeExists, hrows, List.all_eq_true, List.mem_range, decide_eq_true_eq]
  constructor
  · intro hall
    obtain hnone | hsome := Nat.eq_zero_or_pos n
    · exact .inl hnone
    · have hlast := hall (n - 1) (by omega)
      exact .inr (by omega)
  · intro hn i hi
    omega

section
variable {s : State} {i f n room : Nat}

theorem tableStatus_of_missing (hrow : objRow? i = none) : tableStatus s i f n room = .noObject := by
  simp only [tableStatus, hrow]

variable {r : ObjRow} (hrow : objRow? i = some r)
include hrow

theorem tableStatus_of_other (htype : r.ty ≠ .table) : tableStatus s i f n room = .typeMismatch := by
  simp only [tableStatus, hrow, if_pos htype]

theorem tableOf_eq : tableOf i = r := by
  rw [tableOf, hrow, Option.getD_some]

variable (htype : r.ty = .table)
include htype

theorem tableStatus_of_long (hlong : room < n * 8 * r.words) : tableStatus s i f n room = .tooLong := by
  simp only [tableStatus, hrow, if_neg (not_not_intro htype), gt_iff_lt, if_pos hlong]

variable (hplain : i ≠ Obj.HOP_BUFFER_STATE)
include hplain

theorem tableStatus_of_none (hf : f < r.count) : tableStatus s i f 0 room = .range := by
  have hindex : r.index ≠ Obj.HOP_BUFFER_STATE := index_of_objRow? hrow ▸ hplain
  have hrange : rangeExists s r f 0 = true := (rangeExists_iff s f 0 hindex).2 (.inl rfl)
  have hfirst : rowExists s r f = true := (if_neg hindex).trans (decide_eq_true hf)
  simp [tableStatus, hrow, htype, hrange, hfirst]

variable (hshort : n * 8 * r.words ≤ room)
include hshort

theorem tableStatus_of_beyond (hn : 0 < n) (hbeyond : r.count < f + n) : tableStatus s i f n room = .noSub := by
  have hrange : rangeExists s r f n = false := by
    rw [← Bool.not_eq_true, rangeExists_iff s f n (index_of_objRow? hrow ▸ hplain)]
    omega
  simp [tableStatus, hrow, htype, Nat.not_lt.2 hshort, hrange]

theorem tableStatus_of_rows (hn : 0 < n) (hin : f + n ≤ r.count) : tableStatus s i f n room = .ok := by
  have hrange : rangeExists s r f n = true := (rangeExists_iff s f n (index_of_objRow? hrow ▸ hplain)).2 (.inr hin)
  have hn' : n ≠ 0 := by omega
  simp [tableStatus, hrow, htype, Nat.not_lt.2 hshort, hrange, hn']

end

section
variable {s : State} {rq : Req} {i f n : Nat}

theorem tableRead_of_refused {st : Status} (hbus : rq.inband = false) (hplain : rq.auth = false)
    (hstatus : tableStatus s i f n 1480 = st) (hst : st ≠ .ok) : tableRead rq i f n s = (st, [], s) := by
  subst hstatus
  simp only [tableRead, vdpLimit, hbus, hplain, Bool.false_eq_true, if_false]

theorem tableRead_of_ok (hbus : rq.inband = false) (hplain : rq.auth = false) (hstatus : tableStatus s i f n 1480 = .ok) :
    tableRead rq i f n s = (.ok, (readRows (tableOf i) f n s).1, (readRows (tableOf i) f n s).2) := by
  simp only [tableRead, vdpLimit, hbus, hplain, Bool.false_eq_true, if_false, hstatus]

variable {x : Bytes} (hbus : rq.inband = false)
include hbus

theorem tableWrite_of_refused {st : Status} (hstatus : tableStatus s i f n 1500 = st) (hst : st ≠ .ok ∧ st ≠ .range) :
    tableWrite rq i f n x s = (st, [], s) := by
  simp only [tableWrite, vdpLimit, hbus, Bool.false_eq_true, if_false, hstatus, if_pos hst]

variable (hacc : ¬ ((tableOf i).acc = .ro ∨ (tableOf i).acc = .rc))
include hacc

theorem tableWrite_of_none (hstatus : tableStatus s i f n 1500 = .range) (hlen : x.length = n * 8 * (tableOf i).words) :
    tableWrite rq i f n x s = (.range, [], s) := by
  simp [tableWrite, vdpLimit, hbus, hstatus, hacc, hlen]

variable (hstatus : tableStatus s i f n 1500 = .ok)
include hstatus

theorem tableWrite_of_length (hlen : x.length ≠ n * 8 * (tableOf i).words) : tableWrite rq i f n x s = (.typeMismatch, [], s) := by
  simp [tableWrite, vdpLimit, hbus, hstatus, hacc, hlen]

theorem tableWrite_of_ok {k : Nat} {u : State} (hlen : x.length = n * 8 * (tableOf i).words)
    (hrows : writeRows (tableOf i) f n x s = (k, u)) : tableWrite rq i f n x s = (u.status, beBytes 4 k, u) := by
  simp [tableWrite, vdpLimit, hbus, hstatus, hacc, hlen, hrows]

end

/-! ### Rows in order (R555, R559) -/

/-- Rows that no read clears are answered in order. -/
theorem readRows_of_kept {r : ObjRow} (hacc : r.acc ≠ .rc) (s : State) (f n : Nat) :
    readRows r f n s = ((List.range n).flatMap fun i => rowBytes s r (f + i), s) := by
  induction n generalizing f with
  | zero => rfl
  | succ n ih =>
    simp only [readRows, if_neg hacc, ih, List.range_succ_eq_map, List.flatMap_cons, List.flatMap_map, Nat.add_zero, Nat.succ_eq_add_one]
    simp only [Nat.add_assoc, Nat.add_comm 1]

/-- The value that a row of `LAT_CONFIG` takes of the bytes of its place in a TABLE_WRITE: its five low bits (R7, R354). -/
def latTaken (x : Bytes) (i : Nat) : Nat := beAt x (8 * i) 8 % 32

/-- `LAT_CONFIG` after its rows from `f` have taken the first `k` values of a TABLE_WRITE. -/
def latConfigured (f : Nat) (x : Bytes) (k : Nat) (s : State) : State :=
  (List.range k).foldl (fun s i => s.setRow Obj.LAT_CONFIG (f + i) (latTaken x i)) s

theorem latConfigured_succ (f : Nat) (x : Bytes) (k : Nat) (s : State) :
    latConfigured f x (k + 1) s = (latConfigured f x k s).setRow Obj.LAT_CONFIG (f + k) (latTaken x k) := by
  simp only [latConfigured, List.range_succ, List.foldl_append, List.foldl_cons, List.foldl_nil]

theorem latTaken_drop (x : Bytes) (i : Nat) : latTaken (x.drop 8) i = latTaken x (i + 1) := by
  simp only [latTaken, beAt, List.drop_drop, List.length_drop, Nat.mul_succ, Nat.sub_sub, Nat.add_comm 8]

theorem latConfigured_first (f : Nat) (x : Bytes) (k : Nat) (s : State) :
    latConfigured f x (k + 1) s = latConfigured (f + 1) (x.drop 8) k (s.setRow Obj.LAT_CONFIG f (latTaken x 0)) := by
  simp only [latConfigured, List.range_succ_eq_map, List.foldl_cons, List.foldl_map, latTaken_drop, Nat.add_zero, Nat.succ_eq_add_one,
    Nat.add_assoc, Nat.add_comm 1]

theorem latConfigured_tab (f : Nat) (x : Bytes) (k : Nat) (s : State) :
    latConfigured f x k s = { s with tab := (latConfigured f x k s).tab } := by
  induction k with
  | zero => rfl
  | succ k ih =>
    rw [latConfigured_succ, ih]
    rfl

theorem latConfigured_answer (f : Nat) (x : Bytes) (k : Nat) (s : State) (st : Status) :
    latConfigured f x k (s.answer st) = (latConfigured f x k s).answer st := by
  induction k with
  | zero => rfl
  | succ k ih =>
    rw [latConfigured_succ, ih, latConfigured_succ]
    rfl

theorem tabKey_ne {a b c d : Nat} (ha : 0x6000 ≤ a) (hb : b < 2 ^ 24) (hc : 0x6000 ≤ c) (hd : d < 2 ^ 24) (h : (a, b) ≠ (c, d)) :
    tabKey a b ≠ tabKey c d := by
  simp only [tabKey]
  intro heq
  exact h (Prod.ext (by simp only; omega) (by simp only; omega))

theorem latConfigured_row_ne {f k a b : Nat} (x : Bytes) (s : State) (hk : f + k ≤ 2 ^ 24) (ha : 0x6000 ≤ a) (hb : b < 2 ^ 24)
    (hab : ∀ i < k, (a, b) ≠ (Obj.LAT_CONFIG, f + i)) : (latConfigured f x k s).row a b = s.row a b := by
  induction k with
  | zero => rfl
  | succ k ih =>
    rw [latConfigured_succ, State.row_setRow_other _ _ _ _ _ _
      (tabKey_ne ha hb (by decide) (by omega) (hab k (Nat.lt_succ_self k))), ih (by omega) fun i hi => hab i (by omega)]

theorem latConfigured_row {f k i : Nat} (x : Bytes) (s : State) (hk : f + k ≤ 2 ^ 24) (hi : i < k) :
    (latConfigured f x k s).row Obj.LAT_CONFIG (f + i) = latTaken x i := by
  induction k with
  | zero => exact absurd hi (Nat.not_lt_zero i)
  | succ k ih =>
    rw [latConfigured_succ]
    obtain hlast | hlast := Nat.lt_succ_iff_lt_or_eq.1 hi
    · have hne : (Obj.LAT_CONFIG, f + i) ≠ (Obj.LAT_CONFIG, f + k) := fun heq => by
        have := congrArg Prod.snd heq
        simp only at this
        omega
      rw [State.row_setRow_other _ _ _ _ _ _ (tabKey_ne (by decide) (by omega) (by decide) (by omega) hne), ih (by omega) hlast]
    · subst hlast
      exact State.row_setRow_same _ _ _ _

theorem beAt_lt (x : Bytes) (i n : Nat) (hn : n ≤ x.length - i) : beAt x i n < 256 ^ n := by
  have hlen : ((x.drop i).take n ++ zeros (n - (x.length - i))).length = n := by
    simp only [zeros, List.length_append, List.length_take, List.length_drop, List.length_replicate]
    omega
  have hlt := beNat_lt ((x.drop i).take n ++ zeros (n - (x.length - i)))
  rw [hlen] at hlt
  exact hlt

/-- The rule of `LAT_CONFIG` among those of the tables, with what the row takes of the value (R7, R354). -/
theorem writeRow_latConfig_of_taken {w v : Nat} (f : Nat) (s : State) (htaken : rowTaken Obj.LAT_CONFIG w = v) :
    writeRow Obj.LAT_CONFIG f w s = rowIf (if fld v 4 0 > 16 then .range else .ok) (fun s => s.setRow Obj.LAT_CONFIG f v) s := by
  delta writeRow
  rw [htaken]
  exact rfl

/-- A row of `LAT_CONFIG` takes the five low bits of a word, and refuses a `SAMPLE_LOG2` above 16 (R7, R354). -/
theorem writeRow_latConfig {w : Nat} (f : Nat) (s : State) (hw : w < 2 ^ 64) : writeRow Obj.LAT_CONFIG f w s =
    if w % 32 ≤ 16 then (s.setRow Obj.LAT_CONFIG f (w % 32)).answer .ok else s.answer .range := by
  have htaken : rowTaken Obj.LAT_CONFIG w = w % 32 := by
    have hfields : rowReserved Obj.LAT_CONFIG = [(63, 5)] := rfl
    simp only [rowTaken, hfields, List.foldl_cons, List.foldl_nil, setFld]
    omega
  have hfield : fld (w % 32) 4 0 = w % 32 := by
    simp only [fld]
    omega
  rw [writeRow_latConfig_of_taken f s htaken, hfield]
  by_cases hlow : w % 32 ≤ 16
  · rw [if_pos hlow, if_neg (Nat.not_lt.2 hlow), rowIf, if_pos rfl]
  · rw [if_neg hlow, if_pos (Nat.not_le.1 hlow), rowIf, if_neg (by decide)]

/-- The object of the table `LAT_CONFIG`. -/
def latConfigRow : ObjRow := ⟨Obj.LAT_CONFIG, 2112, 1, .table, .rws, 0, none⟩

theorem objRow?_latConfig : objRow? Obj.LAT_CONFIG = some latConfigRow := by decide

theorem latConfig_bytes (n : Nat) : n * 8 * (tableOf Obj.LAT_CONFIG).words = 8 * n := by
  rw [tableOf_eq objRow?_latConfig, show latConfigRow.words = 1 from rfl, Nat.mul_one, Nat.mul_comm]

theorem tableStatus_latConfig {s : State} {f n room : Nat} (hin : f + n ≤ 2112) (hsome : 0 < n) (hroom : 8 * n ≤ room) :
    tableStatus s Obj.LAT_CONFIG f n room = .ok :=
  tableStatus_of_rows objRow?_latConfig rfl (by decide) (by simp only [latConfigRow]; omega) hsome hin

/-- Rows are written in order until one is refused; the rows after it are not touched (R559). -/
theorem writeRows_latConfig {n k : Nat} {x : Bytes} (f : Nat) (s : State) (hx : x.length = 8 * n) (hk : k ≤ n)
    (hgood : ∀ i < k, latTaken x i ≤ 16) (hend : k = n ∨ 16 < latTaken x k) :
    writeRows latConfigRow f n x s = (k, (latConfigured f x k s).answer (if k = n then .ok else .range)) := by
  induction n generalizing k f x s with
  | zero =>
    obtain rfl := Nat.le_zero.1 hk
    rfl
  | succ n ih =>
    have hfirst := writeRow_latConfig f s (beAt_lt x 0 8 (by omega))
    have hlen : (x.drop 8).length = 8 * n := by rw [List.length_drop]; omega
    cases k with
    | zero =>
      have hbad : ¬ beAt x 0 8 % 32 ≤ 16 := Nat.not_le.2 (hend.resolve_left (by omega))
      rw [if_neg hbad] at hfirst
      simp only [writeRows, latConfigRow, Nat.mul_one, hfirst]
      rfl
    | succ k =>
      have hok : beAt x 0 8 % 32 ≤ 16 := hgood 0 (Nat.succ_pos k)
      rw [if_pos hok] at hfirst
      have hrest := ih (k := k) (x := x.drop 8) (f + 1) ((s.setRow Obj.LAT_CONFIG f (beAt x 0 8 % 32)).answer .ok) hlen (by omega)
        (fun i hi => by rw [latTaken_drop]; exact hgood (i + 1) (by omega))
        (hend.imp (by omega) fun h => by rwa [latTaken_drop])
      rw [latConfigRow] at hrest
      simp only [writeRows, latConfigRow, Nat.mul_one, hfirst, hrest, State.answer_status, ne_eq, not_true_eq_false, if_false,
        latConfigured_first, latConfigured_answer, Nat.add_right_cancel_iff]
      rfl

/-! ### READ_MULTI -/

theorem readMultiSvc_of_length {rq : Req} {l : List (Nat × Nat)} (s : State) (hl : l = [] ∨ 32 < l.length) :
    readMultiSvc rq l s = (.range, [], s) :=
  if_pos (hl.imp (fun h => by rw [h, List.length_nil]) id)

/-- A READ_MULTI of items whose answer fits takes every value and then clears the RC items (R555). -/
theorem readMultiSvc_of_fits {rq : Req} {l : List (Nat × Nat)} {s u : State} {body : Bytes} (hbus : rq.inband = false)
    (hplain : rq.auth = false) (hsome : l ≠ []) (hl : l.length ≤ 32) (hmany : readMany l s = (body, u)) (hlen : body.length ≤ 1480) :
    readMultiSvc rq l s = (.ok, body, u) := by
  have hcount : ¬ (l.length = 0 ∨ l.length > 32) := by
    have := List.length_pos_iff.2 hsome
    omega
  simp only [readMultiSvc, if_neg hcount, hmany, fits_of_bus hbus hplain hlen, if_true]

/-- Each item of a READ_MULTI takes four bytes of its body (Table 15-4). -/
theorem length_items (l : List (Nat × Nat)) :
    (l.flatMap fun e => beBytes 2 e.1 ++ beBytes 1 e.2 ++ List.replicate 1 0).length = 4 * l.length := by
  induction l with
  | nil => rfl
  | cons e l ih =>
    simp only [List.flatMap_cons, List.length_append, ih, length_beBytes, List.length_replicate, List.length_cons]
    omega

theorem findObj_wakeWait : findObj Obj.FB_WAKE_WAIT_MS 0 = .value ⟨Obj.FB_WAKE_WAIT_MS, 0, 0, .u16, .rws, 1000, some (100, 10000)⟩ := by
  decide

/-- A refused item carries its status and no value, and leaves the items after it to be read (R555). -/
theorem readMany_of_refused_first {s : State} {i j : Nat} {st : Status} (hidle : s.bus.sendAt = none) (hfound : findObj i j = .refused st)
    (hi : i ∉ [Obj.GOV_LIMITED_CYCLES, Obj.CTX_QUOTA_SHORT_CYCLES]) :
    readMany [(i, j), (Obj.FB_COLLISIONS, 0), (Obj.FB_WAKE_WAIT_MS, 0)] s =
      ([BitVec.ofNat 8 (statusCode st), 0, 0, 0] ++ [0, 0, 0, 8] ++ beBytes 8 (s.obj Obj.FB_COLLISIONS) ++
        [0, 0, 0, 2] ++ beBytes 2 (s.obj Obj.FB_WAKE_WAIT_MS), s.setObj Obj.FB_COLLISIONS 0 0) := by
  have hsettle (k : Nat) (hk : k ∉ [Obj.GOV_LIMITED_CYCLES, Obj.CTX_QUOTA_SHORT_CYCLES]) (l : Nat) : settleObj k l s = s :=
    settleObj_of_idle l hidle hk
  have hst : st ≠ .ok := fun hok => findObj_ne_refused_ok i j (hok ▸ hfound)
  have hrefused : beBytes 1 (statusCode st) ++ zeros 1 ++ beBytes 2 ([] : Bytes).length = [BitVec.ofNat 8 (statusCode st), 0, 0, 0] := by
    simp [beBytes, zeros]
  have hcount8 : beBytes 1 (statusCode .ok) ++ zeros 1 ++ beBytes 2 8 = [0, 0, 0, 8] := by decide
  have hcount2 : beBytes 1 (statusCode .ok) ++ zeros 1 ++ beBytes 2 2 = [0, 0, 0, 2] := by decide
  have hstatus : readStatus i j = st := readStatus_of_refused hfound
  have hcollisions : readStatus Obj.FB_COLLISIONS 0 = .ok := readStatus_of_value findObj_collisions
  have hwait : readStatus Obj.FB_WAKE_WAIT_MS 0 = .ok := readStatus_of_value findObj_wakeWait
  have hcounted : readBytes s Obj.FB_COLLISIONS 0 = beBytes 8 (s.obj Obj.FB_COLLISIONS) :=
    readBytes_of_value s findObj_collisions (by decide)
  have hwaited : readBytes s Obj.FB_WAKE_WAIT_MS 0 = beBytes 2 (s.obj Obj.FB_WAKE_WAIT_MS) :=
    readBytes_of_value s findObj_wakeWait (by decide)
  have hcleared : readClears Obj.FB_COLLISIONS 0 s = s.setObj Obj.FB_COLLISIONS 0 0 :=
    readClears_of_counter s findObj_collisions rfl (by decide)
  have hkept (u : State) : readClears Obj.FB_WAKE_WAIT_MS 0 u = u := readClears_of_kept u findObj_wakeWait (by decide)
  have hne (k : Nat) (hk : findObj k 0 ≠ .refused st) : (i, j) ≠ (k, 0) := fun heq => by
    obtain ⟨rfl, rfl⟩ := Prod.mk.inj heq
    exact hk hfound
  have hdups : [(i, j), (Obj.FB_COLLISIONS, 0), (Obj.FB_WAKE_WAIT_MS, 0)].eraseDups =
      [(i, j), (Obj.FB_COLLISIONS, 0), (Obj.FB_WAKE_WAIT_MS, 0)] := by
    have h1 := hne Obj.FB_COLLISIONS (by rw [findObj_collisions]; exact Found.noConfusion)
    have h2 := hne Obj.FB_WAKE_WAIT_MS (by rw [findObj_wakeWait]; exact Found.noConfusion)
    have hfilter : ([(Obj.FB_COLLISIONS, 0), (Obj.FB_WAKE_WAIT_MS, 0)].filter fun b => !b == (i, j)) =
        [(Obj.FB_COLLISIONS, 0), (Obj.FB_WAKE_WAIT_MS, 0)] := by
      simp only [List.filter_cons, List.filter_nil, beq_eq_false_iff_ne.2 h1.symm, beq_eq_false_iff_ne.2 h2.symm, Bool.not_false, if_true]
    have hrest : [(Obj.FB_COLLISIONS, 0), (Obj.FB_WAKE_WAIT_MS, 0)].eraseDups =
        [(Obj.FB_COLLISIONS, 0), (Obj.FB_WAKE_WAIT_MS, 0)] := by decide
    rw [List.eraseDups_cons, hfilter, hrest]
  simp only [readMany, List.foldl_cons, List.foldl_nil, hsettle i hi, hsettle Obj.FB_COLLISIONS (by decide),
    hsettle Obj.FB_WAKE_WAIT_MS (by decide), hdups, List.flatMap_cons, List.flatMap_nil, hstatus, hcollisions, hwait, if_neg hst, if_pos,
    hcounted, hwaited, hcleared, hkept, length_beBytes, hrefused, hcount8, hcount2, List.append_nil]
  simp only [List.append_assoc]

/-! ### What O50 says, at an address of its own -/

section
variable {s : State} {t : Nat} {rq : Req} (h : s.serves t rq) (haddr : s.bus.addr ≠ 127)
include h haddr

section
variable {l : List (Nat × Nat)} (hl : l.length < 256) (hitems : (l.all fun i => decide (i.1 < 65536) && decide (i.2 < 256)) = true)
include hl hitems

theorem State.performs_readMulti_of_serves : s.Performs t rq (.readMulti l) := by
  obtain ⟨-, hwf, -⟩ := id h.1
  have hbody : (svcBody (.readMulti l)).length = 2 + 4 * l.length := by
    simp only [svcBody, zeros, List.length_append, length_beBytes, List.length_replicate, length_items]
  exact State.performs_of_serves h (fun hall => absurd hall haddr) (by simp only [Svc.command, Instr.wf, hwf, hl, hitems]; decide)
    (fun _ => Svc.noConfusion) (by omega)

theorem exec_readMulti {u : State} {st : Status} {body : Bytes} (hread : readMultiSvc rq l (s.atServer t rq) = (st, body, u))
    (hkeeps : u.fixedPart = (s.advance t).fixedPart) (hbus : u.bus = (s.atServer t rq).bus) :
    exec (.readMulti t rq l) s = .next (u.answeredAs rq 3 st body) := by
  have hperforms := State.performs_readMulti_of_serves h haddr hl hitems
  have hperform : perform none rq (.readMulti l) (s.atServer t rq) = (some (st, body), u) := by simp only [perform, performOwn, hread]
  exact hperforms.exec_of_answer hperform hkeeps (by rw [hbus]; exact hperforms.room)

theorem exec_readMulti_of_length (hcount : l = [] ∨ 32 < l.length) :
    exec (.readMulti t rq l) s = .next ((s.atServer t rq).answeredAs rq 3 .range []) :=
  exec_readMulti h haddr hl hitems (readMultiSvc_of_length _ hcount) rfl rfl

end

theorem exec_readMulti_of_refused_first {i j : Nat} {st : Status} (hi : i < 65536) (hj : j < 256) (hfound : findObj i j = .refused st)
    (hi' : i ∉ [Obj.GOV_LIMITED_CYCLES, Obj.CTX_QUOTA_SHORT_CYCLES]) :
    exec (.readMulti t rq [(i, j), (Obj.FB_COLLISIONS, 0), (Obj.FB_WAKE_WAIT_MS, 0)]) s =
      .next (((s.atServer t rq).setObj Obj.FB_COLLISIONS 0 0).answeredAs rq 3 .ok
        ([BitVec.ofNat 8 (statusCode st), 0, 0, 0] ++ [0, 0, 0, 8] ++ beBytes 8 (s.obj Obj.FB_COLLISIONS) ++
          [0, 0, 0, 2] ++ beBytes 2 (s.obj Obj.FB_WAKE_WAIT_MS))) := by
  have hitems : ([(i, j), (Obj.FB_COLLISIONS, 0), (Obj.FB_WAKE_WAIT_MS, 0)].all fun i => decide (i.1 < 65536) && decide (i.2 < 256)) =
      true := by
    rw [List.all_cons, decide_eq_true hi, decide_eq_true hj]
    decide
  have hperforms := State.performs_readMulti_of_serves h haddr (by simp) hitems
  have hmany := readMany_of_refused_first (s := s.atServer t rq) hperforms.quiet.1 hfound hi'
  rw [State.obj_atServer s t rq (i := Obj.FB_COLLISIONS) (by decide),
    State.obj_atServer s t rq (i := Obj.FB_WAKE_WAIT_MS) (by decide)] at hmany
  exact exec_readMulti h haddr (by simp) hitems
    (readMultiSvc_of_fits hperforms.bus hperforms.plain (List.cons_ne_nil _ _) (by simp) hmany (by simp)) rfl rfl

section
variable {i f n : Nat} (hi : i < 65536) (hf : f < 2 ^ 32) (hn : n < 65536)
include hi hf hn

theorem State.performs_tableRead_of_serves : s.Performs t rq (.tableRead i f n) := by
  obtain ⟨-, hwf, -⟩ := id h.1
  exact State.performs_of_serves h (fun hall => absurd hall haddr) (by simp [Svc.command, Instr.wf, hwf, hi, hn]; omega)
    (fun _ => Svc.noConfusion) (by simp [svcBody, zeros])

theorem exec_tableRead {st : Status} {body : Bytes} (hread : tableRead rq i f n (s.atServer t rq) = (st, body, s.atServer t rq)) :
    exec (.tableRead t rq i f n) s = .next ((s.atServer t rq).answeredAs rq 4 st body) := by
  have hperforms := State.performs_tableRead_of_serves h haddr hi hf hn
  exact hperforms.exec_of_answer (by simp only [perform, performOwn, hread]) rfl hperforms.room

variable {x : Bytes} (hx : x.length ≤ 1470)
include hx

theorem State.performs_tableWrite_of_serves : s.Performs t rq (.tableWrite i f n x) := by
  obtain ⟨-, hwf, -⟩ := id h.1
  exact State.performs_of_serves h (fun hall => absurd hall haddr) (by simp [Svc.command, Instr.wf, hwf, hi, hn]; omega)
    (fun _ => Svc.noConfusion) (by simp [svcBody, zeros]; omega)

theorem exec_tableWrite {u : State} {st : Status} {body : Bytes} (hwrite : tableWrite rq i f n x (s.atServer t rq) = (st, body, u))
    (hkeeps : u.fixedPart = (s.advance t).fixedPart) (hbus : u.bus = (s.atServer t rq).bus) :
    exec (.tableWrite t rq i f n x) s = .next (u.answeredAs rq 5 st body) := by
  have hperforms := State.performs_tableWrite_of_serves h haddr hi hf hn hx
  exact hperforms.exec_of_answer (by simp only [perform, performOwn, hwrite]) hkeeps (by rw [hbus]; exact hperforms.room)

/-- A table service that is refused before its rows touches none of them (R559). -/
theorem exec_table_of_refused {st : Status} (hread : tableStatus (s.atServer t rq) i f n 1480 = st)
    (hwrite : tableStatus (s.atServer t rq) i f n 1500 = st) (hst : st ≠ .ok ∧ st ≠ .range) :
    exec (.tableRead t rq i f n) s = .next ((s.atServer t rq).answeredAs rq 4 st []) ∧
    exec (.tableWrite t rq i f n x) s = .next ((s.atServer t rq).answeredAs rq 5 st []) := by
  have hperforms := State.performs_tableRead_of_serves h haddr hi hf hn
  exact ⟨exec_tableRead h haddr hi hf hn (tableRead_of_refused hperforms.bus hperforms.plain hread hst.1),
    exec_tableWrite h haddr hi hf hn hx (tableWrite_of_refused hperforms.bus hwrite hst) rfl rfl⟩

theorem exec_table_of_missing (hrow : objRow? i = none) :
    exec (.tableRead t rq i f n) s = .next ((s.atServer t rq).answeredAs rq 4 .noObject []) ∧
    exec (.tableWrite t rq i f n x) s = .next ((s.atServer t rq).answeredAs rq 5 .noObject []) :=
  exec_table_of_refused h haddr hi hf hn hx (tableStatus_of_missing hrow) (tableStatus_of_missing hrow) (by decide)

section
variable {r : ObjRow} (hrow : objRow? i = some r)
include hrow

theorem exec_table_of_other (htype : r.ty ≠ .table) :
    exec (.tableRead t rq i f n) s = .next ((s.atServer t rq).answeredAs rq 4 .typeMismatch []) ∧
    exec (.tableWrite t rq i f n x) s = .next ((s.atServer t rq).answeredAs rq 5 .typeMismatch []) :=
  exec_table_of_refused h haddr hi hf hn hx (tableStatus_of_other hrow htype) (tableStatus_of_other hrow htype) (by decide)

variable (htype : r.ty = .table)
include htype

theorem exec_table_of_beyond (hplain : i ≠ Obj.HOP_BUFFER_STATE) (hroom : n * 8 * r.words ≤ 1480) (hbeyond : r.count < f + n)
    (hsome : 0 < n) :
    exec (.tableRead t rq i f n) s = .next ((s.atServer t rq).answeredAs rq 4 .noSub []) ∧
    exec (.tableWrite t rq i f n x) s = .next ((s.atServer t rq).answeredAs rq 5 .noSub []) :=
  exec_table_of_refused h haddr hi hf hn hx (tableStatus_of_beyond hrow htype hplain hroom hsome hbeyond)
    (tableStatus_of_beyond hrow htype hplain (by omega) hsome hbeyond) (by decide)

theorem exec_table_of_long (hlong : 1500 < n * 8 * r.words) :
    exec (.tableRead t rq i f n) s = .next ((s.atServer t rq).answeredAs rq 4 .tooLong []) ∧
    exec (.tableWrite t rq i f n x) s = .next ((s.atServer t rq).answeredAs rq 5 .tooLong []) :=
  exec_table_of_refused h haddr hi hf hn hx (tableStatus_of_long hrow htype (by omega)) (tableStatus_of_long hrow htype hlong) (by decide)

end

end

/-! ### What O50 says of `LAT_CONFIG` -/

section
variable {f n : Nat}

theorem exec_table_latConfig_of_long {x : Bytes} (hf : f < 2 ^ 32) (hn : n < 65536) (hx : x.length ≤ 1470) (hlong : 187 < n) :
    exec (.tableRead t rq Obj.LAT_CONFIG f n) s = .next ((s.atServer t rq).answeredAs rq 4 .tooLong []) ∧
    exec (.tableWrite t rq Obj.LAT_CONFIG f n x) s = .next ((s.atServer t rq).answeredAs rq 5 .tooLong []) :=
  exec_table_of_long h haddr (by decide) hf hn hx objRow?_latConfig rfl (by simp only [latConfigRow]; omega)

theorem exec_table_latConfig_of_none (hf : f < 2112) :
    exec (.tableRead t rq Obj.LAT_CONFIG f 0) s = .next ((s.atServer t rq).answeredAs rq 4 .range []) ∧
    exec (.tableWrite t rq Obj.LAT_CONFIG f 0 []) s = .next ((s.atServer t rq).answeredAs rq 5 .range []) := by
  have hperforms := State.performs_tableRead_of_serves (i := Obj.LAT_CONFIG) (n := 0) h haddr (by decide) (by omega : f < 2 ^ 32) (by decide)
  have hstatus (room : Nat) : tableStatus (s.atServer t rq) Obj.LAT_CONFIG f 0 room = .range :=
    tableStatus_of_none objRow?_latConfig rfl (by decide) hf
  exact ⟨exec_tableRead h haddr (by decide) (by omega) (by decide)
      (tableRead_of_refused hperforms.bus hperforms.plain (hstatus _) (by decide)),
    exec_tableWrite h haddr (by decide) (by omega) (by decide) (by simp)
      (tableWrite_of_none hperforms.bus (by decide) (hstatus _) (by simp)) rfl rfl⟩

variable (hin : f + n ≤ 2112) (hsome : 0 < n)
include hin hsome

theorem exec_tableRead_latConfig (hn : n ≤ 185) :
    exec (.tableRead t rq Obj.LAT_CONFIG f n) s = .next ((s.atServer t rq).answeredAs rq 4 .ok
      ((List.range n).flatMap fun i => beBytes 8 (s.row Obj.LAT_CONFIG (f + i)))) := by
  have hperforms := State.performs_tableRead_of_serves (i := Obj.LAT_CONFIG) (n := n) h haddr (by decide) (by omega : f < 2 ^ 32) (by omega)
  have hread := tableRead_of_ok hperforms.bus hperforms.plain (tableStatus_latConfig (s := s.atServer t rq) hin hsome (by omega))
  rw [tableOf_eq objRow?_latConfig, readRows_of_kept (by decide)] at hread
  exact exec_tableRead h haddr (by decide) (by omega) (by omega) hread

variable {x : Bytes} (hn : n ≤ 183)
include hn

theorem exec_tableWrite_latConfig_of_length (hx : x.length ≤ 1470) (hlen : x.length ≠ 8 * n) :
    exec (.tableWrite t rq Obj.LAT_CONFIG f n x) s = .next ((s.atServer t rq).answeredAs rq 5 .typeMismatch []) := by
  have hperforms := State.performs_tableRead_of_serves (i := Obj.LAT_CONFIG) (n := n) h haddr (by decide) (by omega : f < 2 ^ 32) (by omega)
  exact exec_tableWrite h haddr (by decide) (by omega) (by omega) hx
    (tableWrite_of_length hperforms.bus (by decide) (tableStatus_latConfig hin hsome (by omega))
      (by rw [latConfig_bytes]; omega)) rfl rfl

theorem exec_tableWrite_latConfig {k : Nat} (hlen : x.length = 8 * n) (hk : k ≤ n) (hgood : ∀ i < k, latTaken x i ≤ 16)
    (hend : k = n ∨ 16 < latTaken x k) :
    exec (.tableWrite t rq Obj.LAT_CONFIG f n x) s =
      .next ((latConfigured f x k (s.atServer t rq)).answeredAs rq 5 (if k = n then .ok else .range) (beBytes 4 k)) := by
  have hperforms := State.performs_tableRead_of_serves (i := Obj.LAT_CONFIG) (n := n) h haddr (by decide) (by omega : f < 2 ^ 32) (by omega)
  have hrows := writeRows_latConfig f (s.atServer t rq) hlen hk hgood hend
  rw [← tableOf_eq objRow?_latConfig] at hrows
  have hwrite := tableWrite_of_ok hperforms.bus (by decide) (tableStatus_latConfig hin hsome (by omega))
    (by rw [latConfig_bytes]; omega) hrows
  have htab := latConfigured_tab f x k (s.atServer t rq)
  have hexec := exec_tableWrite h haddr (by decide) (by omega) (by omega) (by omega) hwrite (by rw [htab]; rfl) (by rw [htab]; rfl)
  exact hexec

/-- A TABLE_WRITE writes the rows before the first refused one, and answers how many they are (R559, Table 15-4). -/
theorem exec_tableWrite_latConfig_rows {k : Nat} (hlen : x.length = 8 * n) (hk : k ≤ n) (hgood : ∀ i < k, latTaken x i ≤ 16)
    (hend : k = n ∨ 16 < latTaken x k) :
    ∃ u, exec (.tableWrite t rq Obj.LAT_CONFIG f n x) s = .next u ∧
      (∀ i : Fin n, u.row Obj.LAT_CONFIG (f + i.val) = if i.val < k then latTaken x i else s.row Obj.LAT_CONFIG (f + i.val)) ∧
      s.rowsBut u ((List.range k).map fun i => (Obj.LAT_CONFIG, f + i)) ∧
      u = { (s.atServer t rq).answeredAs rq 5 (if k = n then .ok else .range) (beBytes 4 k) with tab := u.tab } := by
  refine ⟨_, exec_tableWrite_latConfig h haddr hin hsome hn hlen hk hgood hend, fun i => ?_, fun a b ha hb hab => ?_, ?_⟩
  · change (latConfigured f x k (s.atServer t rq)).row Obj.LAT_CONFIG (f + i.val) = _
    by_cases hi : i.val < k
    · rw [if_pos hi, latConfigured_row x _ (by omega) hi]
    · rw [if_neg hi]
      refine latConfigured_row_ne x _ (by omega) (by decide) (by omega) fun m hm heq => ?_
      have := (Prod.mk.inj heq).2
      omega
  · refine latConfigured_row_ne x _ (by omega) ha hb fun m hm heq => hab ?_
    exact List.mem_map.2 ⟨m, List.mem_range.2 hm, heq.symm⟩
  · rw [latConfigured_tab]
    rfl

end

end

/-! ### The capture ring (R577) -/

section
variable {s : State} (t : Nat) (hup : s.serverUp = true)
include hup

theorem exec_capClear_of_range {v : Nat} (hv : v ≠ 1) : exec (.capClear t v) s = .next { s with now := max s.now t, status := .range } :=
  done_hostWrite_of_up t hup (if_pos hv) rfl

/-- An empty capture ring. -/
def State.ringCleared (s : State) : State := { s with cap := { s.cap with ring := [], nextOff := 0, stopped := false } }

theorem exec_capClear :
    ∃ u, exec (.capClear t 1) s = .next u ∧ u.cap = { s.cap with ring := [], nextOff := 0, stopped := false } ∧ s.objsBut u logObjs ∧
      u = { s with now := max s.now t, status := .ok, cap := u.cap, dict := u.dict, log := u.log, island := u.island } := by
  have hlog := State.ev_logsOnly (s.advance t).ringCleared Ev.CAP_FULL [0]
  have hobjs := State.ev_objsBut (s.advance t).ringCleared Ev.CAP_FULL [0]
  have hclear : capClear 1 (s.advance t) = ((s.advance t).ringCleared.ev Ev.CAP_FULL [0]).answer .ok := rfl
  refine ⟨_, done_hostWrite_of_up t hup hclear (by rw [hlog]; rfl), by rw [hlog]; rfl, hobjs, by rw [hlog]; rfl⟩

end

end Sys2Proof.Machine
end

section
/-! PROOFS. STORE and RESTORE (R562-R564): what O53 and O60 say of their requests, at a package with an address of its own, of the
end of a flash write and of the dictionary step of a boot, at every address. -/
namespace Sys2Proof.Machine

/-! ### STORE (R562, R563) -/

section
variable {s : State}

theorem storeDict_of_large (hlarge : 261120 < (snapshot s).bytes) : storeDict s = (.range, s) := if_pos hlarge

variable (hsmall : ¬ 261120 < (snapshot s).bytes)
include hsmall

theorem storeDict_of_writing (hwriting : s.flash.writing.isSome = true) : storeDict s = (.busy, s) := by
  simp only [storeDict, gt_iff_lt, if_neg hsmall, if_pos hwriting]

/-- The snapshot goes to the older slot, which holds no valid copy until the write has ended. -/
theorem storeDict_of_idle (hidle : ¬ s.flash.writing.isSome = true) : storeDict s = (.ok,
    { s with
      flash := { (s.qspi (qspiWrite (storedAddr (olderSlot s)) (1024 + (snapshot s).bytes))).flash with
        writing := some (olderSlot s, snapshot s), copies := s.flash.copies.set (olderSlot s) none }
      dict := (s.setObj Obj.DICT_STORE_STATE 0 1).dict }) := by
  simp only [storeDict, gt_iff_lt, if_neg hsmall, if_neg hidle]
  rfl

end

/-- A snapshot is one above the newer of the copies it follows. -/
theorem snapshot_seq {s : State} {c : StoredCopy} (hc : c ∈ newestCopy s) : (snapshot s).seq = c.seq + 1 := by
  simp only [snapshot, Option.mem_def.1 hc, Option.elim_some]

section
variable {s : State} {t : Nat} {rq : Req} (h : s.serves t rq) (haddr : s.bus.addr ≠ 127)
include h haddr

theorem State.performs_store_of_serves : s.Performs t rq .store := by
  obtain ⟨-, hwf, -⟩ := id h.1
  exact State.performs_of_serves h (fun hall => absurd hall haddr) hwf (fun _ => Svc.noConfusion) (by simp [svcBody])

theorem exec_store_of_dict {u : State} {st : Status} (hstore : storeDict (s.atServer t rq) = (st, u))
    (hkeeps : u.fixedPart = (s.advance t).fixedPart) (hbus : u.bus = (s.atServer t rq).bus) :
    exec (.store t rq) s = .next (u.answeredAs rq 11 st []) := by
  have hperforms := State.performs_store_of_serves h haddr
  exact hperforms.exec_of_answer (by simp only [perform, performOwn, hstore]) hkeeps (by rw [hbus]; exact hperforms.room)

theorem exec_store {v : State} (hv : v = s.atServer t rq) :
    exec (.store t rq) s = .next (
      if 261120 < (snapshot v).bytes then v.answeredAs rq 11 .range []
      else if s.flash.writing.isSome = true then v.answeredAs rq 11 .busy []
      else State.answeredAs
        { v with
          flash := { (s.qspi (qspiWrite (storedAddr (olderSlot s)) (1024 + (snapshot v).bytes))).flash with
            writing := some (olderSlot s, snapshot v), copies := s.flash.copies.set (olderSlot s) none }
          dict := (v.setObj Obj.DICT_STORE_STATE 0 1).dict } rq 11 .ok []) := by
  subst hv
  by_cases hlarge : 261120 < (snapshot (s.atServer t rq)).bytes
  · rw [if_pos hlarge]
    exact exec_store_of_dict h haddr (storeDict_of_large hlarge) rfl rfl
  rw [if_neg hlarge]
  by_cases hwriting : s.flash.writing.isSome = true
  · rw [if_pos hwriting]
    exact exec_store_of_dict h haddr (storeDict_of_writing hlarge hwriting) rfl rfl
  · rw [if_neg hwriting]
    exact exec_store_of_dict h haddr (storeDict_of_idle hlarge hwriting) rfl rfl

end

/-! ### The end of a write -/

theorem exec_storeWriteComplete_of_none {s : State} (t : Nat) (good : Bool) (hnone : s.flash.writing = none) :
    exec (.storeWriteComplete t good) s = .next (s.advance t) := by
  have hnone' : (s.advance t).flash.writing = none := hnone
  exact done_next (by simp only [storeWritten, hnone']) rfl

/-- What the end of a write leaves before its event: the slot holds the copy if it verified. -/
def State.copyWritten (s : State) (good : Bool) (i : Fin 2) (c : StoredCopy) : State :=
  { s with
    flash := { (s.qspi [qspiRead (storedAddr i) (1024 + c.bytes)]).flash with
      writing := none, copies := if good then s.flash.copies.set i (some c) else s.flash.copies }
    dict := (s.setObj Obj.DICT_STORE_STATE 0 (if good then 2 else 3)).dict }

theorem State.copyWritten_obj (s : State) (good : Bool) (i : Fin 2) (c : StoredCopy) (a b : Nat) :
    (s.copyWritten good i c).obj a b = (s.setObj Obj.DICT_STORE_STATE 0 (if good then 2 else 3)).obj a b := rfl

theorem storeWritten_of_writing {s : State} {i : Fin 2} {c : StoredCopy} (good : Bool) (hwriting : s.flash.writing = some (i, c)) :
    storeWritten good s = (s.copyWritten good i c).ev Ev.DICT_STORED [if good then 1 else 2, c.seq, c.bytes] := by
  simp only [storeWritten, hwriting]
  rfl

theorem exec_storeWriteComplete {s : State} (t : Nat) (good : Bool) {i : Fin 2} {c : StoredCopy} (hwriting : s.flash.writing = some (i, c)) :
    ∃ u, exec (.storeWriteComplete t good) s = .next u ∧
      u.flash = { (s.qspi [qspiRead (storedAddr i) (1024 + c.bytes)]).flash with
        writing := none, copies := if good then s.flash.copies.set i (some c) else s.flash.copies } ∧
      u.obj Obj.DICT_STORE_STATE = (if good then 2 else 3) ∧ s.objsBut u ((Obj.DICT_STORE_STATE, 0) :: logObjs) ∧
      u = { s with now := max s.now t, flash := u.flash, dict := u.dict, log := u.log, island := u.island } := by
  have hlog := State.ev_logsOnly ((s.advance t).copyWritten good i c) Ev.DICT_STORED [if good then 1 else 2, c.seq, c.bytes]
  have hobjs := State.ev_objsBut ((s.advance t).copyWritten good i c) Ev.DICT_STORED [if good then 1 else 2, c.seq, c.bytes]
  have hstate : s.objsBut ((s.advance t).copyWritten good i c) ((Obj.DICT_STORE_STATE, 0) :: logObjs) :=
    State.objsBut_mono (State.objsBut_setObj s Obj.DICT_STORE_STATE 0 _ (by decide)) (by simp)
  refine ⟨_, done_next (storeWritten_of_writing (s := s.advance t) good hwriting) ((State.fixedPart_of_logsOnly hlog).trans rfl),
    by rw [hlog]; rfl, ?_, State.objsBut_trans hstate (State.objsBut_mono hobjs fun _ => List.mem_cons_of_mem _), by rw [hlog]; rfl⟩
  rw [hobjs _ _ (by decide) (by decide), State.copyWritten_obj, State.obj_setObj_same]

/-! ### RESTORE (R564) -/

section
variable {s : State} {t : Nat} {rq : Req} (h : s.serves t rq) (haddr : s.bus.addr ≠ 127)
include h haddr

theorem exec_restore_of_dict {m : Nat} {u : State} {st : Status} (hm : m < 256) (hrestore : restoreDict m (s.atServer t rq) = (st, u))
    (hkeeps : u.fixedPart = (s.advance t).fixedPart) (hbus : u.bus = (s.atServer t rq).bus) :
    exec (.restore t rq m) s = .next (u.answeredAs rq 12 st []) := by
  obtain ⟨-, hwf, -⟩ := id h.1
  have hperforms : s.Performs t rq (.restore m) := State.performs_of_serves h (fun hall => absurd hall haddr)
    (by simp [Svc.command, Instr.wf, hwf, hm]) (fun _ => Svc.noConfusion) (by simp [svcBody])
  exact hperforms.exec_of_answer (by simp only [perform, performOwn, hrestore]) hkeeps (by rw [hbus]; exact hperforms.room)

/-- RESTORE moves the flag of the next boots or erases the copies, and no value in force. -/
theorem exec_restore {v : State} (hv : v = s.atServer t rq) :
    exec (.restore t rq 0) s = .next (State.answeredAs { v with island := { s.island with defaultsOnce := true } } rq 12 .ok []) ∧
    exec (.restore t rq 1) s = .next (State.answeredAs { v with island := { s.island with defaultsOnce := false } } rq 12 .ok []) ∧
    exec (.restore t rq 2) s = .next (State.answeredAs
      { v with
        flash := { (s.qspi [qspiErase (storedAddr 0) 0x40000, qspiErase (storedAddr 1) 0x40000]).flash with
          copies := Vector.replicate 2 none } } rq 12 .ok []) := by
  subst hv
  exact ⟨exec_restore_of_dict h haddr (by decide) rfl rfl rfl, exec_restore_of_dict h haddr (by decide) rfl rfl rfl,
    exec_restore_of_dict h haddr (by decide) rfl rfl rfl⟩

theorem exec_restore_of_mode {m : Nat} (hm : m < 256) (hmode : 2 < m) :
    exec (.restore t rq m) s = .next ((s.atServer t rq).answeredAs rq 12 .range []) := by
  have h0 : m ≠ 0 := by omega
  have h1 : m ≠ 1 := by omega
  have h2 : m ≠ 2 := by omega
  exact exec_restore_of_dict h haddr hm (by simp only [restoreDict, if_neg h0, if_neg h1, if_neg h2]) rfl rfl

end

end Sys2Proof.Machine
end

section
/-! PROOFS. Step 7 of a boot that restores no copy (R299, R463, R465, R482, R564): what O60 says of it. -/
namespace Sys2Proof.Machine

/-! ### What step 7 leaves, where it restores nothing -/

/-- The objects that the keys, the event log and the carving of a boot may move. -/
def bootObjs : List (Nat × Nat) := [(Obj.CIPH_BLOB_UNWRAP_FAILS, 0), (Obj.CIPH_KEYS_ERASED, 0)] ++ logObjs ++ hopObjs

/-- No copy is applied and none is erased, and the mode of the next boots stays as it was. -/
structure State.RestoresNothing (s u : State) : Prop where
  mode : u.island.defaultsOnce = s.island.defaultsOnce
  copies : u.flash.copies = s.flash.copies
  objs : s.objsBut u bootObjs
  tabs : s.tabsBut u [Obj.HOP_OWNER_TABLE]

theorem State.tabsBut_of_tab {s u : State} (h : u.tab = s.tab) (l : List Nat) : s.tabsBut u l := by
  intro a b _ _ _
  simp only [State.row, h]

theorem State.restoresNothing_of_same {s u : State} (hisland : u.island = s.island) (hflash : u.flash.copies = s.flash.copies)
    (hdict : u.dict = s.dict) (htab : u.tab = s.tab) : s.RestoresNothing u :=
  ⟨by rw [hisland], hflash, State.objsBut_of_dict hdict _, State.tabsBut_of_tab htab _⟩

theorem State.RestoresNothing.refl (s : State) : s.RestoresNothing s := State.restoresNothing_of_same rfl rfl rfl rfl

theorem State.RestoresNothing.trans {a b c : State} (h : a.RestoresNothing b) (h2 : b.RestoresNothing c) : a.RestoresNothing c :=
  ⟨h2.mode.trans h.mode, h2.copies.trans h.copies, State.objsBut_trans h.objs h2.objs,
    fun tb r htb hr hn => (h2.tabs tb r htb hr hn).trans (h.tabs tb r htb hr hn)⟩

theorem foldl_restoresNothing {α : Type} {f : State → α → State} {l : List α} (hf : ∀ (s : State), ∀ a ∈ l, s.RestoresNothing (f s a))
    (s : State) : s.RestoresNothing (l.foldl f s) :=
  List.foldlRecOn (motive := s.RestoresNothing) l f (.refl s) fun b hb a ha => hb.trans (hf b a ha)

theorem State.setObj_restoresNothing (s : State) {i j : Nat} (v : Nat) (hj : j < 256) (hobj : (i, j) ∈ bootObjs) :
    s.RestoresNothing (s.setObj i j v) :=
  ⟨rfl, rfl, State.objsBut_mono (State.objsBut_setObj s i j v hj) (by simpa using hobj), State.tabsBut_of_tab rfl _⟩

theorem State.bump_restoresNothing (s : State) {i j n : Nat} (hj : j < 256) (hobj : (i, j) ∈ bootObjs) :
    s.RestoresNothing (s.bump i j n) :=
  State.setObj_restoresNothing s _ hj hobj

theorem State.setOwner_restoresNothing (s : State) {o : Nat} (v : Nat) (ho : o < 1024) :
    s.RestoresNothing (s.setRow Obj.HOP_OWNER_TABLE o v) :=
  ⟨rfl, rfl, State.objsBut_of_dict rfl _, fun tb r htb hr hn =>
    State.row_setRow_other _ _ _ _ _ _ (tabKey_ne htb hr (by decide) (by omega) fun heq => hn (by simp [(Prod.mk.inj heq).1]))⟩

/-! ### An event -/

theorem State.writeRec_defaultsOnce (s : State) (r : EvRec) : (s.writeRec r).island.defaultsOnce = s.island.defaultsOnce := by
  simp only [State.writeRec, State.bump, State.setObj_island, apply_ite State.island, ite_self]

theorem State.holdRec_defaultsOnce (s : State) (r : EvRec) : (s.holdRec r).island.defaultsOnce = s.island.defaultsOnce := by
  simp only [State.holdRec]
  split <;> rfl

theorem State.alert_defaultsOnce (s : State) (src sev : Nat) : (s.alert src sev).island.defaultsOnce = s.island.defaultsOnce := by
  simp only [State.alert]
  split <;> rfl

/-- An event leaves the mode of the next boots. -/
theorem State.ev_defaultsOnce (s : State) (src : Nat) (ps : List Nat) : (s.ev src ps).island.defaultsOnce = s.island.defaultsOnce := by
  have hfold (f : State → EvRec → State) (hf : ∀ s r, (f s r).island.defaultsOnce = s.island.defaultsOnce) (rs : List EvRec)
      (s : State) : (rs.foldl f s).island.defaultsOnce = s.island.defaultsOnce :=
    List.foldlRecOn (motive := fun b => b.island.defaultsOnce = s.island.defaultsOnce) rs f rfl fun b hb r _ => (hf b r).trans hb
  simp only [State.ev, State.logWith]
  split
  · exact State.alert_defaultsOnce _ _ _
  · split
    · exact (hfold _ State.writeRec_defaultsOnce _ _).trans (State.alert_defaultsOnce _ _ _)
    · exact (hfold _ State.holdRec_defaultsOnce _ _).trans (State.alert_defaultsOnce _ _ _)

theorem State.ev_restoresNothing (s : State) (src : Nat) (ps : List Nat) : s.RestoresNothing (s.ev src ps) := by
  have hlog := State.ev_logsOnly s src ps
  exact ⟨State.ev_defaultsOnce s src ps, by rw [hlog],
    State.objsBut_mono (State.ev_objsBut s src ps) fun x hx => List.mem_append_left _ (List.mem_append_right _ hx),
    State.tabsBut_of_tab (by rw [hlog]) _⟩

/-! ### Keys (R463, R465) -/

theorem fillSlot_restoresNothing (i : Fin 256) (key : Bytes) (s : State) : s.RestoresNothing (fillSlot i key s) :=
  State.restoresNothing_of_same rfl rfl rfl rfl

theorem eraseSlot_restoresNothing (i : Fin 256) (s : State) : s.RestoresNothing (eraseSlot i s) := by
  simp only [eraseSlot]
  split
  · have hslot : s.RestoresNothing (s.modSlot i fun _ => Slot.empty) := State.restoresNothing_of_same rfl rfl rfl rfl
    exact hslot.trans (State.bump_restoresNothing _ (i := Obj.CIPH_KEYS_ERASED) (j := 0) (by decide) (by decide))
  · exact State.restoresNothing_of_same rfl rfl rfl rfl

/-- An unwrap begins with an empty slot. -/
def State.blobErased (s : State) (w : Fin 3) : State :=
  eraseSlot (blobSlot w) { s with pwr := { s.pwr with idleSince := s.now } }

/-- The outcome of an unwrap is shown. -/
def State.blobShown (s : State) (w : Fin 3) (v : Nat) : State :=
  { s with ciph := { s.ciph with blobState := vmod s.ciph.blobState w fun _ => v, blobRun := vmod s.ciph.blobRun w fun _ => none } }

/-- An unwrap finds no blob, fills the slot with its key, or fails. -/
theorem unwrapBlob_cases (w : Fin 3) (s : State) :
    unwrapBlob w s = (s.blobErased w).blobShown w 0 ∨
    (∃ key, unwrapBlob w s = (fillSlot (blobSlot w) key (s.blobErased w)).blobShown w 1) ∨
    unwrapBlob w s =
      State.ev (((s.blobErased w).blobShown w 2).bump Obj.CIPH_BLOB_UNWRAP_FAILS) Ev.CIPH_UNWRAP_FAILED [w.val + 1, 0, 0] := by
  by_cases hblob : beNat s.flash.blobs[w] = 0
  · exact .inl (if_pos hblob)
  · cases hkey : keyUnwrap deviceKey s.flash.blobs[w] with
    | some key => exact .inr (.inl ⟨key, by simp only [unwrapBlob, if_neg hblob, hkey]; rfl⟩)
    | none => exact .inr (.inr (by simp only [unwrapBlob, if_neg hblob, hkey]; rfl))

theorem State.blobShown_restoresNothing (s : State) (w : Fin 3) (v : Nat) : s.RestoresNothing (s.blobShown w v) :=
  State.restoresNothing_of_same rfl rfl rfl rfl

theorem State.blobErased_restoresNothing (s : State) (w : Fin 3) : s.RestoresNothing (s.blobErased w) := by
  have hawake : s.RestoresNothing { s with pwr := { s.pwr with idleSince := s.now } } := State.restoresNothing_of_same rfl rfl rfl rfl
  exact hawake.trans (eraseSlot_restoresNothing _ _)

theorem unwrapBlob_restoresNothing (w : Fin 3) (s : State) : s.RestoresNothing (unwrapBlob w s) := by
  have herased := s.blobErased_restoresNothing w
  obtain hcase | ⟨key, hcase⟩ | hcase := unwrapBlob_cases w s
  · rw [hcase]
    exact herased.trans (State.blobShown_restoresNothing _ w 0)
  · rw [hcase]
    exact (herased.trans (fillSlot_restoresNothing (blobSlot w) key _)).trans (State.blobShown_restoresNothing _ w 1)
  · rw [hcase]
    exact ((herased.trans (State.blobShown_restoresNothing _ w 2)).trans
      (State.bump_restoresNothing _ (by decide) (by decide))).trans (State.ev_restoresNothing _ _ _)

theorem loadKeys_restoresNothing (s : State) : s.RestoresNothing (loadKeys s) := by
  have hfixed : s.RestoresNothing (loadFixedKeys s) := State.restoresNothing_of_same rfl rfl rfl rfl
  exact hfixed.trans (foldl_restoresNothing (fun s w _ => unwrapBlob_restoresNothing w s) (loadFixedKeys s))

/-! ### The carving (R299) -/

theorem minFree_mem_bootObjs (p : Fin 5) : (Obj.HOP_POOL_MIN_FREE, sub p) ∈ bootObjs := by
  revert p
  decide

/-- The buffers that the carving asks for in a pool. -/
def carveAsked (s : State) (p : Nat) : Nat := s.obj Obj.HOP_CARVE (p + 1)

/-- The outcome of the test of a carving: what it found, if it is not valid, is logged. -/
def State.carveTested (s : State) (bad : Nat) (n : Nat → Nat) : State :=
  if bad = 0 then s else s.ev Ev.HOP_CARVE_REJECTED ([bad, 0] ++ (List.range 5).map n)

/-- The pools of a carving, with every buffer free. -/
def State.carved (s : State) (counts : Vector Nat 5) : State :=
  (fins 5).foldl (fun s p => s.setObj Obj.HOP_POOL_MIN_FREE (sub p) counts[p])
    { s with hop := { Hop.init with counts := counts, lists := Hop.listsOf counts } }

/-- The weirs of a pool: none is left where together they exceed its buffers. -/
def weirsTested (counts : Vector Nat 5) (n : Nat → Nat) (s : State) (p : Fin 5) : State :=
  if (List.range 1024).foldl (fun t o => t + weir s o p.val) 0 > counts[p] then
    State.ev ((List.range 1024).foldl (fun s o =>
      s.setRow Obj.HOP_OWNER_TABLE o (setFld (s.row Obj.HOP_OWNER_TABLE o) (109 - 22 * p.val) (88 - 22 * p.val) 0)) s)
      Ev.HOP_CARVE_REJECTED ([5, p.val] ++ (List.range 5).map n)
  else s

theorem carve_eq (s : State) : ∃ (counts : Vector Nat 5) (bad : Nat) (n : Nat → Nat),
    carve s = (fins 5).foldl (weirsTested counts n) ((s.carveTested bad n).carved counts) :=
  ⟨if carveTest (carveAsked s) = 0 then Vector.ofFn fun p => carveAsked s p.val else Hop.defaultCounts, carveTest (carveAsked s),
    carveAsked s, rfl⟩

theorem State.carveTested_restoresNothing (s : State) (bad : Nat) (n : Nat → Nat) : s.RestoresNothing (s.carveTested bad n) := by
  simp only [State.carveTested]
  split
  · exact .refl s
  · exact State.ev_restoresNothing s _ _

theorem State.carved_restoresNothing (s : State) (counts : Vector Nat 5) : s.RestoresNothing (s.carved counts) := by
  have hhop : s.RestoresNothing { s with hop := { Hop.init with counts := counts, lists := Hop.listsOf counts } } :=
    State.restoresNothing_of_same rfl rfl rfl rfl
  exact hhop.trans (foldl_restoresNothing
    (fun s p _ => State.setObj_restoresNothing s _ (by simp only [sub]; omega) (minFree_mem_bootObjs p)) _)

theorem weirsTested_restoresNothing (counts : Vector Nat 5) (n : Nat → Nat) (s : State) (p : Fin 5) :
    s.RestoresNothing (weirsTested counts n s p) := by
  simp only [weirsTested]
  split
  · exact .trans (foldl_restoresNothing (fun s o ho => State.setOwner_restoresNothing s _ (List.mem_range.1 ho)) s)
      (State.ev_restoresNothing _ _ _)
  · exact .refl s

theorem carve_restoresNothing (s : State) : s.RestoresNothing (carve s) := by
  obtain ⟨counts, bad, n, hcarve⟩ := carve_eq s
  rw [hcarve]
  exact ((s.carveTested_restoresNothing bad n).trans (State.carved_restoresNothing _ counts)).trans
    (foldl_restoresNothing (fun s p _ => weirsTested_restoresNothing counts n s p) _)

/-! ### Step 7 (R509, Table 14-6) -/

/-- What step 7 reads of the flash. -/
def bootReads : List QspiRun :=
  [qspiRead (storedAddr 0) 0x40000, qspiRead (storedAddr 1) 0x40000, qspiRead (recordAddr 0) 8192] ++
    (fins 3).map fun w => qspiRead (blobAddr w) 40

/-- The state whose next boots restore a copy again. -/
def State.modeEnded (s : State) : State := { s with island := { s.island with defaultsOnce := false } }

/-- The dictionary's part of step 7. -/
def dictRestored (s : State) : State :=
  if s.island.defaultsOnce then s.modeEnded else (newestCopy s).elim s fun c => restoreCopy c s

/-- With the mode of R564 or without a copy, that part ends the mode and no more. -/
theorem dictRestored_of_mode {s : State} (h : s.island.defaultsOnce = true ∨ s.flash.copies = Vector.replicate 2 none) :
    dictRestored s = s.modeEnded := by
  by_cases hmode : s.island.defaultsOnce = true
  · exact if_pos hmode
  · have hnone : newestCopy s = none := by simp [newestCopy, h.resolve_left hmode]
    have hended : s.modeEnded = s := by rw [State.modeEnded, ← Bool.eq_false_iff.2 hmode]
    rw [dictRestored, if_neg hmode, hnone, hended, Option.elim_none]

/-- The end of step 7: a new capture epoch, and no answer of its own. -/
def State.epochBegun (s : State) (st : Status) (v : Bytes) : State :=
  State.writeRecord { s with status := st, value := v, bus := { s.bus with txLow := 0 } } fun f => { f with epoch := f.epoch + 1 }

theorem restoreStep_eq (s : State) :
    restoreStep s = (carve (dictRestored (loadKeys (s.qspi bootReads)))).epochBegun s.status s.value := by
  unfold restoreStep
  extract_lets st v s₁ s₂ i s₃ s₄
  have hread : s₁ = s.qspi bootReads := rfl
  clear_value s₁
  have hkeys : s₂ = loadKeys s₁ := rfl
  clear_value s₂
  have hdict : s₃ = dictRestored s₂ := rfl
  clear_value s₃
  have hcarve : s₄ = carve s₃ := rfl
  clear_value s₄
  rw [← hread, ← hkeys, ← hdict, ← hcarve]
  rfl

theorem State.epochBegun_restoresNothing (s : State) (st : Status) (v : Bytes) : s.RestoresNothing (s.epochBegun st v) :=
  State.restoresNothing_of_same rfl rfl rfl rfl

/-- The end of the mode is all that stands between two steps that restore nothing. -/
theorem State.RestoresNothing.through_modeEnded {s u v : State} (h : s.RestoresNothing u) (h2 : u.modeEnded.RestoresNothing v) :
    s.modeEnded.RestoresNothing v :=
  ⟨h2.mode, h2.copies.trans h.copies, State.objsBut_trans h.objs h2.objs,
    fun tb r htb hr hn => (h2.tabs tb r htb hr hn).trans (h.tabs tb r htb hr hn)⟩

theorem restoreStep_of_mode {s : State} (h : s.island.defaultsOnce = true ∨ s.flash.copies = Vector.replicate 2 none) :
    s.modeEnded.RestoresNothing (restoreStep s) := by
  have hread : s.RestoresNothing (s.qspi bootReads) := State.restoresNothing_of_same rfl rfl rfl rfl
  have hkeys := hread.trans (loadKeys_restoresNothing _)
  rw [← hkeys.mode, ← hkeys.copies] at h
  rw [restoreStep_eq, dictRestored_of_mode h]
  exact (hkeys.through_modeEnded (carve_restoresNothing _)).trans (State.epochBegun_restoresNothing _ _ _)

theorem bootStepDone_of_seven {s : State} (hphase : s.pwr.phase = .boot 7) : bootStepDone .ok s = bootStep 8 (restoreStep s) := by
  unfold bootStepDone
  rw [hphase]
  generalize bootStep 8 (restoreStep s) = u
  rfl

theorem bootStep_restoresNothing (n : Nat) (s : State) : s.RestoresNothing (bootStep n s) :=
  State.restoresNothing_of_same rfl rfl rfl rfl

/-- What an effect leaves to its command restores nothing. -/
theorem State.after_restoresNothing {s u : State} {t : Nat} {f : State → State} (hf : u.RestoresNothing (f (s.advance t))) :
    u.RestoresNothing (s.after t f) :=
  hf.trans (State.restoresNothing_of_same rfl rfl rfl rfl)

theorem exec_bootStepComplete_of_mode {s : State} (t : Nat) (hphase : s.pwr.phase = .boot 7)
    (h : s.island.defaultsOnce = true ∨ s.flash.copies = Vector.replicate 2 none) :
    ∃ u, exec (.bootStepComplete t .ok) s = .next u ∧ u.island.defaultsOnce = false ∧ u.flash.copies = s.flash.copies ∧
      s.objsBut u bootObjs ∧ s.tabsBut u [Obj.HOP_OWNER_TABLE] := by
  have hadvance : s.modeEnded.RestoresNothing (s.advance t).modeEnded := State.restoresNothing_of_same rfl rfl rfl rfl
  have hnothing : s.modeEnded.RestoresNothing (bootStepDone .ok (s.advance t)) := by
    rw [bootStepDone_of_seven (s := s.advance t) hphase]
    exact (hadvance.trans (restoreStep_of_mode h)).trans (bootStep_restoresNothing 8 _)
  have hexec : exec (.bootStepComplete t .ok) s = .next (s.after t (bootStepDone .ok)) := by
    change execBootStepComplete t .ok s = _
    exact doneIf_true _ _ _ _ rfl
  obtain ⟨hmode, hcopies, hobjs, htabs⟩ := State.after_restoresNothing hnothing
  exact ⟨_, hexec, hmode, hcopies, hobjs, htabs⟩

end Sys2Proof.Machine
end

section
/-! PROOFS. What fails in the dictionary's requests. O49, O50, O53 and O60 leave the package's own bus address free. A package at
the broadcast address 127, an address that no strap gives (R509), drops every request that reaches it but a DISCOVER (R528), where
they say how it is answered. O50 fails at every other address too: a READ_MULTI brings the cycles of a limited region up to now
even where it names no element of `GOV_LIMITED_CYCLES`, and its clause on a refused item says that nothing but a counter moves.
But for these, what the four say is proved in the sections before this one, clause by clause. -/
namespace Sys2Proof.Machine

/-- Refutes O49: a package whose own address is 127 meets `State.serves`, and a READ of the object 0 that reaches it is not
answered with NO_OBJECT. -/
theorem not_objectsReadAndWrittenByRequests : ¬ Obligations.ObjectsReadAndWrittenByRequests := by
  unfold Obligations.ObjectsReadAndWrittenByRequests
  rintro ⟨-, -, -, hmissing, -⟩
  have hfound : findObj 0 0 = .refused .noObject := by decide +kernel
  exact upAtBroadcast_not_answered (v := .read 0 0) 1 [] (by decide) (by decide) (by decide)
    (hmissing upAtBroadcast 5 hostRequest127 0 0 .noObject upAtBroadcast_serves (by decide) (by decide) hfound)

/-- A package in Run, at an address of its own, whose first region the governor has limited since the instant 0. -/
def upLimited : State :=
  { State.reset with
    pwr := { Pwr.init with phase := .up, regions := Pwr.init.regions.set 0 { Region.init with limited := true } }
    bus := { Bus.init with addr := 5 } }

/-- A request of a host to that package. -/
def hostRequest5 : Req := { hostRequest127 with dst := 5 }

theorem upLimited_serves : upLimited.serves tickMs hostRequest5 := by
  decide +kernel

/-- The items of a READ_MULTI whose first is refused: `GOV_LIMITED_CYCLES` has no element 9. -/
def itemsAfterRefused : List (Nat × Nat) := [(Obj.GOV_LIMITED_CYCLES, 9), (Obj.FB_COLLISIONS, 0), (Obj.FB_WAKE_WAIT_MS, 0)]

theorem findObj_limitedCycles_nine : findObj Obj.GOV_LIMITED_CYCLES 9 = .refused .noSub := by decide

/-- The request counts the cycles of a region that it does not name. -/
theorem exec_readMulti_upLimited : ∃ u, exec (.readMulti tickMs hostRequest5 itemsAfterRefused) upLimited = .next u ∧
    u.obj Obj.GOV_LIMITED_CYCLES 1 ≠ 0 := by
  refine ⟨_, exec_readMulti upLimited_serves (by decide) (by decide) (by decide) rfl ?_ ?_, ?_⟩
  all_goals decide +kernel

/-- Refutes O50: a READ_MULTI after 1 ms whose first item is `GOV_LIMITED_CYCLES` element 9, which is refused, counts the
cycles of the first region, which is limited. -/
theorem not_rowsAndSeveralObjectsByRequests : ¬ Obligations.RowsAndSeveralObjectsByRequests := by
  unfold Obligations.RowsAndSeveralObjectsByRequests
  rintro ⟨-, hitems, -⟩
  obtain ⟨u, hu, hcounted⟩ := exec_readMulti_upLimited
  have hkept := hitems upLimited tickMs hostRequest5 Obj.GOV_LIMITED_CYCLES 9 .noSub upLimited_serves (by decide) (by decide)
    findObj_limitedCycles_nine
  obtain rfl := Host.Outcome.next.inj (hu.symm.trans hkept)
  exact hcounted (by decide +kernel)

/-- The package at the broadcast address keeps no answer of a request but DISCOVER. -/
theorem upAtBroadcast_keeps_no_answer {v : Svc} {w : State} (code : Nat) (st : Status) (body : Bytes) (hcode : svcCode v ≠ 0x0D)
    (hwf : (v.command 5 hostRequest127).wf = true) :
    exec (v.command 5 hostRequest127) upAtBroadcast ≠ .next (w.answeredAs hostRequest127 code st body) := by
  rw [(State.reached_of_receives upAtBroadcast_serves.1).exec_of_broadcast rfl hcode hwf]
  have hnone : (upAtBroadcast.tookFrame 5).bus.answered = [] := rfl
  intro heq
  have hkept := congrArg (fun u => u.bus.answered) (Host.Outcome.next.inj heq)
  exact List.cons_ne_nil _ _ (hkept.symm.trans hnone)

/-- Refutes O53: a package whose own address is 127 meets `State.serves`, and a STORE that reaches it is not answered. -/
theorem not_storedCopiesAreWritten : ¬ Obligations.StoredCopiesAreWritten := by
  unfold Obligations.StoredCopiesAreWritten
  rintro ⟨hstore, -⟩
  have hanswer := (hstore upAtBroadcast _ 5 hostRequest127 upAtBroadcast_serves rfl).1
  split at hanswer
  · exact upAtBroadcast_keeps_no_answer (v := .store) 11 .range [] (by decide) (by decide) hanswer
  · split at hanswer
    · exact upAtBroadcast_keeps_no_answer (v := .store) 11 .busy [] (by decide) (by decide) hanswer
    · exact upAtBroadcast_keeps_no_answer (v := .store) 11 .ok [] (by decide) (by decide) hanswer

/-- Refutes O60: a package whose own address is 127 meets `State.serves`, and a RESTORE with the mode 3 that reaches it is not
answered with RANGE. -/
theorem not_restoreSelectsWhatTheNextBootUses : ¬ Obligations.RestoreSelectsWhatTheNextBootUses := by
  unfold Obligations.RestoreSelectsWhatTheNextBootUses
  rintro ⟨-, hmode, -⟩
  exact upAtBroadcast_not_answered (v := .restore 3) 12 [] (by decide) (by decide) (by decide)
    (hmode upAtBroadcast 5 hostRequest127 3 upAtBroadcast_serves (by decide) (by decide))

end Sys2Proof.Machine
end
